-- ==== Sys2Proof/Word.lean ====
section
/-! DEFINITION. The words and index types of the SC-48: bytes of the Quay Link, the numbered instances
(berths, modules, channels, points, breaker targets, event entries) and one update of a fixed bank. -/

namespace Sys2Proof

/-- One byte of a Quay Link frame. -/
abbrev Byte := BitVec 8

/-- A 16-byte code of the metrology lock (R183). -/
abbrev Code := BitVec 128

/-- A ship identifier of 8 bytes (section 1.6, R96). -/
abbrev ShipId := BitVec 64

/-- A berth, or its outlet breaker, B0..B3. -/
abbrev Berth := Fin 4

/-- A converter module M0..M7. -/
abbrev Module := Fin 8

/-- A synchronising channel S0..S1. -/
abbrev Chan := Fin 2

/-- A measurement point by its point code (section 2.1). -/
abbrev Point := Fin 17

/-- A breaker by its target index: 0..3 the outlets B0..B3, 4..11 the contactors K0..K7 (section 1.6). -/
abbrev Target := Fin 12

/-- An entry of the event table (section 9.1). -/
abbrev EventIx := Fin 100

/-- The bank `v` with the element at `i` changed by `f`. -/
def upd {α : Type} {n : Nat} (v : Vector α n) (i : Fin n) (f : α → α) : Vector α n :=
  v.set i (f v[i])

end Sys2Proof
end

