-- ==== Sys2Proof/Syntax.lean ====
section
/-! DEFINITION. The commands of the SC-48: one constructor per row of the table of operations and
events. A command is what reaches the part from outside (a frame, an input, a reset, a management
request) or the expiry of one of its own timers. -/

namespace Sys2Proof

/-- The two staleness conditions of a berth (R29). -/
inductive Side where
  | ship
  | converter
deriving DecidableEq, Repr

/-- A command of the SC-48. `src` is a frame's source byte, `tag` an MREQ's tag. The commands of a
frame kind stand for the hand-off of such a frame by the LPU; the commands of a request kind stand for
the hand-off of such an MREQ to the MGU (R171), which serves it at once when it serves no other. -/
inductive Instr where
  -- resets and inputs
  | coldReset (nid opn bln : BitVec 6)
  | warmReset (nid opn bln : BitVec 6) (lossTicks resetTicks : Nat)
  | pilotInputChange (b : Berth) (asserted : Bool)
  | estopAssert
  | estopRelease
  | estopRepeatTimerExpiry
  -- the Quay Link
  | frameReceptionEnd (bytes : List Byte)
  | overlongCut
  | ingressLossTimerExpiry
  | egressFree
  | promotion
  -- streams and points
  | measFrame (src : Byte) (payload : List Byte)
  | heldLimitExpiry (p : Point)
  | staleLimitExpiry (p : Point)
  | stalenessRepeatTimerExpiry (b : Berth) (side : Side)
  -- the module pool
  | scanSlot
  | pollReplyTimerExpiry
  | prpyFrame (src : Byte) (payload : List Byte)
  | startLimitExpiry (m : Module)
  | stopLimitExpiry (m : Module)
  -- references
  | rfgPeriod
  | overloadTimerExpiry (b : Berth)
  -- synchronising
  | syncWaitTimerExpiry (t : Target)
  | watchTimerExpiry (c : Chan)
  | confirmTimerExpiry (c : Chan)
  | backoffTimerExpiry (c : Chan)
  | deadBusConfirmTimerExpiry (t : Target)
  | bstaFrame (src : Byte) (payload : List Byte)
  -- ship messages and the berth sequence
  | shipState (src flags generators : Byte) (load : BitVec 16) (ident : ShipId)
  | hold (src : Byte) (quanta : BitVec 16)
  | genOff (src : Byte)
  | genOn (src : Byte)
  | shedAck (src : Byte) (kw : BitVec 16)
  | rampPeriod (b : Berth)
  | shipHoldEnd (b : Berth)
  | holdLimitReached (b : Berth)
  | rampTimeoutExpiry (b : Berth)
  | generatorWaitExpiry (b : Berth)
  | openingTimerExpiry (b : Berth)
  -- the terminal clock
  | clockTick
  | demandIntervalEnd
  -- management: arrival, parts and tables
  | mreqArrival (src : Byte) (payload : List Byte)
  | nextReplyPart
  | readTable (src : Byte) (tag : BitVec 16) (table first count : Byte)
  | writeStreamTable (src : Byte) (tag : BitVec 16) (first count : Byte) (entries : List Byte)
  | writeCalibrationGains (src : Byte) (tag : BitVec 16) (first count : Byte) (entries : List Byte)
  | writeGridSettings (src : Byte) (tag : BitVec 16) (first count : Byte) (entries : List Byte)
  | writeModuleTable (src : Byte) (tag : BitVec 16) (first count : Byte) (entries : List Byte)
  | writeReferenceSettings (src : Byte) (tag : BitVec 16) (first count : Byte) (entries : List Byte)
  | writeBreakerTable (src : Byte) (tag : BitVec 16) (first count : Byte) (entries : List Byte)
  | writeSyncProfiles (src : Byte) (tag : BitVec 16) (first count : Byte) (entries : List Byte)
  | writeBerthTable (src : Byte) (tag : BitVec 16) (first count : Byte) (entries : List Byte)
  | writeMeteringSettings (src : Byte) (tag : BitVec 16) (first count : Byte) (entries : List Byte)
  | writeTariffSets (src : Byte) (tag : BitVec 16) (first count : Byte) (entries : List Byte)
  | writeCurrentSetIndex (src : Byte) (tag : BitVec 16) (first count : Byte) (entries : List Byte)
  | writeEventTable (src : Byte) (tag : BitVec 16) (first count : Byte) (entries : List Byte)
  -- management: berth, module and event commands
  | connect (src : Byte) (tag : BitVec 16) (berth : Byte)
  | connectDeadShip (src : Byte) (tag : BitVec 16) (berth : Byte)
  | depart (src : Byte) (tag : BitVec 16) (berth : Byte)
  | abort (src : Byte) (tag : BitVec 16) (berth : Byte)
  | trip (src : Byte) (tag : BitVec 16) (berth : Byte)
  | resetTrip (src : Byte) (tag : BitVec 16) (berth : Byte)
  | block (src : Byte) (tag : BitVec 16) (module : Byte)
  | unblock (src : Byte) (tag : BitVec 16) (module : Byte)
  | readmit (src : Byte) (tag : BitVec 16) (module : Byte)
  | eventClear (src : Byte) (tag : BitVec 16) (index : Byte)
  | eventSet (src : Byte) (tag : BitVec 16) (index : Byte)
  | eventEnable (src : Byte) (tag : BitVec 16) (index : Byte)
  | eventDisable (src : Byte) (tag : BitVec 16) (index : Byte)
  -- management: clock, log and views
  | clockSet (src : Byte) (tag : BitVec 16) (day : BitVec 16) (second : BitVec 32)
  | logReadOldest (src : Byte) (tag : BitVec 16)
  | logRemoveOldest (src : Byte) (tag : BitVec 16) (number : BitVec 32)
  | statusReadPoints (src : Byte) (tag : BitVec 16)
  | statusReadModules (src : Byte) (tag : BitVec 16)
  | statusReadBerths (src : Byte) (tag : BitVec 16)
  | statusReadSync (src : Byte) (tag : BitVec 16)
  | statusReadSessions (src : Byte) (tag : BitVec 16)
  | statusReadUnbilled (src : Byte) (tag : BitVec 16)
  | statusReadLock (src : Byte) (tag : BitVec 16)
  | statusReadLink (src : Byte) (tag : BitVec 16)
  | statusReadCapture (src : Byte) (tag : BitVec 16)
  -- management: the metrology lock and RESTART
  | unlock (src : Byte) (tag : BitVec 16) (ident : Byte) (code : Code)
  | relock (src : Byte) (tag : BitVec 16)
  | setCodeOperator (src : Byte) (tag : BitVec 16) (code : Code) (level : Byte)
  | setCodeMetrology (src : Byte) (tag : BitVec 16) (code : Code) (revision : BitVec 16) (current : Option Code)
  | removeCode (src : Byte) (tag : BitVec 16) (code : Code)
  | freeze (src : Byte) (tag : BitVec 16)
  | clearPrepare (src : Byte) (tag : BitVec 16)
  | billingClear (src : Byte) (tag : BitVec 16) (ident : Byte) (code : Code)
  | restart (src : Byte) (tag : BitVec 16)
deriving DecidableEq, Repr

end Sys2Proof
end

