-- ==== Sys2Proof/Config.lean ====
section
/-! DEFINITION. The constants the manual fixes: periods and limits in ms, the sizes of queues and of
parts. The manual leaves no value of the part open that this model would have to keep free. -/

namespace Sys2Proof.Config

/-- R5: the ingress loss timer, ms. -/
abbrev ingressLossMs : Nat := 20
/-- R8: places of the forward buffer. -/
abbrev forwardPlaces : Nat := 4
/-- R10: places of the PROTECT queue. -/
abbrev protectPlaces : Nat := 8
/-- R11: places of the CONTROL queue. -/
abbrev controlPlaces : Nat := 24
/-- R12: the defer limit, ms. -/
abbrev deferMs : Nat := 5
/-- R13: ordinary places of the REPLY queue. -/
abbrev replyPlaces : Nat := 15
/-- R2: the largest payload, bytes. -/
abbrev maxPayload : Nat := 480
/-- R4: the longest run of ingress activity, bytes. -/
abbrev maxFrame : Nat := 492
/-- R29: the staleness repeat timer, ms. -/
abbrev staleRepeatMs : Nat := 100
/-- R35: the scan slot period, ms. -/
abbrev scanSlotMs : Nat := 10
/-- R36: the poll reply timer, ms. -/
abbrev pollReplyMs : Nat := 4
/-- R38: misses in a row that make a module LOST. -/
abbrev lossMisses : Nat := 3
/-- R57: the RFG period, ms. -/
abbrev rfgPeriodMs : Nat := 20
/-- R104: the ramp period, ms. -/
abbrev rampPeriodMs : Nat := 20
/-- R96: how long a ship record stays current, ms. -/
abbrev shipCurrentMs : Nat := 2000
/-- R122: the emergency-stop repeat timer, ms. -/
abbrev estopRepeatMs : Nat := 100
/-- R132: the tick of the terminal clock, ms. -/
abbrev clockTickMs : Nat := 1000
/-- R145: reservations, open sessions and log records together. -/
abbrev billingPlaces : Nat := 32
/-- R171: places of the request queue. -/
abbrev requestPlaces : Nat := 8
/-- R178: the bytes of a reply's body in one part. -/
abbrev partBytes : Nat := 474
/-- R185: wrong codes allowed. -/
abbrev lockAttempts : Nat := 5
/-- The largest value of a u32 counter. -/
abbrev u32Max : Nat := 4294967295
/-- The largest value of a 64-bit register. -/
abbrev u64Max : Nat := 18446744073709551615
/-- R151: the largest charge, milli. -/
abbrev chargeMax : Nat := 1099511627775
/-- R125: one Wh in W·µs. -/
abbrev wattHour : Nat := 3600000000
/-- R183: the revision while the metrology code has never been set. -/
abbrev revisionUnset : Nat := 65534
/-- The model's own bound on the hand-offs between blocks that one command's settling takes (see `State.overrun`). -/
abbrev settleFuel : Nat := 4096

end Sys2Proof.Config
end

