-- ==== Sys2Proof/Machine/Arith.lean ====
section
/-! DEFINITION. The arithmetic terms of the manual (section "Arithmetic terms") and the byte order of the
link: saturation, rounding, clamping, moving a value toward a target, multi-byte fields, CRC-32. -/

namespace Sys2Proof.Machine

/-- Saturating addition: a sum held at `max`. -/
def satAdd (max n k : Nat) : Nat := min (n + k) max

/-- `n / d` rounded half away from zero, for `d > 0`. -/
def roundHalfAway (n : Int) (d : Nat) : Int :=
  if 0 ≤ n then (((2 * n.natAbs + d) / (2 * d) : Nat) : Int)
  else -(((2 * n.natAbs + d) / (2 * d) : Nat) : Int)

/-- A division by 1000 rounded half up: 500 is added before it is rounded down. -/
def roundHalfUp1000 (n : Nat) : Nat := (n + 500) / 1000

/-- `n / d` rounded up, for `d > 0`. -/
def ceilDiv (n d : Nat) : Nat := (n + d - 1) / d

/-- `n` clamped to `lo..hi`. -/
def clampNat (lo hi n : Nat) : Nat := max lo (min hi n)

/-- An integer clamped to `lo..hi`. -/
def clampInt (lo hi : Nat) (n : Int) : Nat := (max (lo : Int) (min (hi : Int) n)).toNat

/-- `cur` moved toward `target` by the difference, or by `limit` if that is smaller (R59). -/
def moveToward (limit cur target : Nat) : Nat :=
  if cur ≤ target then cur + min (target - cur) limit else cur - min (cur - target) limit

/-- A number modulo 65536 read as signed, −32768..32767 (section "Units"). -/
def signed16 (n : Int) : Int :=
  let r := n % 65536
  if r < 32768 then r else r - 65536

/-- A sum wrapped into −32768..32767 by adding or subtracting 65536 where needed (R79). -/
def wrap16 (n : Int) : Int :=
  if n < -32768 then n + 65536 else if 32767 < n then n - 65536 else n

/-- `n` as `k` bytes, most significant byte first. -/
def be : Nat → Nat → List Byte
  | 0, _ => []
  | k + 1, n => BitVec.ofNat 8 (n / 256 ^ k) :: be k n

/-- `n` as `k` bytes in two's complement, most significant byte first. -/
def beInt (k : Nat) (n : Int) : List Byte := be k (n % ((256 ^ k : Nat) : Int)).toNat

/-- The number that bytes carry, most significant byte first. -/
def fromBe (bs : List Byte) : Nat := bs.foldl (fun a b => a * 256 + b.toNat) 0

/-- An unsigned number of `k` bytes read in two's complement. -/
def toSigned (k n : Nat) : Int :=
  if 2 * n < 256 ^ k then (n : Int) else (n : Int) - ((256 ^ k : Nat) : Int)

/-- One bit of the CRC register: the generator 04C11DB7 bit-reflected (R3). -/
def crcBit (c : Nat) : Nat := if c % 2 = 1 then (c / 2) ^^^ 0xEDB88320 else c / 2

/-- One byte entering the CRC register, least significant bit first (R3). -/
def crcByte (c : Nat) (b : Byte) : Nat :=
  crcBit (crcBit (crcBit (crcBit (crcBit (crcBit (crcBit (crcBit (c ^^^ b.toNat))))))))

/-- R3: the CRC-32 of the bytes in the order in which they are sent. -/
def crc32 (bs : List Byte) : Nat := (bs.foldl crcByte 0xFFFFFFFF) ^^^ 0xFFFFFFFF

/-- The bank `v` with the elements from index `first` on replaced by `xs`, as far as the bank reaches. -/
def putAll {α : Type} {n : Nat} : Vector α n → Nat → List α → Vector α n
  | v, _, [] => v
  | v, first, x :: xs => putAll (if h : first < n then v.set first x h else v) (first + 1) xs

/-- The element of index `i` of a bank, if there is one. -/
def bankGet? {α : Type} {n : Nat} (v : Vector α n) (i : Nat) : Option α :=
  if h : i < n then some v[i] else none

end Sys2Proof.Machine
end

