-- ==== Sys2Proof/Machine/State.lean ====
section
/-! DEFINITION. The state of the SC-48 as plain data: one structure per block, the inputs, device time, and
the model's own fields (the hand-offs between blocks inside one command, and the queue of commands). -/

namespace Sys2Proof.Machine

/-- No command of this block ends in a fault: the manual describes no condition that stops the part. -/
inductive Fault where
deriving DecidableEq, Repr

/-- Why a command has no meaning. -/
inductive Refusal where
  /-- Raised by `exec` for a row of the table that has no meaning yet. Safe. No arm raises it. -/
  | notModelled (mnemonic : String)
deriving DecidableEq, Repr

/-! ### Inputs and straps (section "External connections") -/

/-- The levels of the hardwired inputs: the four pilot loops (true: closed) and ESTOP (true: stop). -/
structure Pins where
  pilot : Vector Bool 4
  estop : Bool
deriving DecidableEq, Repr

/-! ### LPU (chapter 1) -/

/-- The commands of a BCMD. -/
inductive BreakerCmd where
  | close
  | openCmd
  | trip
deriving DecidableEq, Repr

/-- A BCMD waiting in PROTECT or the command list (R10, section 1.6). -/
structure Bcmd where
  dest : Nat
  cmd : BreakerCmd
  target : Target
  limit : Nat
deriving DecidableEq, Repr

/-- The modes of a SETP (section 1.6). -/
inductive SetpMode where
  | start
  | form
  | follow
  | stop
deriving DecidableEq, Repr

/-- A SETP (section 1.6). -/
structure Setp where
  dest : Nat
  module : Module
  mode : SetpMode
  period : Nat
  f : Nat
  v : Nat
  pRef : Nat
  pLimit : Nat
  berth : Berth
deriving DecidableEq, Repr

/-- The body of an SHPN (section 1.6). -/
inductive Notice where
  | berth (b : Berth) (code : Nat)
  | shed (b : Berth) (kw : Nat)
  | limit (b : Berth) (kw : Nat)
  | rampDone (b : Berth)
deriving DecidableEq, Repr

/-- A frame of the CONTROL queue (R11). -/
inductive ControlFrame where
  | setp (f : Setp)
  | poll (dest : Nat) (module : Module) (number : Nat)
  | shpn (dest : Nat) (body : Notice)
deriving DecidableEq, Repr

/-- A place of the CONTROL queue with its entry time (R11) and whether it is promoted (R12). -/
structure ControlPlace where
  frame : ControlFrame
  entry : Nat
  promoted : Bool
deriving DecidableEq, Repr

/-- The result codes of an MREP (section 1.6). -/
inductive Result where
  | done | busy | notAuthorised | outOfRange | badValue | inUse | malformed | locked | lockMismatch
  | lockExhausted | frozen | levelStrict | noPrepare | logEmpty | noSlot | noCapacity | noTariff
  | pilotOpen | notReady
deriving DecidableEq, Repr

/-- A frame of the REPLY queue. -/
inductive ReplyFrame where
  | mrep (dest : Nat) (tag : BitVec 16) (kind : Byte) (result : Result) (data : List Byte)
  | note (dest : Nat) (event : EventIx) (count day second : Nat)
deriving DecidableEq, Repr

/-- A place of the REPLY queue that holds a frame; `refusal` marks the refusal place (R13). -/
structure ReplyPlace where
  frame : ReplyFrame
  refusal : Bool
deriving DecidableEq, Repr

/-- The link counters of R16, each a saturating u32. -/
structure LinkCounters where
  good : Nat
  rejected : Nat
  overlong : Nat
  stripped : Nat
  sourceIgnored : Nat
  formDiscards : Nat
  forwardDrops : Nat
  promoted : Nat
  pollSkipped : Nat
  shpnLost : Nat
  noteLost : Nat
  sent : Nat
deriving DecidableEq, Repr

/-- The Link Port Unit. `nid` is the NID strap as sampled at the last reset (R1), `lossDue` the instant at
which the ingress loss timer next reaches 20 ms (R5), `sending` the frame on LINK_OUT, none while egress
is free (R14). -/
structure Lpu where
  nid : BitVec 6
  lossDue : Nat
  lossIndicator : Bool
  forward : List (List Byte)
  protect : List Bcmd
  commandList : List Bcmd
  control : List ControlPlace
  reply : List ReplyPlace
  reservations : Nat
  seq : Nat
  sending : Option (List Byte)
  counters : LinkCounters
deriving DecidableEq, Repr

/-! ### SCL (chapter 2) -/

/-- A point's freshness state (section 2.4). -/
inductive Freshness where
  | fresh
  | held
  | stale
deriving DecidableEq, Repr

/-- A stream table entry (R18). -/
structure StreamEntry where
  valid : Bool
  node : Nat
  channel : Nat
  point : Nat
  interval : Nat
  staleLimit : Nat
deriving DecidableEq, Repr

/-- The grid settings (R28). -/
structure GridSettings where
  nominalF : Nat
  nominalV : Nat
  vBand : Nat
  fBand : Nat
deriving DecidableEq, Repr

/-- A point of the point store (R21, R23, R25, R31). `limits` are the HELD and STALE limits in ms, present
when a valid entry names the point. `arrival` is the arrival instant of its last valid record. -/
structure PointRec where
  state : Freshness
  neverReceived : Bool
  lastSeq : Option Nat
  timestamp : Nat
  voltage : Nat
  angle : Nat
  freq : Nat
  pCal : Int
  qCal : Int
  arrival : Nat
  missed : Nat
  discarded : Nat
  vOut : Bool
  fOut : Bool
  limits : Option (Nat × Nat)
deriving DecidableEq, Repr

/-- The Stream Classifier. `shipStale` and `convStale` are the staleness conditions of R29: present while the
condition holds, with the instant at which its repeat timer expires. -/
structure Scl where
  streams : Vector StreamEntry 24
  gains : Vector Nat 17
  grid : GridSettings
  points : Vector PointRec 17
  unmatched : Nat
  shipStale : Vector (Option Nat) 4
  convStale : Vector (Option Nat) 4
deriving DecidableEq, Repr

/-! ### MPM (chapter 3) -/

/-- A module table entry (R33); limits in s. The contactor field is read-only, 4 + i. -/
structure ModuleEntry where
  installed : Bool
  rating : Nat
  node : Nat
  startLimit : Nat
  stopLimit : Nat
deriving DecidableEq, Repr

/-- The module states of section 3.2, with ABSENT. -/
inductive ModuleState where
  | absent | standby | starting | syncing | online | stopping | lost | blocked
deriving DecidableEq, Repr

/-- The state a PRPY reports (section 1.6). -/
inductive Reported where
  | off | running | fault
deriving DecidableEq, Repr

/-- The state record of a module: its poll record (R37) and the progress of its start and stop
(R40 to R50). `openNoted` is the instant of MPM's BCMD OPEN (R46). -/
structure ModuleRec where
  state : ModuleState
  first : Bool
  startIssued : Bool
  deferred : Bool
  blockPending : Bool
  missCount : Nat
  answered : Bool
  reported : Option Reported
  capacity : Option Nat
  derateFlag : Bool
  derateCond : Bool
  startDue : Option Nat
  stopDue : Option Nat
  offSeen : Bool
  openSeen : Bool
  openNoted : Nat
  closedNoted : Bool
  runningSeen : Bool
deriving DecidableEq, Repr

/-- An open poll (R35, R36); `replyDue` is present while its reply timer runs. -/
structure OpenPoll where
  module : Module
  number : Nat
  replyDue : Option Nat
deriving DecidableEq, Repr

/-- The Module Pool Manager. -/
structure Mpm where
  table : Vector ModuleEntry 8
  recs : Vector ModuleRec 8
  lists : Vector (List Module) 4
  poll : Option OpenPoll
  lastPolled : Option Module
  pollCounter : Nat
  ignored : Nat
  scanDue : Nat
deriving DecidableEq, Repr

/-! ### RFG (chapter 4) -/

/-- The reference settings (R56). -/
structure RefSettings where
  fLimit : Nat
  vLimit : Nat
  softFraction : Nat
  softIncrement : Nat
  shedMargin : Nat
deriving DecidableEq, Repr

/-- Soft-energise progress (R60). -/
inductive Progress where
  | waiting | rising | complete
deriving DecidableEq, Repr

/-- A berth reference record (R58). The target source is SYU exactly while `pair` is present (R62).
`overloadDue` is present while the overload timer runs (R67). -/
structure BerthRef where
  nominalF : Nat
  nominalV : Nat
  fRef : Nat
  vRef : Nat
  follow : Bool
  progress : Progress
  pair : Option (Nat × Nat)
  pSet : Nat
  pB : Nat
  overload : Bool
  overloadDue : Option Nat
  lastShed : Nat
deriving DecidableEq, Repr

/-- The values of the SETP most recently built for a module (R64). -/
structure BuiltSetp where
  mode : SetpMode
  f : Nat
  v : Nat
  pRef : Nat
  pLimit : Nat
deriving DecidableEq, Repr

/-- A module reference record (R64). -/
structure ModuleRef where
  lastSent : Option (Nat × Nat × SetpMode)
  startSent : Bool
  own : Option (Nat × Nat)
  built : Option BuiltSetp
deriving DecidableEq, Repr

/-- The Reference Generator. `settings` is the entry of table 5 as stored; `inForce` is what RFG works by, the entry
as it stood when the latest period began: a write that is taken applies from the next period (R56). `handed` keeps the
nominal frequency and voltage handed at the berth's last acceptance (R58, R64). -/
structure Rfg where
  settings : RefSettings
  inForce : RefSettings
  berths : Vector (Option BerthRef) 4
  modules : Vector ModuleRef 8
  handed : Vector (Nat × Nat) 4
  periodCounter : Nat
  periodDue : Nat
deriving DecidableEq, Repr

/-! ### SYU (chapter 5) -/

/-- A breaker's reported position (section 1.6). -/
inductive Position where
  | openPos | closed | moving | fault
deriving DecidableEq, Repr

/-- A breaker table entry (R71). -/
structure BreakerEntry where
  node : Nat
  tc : Nat
  margin : Nat
  learn : Bool
  lastMeasured : Option Nat
  lastPosition : Option Position
deriving DecidableEq, Repr

/-- A sync profile (R73). -/
structure Profile where
  vWindow : Nat
  slipLow : Int
  slipHigh : Int
  slipTarget : Int
  angleWindow : Nat
  settleCount : Nat
  watchLimit : Nat
  attemptLimit : Nat
  backoffBase : Nat
  backoffCap : Nat
  waitLimit : Nat
  deadThreshold : Nat
deriving DecidableEq, Repr

/-- Who asked SYU for a close. -/
inductive Requester where
  | bsq | mpm
deriving DecidableEq, Repr

/-- A synchronising request (R74). -/
structure SyncReq where
  target : Target
  berth : Berth
  requester : Requester
  refPoint : Point
  matchPoint : Point
  instant : Nat
  waitDue : Nat
deriving DecidableEq, Repr

/-- The results of an evaluation (R79). -/
structure Evaluation where
  phi : Option Int
  slip : Option Int
  delta : Option Int
  phiP : Option Int
  vOk : Bool
  sOk : Bool
  aOk : Bool
deriving DecidableEq, Repr

/-- The states of a channel that holds a request (section 5.4). -/
inductive Phase where
  | adjusting | watching | closing | backoff
deriving DecidableEq, Repr

/-- The record of a channel that holds a request (section 5.4). A channel without one is IDLE (R76).
`slot` pairs are f and V of the last target pair handed to RFG. -/
structure ChanWork where
  req : SyncReq
  profile : Profile
  phase : Phase
  k : Nat
  settle : Nat
  watchDue : Option Nat
  confirmDue : Option Nat
  backoffDue : Option Nat
  commandTime : Option Nat
  pair : Option (Int × Nat)
  eval : Option Evaluation
deriving DecidableEq, Repr

/-- A pending dead-bus close (R88). -/
structure DeadClose where
  target : Target
  berth : Berth
  requester : Requester
  commandTime : Nat
  confirmDue : Nat
deriving DecidableEq, Repr

/-- The Synchronising Unit. -/
structure Syu where
  breakers : Vector BreakerEntry 12
  profiles : Vector Profile 2
  queue : List SyncReq
  chans : Vector (Option ChanWork) 2
  deadBus : List DeadClose
  closeHeld : Vector Bool 12
deriving DecidableEq, Repr

/-! ### BSQ (chapter 6) -/

/-- A berth table entry (R95). The replacement flag is kept as its byte, because an entry that is not
configured is stored as given. -/
structure BerthEntry where
  configured : Bool
  nominalF : Nat
  nominalV : Nat
  contract : Nat
  gateway : Nat
  rampRate : Nat
  holdLimit : Nat
  rampTimeout : Nat
  genWait : Nat
  openThreshold : Nat
  overloadTime : Nat
  vBand : Nat
  fBand : Nat
  replacement : Nat
deriving DecidableEq, Repr

/-- The berth states, in the order of their codes (section 1.6). -/
inductive BerthState where
  | unused | dead | allocating | energising | syncing | deadClose | rampUp | shore | awaitGenerators
  | rampDown | opening | releasing | tripped
deriving DecidableEq, Repr

/-- Why a berth tripped (R115). -/
inductive TripReason where
  | operator | event | pilot | estop | externalOpen | noSource
deriving DecidableEq, Repr

/-- The berth summary MPM hands BSQ (R53). -/
structure Summary where
  listed : Nat
  online : Nat
  allOnline : Bool
  capacity : Nat
deriving DecidableEq, Repr

/-- A timer that can pause (R107). -/
inductive PauseTimer where
  | stopped
  | running (due : Nat)
  | paused (left : Nat)
deriving DecidableEq, Repr

/-- A berth record (sections 6.1 and 6.5). `holdEnd` is the ship hold's end instant, present while it is in
force; `holdAcc` the ship hold time accumulated up to `holdFrom`. `openNoted` is the instant of the command
that the opening waits on (R111, R112). -/
structure BerthRec where
  state : BerthState
  demand : Bool
  fromOpening : Bool
  reason : Option TripReason
  deadShip : Bool
  energised : Bool
  holdEnd : Option Nat
  holdFrom : Nat
  holdAcc : Nat
  holdMark : Bool
  eventHold : Bool
  rampDue : Option Nat
  rampTimer : PauseTimer
  genDue : Option Nat
  openDue : Option Nat
  openNoted : Nat
  capacityCond : Bool
  rampDone : Bool
  lastLimit : Nat
  summary : Summary
  shedAck : Nat
deriving DecidableEq, Repr

/-- A ship record (R96). -/
structure ShipRec where
  ready : Bool
  deadBus : Bool
  generators : Nat
  load : Nat
  ident : Option ShipId
  received : Nat
deriving DecidableEq, Repr

/-- The Berth Sequencer. `estopRepeat` is the instant at which the emergency-stop repeat timer expires. -/
structure Bsq where
  table : Vector BerthEntry 4
  recs : Vector BerthRec 4
  ships : Vector (Option ShipRec) 4
  estopRepeat : Option Nat
deriving DecidableEq, Repr

/-! ### MTR (chapter 7) -/

/-- A metering record (R125). -/
structure MeterRec where
  baseline : Option Nat
  lastArrival : Option Nat
  importResidue : Nat
  returnedResidue : Nat
  unmeteredRem : Nat
  demandAcc : Nat
  gapCount : Nat
  backwardCount : Nat
  restartCount : Nat
deriving DecidableEq, Repr

/-- The unbilled registers of a berth (R131). -/
structure Unbilled where
  importWh : Nat
  returnedWh : Nat
  unmeteredMs : Nat
deriving DecidableEq, Repr

/-- The Revenue Meter. `demandS` is the demand interval D in s (R137). `endDue` is set by a tick after which
the second of day is a multiple of D, until that interval end is taken (R132, R135). `tickDue` is the instant
of the next 1 s tick. -/
structure Mtr where
  recs : Vector MeterRec 4
  unbilled : Vector Unbilled 4
  day : Nat
  second : Nat
  tickDue : Nat
  gapLimit : Nat
  demandS : Nat
  intervalStart : Nat
  intervalEnd : Nat
  endDue : Bool
deriving DecidableEq, Repr

/-! ### BLG (chapter 8) -/

/-- A tariff set (R141). -/
structure TariffSet where
  loaded : Bool
  schedule : List (Nat × Nat)
  rates : Vector Nat 4
  demandRate : Nat
  bound : Nat
deriving DecidableEq, Repr

/-- Why a session ended, numbered 0..7 in this order (R147). -/
inductive EndReason where
  | normal | tripOperator | tripEvent | pilot | estop | externalOpen | noSource | supply
deriving DecidableEq, Repr

/-- A session record, open or logged (R147). -/
structure Session where
  number : Option Nat
  berth : Berth
  ident : Option ShipId
  set : Fin 4
  startClock : Nat × Nat
  endClock : Option (Nat × Nat)
  reason : Option EndReason
  bands : Vector Nat 4
  importWh : Nat
  returnedWh : Nat
  peak : Nat
  unmeteredMs : Nat
  energyCharge : Option Nat
  demandCharge : Option Nat
  totalCharge : Option Nat
deriving DecidableEq, Repr

/-- A berth's billing slot (R145). -/
inductive Slot where
  | free
  | reserved
  | openSlot (rec : Session)
deriving DecidableEq, Repr

/-- The Billing Unit. `current` is the current-set index, absent for NONE (R143). -/
structure Blg where
  sets : Vector TariffSet 4
  current : Option (Fin 4)
  slots : Vector Slot 4
  log : List Session
  counter : Nat
  logFull : Bool
deriving DecidableEq, Repr

/-! ### EVR (chapter 9) -/

/-- The protective actions, in the order of their codes (R158). -/
inductive Action where
  | none | hold | holdAll | shed | tripBerth | tripAll | blockModule
deriving DecidableEq, Repr

/-- An event table entry (R158). -/
structure EventEntry where
  enabled : Bool
  notifyOperator : Bool
  notifyBilling : Bool
  notifyShip : Bool
  action : Action
  raw : Bool
  count : Nat
  clock : Option (Nat × Nat)
deriving DecidableEq, Repr

/-- The Event Router: the table, the event holds (R162) and the trip outputs (R168). -/
structure Evr where
  entries : Vector EventEntry 100
  holds : Vector Bool 4
  outputs : Vector Bool 4
deriving DecidableEq, Repr

/-! ### MGU (chapter 10) -/

/-- A request of the queue (R171): source, tag, kind byte and parameter bytes as received. -/
structure MguReq where
  source : Nat
  tag : BitVec 16
  kind : Byte
  params : List Byte
deriving DecidableEq, Repr

/-- The out-of-range capture record (R175). -/
structure Capture where
  source : Nat
  kind : Nat
  table : Nat
  first : Nat
  count : Nat
deriving DecidableEq, Repr

/-- The Management Unit. `parts` holds the data of the parts still to enter of the reply of the request at
the head of the queue, which is then in service (R178). `opn` and `bln` are the straps as sampled. -/
structure Mgu where
  queue : List MguReq
  parts : List (List Byte)
  prepOperator : Bool
  prepBilling : Bool
  capture : Option Capture
  dropped : Nat
  opn : BitVec 6
  bln : BitVec 6
deriving DecidableEq, Repr

/-! ### MLK (chapter 11) -/

/-- The lock state (R183). -/
inductive LockState where
  | unprotected | locked | unlocked
deriving DecidableEq, Repr

/-- The Metrology Lock (R183). `strict` is the level. -/
structure Mlk where
  operatorCode : Option Code
  strict : Bool
  metrologyCode : Option Code
  revision : Nat
  lock : LockState
  frozen : Bool
  attempts : Nat
  exhausted : Bool
deriving DecidableEq, Repr

/-! ### Hand-offs between blocks -/

/-- The result of a synchronising request (R75, R84, R85, R90). -/
inductive SyncResult where
  | success | failedWait | failedAttempts | cancelled
deriving DecidableEq, Repr

/-- The outcome of a dead-bus close (R41, R89, R91). -/
inductive DeadOutcome where
  | confirmed | refused | notConfirmed
deriving DecidableEq, Repr

/-- What one block gives another to act on once the giving block's own rule is complete. -/
inductive Handoff where
  /-- a raise of an event entry (R159) -/
  | raise (e : EventIx)
  /-- MPM's summary of a berth has changed (R53) -/
  | summary (b : Berth)
  /-- MPM reports a first-module failure (R53) -/
  | firstFailure (b : Berth)
  /-- a berth's allocation list has become empty (R53) -/
  | listEmpty (b : Berth)
  /-- SYU's result for an outlet request (R102) -/
  | outletResult (b : Berth) (r : SyncResult)
  /-- SYU's outcome for a dead-bus close of an outlet (R102) -/
  | outletOutcome (b : Berth) (o : DeadOutcome)
  /-- SYU's result for a contactor request (R43) -/
  | contactorResult (m : Module) (r : SyncResult)
  /-- SYU's outcome for a dead-bus close of a contactor, for the berth named (R41) -/
  | contactorOutcome (m : Module) (b : Berth) (o : DeadOutcome)
  /-- RFG's completion of soft energise (R61) -/
  | energised (b : Berth)
  /-- the LPU reports a POLL skipped (R11, R36) -/
  | pollSkipped (m : Module) (number : Nat)
  /-- a channel has become IDLE or a request has joined the queue, and R76 applies at the end of the event -/
  | serveChannels
deriving DecidableEq, Repr

/-- The state of the SC-48. `now` is device time in ms. `handoffs` holds, inside one command, what blocks have
handed each other and not yet taken; it is empty between commands. `overrun` counts hand-offs that a
command's settling could not take within `Config.settleFuel` (0 in every run we know of). `pending` is the
queue of commands waiting, first in, first out. -/
structure State where
  pins : Pins
  lpu : Lpu
  scl : Scl
  mpm : Mpm
  rfg : Rfg
  syu : Syu
  bsq : Bsq
  mtr : Mtr
  blg : Blg
  evr : Evr
  mgu : Mgu
  mlk : Mlk
  now : Nat
  handoffs : List Handoff
  overrun : Nat
  pending : List Instr
deriving DecidableEq, Repr

/-! ### Values after a reset -/

/-- R17. -/
def LinkCounters.zero : LinkCounters := ⟨0, 0, 0, 0, 0, 0, 0, 0, 0, 0, 0, 0⟩

/-- R17: the LPU after any reset, at instant `now`, with the NID strap as sampled. -/
def Lpu.cold (nid : BitVec 6) (now : Nat) : Lpu where
  nid := nid
  lossDue := now + Config.ingressLossMs
  lossIndicator := false
  forward := []
  protect := []
  commandList := []
  control := []
  reply := []
  reservations := 0
  seq := 0
  sending := none
  counters := .zero

/-- R32: a point after any reset; its limits are computed from the table at the end of the reset. -/
def PointRec.cold (limits : Option (Nat × Nat)) : PointRec where
  state := .stale
  neverReceived := true
  lastSeq := none
  timestamp := 0
  voltage := 0
  angle := 0
  freq := 0
  pCal := 0
  qCal := 0
  arrival := 0
  missed := 0
  discarded := 0
  vOut := false
  fOut := false
  limits := limits

/-- R32: a stream table entry after a cold reset. -/
def StreamEntry.cold : StreamEntry := ⟨false, 0, 0, 0, 0, 0⟩

/-- R28: the grid settings after a cold reset. -/
def GridSettings.cold : GridSettings := ⟨50000, 11000, 50, 500⟩

/-- R32: SCL after a cold reset. -/
def Scl.cold : Scl where
  streams := Vector.replicate 24 .cold
  gains := Vector.replicate 17 65536
  grid := .cold
  points := Vector.replicate 17 (.cold none)
  unmatched := 0
  shipStale := Vector.replicate 4 none
  convStale := Vector.replicate 4 none

/-- R55: a module's record with everything cleared, in the state given. -/
def ModuleRec.cleared (state : ModuleState) : ModuleRec where
  state := state
  first := false
  startIssued := false
  deferred := false
  blockPending := false
  missCount := 0
  answered := false
  reported := none
  capacity := none
  derateFlag := false
  derateCond := false
  startDue := none
  stopDue := none
  offSeen := false
  openSeen := false
  openNoted := 0
  closedNoted := false
  runningSeen := false

/-- R55: MPM after a cold reset. -/
def Mpm.cold (now : Nat) : Mpm where
  table := Vector.replicate 8 ⟨false, 0, 0, 0, 0⟩
  recs := Vector.replicate 8 (.cleared .absent)
  lists := Vector.replicate 4 []
  poll := none
  lastPolled := none
  pollCounter := 0
  ignored := 0
  scanDue := now + Config.scanSlotMs

/-- R64, R70: a module reference record when cleared. -/
def ModuleRef.cleared : ModuleRef := ⟨none, false, none, none⟩

/-- R56, R70: RFG after a cold reset. -/
def Rfg.cold (now : Nat) : Rfg where
  settings := ⟨20, 50, 20, 2, 100⟩
  inForce := ⟨20, 50, 20, 2, 100⟩
  berths := Vector.replicate 4 none
  modules := Vector.replicate 8 .cleared
  handed := Vector.replicate 4 (0, 0)
  periodCounter := 0
  periodDue := now + Config.rfgPeriodMs

/-- R71: a breaker table entry after a cold reset. -/
def BreakerEntry.cold : BreakerEntry := ⟨0, 100, 100, false, none, none⟩

/-- R73: the OUTLET profile after a cold reset. -/
def Profile.coldOutlet : Profile := ⟨330, 10, 150, 60, 364, 3, 60, 3, 1000, 2, 300, 10⟩

/-- R73: the MODULE profile after a cold reset. -/
def Profile.coldModule : Profile := ⟨200, 10, 100, 40, 546, 3, 30, 3, 500, 2, 120, 10⟩

/-- R94: SYU after a cold reset. -/
def Syu.cold : Syu where
  breakers := Vector.replicate 12 .cold
  profiles := #v[.coldOutlet, .coldModule]
  queue := []
  chans := Vector.replicate 2 none
  deadBus := []
  closeHeld := Vector.replicate 12 false

/-- R95: a berth table entry after a cold reset. -/
def BerthEntry.cold : BerthEntry := ⟨false, 0, 0, 0, 0, 0, 0, 0, 0, 0, 0, 0, 0, 0⟩

/-- R124: the summary of a berth with no module listed. -/
def Summary.empty : Summary := ⟨0, 0, true, 0⟩

/-- R124: a berth record after a reset, in the state given. -/
def BerthRec.cleared (state : BerthState) : BerthRec where
  state := state
  demand := false
  fromOpening := false
  reason := none
  deadShip := false
  energised := false
  holdEnd := none
  holdFrom := 0
  holdAcc := 0
  holdMark := false
  eventHold := false
  rampDue := none
  rampTimer := .stopped
  genDue := none
  openDue := none
  openNoted := 0
  capacityCond := false
  rampDone := false
  lastLimit := 0
  summary := .empty
  shedAck := 0

/-- R124: BSQ after a cold reset. -/
def Bsq.cold : Bsq where
  table := Vector.replicate 4 .cold
  recs := Vector.replicate 4 (.cleared .unused)
  ships := Vector.replicate 4 none
  estopRepeat := none

/-- R140: a metering record after a reset. -/
def MeterRec.cold : MeterRec := ⟨none, none, 0, 0, 0, 0, 0, 0, 0⟩

/-- R137, R140: MTR after a cold reset at instant `now`. -/
def Mtr.cold (now : Nat) : Mtr where
  recs := Vector.replicate 4 .cold
  unbilled := Vector.replicate 4 ⟨0, 0, 0⟩
  day := 0
  second := 0
  tickDue := now + Config.clockTickMs
  gapLimit := 100000
  demandS := 900
  intervalStart := 0
  intervalEnd := 900
  endDue := false

/-- R141: an EMPTY tariff set. -/
def TariffSet.empty : TariffSet := ⟨false, [], Vector.replicate 4 0, 0, 0⟩

/-- R157: BLG after a cold reset. -/
def Blg.cold : Blg where
  sets := Vector.replicate 4 .empty
  current := none
  slots := Vector.replicate 4 .free
  log := []
  counter := 1
  logFull := false

/-- R170: the action of entry `i` after a cold reset. -/
def coldAction (i : Nat) : Action :=
  if i = 99 then .tripAll else if i < 56 ∧ i % 14 = 9 then .tripBerth else .none

/-- R170: the entry of index `i` after a cold reset. -/
def EventEntry.cold (i : Nat) : EventEntry :=
  ⟨false, false, false, false, coldAction i, false, 0, none⟩

/-- R170: EVR after a cold reset with the emergency-stop input released. -/
def Evr.cold : Evr where
  entries := Vector.ofFn fun i => .cold i.val
  holds := Vector.replicate 4 false
  outputs := Vector.replicate 4 false

/-- R182: MGU after any reset, with the straps as sampled. -/
def Mgu.cold (opn bln : BitVec 6) : Mgu := ⟨[], [], false, false, none, 0, opn, bln⟩

/-- R191: MLK after a cold reset. -/
def Mlk.cold : Mlk where
  operatorCode := none
  strict := false
  metrologyCode := none
  revision := Config.revisionUnset
  lock := .unprotected
  frozen := false
  attempts := Config.lockAttempts
  exhausted := false

/-- Every block at its cold values, at instant `now`, with the straps sampled and the inputs at the levels
given; before what the blocks do at the end of the reset. -/
def State.coldWith (pins : Pins) (nid opn bln : BitVec 6) (now : Nat) (overrun : Nat)
    (pending : List Instr) : State where
  pins := pins
  lpu := .cold nid now
  scl := .cold
  mpm := .cold now
  rfg := .cold now
  syu := .cold
  bsq := .cold
  mtr := .cold now
  blg := .cold
  evr := .cold
  mgu := .cold opn bln
  mlk := .cold
  now := now
  handoffs := []
  overrun := overrun
  pending := pending

/-- The machine right after a cold reset. DESIGN CHOICE: device time 0, the inputs released, and the straps
NID 1, OPN 2, BLN 3; the manual gives the inputs no level and the straps only the range 1..62. -/
def State.reset : State :=
  .coldWith ⟨Vector.replicate 4 false, false⟩ 1 2 3 0 0 []

end Sys2Proof.Machine
end

