-- ==== Sys2Proof/Machine/Ops.lean ====
section
/-! DEFINITION. The named operations over the state that every block shares: the change of one block, the
records of a bank, hand-offs between blocks, device time, the maps between berths, points and breakers,
and the event indices. -/

namespace Sys2Proof.Machine

/-! ### Changing one block -/

/-- The state with its `pins` changed by `g`. -/
def State.modPins (s : State) (g : Pins → Pins) : State := { s with pins := g s.pins }

/-- The state with its `lpu` changed by `g`. -/
def State.modLpu (s : State) (g : Lpu → Lpu) : State := { s with lpu := g s.lpu }

/-- The state with its `scl` changed by `g`. -/
def State.modScl (s : State) (g : Scl → Scl) : State := { s with scl := g s.scl }

/-- The state with its `mpm` changed by `g`. -/
def State.modMpm (s : State) (g : Mpm → Mpm) : State := { s with mpm := g s.mpm }

/-- The state with its `rfg` changed by `g`. -/
def State.modRfg (s : State) (g : Rfg → Rfg) : State := { s with rfg := g s.rfg }

/-- The state with its `syu` changed by `g`. -/
def State.modSyu (s : State) (g : Syu → Syu) : State := { s with syu := g s.syu }

/-- The state with its `bsq` changed by `g`. -/
def State.modBsq (s : State) (g : Bsq → Bsq) : State := { s with bsq := g s.bsq }

/-- The state with its `mtr` changed by `g`. -/
def State.modMtr (s : State) (g : Mtr → Mtr) : State := { s with mtr := g s.mtr }

/-- The state with its `blg` changed by `g`. -/
def State.modBlg (s : State) (g : Blg → Blg) : State := { s with blg := g s.blg }

/-- The state with its `evr` changed by `g`. -/
def State.modEvr (s : State) (g : Evr → Evr) : State := { s with evr := g s.evr }

/-- The state with its `mgu` changed by `g`. -/
def State.modMgu (s : State) (g : Mgu → Mgu) : State := { s with mgu := g s.mgu }

/-- The state with its `mlk` changed by `g`. -/
def State.modMlk (s : State) (g : Mlk → Mlk) : State := { s with mlk := g s.mlk }

/-! ### Changing one record -/

/-- The state with the point record of `p` changed. -/
def State.modPoint (s : State) (p : Point) (g : PointRec → PointRec) : State :=
  s.modScl fun c => { c with points := upd c.points p g }

/-- The state with the record of module `m` changed. -/
def State.modModule (s : State) (m : Module) (g : ModuleRec → ModuleRec) : State :=
  s.modMpm fun c => { c with recs := upd c.recs m g }

/-- The state with the reference record of module `m` changed. -/
def State.modModuleRef (s : State) (m : Module) (g : ModuleRef → ModuleRef) : State :=
  s.modRfg fun c => { c with modules := upd c.modules m g }

/-- The state with the berth reference record of berth `b`, if there is one, changed. -/
def State.modBerthRef (s : State) (b : Berth) (g : BerthRef → BerthRef) : State :=
  s.modRfg fun c => { c with berths := upd c.berths b (Option.map g) }

/-- The state with the breaker table entry of `t` changed. -/
def State.modBreaker (s : State) (t : Target) (g : BreakerEntry → BreakerEntry) : State :=
  s.modSyu fun c => { c with breakers := upd c.breakers t g }

/-- The state with the record of channel `c` changed. -/
def State.modChan (s : State) (c : Chan) (g : Option ChanWork → Option ChanWork) : State :=
  s.modSyu fun y => { y with chans := upd y.chans c g }

/-- The state with the close-held mark of `t` set to `v`. -/
def State.setCloseHeld (s : State) (t : Target) (v : Bool) : State :=
  s.modSyu fun y => { y with closeHeld := upd y.closeHeld t fun _ => v }

/-- The state with the berth record of `b` changed. -/
def State.modBerth (s : State) (b : Berth) (g : BerthRec → BerthRec) : State :=
  s.modBsq fun c => { c with recs := upd c.recs b g }

/-- The state with the ship record of berth `b` replaced. -/
def State.setShip (s : State) (b : Berth) (r : Option ShipRec) : State :=
  s.modBsq fun c => { c with ships := upd c.ships b fun _ => r }

/-- The state with the metering record of berth `b` changed. -/
def State.modMeter (s : State) (b : Berth) (g : MeterRec → MeterRec) : State :=
  s.modMtr fun c => { c with recs := upd c.recs b g }

/-- The state with the unbilled registers of berth `b` changed. -/
def State.modUnbilled (s : State) (b : Berth) (g : Unbilled → Unbilled) : State :=
  s.modMtr fun c => { c with unbilled := upd c.unbilled b g }

/-- The state with the billing slot of berth `b` changed. -/
def State.modSlot (s : State) (b : Berth) (g : Slot → Slot) : State :=
  s.modBlg fun c => { c with slots := upd c.slots b g }

/-- The state with the event table entry `e` changed. -/
def State.modEntry (s : State) (e : EventIx) (g : EventEntry → EventEntry) : State :=
  s.modEvr fun c => { c with entries := upd c.entries e g }

/-- The state with the link counters changed. -/
def State.count (s : State) (g : LinkCounters → LinkCounters) : State :=
  s.modLpu fun l => { l with counters := g l.counters }

/-- R16: a link counter after one more. -/
def count1 (n : Nat) : Nat := satAdd Config.u32Max n 1

/-! ### Reading one record -/

/-- The point record of `p`. -/
def State.point (s : State) (p : Point) : PointRec := s.scl.points[p]
/-- The record of module `m`. -/
def State.modu (s : State) (m : Module) : ModuleRec := s.mpm.recs[m]
/-- The allocation list of berth `b`. -/
def State.list (s : State) (b : Berth) : List Module := s.mpm.lists[b]
/-- The berth reference record of berth `b`. -/
def State.berthRef (s : State) (b : Berth) : Option BerthRef := s.rfg.berths[b]
/-- The breaker table entry of `t`. -/
def State.breaker (s : State) (t : Target) : BreakerEntry := s.syu.breakers[t]
/-- The berth record of `b`. -/
def State.berth (s : State) (b : Berth) : BerthRec := s.bsq.recs[b]
/-- The berth table entry of `b`. -/
def State.entry (s : State) (b : Berth) : BerthEntry := s.bsq.table[b]
/-- The billing slot of berth `b`. -/
def State.slot (s : State) (b : Berth) : Slot := s.blg.slots[b]

/-! ### Hand-offs and device time -/

/-- Hands `h` to the block it is for, which takes it once the rule in hand is complete. -/
def State.post (s : State) (h : Handoff) : State := { s with handoffs := s.handoffs ++ [h] }

/-- Device time has reached the instant `t`. -/
def State.advanceTo (s : State) (t : Nat) : State := { s with now := max s.now t }

/-- What is left at device time of a timer that expires at `due`. -/
def State.left (s : State) (due : Nat) : Nat := due - s.now

/-! ### Straps (R1, R174) -/

/-- The node a strap names: none when it reads 0 or 63. -/
def strapNode (v : BitVec 6) : Option Nat := if v = 0 ∨ v = 63 then none else some v.toNat

/-- R1: the own node number. -/
def State.own (s : State) : Option Nat := strapNode s.lpu.nid

/-! ### Numbered instances -/

/-- The berths in order. -/
def allBerths : List Berth := [0, 1, 2, 3]
/-- The modules in order. -/
def allModules : List Module := [0, 1, 2, 3, 4, 5, 6, 7]
/-- The channels in order. -/
def allChans : List Chan := [0, 1]
/-- The points in code order. -/
def allPoints : List Point := [0, 1, 2, 3, 4, 5, 6, 7, 8, 9, 10, 11, 12, 13, 14, 15, 16]
/-- The breakers in target index order. -/
def allTargets : List Target := [0, 1, 2, 3, 4, 5, 6, 7, 8, 9, 10, 11]

/-- Section 2.1: the converter bus CBb. -/
def cbPoint (b : Berth) : Point := ⟨1 + b.val, by omega⟩
/-- Section 2.1: the ship bus SHb, the revenue point of berth b. -/
def shPoint (b : Berth) : Point := ⟨5 + b.val, by omega⟩
/-- Section 2.1: the module output MOi. -/
def moPoint (m : Module) : Point := ⟨9 + m.val, by omega⟩
/-- The point GRID. -/
def gridPoint : Point := 0
/-- The berth and side of a point that SCL watches for staleness (section 2.6). -/
def pointSide (p : Point) : Option (Berth × Side) :=
  if h : 1 ≤ p.val ∧ p.val ≤ 4 then some (⟨p.val - 1, by omega⟩, .converter)
  else if h : 5 ≤ p.val ∧ p.val ≤ 8 then some (⟨p.val - 5, by omega⟩, .ship)
  else none

/-- The outlet breaker of berth b. -/
def outlet (b : Berth) : Target := ⟨b.val, by omega⟩
/-- The contactor Ki. -/
def contactor (m : Module) : Target := ⟨4 + m.val, by omega⟩

/-- A breaker is an outlet breaker of a berth or a contactor of a module (section 1.6). -/
def targetKind (t : Target) : Berth ⊕ Module :=
  if h : t.val < 4 then .inl ⟨t.val, h⟩ else .inr ⟨t.val - 4, by omega⟩

/-- The berth a byte names. -/
def berthOf? (n : Nat) : Option Berth := if h : n < 4 then some ⟨n, h⟩ else none
/-- The module a byte names. -/
def moduleOf? (n : Nat) : Option Module := if h : n < 8 then some ⟨n, h⟩ else none
/-- The event entry a byte names. -/
def eventOf? (n : Nat) : Option EventIx := if h : n < 100 then some ⟨n, h⟩ else none
/-- The point a point code names. -/
def pointOf? (n : Nat) : Option Point := if h : n < 17 then some ⟨n, h⟩ else none
/-- The breaker a target index names. -/
def targetOf? (n : Nat) : Option Target := if h : n < 12 then some ⟨n, h⟩ else none

/-- The berth whose allocation list holds module `m` (R34). -/
def State.berthOfModule (s : State) (m : Module) : Option Berth :=
  allBerths.find? fun b => (s.list b).contains m

/-! ### Event indices (section 9.1) -/

/-- A berth event of berth `b`, index 14 × b + k. -/
def berthEvent (b : Berth) (k : Fin 14) : EventIx := ⟨14 * b.val + k.val, by omega⟩
/-- A module event of module `m`, index 56 + 4 × m + k. -/
def moduleEvent (m : Module) (k : Fin 4) : EventIx := ⟨56 + 4 * m.val + k.val, by omega⟩

/-- SHIP_BUS_STALE of berth b. -/
def evShipBusStale (b : Berth) : EventIx := berthEvent b 0
/-- CB_STALE of berth b. -/
def evCbStale (b : Berth) : EventIx := berthEvent b 1
/-- SYNC_FAIL of berth b. -/
def evSyncFail (b : Berth) : EventIx := berthEvent b 2
/-- BREAKER_EXT_OPEN of berth b. -/
def evBreakerExtOpen (b : Berth) : EventIx := berthEvent b 3
/-- BREAKER_UNCOMMANDED of berth b. -/
def evBreakerUncommanded (b : Berth) : EventIx := berthEvent b 4
/-- BREAKER_NO_CONFIRM of berth b. -/
def evBreakerNoConfirm (b : Berth) : EventIx := berthEvent b 5
/-- OVERLOAD of berth b. -/
def evOverload (b : Berth) : EventIx := berthEvent b 6
/-- HOLD_LIMIT of berth b. -/
def evHoldLimit (b : Berth) : EventIx := berthEvent b 7
/-- RAMP_TIMEOUT of berth b. -/
def evRampTimeout (b : Berth) : EventIx := berthEvent b 8
/-- PILOT_LOSS of berth b. -/
def evPilotLoss (b : Berth) : EventIx := berthEvent b 9
/-- METER_GAP of berth b. -/
def evMeterGap (b : Berth) : EventIx := berthEvent b 10
/-- CAPACITY_LIMIT of berth b. -/
def evCapacityLimit (b : Berth) : EventIx := berthEvent b 11
/-- VOLTAGE_BAND of berth b. -/
def evVoltageBand (b : Berth) : EventIx := berthEvent b 12
/-- FREQ_BAND of berth b. -/
def evFreqBand (b : Berth) : EventIx := berthEvent b 13
/-- MODULE_LOST of module m. -/
def evModuleLost (m : Module) : EventIx := moduleEvent m 0
/-- MODULE_FAULT of module m. -/
def evModuleFault (m : Module) : EventIx := moduleEvent m 1
/-- MODULE_DERATED of module m. -/
def evModuleDerated (m : Module) : EventIx := moduleEvent m 2
/-- CONTACTOR_NO_CONFIRM of module m. -/
def evContactorNoConfirm (m : Module) : EventIx := moduleEvent m 3
/-- LINK_RX_LOSS. -/
def evLinkRxLoss : EventIx := 88
/-- LINK_OVERLONG. -/
def evLinkOverlong : EventIx := 89
/-- LINK_FORWARD_DROP. -/
def evLinkForwardDrop : EventIx := 90
/-- LINK_INSERT_DEFER. -/
def evLinkInsertDefer : EventIx := 91
/-- GRID_VOLTAGE_BAND. -/
def evGridVoltageBand : EventIx := 92
/-- GRID_FREQ_BAND. -/
def evGridFreqBand : EventIx := 93
/-- LOG_FULL. -/
def evLogFull : EventIx := 94
/-- TARIFF_NOT_SET. -/
def evTariffNotSet : EventIx := 95
/-- LOCK_MISMATCH. -/
def evLockMismatch : EventIx := 96
/-- LOCK_EXHAUSTED. -/
def evLockExhausted : EventIx := 97
/-- MGMT_OUT_OF_RANGE. -/
def evMgmtOutOfRange : EventIx := 98
/-- ESTOP. -/
def evEstop : EventIx := 99

/-- What an event entry concerns (section 9.1): a berth event of a berth, a module event of a module, or
neither. -/
inductive EventFamily where
  | berth (b : Berth) (k : Fin 14)
  | module (m : Module) (k : Fin 4)
  | single
deriving DecidableEq, Repr

/-- The family of an event index. -/
def eventFamily (e : EventIx) : EventFamily :=
  if h : e.val < 56 then .berth ⟨e.val / 14, by omega⟩ ⟨e.val % 14, by omega⟩
  else if h : e.val < 88 then .module ⟨(e.val - 56) / 4, by omega⟩ ⟨(e.val - 56) % 4, by omega⟩
  else .single

end Sys2Proof.Machine
end

