-- ==== Sys2Proof/Machine/Flags.lean ====
section
/-! DEFINITION. The conditions and computed quantities the manual gives: bands, freshness limits, measured power,
shares, the evaluation of a synchronising channel, currency of a ship record, bands of the day, charges. -/

namespace Sys2Proof.Machine

/-! ### Bands and freshness (sections 2.4 and 2.5) -/

/-- Section 2.5: a voltage outside a band of `n` tenths of a percent about `nominal`. -/
def voltageOutside (v nominal n : Nat) : Bool := ((v : Int) - nominal).natAbs * 1000 > nominal * n

/-- Section 2.5: a frequency outside a band of `band` mHz about `nominal`. -/
def freqOutside (f nominal band : Nat) : Bool := ((f : Int) - nominal).natAbs > band

/-- R25: the HELD and STALE limits of a stream entry, in whole ms rounded up. -/
def entryLimits (e : StreamEntry) : Nat × Nat := (ceilDiv (2 * e.interval) 1000, ceilDiv e.staleLimit 1000)

/-- The index of the valid stream table entry that names a point (R18, R31). -/
def entryOfPoint (t : Vector StreamEntry 24) (p : Point) : Option Nat :=
  t.toList.findIdx? fun e => e.valid && e.point = p.val

/-- R25: the freshness limits of a point, from the stream table. -/
def pointLimits (t : Vector StreamEntry 24) (p : Point) : Option (Nat × Nat) :=
  (t.toList.find? fun e => e.valid && e.point = p.val).map entryLimits

/-- R20: the valid entry that a record of this source and channel matches. -/
def matchEntry (t : Vector StreamEntry 24) (node channel : Nat) : Option StreamEntry :=
  t.toList.find? fun e => e.valid && e.node = node && e.channel = channel

/-- R24: a power scaled by a gain, rounded half away from zero. -/
def calibrate (p : Int) (gain : Nat) : Int := roundHalfAway (p * gain) 65536

/-- What the sequence check of R21 decides. -/
inductive SeqVerdict where
  | accept (missed : Nat)
  | discard
deriving DecidableEq, Repr

/-- R21: the sequence check of a record against the last sequence. -/
def seqCheck (last : Option Nat) (seq : Nat) : SeqVerdict :=
  match last with
  | none => .accept 0
  | some l =>
    let d := (seq + 65536 - l) % 65536
    if d = 0 then .discard else if d < 32768 then .accept (d - 1) else .discard

/-- Section 2.6: the states with codes 4 to 10 are watched. -/
def BerthState.watched : BerthState → Bool
  | .syncing | .deadClose | .rampUp | .shore | .awaitGenerators | .rampDown | .opening => true
  | .unused | .dead | .allocating | .energising | .releasing | .tripped => false

/-- R115: the states in which a trip acts. -/
def BerthState.active : BerthState → Bool
  | .allocating | .energising | .syncing | .deadClose | .rampUp | .shore | .awaitGenerators | .rampDown
  | .opening | .releasing => true
  | .unused | .dead | .tripped => false

/-- R118, R120: the states in which the outlet is closed and must stay closed. -/
def BerthState.carrying : BerthState → Bool
  | .rampUp | .shore | .awaitGenerators | .rampDown => true
  | .unused | .dead | .allocating | .energising | .syncing | .deadClose | .opening | .releasing
  | .tripped => false

/-- R49: the states in which a module that leaves ONLINE is replaced. -/
def BerthState.replaces : BerthState → Bool
  | .energising | .syncing | .deadClose | .rampUp | .shore | .awaitGenerators | .rampDown => true
  | .unused | .dead | .allocating | .opening | .releasing | .tripped => false

/-- The states of a ramp. -/
def BerthState.ramping : BerthState → Bool
  | .rampUp | .rampDown => true
  | _ => false

/-- Section 3.2: the states in which a module is allocated. -/
def ModuleState.allocated : ModuleState → Bool
  | .starting | .syncing | .online | .stopping => true
  | .absent | .standby | .lost | .blocked => false

/-! ### Power (sections 4.7, 4.8, 6.5) -/

/-- R66, R110: a calibrated power in kW, rounded half away from zero. -/
def kilowatts (p : Int) : Int := roundHalfAway p 1000

/-- The modules of berth `b`'s list that are ONLINE, in list order. -/
def onlineModules (s : State) (b : Berth) : List Module :=
  (s.list b).filter fun m => (s.modu m).state = .online

/-- A module's stored available capacity, an absent one counted as 0 (R66). -/
def capacityOf (s : State) (m : Module) : Nat := (s.modu m).capacity.getD 0

/-- R66: the sum of the available capacities of the berth's ONLINE modules. -/
def sumCapacity (s : State) (b : Berth) : Nat := ((onlineModules s b).map (capacityOf s)).sum

/-- R66: whether module `j` comes before module `i` when the undistributed kilowatts are given out: a larger
fractional part first, then the lower module number. -/
def sharesBefore (rem : Module → Nat) (j i : Module) : Bool :=
  rem i < rem j || (rem j = rem i && j.val < i.val)

/-- R66: the share of module `i` of the power `pB` among the modules `ms` with capacities `cap`. -/
def shareOf (cap : Module → Nat) (ms : List Module) (pB : Nat) (i : Module) : Nat :=
  let total := (ms.map cap).sum
  if total = 0 then 0
  else
    let fl := fun m => pB * cap m / total
    let rem := fun m => pB * cap m % total
    let undistributed := pB - (ms.map fl).sum
    let rank := ms.countP fun j => sharesBefore rem j i
    fl i + (if rank < undistributed then 1 else 0)

/-- R53: the berth summary as the module states stand. -/
def summaryOf (s : State) (b : Berth) : Summary where
  listed := (s.list b).length
  online := (onlineModules s b).length
  allOnline := (s.list b).all fun m => (s.modu m).state = .online
  capacity := sumCapacity s b

/-- R104: the ramp target T. -/
def rampTarget (load contract capacity : Nat) : Nat := min load (min contract capacity)

/-- R96: a ship record is current while it is at most 2,000 ms old. -/
def shipCurrent (s : State) (b : Berth) : Bool :=
  match s.bsq.ships[b] with
  | none => false
  | some r => s.now - r.received ≤ Config.shipCurrentMs

/-- R104: the ship load of the ship record, 0 without one. -/
def shipLoad (s : State) (b : Berth) : Nat :=
  match s.bsq.ships[b] with
  | none => 0
  | some r => r.load

/-- R105: a hold is in force while the ship hold or the event hold is. -/
def BerthRec.held (r : BerthRec) : Bool := r.holdEnd.isSome || r.eventHold

/-! ### The evaluation of a channel (R79) -/

/-- R79: the evaluation of the matched point `m` against the reference point `r`, with closing time `tc`. The slip of
stage 2 is computed in every evaluation; a failure of stage 1 or 2 leaves only stages 3 and 4 out. -/
def evaluate (p : Profile) (tc : Nat) (m r : PointRec) : Evaluation :=
  let vOk : Bool := ((m.voltage : Int) - r.voltage).natAbs ≤ p.vWindow
  let slip : Int := (m.freq : Int) - r.freq
  if m.freq < 40000 ∨ 70000 < m.freq ∨ r.freq < 40000 ∨ 70000 < r.freq ∨ slip < p.slipLow ∨ p.slipHigh < slip then
    ⟨none, some slip, none, none, vOk, false, false⟩
  else
    let phi := signed16 ((m.angle : Int) - r.angle)
    let delta := roundHalfAway (slip * tc * 65536) 1000000
    let phiP := wrap16 (phi + delta)
    ⟨some phi, some slip, some delta, some phiP, vOk, true, phiP.natAbs ≤ p.angleWindow⟩

/-- R84: the closing time learned from a measurement. -/
def learn (tc m : Nat) : Nat := clampNat 20 300 ((3 * tc + m + 2) / 4)

/-- R86: the backoff wait after the attempt count has risen to `k`. -/
def backoffMs (p : Profile) (k : Nat) : Nat := p.backoffBase * 2 ^ min (k - 1) p.backoffCap

/-! ### Billing (sections 7.2, 7.5, 8.1, 8.4) -/

/-- R142: the band of a second of day in a schedule: that of the entry with the greatest start not above it. -/
def bandOf (schedule : List (Nat × Nat)) (sec : Nat) : Nat :=
  schedule.foldl (fun band e => if e.1 ≤ sec then e.2 else band) 0

/-- R135, R136: the demand of an accumulator over the full interval D, in W. -/
def demandW (acc d : Nat) : Nat := min (acc * 3600 / d) Config.u32Max

/-- R145: the slots RESERVED or OPEN. -/
def Blg.taken (g : Blg) : Nat := g.slots.toList.countP fun x => x != .free

/-- R145, R146: the sum that never exceeds 32. -/
def Blg.sum (g : Blg) : Nat := g.taken + g.log.length

/-- R151: the energy charge of the four band registers. -/
def energyCharge (bands rates : Vector Nat 4) : Nat :=
  min (roundHalfUp1000 (bands[0] * rates[0] + bands[1] * rates[1] + bands[2] * rates[2] + bands[3] * rates[3]))
    Config.chargeMax

/-- R151: the demand charge. -/
def demandCharge (peak rate : Nat) : Nat := min (roundHalfUp1000 (peak * rate)) Config.chargeMax

/-- R134: the second at which the interval containing `sec` begins. -/
def intervalStartOf (sec d : Nat) : Nat := sec / d * d

/-- R134, R139: the second at which it ends, 0 at midnight. -/
def intervalEndOf (sec d : Nat) : Nat := (sec / d * d + d) % 86400

end Sys2Proof.Machine
end

