-- ==== Sys2Proof/Machine/Operands.lean ====
section
/-! DEFINITION. The frame, record and field layouts of section 1.6 and R15: payloads of the frames the
SC-48 sends, the header and records of the frames it receives, and the field encodings of management
data. -/

namespace Sys2Proof.Machine

/-! ### Codes (section 1.6) -/

/-- The code of a BCMD command. -/
def BreakerCmd.code : BreakerCmd → Nat
  | .close => 1
  | .openCmd => 2
  | .trip => 3

/-- The code of a SETP mode. -/
def SetpMode.code : SetpMode → Nat
  | .start => 1
  | .form => 2
  | .follow => 3
  | .stop => 4

/-- The code of a breaker position. -/
def Position.code : Position → Nat
  | .openPos => 0
  | .closed => 1
  | .moving => 2
  | .fault => 3

/-- The breaker position of a code. -/
def positionOf? : Nat → Option Position
  | 0 => some .openPos
  | 1 => some .closed
  | 2 => some .moving
  | 3 => some .fault
  | _ => none

/-- The code of a module's reported state. -/
def Reported.code : Reported → Nat
  | .off => 0
  | .running => 1
  | .fault => 2

/-- The reported state of a code. -/
def reportedOf? : Nat → Option Reported
  | 0 => some .off
  | 1 => some .running
  | 2 => some .fault
  | _ => none

/-- The code of a berth state. -/
def BerthState.code : BerthState → Nat
  | .unused => 0
  | .dead => 1
  | .allocating => 2
  | .energising => 3
  | .syncing => 4
  | .deadClose => 5
  | .rampUp => 6
  | .shore => 7
  | .awaitGenerators => 8
  | .rampDown => 9
  | .opening => 10
  | .releasing => 11
  | .tripped => 12

/-- The code of a module state (section 3.2). -/
def ModuleState.code : ModuleState → Nat
  | .absent => 0
  | .standby => 1
  | .starting => 2
  | .syncing => 3
  | .online => 4
  | .stopping => 5
  | .lost => 6
  | .blocked => 7

/-- The code of a result. -/
def Result.code : Result → Nat
  | .done => 0
  | .busy => 1
  | .notAuthorised => 2
  | .outOfRange => 3
  | .badValue => 4
  | .inUse => 5
  | .malformed => 6
  | .locked => 7
  | .lockMismatch => 8
  | .lockExhausted => 9
  | .frozen => 10
  | .levelStrict => 11
  | .noPrepare => 12
  | .logEmpty => 13
  | .noSlot => 14
  | .noCapacity => 15
  | .noTariff => 16
  | .pilotOpen => 17
  | .notReady => 18

/-- The number of a freshness state (R31). -/
def Freshness.code : Freshness → Nat
  | .fresh => 0
  | .held => 1
  | .stale => 2

/-- The number of soft-energise progress (R69). -/
def Progress.code : Progress → Nat
  | .waiting => 0
  | .rising => 1
  | .complete => 2

/-- The number of a requester (R93). -/
def Requester.code : Requester → Nat
  | .bsq => 0
  | .mpm => 1

/-- The number of a trip reason: the order in which R115 lists them. -/
def TripReason.code : TripReason → Nat
  | .operator => 0
  | .event => 1
  | .pilot => 2
  | .estop => 3
  | .externalOpen => 4
  | .noSource => 5

/-- The number of an end reason (R147). -/
def EndReason.code : EndReason → Nat
  | .normal => 0
  | .tripOperator => 1
  | .tripEvent => 2
  | .pilot => 3
  | .estop => 4
  | .externalOpen => 5
  | .noSource => 6
  | .supply => 7

/-- R115: the session's end reason at a trip. -/
def TripReason.endReason : TripReason → EndReason
  | .operator => .tripOperator
  | .event => .tripEvent
  | .pilot => .pilot
  | .estop => .estop
  | .externalOpen => .externalOpen
  | .noSource => .noSource

/-- The number of an action (R158). -/
def Action.code : Action → Nat
  | .none => 0
  | .hold => 1
  | .holdAll => 2
  | .shed => 3
  | .tripBerth => 4
  | .tripAll => 5
  | .blockModule => 6

/-- The action of a number. -/
def actionOf? : Nat → Option Action
  | 0 => some .none
  | 1 => some .hold
  | 2 => some .holdAll
  | 3 => some .shed
  | 4 => some .tripBerth
  | 5 => some .tripAll
  | 6 => some .blockModule
  | _ => none

/-- The number of a lock state (R190). -/
def LockState.code : LockState → Nat
  | .unprotected => 0
  | .locked => 1
  | .unlocked => 2

/-- The number of a channel state (R93); IDLE is 0. -/
def Phase.code : Phase → Nat
  | .adjusting => 1
  | .watching => 2
  | .closing => 3
  | .backoff => 4

/-! ### Frame kinds and request kinds (section 1.6) -/

/-- MEAS. -/
abbrev kindMeas : Nat := 1
/-- SETP. -/
abbrev kindSetp : Nat := 2
/-- POLL. -/
abbrev kindPoll : Nat := 3
/-- PRPY. -/
abbrev kindPrpy : Nat := 4
/-- BCMD. -/
abbrev kindBcmd : Nat := 5
/-- BSTA. -/
abbrev kindBsta : Nat := 6
/-- SHPM. -/
abbrev kindShpm : Nat := 7
/-- SHPN. -/
abbrev kindShpn : Nat := 8
/-- MREQ. -/
abbrev kindMreq : Nat := 9
/-- MREP. -/
abbrev kindMrep : Nat := 10
/-- NOTE. -/
abbrev kindNote : Nat := 11

/-! ### Payloads of the frames the SC-48 sends -/

/-- The payload of a BCMD. -/
def Bcmd.payload (c : Bcmd) : List Byte := be 1 c.cmd.code ++ be 1 c.target.val ++ be 2 c.limit

/-- The payload of a SETP. -/
def Setp.payload (f : Setp) : List Byte :=
  be 1 f.module.val ++ be 1 f.mode.code ++ be 2 f.period ++ be 4 f.f ++ be 2 f.v ++ be 2 f.pRef ++
    be 2 f.pLimit ++ be 1 f.berth.val ++ be 1 0

/-- The payload of an SHPN. -/
def Notice.payload : Notice → List Byte
  | .berth b c => be 1 1 ++ be 1 b.val ++ be 1 c
  | .shed b kw => be 1 2 ++ be 1 b.val ++ be 2 kw
  | .limit b kw => be 1 3 ++ be 1 b.val ++ be 2 kw
  | .rampDone b => be 1 4 ++ be 1 b.val

/-- Destination, kind and payload of a CONTROL frame. -/
def ControlFrame.parts : ControlFrame → Nat × Nat × List Byte
  | .setp f => (f.dest, kindSetp, f.payload)
  | .poll dest m n => (dest, kindPoll, be 1 m.val ++ be 1 n)
  | .shpn dest body => (dest, kindShpn, body.payload)

/-- Destination, kind and payload of a REPLY frame. -/
def ReplyFrame.parts : ReplyFrame → Nat × Nat × List Byte
  | .mrep dest tag kind res data => (dest, kindMrep, be 2 tag.toNat ++ [kind] ++ be 1 res.code ++ data)
  | .note dest e c d sec => (dest, kindNote, be 1 e.val ++ be 1 c ++ be 2 d ++ be 4 sec)

/-- A whole frame: header, payload and the CRC of R3 over both. -/
def frameBytes (dest src kind flags seq : Nat) (payload : List Byte) : List Byte :=
  let hp := be 1 dest ++ be 1 src ++ be 1 kind ++ be 1 flags ++ be 2 payload.length ++ be 2 seq ++ payload
  hp ++ be 4 (crc32 hp)

/-! ### Reading received frames -/

/-- The fields of a received frame that passed the reception checks. -/
structure Received where
  dest : Nat
  src : Nat
  kind : Nat
  payload : List Byte
deriving DecidableEq, Repr

/-- The first byte, or 0 when there is none. -/
def byteAt (bs : List Byte) (i : Nat) : Nat := (bs.getD i 0).toNat

/-- The bytes from offset `i`, `k` of them, as a number. -/
def fieldAt (bs : List Byte) (i k : Nat) : Nat := fromBe ((bs.drop i).take k)

/-- R2: the reception checks in their order; none when the frame is dropped. -/
def receive (bytes : List Byte) : Option Received :=
  if bytes.length < 12 then none
  else if fieldAt bytes 4 2 > Config.maxPayload ∨ bytes.length ≠ 12 + fieldAt bytes 4 2 then none
  else if fieldAt bytes (bytes.length - 4) 4 ≠ crc32 (bytes.take (bytes.length - 4)) then none
  else if byteAt bytes 0 = 0 then none
  else if byteAt bytes 1 = 0 ∨ byteAt bytes 1 = 63 then none
  else some ⟨byteAt bytes 0, byteAt bytes 1, byteAt bytes 2, (bytes.drop 8).take (bytes.length - 12)⟩

/-- A record of a MEAS frame (section 1.6). -/
structure MeasRecord where
  channel : Nat
  valid : Bool
  seq : Nat
  timestamp : Nat
  voltage : Nat
  angle : Nat
  freq : Nat
  p : Int
  q : Int
deriving DecidableEq, Repr

/-- The record that starts at the head of `bs`. -/
def measRecord (bs : List Byte) : MeasRecord where
  channel := byteAt bs 0
  valid := byteAt bs 1 % 2 = 1
  seq := fieldAt bs 2 2
  timestamp := fieldAt bs 4 4
  voltage := fieldAt bs 8 2
  angle := fieldAt bs 10 2
  freq := fieldAt bs 12 4
  p := toSigned 4 (fieldAt bs 16 4)
  q := toSigned 4 (fieldAt bs 20 4)

/-- The `n` records of a MEAS payload after its count byte. -/
def measRecords : Nat → List Byte → List MeasRecord
  | 0, _ => []
  | n + 1, bs => measRecord bs :: measRecords n (bs.drop 24)

/-- A ship message (section 1.6). -/
inductive ShipMsg where
  | state (ready deadBus : Bool) (generators load : Nat) (ident : Option ShipId)
  | hold (quanta : Nat)
  | genOff
  | genOn
  | shedAck (kw : Nat)
deriving DecidableEq, Repr

/-- R96: a ship identifier is absent when all its bytes are zero. -/
def shipIdent (v : ShipId) : Option ShipId := if v = 0 then none else some v

/-- R7: an SHPM payload of a known kind and its stated length. DESIGN CHOICE (log 40): the generators byte of a STATE is
taken whole, above 15 as well. -/
def shipMsg? (p : List Byte) : Option ShipMsg :=
  match byteAt p 0, p.length with
  | 1, 13 => some (.state (byteAt p 1 % 2 = 1) (byteAt p 1 / 2 % 2 = 1) (byteAt p 2) (fieldAt p 3 2)
      (shipIdent (BitVec.ofNat 64 (fieldAt p 5 8))))
  | 2, 3 => some (.hold (fieldAt p 1 2))
  | 3, 1 => some .genOff
  | 4, 1 => some .genOn
  | 5, 3 => some (.shedAck (fieldAt p 1 2))
  | _, _ => none

/-- The SHPM payload of a STATE message. -/
def statePayload (flags generators : Byte) (load : BitVec 16) (ident : ShipId) : List Byte :=
  be 1 1 ++ [flags, generators] ++ be 2 load.toNat ++ be 8 ident.toNat

/-! ### Field encodings of management data (R15) -/

/-- A flag. -/
def encFlag (b : Bool) : List Byte := be 1 (if b then 1 else 0)

/-- An optional number of `k` bytes: presence byte, then the field, all zero when absent. -/
def encOpt (k : Nat) : Option Nat → List Byte
  | none => be 1 0 ++ be k 0
  | some n => be 1 1 ++ be k n

/-- An optional signed number of `k` bytes. -/
def encOptInt (k : Nat) : Option Int → List Byte
  | none => be 1 0 ++ be k 0
  | some n => be 1 1 ++ beInt k n

/-- An optional clock: day and second of day. -/
def encOptClock : Option (Nat × Nat) → List Byte
  | none => be 1 0 ++ be 2 0 ++ be 4 0
  | some (d, sec) => be 1 1 ++ be 2 d ++ be 4 sec

/-- A ship identifier: 8 bytes, all zero when absent. -/
def encIdent : Option ShipId → List Byte
  | none => be 8 0
  | some v => be 8 v.toNat

/-- A list of varying length: a count byte, then the items. -/
def encList {α : Type} (f : α → List Byte) (xs : List α) : List Byte :=
  be 1 xs.length ++ (xs.map f).flatten

/-! ### The forms of table entries (R15, R173) -/

/-- An item of an entry's form: a number of so many bytes, an optional field of so many bytes behind a presence
byte, or the schedule of a tariff set (a count byte, then a start second and a band for each). -/
inductive FormItem where
  | num (k : Nat)
  | opt (k : Nat)
  | schedule
deriving DecidableEq, Repr

/-- `k` bytes off the front, as a number. -/
def takeNum (k : Nat) (bs : List Byte) : Option (Nat × List Byte) :=
  if bs.length < k then none else some (fromBe (bs.take k), bs.drop k)

/-- `n` schedule entries off the front, flat: start, band, start, band, … -/
def takeSchedule : Nat → List Byte → Option (List Nat × List Byte)
  | 0, bs => some ([], bs)
  | n + 1, bs =>
    match takeNum 4 bs with
    | none => none
    | some (start, bs1) =>
      match takeNum 1 bs1 with
      | none => none
      | some (band, bs2) =>
        match takeSchedule n bs2 with
        | none => none
        | some (rest, bs3) => some (start :: band :: rest, bs3)

/-- One item off the front: the numbers it carries (an optional field gives presence and value, a schedule its
count and its entries). -/
def takeItem : FormItem → List Byte → Option (List Nat × List Byte)
  | .num k, bs => (takeNum k bs).map fun (n, r) => ([n], r)
  | .opt k, bs =>
    match takeNum 1 bs with
    | none => none
    | some (p, bs1) => if p > 1 then none else (takeNum k bs1).map fun (n, r) => ([p, n], r)
  | .schedule, bs =>
    match takeNum 1 bs with
    | none => none
    | some (n, bs1) => (takeSchedule n bs1).map fun (xs, r) => (n :: xs, r)

/-- One entry off the front, by the table's form. -/
def takeEntry : List FormItem → List Byte → Option (List Nat × List Byte)
  | [], bs => some ([], bs)
  | i :: is, bs =>
    match takeItem i bs with
    | none => none
    | some (xs, bs1) => (takeEntry is bs1).map fun (ys, r) => (xs ++ ys, r)

/-- R173: `n` entries, one after another, with no byte left over. -/
def takeEntries (form : List FormItem) : Nat → List Byte → Option (List (List Nat))
  | 0, bs => if bs.isEmpty then some [] else none
  | n + 1, bs =>
    match takeEntry form bs with
    | none => none
    | some (e, bs1) => (takeEntries form n bs1).map (e :: ·)

/-- The tables of section 1.6. -/
inductive Table where
  | streams | gains | grid | modules | reference | breakers | profiles | berths | metering | tariffs
  | current | events
deriving DecidableEq, Repr

/-- The table of a table code. -/
def tableOf? : Nat → Option Table
  | 1 => some .streams
  | 2 => some .gains
  | 3 => some .grid
  | 4 => some .modules
  | 5 => some .reference
  | 6 => some .breakers
  | 7 => some .profiles
  | 8 => some .berths
  | 9 => some .metering
  | 10 => some .tariffs
  | 11 => some .current
  | 12 => some .events
  | _ => none

/-- The number of entries of a table. -/
def Table.size : Table → Nat
  | .streams => 24
  | .gains => 17
  | .grid => 1
  | .modules => 8
  | .reference => 1
  | .breakers => 12
  | .profiles => 2
  | .berths => 4
  | .metering => 1
  | .tariffs => 4
  | .current => 1
  | .events => 100

/-- The form of a table's entries: each field in the fewest of 1, 2, 4 or 8 bytes that hold its range (R15). -/
def Table.form : Table → List FormItem
  | .streams => [.num 1, .num 1, .num 1, .num 1, .num 2, .num 4]
  | .gains => [.num 4]
  | .grid => [.num 2, .num 2, .num 1, .num 2]
  | .modules => [.num 1, .num 2, .num 1, .num 1, .num 1, .num 1]
  | .reference => [.num 1, .num 1, .num 1, .num 1, .num 2]
  | .breakers => [.num 1, .num 2, .num 2, .num 1, .opt 2, .opt 1]
  | .profiles => [.num 2, .num 2, .num 2, .num 2, .num 2, .num 1, .num 1, .num 1, .num 2, .num 1, .num 2, .num 1]
  | .berths => [.num 1, .num 2, .num 2, .num 2, .num 1, .num 2, .num 2, .num 2, .num 2, .num 2, .num 1,
      .num 1, .num 2, .num 1]
  | .metering => [.num 4, .num 1]
  | .tariffs => [.num 1, .schedule, .num 4, .num 4, .num 4, .num 4, .num 4, .num 1]
  | .current => [.num 1]
  | .events => [.num 1, .num 1, .num 1, .num 1, .num 1, .num 1, .num 1, .opt 6]

end Sys2Proof.Machine
end

