-- ==== Sys2Proof/Machine/Lpu.lean ====
section
/-! DEFINITION. The Link Port Unit (chapter 1): egress, the three insertion queues with the command list,
the forward buffer, and what the other blocks give it to send. -/

namespace Sys2Proof.Machine

/-! ### Egress (R9, R14) -/

/-- R9: an originated frame begins on LINK_OUT with the transmit sequence counter's value, and the counter
rises by 1 modulo 65536. -/
def sendOwn (dest kind flags : Nat) (payload : List Byte) (s : State) : State :=
  s.modLpu fun l =>
    { l with
      sending := some (frameBytes dest (strapNode l.nid |>.getD 0) kind flags l.seq payload)
      seq := (l.seq + 1) % 65536
      counters := { l.counters with sent := count1 l.counters.sent } }

/-- R36: the LPU tells MPM the instant egress begins to send a POLL, and the reply timer of that open poll
starts. -/
def onPollSent (m : Module) (number : Nat) (s : State) : State :=
  s.modMpm fun c =>
    { c with
      poll := c.poll.map fun p =>
        if p.module = m ∧ p.number = number then { p with replyDue := some (s.now + Config.pollReplyMs) } else p }

/-- R65: the LPU tells RFG that egress begins a SETP, and RFG copies its references and mode. -/
def onSetpSent (f : Setp) (s : State) : State :=
  s.modModuleRef f.module fun r =>
    { r with
      lastSent := some (f.f, f.v, f.mode)
      startSent := if f.mode = .start then true else r.startSent }

/-- What a block is told when egress begins one of its CONTROL frames. -/
def onControlSent : ControlFrame → State → State
  | .setp f, s => onSetpSent f s
  | .poll _ m n, s => onPollSent m n s
  | .shpn _ _, s => s

/-- R12, R14: the oldest promoted place of a CONTROL queue, with the queue without it. -/
def takePromoted : List ControlPlace → Option (ControlPlace × List ControlPlace)
  | [] => none
  | p :: ps =>
    if p.promoted then some (p, ps)
    else (takePromoted ps).map fun (q, qs) => (q, p :: qs)

/-- Egress begins the oldest frame of PROTECT, and the oldest command of the command list moves to its tail
(R10). -/
def sendProtect (c : Bcmd) (rest : List Bcmd) (s : State) : State :=
  sendOwn c.dest kindBcmd 0 c.payload
    (s.modLpu fun l => { l with protect := rest ++ l.commandList.take 1, commandList := l.commandList.drop 1 })

/-- Egress begins the CONTROL frame of `p`, with PROMOTED set when it is promoted (R12). -/
def sendControl (p : ControlPlace) (rest : List ControlPlace) (s : State) : State :=
  onControlSent p.frame
    (sendOwn p.frame.parts.1 p.frame.parts.2.1 (if p.promoted then 1 else 0) p.frame.parts.2.2
      (s.modLpu fun l => { l with control := rest }))

/-- Egress begins the oldest frame of the forward buffer as it arrived (R8). -/
def sendForward (f : List Byte) (rest : List (List Byte)) (s : State) : State :=
  s.modLpu fun l =>
    { l with forward := rest, sending := some f, counters := { l.counters with sent := count1 l.counters.sent } }

/-- Egress begins the oldest frame of the REPLY queue, with REFUSAL set from the refusal place (R9, R13). -/
def sendReply (p : ReplyPlace) (rest : List ReplyPlace) (s : State) : State :=
  sendOwn p.frame.parts.1 p.frame.parts.2.1 (if p.refusal then 2 else 0) p.frame.parts.2.2
    (s.modLpu fun l => { l with reply := rest })

/-- R14: egress, free, begins the first frame it finds: PROTECT, promoted CONTROL, forward buffer, CONTROL,
REPLY. -/
def beginNext (s : State) : State :=
  match s.lpu.protect with
  | c :: rest => sendProtect c rest s
  | [] =>
    match takePromoted s.lpu.control with
    | some (p, rest) => sendControl p rest s
    | none =>
      match s.lpu.forward with
      | f :: rest => sendForward f rest s
      | [] =>
        match s.lpu.control with
        | p :: rest => sendControl p rest s
        | [] =>
          match s.lpu.reply with
          | p :: rest => sendReply p rest s
          | [] => s

/-- R14: a frame that enters a queue while egress is free is begun at once. -/
def kick (s : State) : State := if s.lpu.sending.isNone then beginNext s else s

/-- R14: egress becomes free and begins the first frame it finds. -/
def egressFreed (s : State) : State := beginNext (s.modLpu fun l => { l with sending := none })

/-! ### PROTECT and the command list (R10) -/

/-- The commands with the one for `c`'s breaker replaced by `c` in its place. -/
def replaceCmd (c : Bcmd) (xs : List Bcmd) : List Bcmd := xs.map fun x => if x.target = c.target then c else x

/-- Whether a command for the breaker stands in the list. -/
def hasCmd (t : Target) (xs : List Bcmd) : Bool := xs.any fun x => x.target = t

/-- R10: the LPU's queues once it has accepted the command. -/
def Lpu.acceptCmd (c : Bcmd) (l : Lpu) : Lpu :=
  if hasCmd c.target l.protect then { l with protect := replaceCmd c l.protect }
  else if hasCmd c.target l.commandList then { l with commandList := replaceCmd c l.commandList }
  else if l.protect.length < Config.protectPlaces then { l with protect := l.protect ++ [c] }
  else { l with commandList := l.commandList ++ [c] }

/-- R10, R1: a block gives the LPU a BCMD. Without an own node number it is not taken. In either case the command
time the block uses is the present instant (R47, R83, R88, R111). -/
def giveBcmd (c : Bcmd) (s : State) : State :=
  if s.own.isNone then s else kick (s.modLpu (Lpu.acceptCmd c))

/-- The operate limit of a command (section 1.6): t_c plus the confirm margin for CLOSE, the confirm margin plus
100 ms for OPEN and TRIP. -/
def operateLimit (cmd : BreakerCmd) (e : BreakerEntry) : Nat :=
  match cmd with
  | .close => e.tc + e.margin
  | .openCmd => e.margin + 100
  | .trip => e.margin + 100

/-- A BCMD for breaker `t`, with the breaker table as it stands. -/
def command (cmd : BreakerCmd) (t : Target) (s : State) : State :=
  giveBcmd ⟨(s.breaker t).node, cmd, t, operateLimit cmd (s.breaker t)⟩ s

/-! ### CONTROL (R11) -/

/-- Whether a place holds an SHPN. -/
def ControlPlace.isShpn (p : ControlPlace) : Bool :=
  match p.frame with
  | .shpn _ _ => true
  | _ => false

/-- Whether a place holds a POLL. -/
def ControlPlace.isPoll (p : ControlPlace) : Bool :=
  match p.frame with
  | .poll _ _ _ => true
  | _ => false

/-- Whether a place holds a SETP for module `m`. -/
def ControlPlace.isSetpFor (m : Module) (p : ControlPlace) : Bool :=
  match p.frame with
  | .setp f => f.module = m
  | _ => false

/-- R11: one more SHPN lost. -/
def shpnLost (s : State) : State := s.count fun c => { c with shpnLost := count1 c.shpnLost }

/-- R11, R36: one more POLL skipped, reported to MPM. -/
def pollSkipped (m : Module) (n : Nat) (s : State) : State :=
  (s.count fun c => { c with pollSkipped := count1 c.pollSkipped }).post (.pollSkipped m n)

/-- A CONTROL frame takes a new place at the tail. -/
def enterControl (f : ControlFrame) (s : State) : State :=
  s.modLpu fun l => { l with control := l.control ++ [⟨f, s.now, false⟩] }

/-- R11: the oldest queued SHPN is displaced. -/
def displaceShpn (s : State) : State :=
  shpnLost (s.modLpu fun l => { l with control := l.control.eraseP ControlPlace.isShpn })

/-- R11: the oldest queued POLL is displaced and MPM is told. -/
def displacePoll (s : State) : State :=
  match s.lpu.control.find? ControlPlace.isPoll with
  | some ⟨.poll _ m n, _, _⟩ =>
    pollSkipped m n (s.modLpu fun l => { l with control := l.control.eraseP ControlPlace.isPoll })
  | _ => s

/-- R11: a POLL or SHPN that finds the 24 places taken displaces the oldest queued SHPN, if there is one. -/
def Lpu.controlFull (l : Lpu) : Bool := Config.controlPlaces ≤ l.control.length

/-- R1, R11: MPM gives the LPU a POLL. -/
def givePoll (dest : Nat) (m : Module) (n : Nat) (s : State) : State :=
  if s.own.isNone then pollSkipped m n s
  else if !s.lpu.controlFull then kick (enterControl (.poll dest m n) s)
  else if s.lpu.control.any ControlPlace.isShpn then kick (enterControl (.poll dest m n) (displaceShpn s))
  else pollSkipped m n s

/-- R1, R11: BSQ or RFG gives the LPU an SHPN. -/
def giveShpn (dest : Nat) (body : Notice) (s : State) : State :=
  if s.own.isNone then shpnLost s
  else if !s.lpu.controlFull then kick (enterControl (.shpn dest body) s)
  else if s.lpu.control.any ControlPlace.isShpn then kick (enterControl (.shpn dest body) (displaceShpn s))
  else shpnLost s

/-- R1, R11: RFG gives the LPU a SETP: it replaces a queued SETP of its module in its place, keeping the place's
entry time and promotion (R12), or takes a new place, displacing when the places are taken. -/
def giveSetp (f : Setp) (s : State) : State :=
  if s.own.isNone then s
  else if s.lpu.control.any (ControlPlace.isSetpFor f.module) then
    s.modLpu fun l =>
      { l with control := l.control.map fun p => if p.isSetpFor f.module then { p with frame := .setp f } else p }
  else if !s.lpu.controlFull then kick (enterControl (.setp f) s)
  else if s.lpu.control.any ControlPlace.isShpn then kick (enterControl (.setp f) (displaceShpn s))
  else if s.lpu.control.any ControlPlace.isPoll then kick (enterControl (.setp f) (displacePoll s))
  else s

/-! ### REPLY (R13) -/

/-- The ordinary places holding frames. -/
def Lpu.ordinary (l : Lpu) : Nat := l.reply.countP fun p => !p.refusal

/-- Whether the refusal place holds a frame. -/
def Lpu.refusalTaken (l : Lpu) : Bool := l.reply.any fun p => p.refusal

/-- R13: the MGU may reserve, and a NOTE finds an ordinary place, while frames and reservations in ordinary places
number fewer than 15. -/
def Lpu.placeFree (l : Lpu) : Bool := l.ordinary + l.reservations < Config.replyPlaces

/-- R13: an ordinary place is reserved. -/
def reservePlace (s : State) : State := s.modLpu fun l => { l with reservations := l.reservations + 1 }

/-- A frame enters the REPLY queue at the tail. -/
def enterReply (f : ReplyFrame) (refusal : Bool) (s : State) : State :=
  kick (s.modLpu fun l => { l with reply := l.reply ++ [⟨f, refusal⟩] })

/-- R13: an MREP enters at the tail and its reservation becomes its place. -/
def enterReserved (f : ReplyFrame) (s : State) : State :=
  enterReply f false (s.modLpu fun l => { l with reservations := l.reservations - 1 })

/-- R1, R13: the Event Router gives a NOTE; without a free ordinary place it is lost and counted. -/
def giveNote (f : ReplyFrame) (s : State) : State :=
  if s.own.isNone || !s.lpu.placeFree then s.count fun c => { c with noteLost := count1 c.noteLost }
  else enterReply f false s

/-! ### Reception, forwarding and promotion (R4, R5, R8, R12) -/

/-- R4: the LPU cuts a frame. -/
def cutOverlong (s : State) : State :=
  (s.count fun c => { c with overlong := count1 c.overlong }).post (.raise evLinkOverlong)

/-- R2, R5: a good frame restarts the ingress loss timer and clears the loss indicator. -/
def goodFrame (s : State) : State :=
  s.modLpu fun l =>
    { l with
      lossDue := s.now + Config.ingressLossMs
      lossIndicator := false
      counters := { l.counters with good := count1 l.counters.good } }

/-- R8: a frame to be forwarded enters the forward buffer, or is dropped when it is full. -/
def forwardFrame (bytes : List Byte) (s : State) : State :=
  if s.lpu.forward.length < Config.forwardPlaces then
    kick (s.modLpu fun l => { l with forward := l.forward ++ [bytes] })
  else (s.count fun c => { c with forwardDrops := count1 c.forwardDrops }).post (.raise evLinkForwardDrop)

/-- R5: the ingress loss timer reaches 20 ms. -/
def ingressLoss (s : State) : State :=
  let s := s.advanceTo s.lpu.lossDue
  (s.modLpu fun l => { l with lossIndicator := true, lossDue := s.now + Config.ingressLossMs }).post
    (.raise evLinkRxLoss)

/-- R12: the places with the oldest one not yet promoted promoted. -/
def promoteFirst : List ControlPlace → List ControlPlace
  | [] => []
  | p :: ps => if p.promoted then p :: promoteFirst ps else { p with promoted := true } :: ps

/-- R12: the wait of the oldest CONTROL frame not yet promoted reaches the defer limit. -/
def promote (s : State) : State :=
  match s.lpu.control.find? (fun p => !p.promoted) with
  | none => s
  | some p =>
    let s := s.advanceTo (p.entry + Config.deferMs)
    ((s.modLpu fun l => { l with control := promoteFirst l.control }).count
      fun c => { c with promoted := count1 c.promoted }).post (.raise evLinkInsertDefer)

end Sys2Proof.Machine
end

