-- ==== Sys2Proof/Machine/Scl.lean ====
section
/-! DEFINITION. The Stream Classifier's freshness states and staleness conditions (sections 2.4 and 2.6). The
records of a MEAS frame are in Measure.lean, where their readers are. -/

namespace Sys2Proof.Machine

/-! ### Staleness conditions (R29) -/

/-- The event a staleness condition raises. -/
def staleEvent (b : Berth) : Side → EventIx
  | .ship => evShipBusStale b
  | .converter => evCbStale b

/-- The point a staleness condition watches. -/
def sidePoint (b : Berth) : Side → Point
  | .ship => shPoint b
  | .converter => cbPoint b

/-- The repeat timer of a staleness condition, present while the condition holds. -/
def staleCond (s : State) (b : Berth) : Side → Option Nat
  | .ship => s.scl.shipStale[b]
  | .converter => s.scl.convStale[b]

/-- The state with a staleness condition's repeat timer set or stopped. -/
def setStaleCond (b : Berth) (side : Side) (v : Option Nat) (s : State) : State :=
  match side with
  | .ship => s.modScl fun c => { c with shipStale := upd c.shipStale b fun _ => v }
  | .converter => s.modScl fun c => { c with convStale := upd c.convStale b fun _ => v }

/-- R29: a staleness condition begins: its event is raised and its repeat timer of 100 ms starts. -/
def beginStale (b : Berth) (side : Side) (s : State) : State :=
  (setStaleCond b side (some (s.now + Config.staleRepeatMs)) s).post (.raise (staleEvent b side))

/-- R29: the condition of a berth that enters the watched states begins while its point is STALE. -/
def watchBegin (b : Berth) (side : Side) (s : State) : State :=
  if (s.point (sidePoint b side)).state = .stale then beginStale b side s else s

/-- R29: both conditions of a berth that enters the watched states, the ship bus first. -/
def watchBegins (b : Berth) (s : State) : State := watchBegin b .converter (watchBegin b .ship s)

/-- R29: the conditions of a berth that leaves the watched states end. -/
def watchEnds (b : Berth) (s : State) : State := setStaleCond b .ship none (setStaleCond b .converter none s)

/-- R29: a repeat timer expires while its condition holds. -/
def staleRepeat (b : Berth) (side : Side) (s : State) : State :=
  match staleCond s b side with
  | none => s
  | some due => beginStale b side (s.advanceTo due)

/-! ### Freshness (R25, R26) -/

/-- R78: a channel in ADJUSTING or WATCHING one of whose points enters STALE enters ADJUSTING with its settle run
0. -/
def ChanWork.sawStale (p : Point) (w : ChanWork) : ChanWork :=
  if (w.req.refPoint = p ∨ w.req.matchPoint = p) ∧ (w.phase = .adjusting ∨ w.phase = .watching) then
    { w with phase := .adjusting, settle := 0 }
  else w

/-- R78: both channels see a point enter STALE. -/
def channelsSeeStale (p : Point) (s : State) : State :=
  s.modSyu fun y => { y with chans := y.chans.map (Option.map (ChanWork.sawStale p)) }

/-- R26: the staleness condition of a point's berth begins when the point enters STALE in a watched state. -/
def staleTest (p : Point) (s : State) : State :=
  match pointSide p with
  | none => s
  | some (b, side) => if (s.berth b).state.watched then beginStale b side s else s

/-- R26: a point enters STALE from FRESH or HELD. -/
def enterStale (p : Point) (s : State) : State :=
  staleTest p (channelsSeeStale p
    (s.modPoint p fun r => { r with state := .stale, lastSeq := none }))

/-- R25: a FRESH point's age exceeds its HELD limit; with equal limits it passes directly to STALE instead. -/
def heldExpiry (p : Point) (s : State) : State :=
  match (s.point p).state, (s.point p).limits with
  | .fresh, some (h, l) =>
    if h < l then (s.advanceTo ((s.point p).arrival + h + 1)).modPoint p fun r => { r with state := .held } else s
  | _, _ => s

/-- R25, R26: a FRESH or HELD point's age exceeds its STALE limit. -/
def staleExpiry (p : Point) (s : State) : State :=
  match (s.point p).limits with
  | some (_, l) =>
    if (s.point p).state = .stale then s else enterStale p (s.advanceTo ((s.point p).arrival + l + 1))
  | none => s

/-- R19: the whole point store after a stream table write: every point STALE with its limits computed afresh. -/
def resetPoints (s : State) : State :=
  s.modScl fun c => { c with points := Vector.ofFn fun p => PointRec.cold (pointLimits c.streams p) }

/-- R19: a stream table write resets the point store; every point is at once STALE, the channels see it, and the
staleness conditions are tested. DESIGN CHOICE (log 34): the points are gone through in code order, so every CB_STALE is
raised before any SHIP_BUS_STALE. -/
def pointStoreReset (s : State) : State :=
  allPoints.foldl (fun s p => staleTest p (channelsSeeStale p s)) (resetPoints s)

/-- R29, R23: a point that leaves STALE at a valid record ends its condition. -/
def staleEnds (p : Point) (s : State) : State :=
  match pointSide p with
  | none => s
  | some (b, side) => setStaleCond b side none s

/-- R27: both out-of-band flags of SHb are cleared as the berth leaves SHORE. -/
def clearBands (b : Berth) (s : State) : State :=
  s.modPoint (shPoint b) fun r => { r with vOut := false, fOut := false }

end Sys2Proof.Machine
end

