-- ==== Sys2Proof/Machine/Billing.lean ====
section
/-! DEFINITION. The Revenue Meter and the Billing Unit (chapters 7 and 8): reservations, sessions, charges, the log,
where carried watt-hours go, integration of a record, the terminal clock and the demand intervals. -/

namespace Sys2Proof.Machine

/-! ### LOG_FULL, reservations (R145, R146) -/

/-- R146: the LOG_FULL condition is evaluated. -/
def evalLogFull (s : State) : State :=
  if s.blg.sum = Config.billingPlaces then
    (s.modBlg fun g => { g with logFull := true }).post (.raise evLogFull)
  else s.modBlg fun g => { g with logFull := false }

/-- R145: the slot check of a connection passes. -/
def Blg.slotCheck (g : Blg) : Bool :=
  g.sum < Config.billingPlaces && g.taken < Config.u32Max + 1 - g.counter

/-- R145: BLG reserves at an accepted connection: FREE becomes RESERVED. -/
def reserveSlot (b : Berth) (s : State) : State :=
  match s.slot b with
  | .free => evalLogFull (s.modSlot b fun _ => .reserved)
  | _ => s

/-- R145: BSQ frees the berth's reservation; a slot OPEN or FREE is not changed. -/
def freeSlot (b : Berth) (s : State) : State :=
  match s.slot b with
  | .reserved => evalLogFull (s.modSlot b fun _ => .free)
  | _ => s

/-- Whether a session is open on the berth. -/
def State.sessionOpen (s : State) (b : Berth) : Bool :=
  match s.slot b with
  | .openSlot _ => true
  | _ => false

/-- The state with the open session record of `b`, if there is one, changed. -/
def modSession (b : Berth) (g : Session → Session) (s : State) : State :=
  s.modSlot b fun x =>
    match x with
    | .openSlot r => .openSlot (g r)
    | y => y

/-! ### Sessions (R147 to R152) -/

/-- The ship identifier of the berth's ship record, absent without one. -/
def shipIdentOf (s : State) (b : Berth) : Option ShipId := (s.bsq.ships[b]).bind fun r => r.ident

/-- R148: a new session record. -/
def newSession (b : Berth) (ident : Option ShipId) (set : Fin 4) (clock : Nat × Nat) : Session where
  number := none
  berth := b
  ident := ident
  set := set
  startClock := clock
  endClock := none
  reason := none
  bands := Vector.replicate 4 0
  importWh := 0
  returnedWh := 0
  peak := 0
  unmeteredMs := 0
  energyCharge := none
  demandCharge := none
  totalCharge := none

/-- The terminal clock as it stands. -/
def State.clock (s : State) : Nat × Nat := (s.mtr.day, s.mtr.second)

/-- R144, R148: a session binds to the set. -/
def bindSet (set : Fin 4) (s : State) : State :=
  s.modBlg fun g => { g with sets := upd g.sets set fun t => { t with bound := t.bound + 1 } }

/-- R144, R150 step 6: a session bound to the set has closed. -/
def unbindSet (set : Fin 4) (s : State) : State :=
  s.modBlg fun g => { g with sets := upd g.sets set fun t => { t with bound := t.bound - 1 } }

/-- R148, R136: BSQ asks BLG to open the berth's session. -/
def openSession (b : Berth) (s : State) : State :=
  match s.slot b, s.blg.current with
  | .reserved, some set =>
    (bindSet set (s.modSlot b fun _ => .openSlot (newSession b (shipIdentOf s b) set s.clock))).modMeter b
      fun m => { m with demandAcc := 0 }
  | _, _ => s

/-- R136: the closing demand of the berth. -/
def closingDemand (s : State) (b : Berth) : Nat := demandW s.mtr.recs[b].demandAcc s.mtr.demandS

/-- R150, R151: the closed record of session `r`. -/
def closedRecord (s : State) (b : Berth) (reason : EndReason) (r : Session) : Session :=
  let peak := max r.peak (closingDemand s b)
  let set := s.blg.sets[r.set]
  let e := energyCharge r.bands set.rates
  let d := demandCharge peak set.demandRate
  { r with
    number := some s.blg.counter
    endClock := some s.clock
    reason := some reason
    peak := peak
    energyCharge := some e
    demandCharge := some d
    totalCharge := some (min (e + d) Config.chargeMax) }

/-- R150, R152: BLG closes the berth's session, if one is open. -/
def closeSession (b : Berth) (reason : EndReason) (s : State) : State :=
  match s.slot b with
  | .openSlot r =>
    evalLogFull
      (unbindSet r.set
        (((s.modMeter b fun m => { m with demandAcc := 0 }).modBlg fun g =>
          { g with log := g.log ++ [closedRecord s b reason r], counter := g.counter + 1 }).modSlot b fun _ => .free))
  | _ => s

/-- R144: the bound count of a set. -/
def Blg.bound (g : Blg) (set : Fin 4) : Nat := g.sets[set].bound

/-! ### Where the watt-hours go (R129 to R131) -/

/-- R131: a 64-bit register after an addition, saturating. -/
def sat64 (n k : Nat) : Nat := satAdd Config.u64Max n k

/-- R149: import Wh added to the band and to the import total. -/
def Session.addImport (band wh : Nat) (r : Session) : Session :=
  { r with
    bands := Vector.ofFn fun i : Fin 4 => if i.val = band then r.bands[i] + wh else r.bands[i]
    importWh := r.importWh + wh }

/-- The band the open session's bound set gives for the present second of day (R129, R142). -/
def presentBand (s : State) (r : Session) : Nat := bandOf s.blg.sets[r.set].schedule s.mtr.second

/-- R129: an import carry of the berth. -/
def carryImport (b : Berth) (wh : Nat) (s : State) : State :=
  if wh = 0 then s
  else
    match s.slot b with
    | .openSlot r =>
      (modSession b (Session.addImport (presentBand s r) wh) s).modMeter b fun m =>
        { m with demandAcc := m.demandAcc + wh }
    | _ => s.modUnbilled b fun u => { u with importWh := sat64 u.importWh wh }

/-- R129: a returned carry of the berth. -/
def carryReturned (b : Berth) (wh : Nat) (s : State) : State :=
  if s.sessionOpen b then modSession b (fun r => { r with returnedWh := r.returnedWh + wh }) s
  else s.modUnbilled b fun u => { u with returnedWh := sat64 u.returnedWh wh }

/-- R130: whole ms of unmetered time of the berth. -/
def carryUnmetered (b : Berth) (ms : Nat) (s : State) : State :=
  if s.sessionOpen b then
    modSession b (fun r => { r with unmeteredMs := satAdd Config.u32Max r.unmeteredMs ms }) s
  else s.modUnbilled b fun u => { u with unmeteredMs := sat64 u.unmeteredMs ms }

/-- R130: unmetered time of `us` µs for the berth. -/
def addUnmetered (b : Berth) (us : Nat) (s : State) : State :=
  let total := s.mtr.recs[b].unmeteredRem + us
  carryUnmetered b (total / 1000) (s.modMeter b fun m => { m with unmeteredRem := total % 1000 })

/-! ### Integration (R126 to R128) -/

/-- A record of SHb as SCL hands it to MTR (R30). -/
structure RevenueRecord where
  pCal : Int
  timestamp : Nat
  nominal : Nat
  wasStale : Bool
deriving DecidableEq, Repr

/-- The five cases of R126. -/
inductive MeterCase where
  | start
  | restart
  | backward
  | gap (dt : Nat)
  | normal (dt : Nat)
deriving DecidableEq, Repr

/-- R126: Δt in µs, modulo 2^32. -/
def deltaT (timestamp baseline : Nat) : Nat := (timestamp + 4294967296 - baseline) % 4294967296

/-- R126: the case of a record. -/
def meterCase (baseline : Option Nat) (gapLimit : Nat) (r : RevenueRecord) : MeterCase :=
  match baseline with
  | none => .start
  | some base =>
    if r.wasStale then .restart
    else if 2147483648 ≤ deltaT r.timestamp base then .backward
    else if gapLimit < deltaT r.timestamp base ∧ r.nominal < deltaT r.timestamp base then
      .gap (deltaT r.timestamp base)
    else .normal (deltaT r.timestamp base)

/-- R125: a saturating 16-bit count. -/
def count16 (n : Nat) : Nat := satAdd 65535 n 1

/-- R128: an increment of W·µs enters the residues and the whole watt-hours are carried. -/
def integrate (b : Berth) (inc : Int) (s : State) : State :=
  let imp := s.mtr.recs[b].importResidue + inc.toNat
  let ret := s.mtr.recs[b].returnedResidue + (-inc).toNat
  carryReturned b (ret / Config.wattHour) (carryImport b (imp / Config.wattHour)
    (s.modMeter b fun m =>
      { m with importResidue := imp % Config.wattHour, returnedResidue := ret % Config.wattHour }))

/-- The work of each case of R126. -/
def meterWork (b : Berth) (r : RevenueRecord) (c : MeterCase) (s : State) : State :=
  match c with
  | .start => s
  | .restart =>
    let s1 :=
      match s.mtr.recs[b].lastArrival with
      | none => s
      | some a => addUnmetered b ((s.now - a) * 1000) s
    s1.modMeter b fun m => { m with restartCount := count16 m.restartCount }
  | .backward => s.modMeter b fun m => { m with backwardCount := count16 m.backwardCount }
  | .gap dt =>
    (addUnmetered b (dt - r.nominal) (integrate b (r.pCal * r.nominal)
      (s.modMeter b fun m => { m with gapCount := count16 m.gapCount }))).post (.raise (evMeterGap b))
  | .normal dt => integrate b (r.pCal * dt) s

/-- R126: MTR takes a record of SHb. -/
def meterRecord (b : Berth) (r : RevenueRecord) (s : State) : State :=
  (meterWork b r (meterCase s.mtr.recs[b].baseline s.mtr.gapLimit r) s).modMeter b fun m =>
    { m with baseline := some r.timestamp, lastArrival := some s.now }

/-! ### The terminal clock and the demand intervals (R132 to R135) -/

/-- R135: the demand of the berth's interval is handed to its open session. -/
def intervalEndBerth (b : Berth) (s : State) : State :=
  if s.sessionOpen b then
    (modSession b (fun r => { r with peak := max r.peak (closingDemand s b) }) s).modMeter b
      fun m => { m with demandAcc := 0 }
  else s

/-- R134: the running interval is set from the clock. -/
def setInterval (s : State) : State :=
  s.modMtr fun m =>
    { m with
      intervalStart := intervalStartOf m.second m.demandS
      intervalEnd := intervalEndOf m.second m.demandS
      endDue := false }

/-- R135: an interval end at every berth. -/
def handDemand (s : State) : State := allBerths.foldl (fun s b => intervalEndBerth b s) s

/-- R135: an interval end that a tick has made due is taken, and the next interval runs. -/
def intervalEndTaken (s : State) : State := if s.mtr.endDue then setInterval (handDemand s) else s

/-- R132: the clock after `n` ticks. -/
def Mtr.advanceClock (n : Nat) (m : Mtr) : Mtr :=
  { m with
    day := (m.day + (m.second + n) / 86400) % 65536
    second := (m.second + n) % 86400 }

/-- R132, R135: a tick of the terminal clock. An interval end still waiting is taken first. -/
def tick (s : State) : State :=
  let s := intervalEndTaken (s.advanceTo s.mtr.tickDue)
  s.modMtr fun m =>
    let c := m.advanceClock 1
    { c with tickDue := m.tickDue + Config.clockTickMs, endDue := c.second % m.demandS = 0 }

/-- R133: CLOCK_SET as MTR takes it. -/
def clockSetTaken (day second : Nat) (s : State) : State :=
  setInterval ((handDemand s).modMtr fun m => { m with day := day, second := second })

/-- R138: a metering settings write as MTR takes it. -/
def meteringTaken (gapLimit demandS : Nat) (s : State) : State :=
  if demandS = s.mtr.demandS then s.modMtr fun m => { m with gapLimit := gapLimit }
  else setInterval ((handDemand s).modMtr fun m => { m with gapLimit := gapLimit, demandS := demandS })

end Sys2Proof.Machine
end

