-- ==== Sys2Proof/Machine/Rfg.lean ====
section
/-! DEFINITION. The Reference Generator (chapter 4): berth and module reference records, target pairs, the
period, load sharing and overload. -/

namespace Sys2Proof.Machine

/-! ### Records (R58, R62, R64) -/

/-- R58: the soft-start voltage. -/
def softStart (set : RefSettings) (nominalV : Nat) : Nat := nominalV * set.softFraction / 100

/-- R58: a new berth reference record. -/
def newBerthRef (set : RefSettings) (nominalF nominalV : Nat) : BerthRef where
  nominalF := nominalF
  nominalV := nominalV
  fRef := nominalF
  vRef := softStart set nominalV
  follow := false
  progress := .waiting
  pair := none
  pSet := 0
  pB := 0
  overload := false
  overloadDue := none
  lastShed := 0

/-- R58: RFG creates the berth's reference record at an acceptance, afresh when one is present. -/
def createRef (b : Berth) (s : State) : State :=
  s.modRfg fun c =>
    { c with
      berths := upd c.berths b fun _ => some (newBerthRef c.inForce (s.entry b).nominalF (s.entry b).nominalV)
      handed := upd c.handed b fun _ => ((s.entry b).nominalF, (s.entry b).nominalV) }

/-- R58: RFG discards the berth's reference record. -/
def discardRef (b : Berth) (s : State) : State :=
  s.modRfg fun c => { c with berths := upd c.berths b fun _ => none }

/-- BSQ writes P_set in the berth's reference record. -/
def setPSet (b : Berth) (p : Nat) (s : State) : State := s.modBerthRef b fun r => { r with pSet := p }

/-- The berth's P_set, 0 without a record. -/
def pSetOf (s : State) (b : Berth) : Nat :=
  match s.berthRef b with
  | none => 0
  | some r => r.pSet

/-- R62: a berth pair is taken while the berth is SYNCING. -/
def takeBerthPair (b : Berth) (f : Int) (v : Nat) (s : State) : State :=
  if (s.berth b).state = .syncing then
    s.modBerthRef b fun r => { r with pair := some (clampInt 40000 70000 f, min v 65535) }
  else s

/-- R62: a module pair is taken while the module is SYNCING. -/
def takeModulePair (m : Module) (f : Int) (v : Nat) (s : State) : State :=
  if (s.modu m).state = .syncing then
    s.modModuleRef m fun r => { r with own := some (clampInt 40000 70000 f, min v 65535) }
  else s

/-- R62: the berth's held pair is discarded, at a release and when the berth leaves SYNCING. -/
def dropBerthPair (b : Berth) (s : State) : State := s.modBerthRef b fun r => { r with pair := none }

/-- R62: the module's own target is discarded, at a release and when the module leaves SYNCING. -/
def dropModulePair (m : Module) (s : State) : State := s.modModuleRef m fun r => { r with own := none }

/-- R65: what RFG keeps of a module is cleared when it enters STANDBY, LOST or BLOCKED. -/
def clearModuleRef (m : Module) (s : State) : State :=
  s.modModuleRef m fun r => { r with lastSent := none, startSent := false, own := none }

/-! ### Sheds (R67, R68) -/

/-- R68: the amount of a shed: measured power − ΣA + shed margin, saturating at 65535. DESIGN CHOICE (log 37): a
negative amount is 0. -/
def shedKw (s : State) (b : Berth) : Nat :=
  clampInt 0 65535
    (kilowatts (s.point (cbPoint b)).pCal - (sumCapacity s b : Int) + (s.rfg.inForce.shedMargin : Int))

/-- R68: the berth's present shed amount. -/
def shedAmount (s : State) (b : Berth) : Nat :=
  match s.berthRef b with
  | none => 0
  | some r =>
    if r.overload then
      if (s.point (cbPoint b)).state = .stale then r.lastShed else shedKw s b
    else 0

/-- R68: RFG answers the action SHED. -/
def shedAction (b : Berth) (s : State) : State :=
  let amount := shedAmount s b
  let gate := (s.entry b).gateway
  let s1 := if amount ≠ 0 then s.modBerthRef b fun r => { r with lastShed := amount } else s
  if !(s.entry b).configured || gate = 0 || gate = 63 || s.own = some gate then s1
  else giveShpn gate (.shed b amount) s1

/-! ### The period (R57, R59 to R61, R63) -/

/-- R59, R63: the targets of the berth reference: f and V. -/
def refTargets (s : State) (b : Berth) (r : BerthRef) : Nat × Nat :=
  match (s.berth b).state with
  | .allocating => (r.nominalF, r.vRef)
  | .energising => (r.nominalF, min (r.vRef + r.nominalV * s.rfg.inForce.softIncrement / 100) r.nominalV)
  | .syncing => r.pair.getD (r.nominalF, r.nominalV)
  | .deadClose | .shore | .awaitGenerators => (r.nominalF, r.nominalV)
  | .rampUp | .rampDown | .opening =>
    if (s.point (shPoint b)).state = .stale then (r.fRef, r.vRef)
    else (clampNat 40000 70000 (s.point (shPoint b)).freq, (s.point (shPoint b)).voltage)
  | .releasing | .tripped | .unused | .dead => (r.fRef, r.vRef)

/-- R59: the mode of the berth's modules: FOLLOW in RAMP_UP, RAMP_DOWN and OPENING, else FORM. -/
def followMode : BerthState → Bool
  | .rampUp | .rampDown | .opening => true
  | _ => false

/-- R60: progress at a period: WAITING becomes RISING at the first period in ENERGISING. -/
def risen (st : BerthState) (p : Progress) : Progress :=
  if st = .energising ∧ p = .waiting then .rising else p

/-- R59: the berth reference moved. -/
def moveRef (s : State) (b : Berth) (r : BerthRef) : BerthRef :=
  { r with
    fRef := moveToward s.rfg.inForce.fLimit r.fRef (refTargets s b r).1
    vRef := moveToward s.rfg.inForce.vLimit r.vRef (refTargets s b r).2
    follow := followMode (s.berth b).state
    progress := risen (s.berth b).state r.progress }

/-- R61: CBb passes the soft-energise test. -/
def softTest (s : State) (b : Berth) (r : BerthRef) : Bool :=
  (s.point (cbPoint b)).state = .fresh &&
    ((s.point (cbPoint b)).voltage - (r.nominalV : Int)).natAbs * 1000 ≤ r.nominalV * 20 &&
    ((s.point (cbPoint b)).freq - (r.nominalF : Int)).natAbs ≤ (s.entry b).fBand

/-- R57 step 1: the berth reference of `b` moves, and soft energise is tested (R61). -/
def periodMove (b : Berth) (s : State) : State :=
  match s.berthRef b with
  | none => s
  | some r =>
    let r1 := moveRef s b r
    if (s.berth b).state = .energising ∧ r1.progress = .rising ∧ softTest s b r1 then
      (s.modBerthRef b fun _ => { r1 with progress := .complete }).post (.energised b)
    else s.modBerthRef b fun _ => r1

/-- R66: P_b before the clamp of step 1. -/
def powerBefore (s : State) (b : Berth) (r : BerthRef) : Nat :=
  match (s.berth b).state with
  | .rampUp | .rampDown | .opening => r.pSet
  | .shore | .awaitGenerators =>
    if (s.point (cbPoint b)).state = .stale then r.pB
    else clampInt 0 (sumCapacity s b) (kilowatts (s.point (cbPoint b)).pCal)
  | _ => 0

/-- R57 step 2, R66: P_b is determined and clamped to 0..min(contract demand, ΣA). -/
def periodPower (b : Berth) (s : State) : State :=
  s.modBerthRef b fun r =>
    { r with pB := min (powerBefore s b r) (min (s.entry b).contract (sumCapacity s b)) }

/-- R66: the share of module `m` of berth `b`. -/
def moduleShare (s : State) (b : Berth) (m : Module) : Nat :=
  match s.berthRef b with
  | none => 0
  | some r => shareOf (capacityOf s) (onlineModules s b) r.pB m

/-- R67: the berth is judged overloaded at this period; while CBb is STALE the previous judgement stands. -/
def judgedOverloaded (s : State) (b : Berth) (r : BerthRef) : Bool :=
  if (s.point (cbPoint b)).state = .stale then r.overload
  else (sumCapacity s b : Int) < kilowatts (s.point (cbPoint b)).pCal

/-- R57 step 3, R67: overload is judged. -/
def periodOverload (b : Berth) (s : State) : State :=
  match s.berthRef b with
  | none => s
  | some r =>
    if (s.berth b).state.carrying && judgedOverloaded s b r then
      if r.overload then
        if r.overloadDue.isNone then s.post (.raise (evOverload b)) else s
      else
        giveShpn (s.entry b).gateway (.shed b (shedKw s b))
          (s.modBerthRef b fun r =>
            { r with
              overload := true
              overloadDue := some (s.now + (s.entry b).overloadTime * 1000)
              lastShed := shedKw s b })
    else s.modBerthRef b fun r => { r with overload := false, overloadDue := none }

/-- R67: the overload timer expires. -/
def overloadExpiry (b : Berth) (s : State) : State :=
  match s.berthRef b with
  | none => s
  | some r =>
    match r.overloadDue with
    | none => s
    | some due =>
      ((s.advanceTo due).modBerthRef b fun r => { r with overloadDue := none }).post (.raise (evOverload b))

/-- R64: the berth's present f_ref and V_ref, or the nominal values handed at acceptance without a record. -/
def berthRefs (s : State) (b : Berth) : Nat × Nat :=
  match s.berthRef b with
  | none => s.rfg.handed[b]
  | some r => (r.fRef, r.vRef)

/-- R64: the mode of the SETP a module receives at a period, none when it receives none. -/
def setpMode (s : State) (b : Berth) (m : Module) : Option SetpMode :=
  match (s.modu m).state with
  | .starting => if (s.modu m).startIssued then some .start else none
  | .syncing => some .form
  | .online =>
    match s.berthRef b with
    | none => some .form
    | some r => some (if r.follow then .follow else .form)
  | .stopping => some .stop
  | .standby | .lost | .blocked | .absent => none

/-- R64: the frequency and voltage the SETP carries. DESIGN CHOICE (log 39): a STOP to a module that has been sent
references repeats them, whether or not its start-sent flag is set. -/
def setpRefs (s : State) (b : Berth) (m : Module) (mode : SetpMode) : Nat × Nat :=
  let r := s.rfg.modules[m]
  match r.lastSent with
  | none => berthRefs s b
  | some (f, v, _) =>
    if mode = .stop then (f, v)
    else if !r.startSent then berthRefs s b
    else
      let target := if (s.modu m).state = .syncing then r.own.getD (berthRefs s b) else berthRefs s b
      (moveToward s.rfg.inForce.fLimit f target.1, moveToward s.rfg.inForce.vLimit v target.2)

/-- R64: the SETP built for module `m` of berth `b`. -/
def buildSetp (s : State) (b : Berth) (m : Module) (mode : SetpMode) : Setp where
  dest := s.mpm.table[m].node
  module := m
  mode := mode
  period := s.rfg.periodCounter
  f := (setpRefs s b m mode).1
  v := (setpRefs s b m mode).2
  pRef := if (s.modu m).state = .online then moduleShare s b m else 0
  pLimit := capacityOf s m
  berth := b

/-- R57 step 4, R64, R65: the SETP of module `m`, if it is to receive one, is built and given to the LPU. -/
def periodSetp (b : Berth) (m : Module) (s : State) : State :=
  match setpMode s b m with
  | none => s
  | some mode =>
    let f := buildSetp s b m mode
    giveSetp f (s.modModuleRef m fun r => { r with built := some ⟨f.mode, f.f, f.v, f.pRef, f.pLimit⟩ })

/-- R57 step 4: the SETPs of a berth in list order. -/
def periodSetps (b : Berth) (s : State) : State := (s.list b).foldl (fun s m => periodSetp b m s) s

/-- R57: the period's work for berth `b`. -/
def periodBerth (b : Berth) (s : State) : State :=
  periodSetps b (periodOverload b (periodPower b (periodMove b s)))

/-- R56: the reference settings as stored come into force: a write applies from the next period. -/
def takeSettings (s : State) : State := s.modRfg fun c => { c with inForce := c.settings }

/-- R57: a period: the stored settings come into force (R56), the work of B0 to B3 in turn, then the period counter
rises. -/
def period (s : State) : State :=
  let s := takeSettings (s.advanceTo s.rfg.periodDue)
  (allBerths.foldl (fun s b => periodBerth b s) s).modRfg fun c =>
    { c with periodCounter := (c.periodCounter + 1) % 65536, periodDue := c.periodDue + Config.rfgPeriodMs }

end Sys2Proof.Machine
end

