-- ==== Sys2Proof/Machine/Syu.lean ====
section
/-! DEFINITION. The Synchronising Unit (chapter 5): requests and the queue, the channels and their timers, the
closes onto dead buses, cancellation and the emergency-stop inhibit. A breaker status frame is taken in
Bsta.lean, where the blocks that share it are. -/

namespace Sys2Proof.Machine

/-! ### Targets (section 5.1) -/

/-- The profile a target uses: OUTLET for 0..3, MODULE for 4..11. -/
def profileIx (t : Target) : Fin 2 := if t.val < 4 then 0 else 1

/-- The profile of a target as it stands. -/
def State.profile (s : State) (t : Target) : Profile := s.syu.profiles[profileIx t]

/-- The reference point of a request. -/
def refPointOf (t : Target) (b : Berth) : Point :=
  match targetKind t with
  | .inl o => shPoint o
  | .inr _ => cbPoint b

/-- The matched point of a request. -/
def matchPointOf (t : Target) : Point :=
  match targetKind t with
  | .inl o => cbPoint o
  | .inr m => moPoint m

/-- BREAKER_NO_CONFIRM of an outlet, CONTACTOR_NO_CONFIRM of a contactor (R85). -/
def evNoConfirm (t : Target) : EventIx :=
  match targetKind t with
  | .inl o => evBreakerNoConfirm o
  | .inr m => evContactorNoConfirm m

/-- BREAKER_UNCOMMANDED of an outlet, CONTACTOR_NO_CONFIRM of a contactor (R87). -/
def evUncommanded (t : Target) : EventIx :=
  match targetKind t with
  | .inl o => evBreakerUncommanded o
  | .inr m => evContactorNoConfirm m

/-- Whether the target has a request in the queue. -/
def Syu.queued (y : Syu) (t : Target) : Bool := y.queue.any fun r => r.target = t

/-- Whether channel `c` holds a request for the target. -/
def Syu.holds (y : Syu) (c : Chan) (t : Target) : Bool := y.chans[c].any fun w => w.req.target = t

/-- Whether the target has an attempt in a channel. -/
def Syu.inChannel (y : Syu) (t : Target) : Bool := allChans.any fun c => y.holds c t

/-- Whether the target has a dead-bus close pending. -/
def Syu.deadPending (y : Syu) (t : Target) : Bool := y.deadBus.any fun d => d.target = t

/-- R74, R88, R71: the target has a request in the queue, an attempt in a channel or a dead-bus close pending. -/
def Syu.busy (y : Syu) (t : Target) : Bool := y.queued t || y.inChannel t || y.deadPending t

/-! ### Ending a request (R77, R82, R85, R90) -/

/-- R77: SYU hands RFG the release of the berth or module concerned. -/
def releasePair (t : Target) (s : State) : State :=
  match targetKind t with
  | .inl o => dropBerthPair o s
  | .inr m => dropModulePair m s

/-- SYU gives a request's requester its result. -/
def giveResult (t : Target) (r : SyncResult) (s : State) : State :=
  match targetKind t with
  | .inl o => s.post (.outletResult o r)
  | .inr m => s.post (.contactorResult m r)

/-- SYU gives a dead-bus close's requester its outcome. -/
def giveOutcome (t : Target) (b : Berth) (o : DeadOutcome) (s : State) : State :=
  match targetKind t with
  | .inl k => s.post (.outletOutcome k o)
  | .inr m => s.post (.contactorOutcome m b o)

/-- A request ends: the release, then the result (R77). -/
def endRequest (req : SyncReq) (r : SyncResult) (s : State) : State := giveResult req.target r (releasePair req.target s)

/-- A request ends in failure: SYNC_FAIL of its berth is raised as well (R74, R75, R82, R85). -/
def failRequest (req : SyncReq) (r : SyncResult) (s : State) : State :=
  endRequest req r (s.post (.raise (evSyncFail req.berth)))

/-! ### Requests and channels (R74, R76, R77) -/

/-- R77: the beginning of an attempt. -/
def ChanWork.begin (now : Nat) (w : ChanWork) : ChanWork :=
  { w with
    phase := .adjusting
    settle := 0
    watchDue := some (now + w.profile.watchLimit * 1000)
    confirmDue := none
    backoffDue := none }

/-- R76, R77: a channel that has just taken a request. -/
def ChanWork.take (now : Nat) (p : Profile) (req : SyncReq) : ChanWork :=
  ChanWork.begin now
    { req := req
      profile := p
      phase := .adjusting
      k := 0
      settle := 0
      watchDue := none
      confirmDue := none
      backoffDue := none
      commandTime := none
      pair := none
      eval := none }

/-- R76: an IDLE channel takes the oldest request of the queue. -/
def fillChannel (c : Chan) (s : State) : State :=
  match s.syu.chans[c], s.syu.queue with
  | none, req :: rest =>
    s.modSyu fun y =>
      { y with
        queue := rest
        chans := upd y.chans c fun _ => some (.take s.now y.profiles[profileIx req.target] req) }
  | _, _ => s

/-- R76: the IDLE channels take the oldest requests, S0 first. -/
def fillChannels (s : State) : State := fillChannel 1 (fillChannel 0 s)

/-- R76: the channels are served once everything else that the event leads to has been taken, so that S0 is served first
whichever of the two became IDLE first within it. -/
def serveChannelsTaken (s : State) : State :=
  if s.handoffs = [] then fillChannels s
  else if s.handoffs.contains .serveChannels then s
  else s.post .serveChannels

/-- R76: the channel becomes IDLE. -/
def idleChannel (c : Chan) (s : State) : State := (s.modChan c fun _ => none).post .serveChannels

/-- R74: a synchronising request. -/
def newRequest (s : State) (t : Target) (b : Berth) (q : Requester) : SyncReq where
  target := t
  berth := b
  requester := q
  refPoint := refPointOf t b
  matchPoint := matchPointOf t
  instant := s.now
  waitDue := s.now + (s.profile t).waitLimit * 1000

/-- R74: SYU takes a synchronising request. -/
def requestSync (t : Target) (b : Berth) (q : Requester) (s : State) : State :=
  if s.syu.busy t then s
  else if (s.breaker t).node = 0 then failRequest (newRequest s t b q) .failedAttempts s
  else (s.modSyu fun y => { y with queue := y.queue ++ [newRequest s t b q] }).post .serveChannels

/-- R82, R85 step 4 on, R86, R87: the attempt of channel `c` has failed. -/
def failAttempt (c : Chan) (s : State) : State :=
  match s.syu.chans[c] with
  | none => s
  | some w =>
    if w.k + 1 = w.profile.attemptLimit then
      idleChannel c (failRequest w.req .failedAttempts s)
    else
      s.modChan c fun _ => some
        { w with
          phase := .backoff
          k := w.k + 1
          watchDue := none
          confirmDue := none
          backoffDue := some (s.now + backoffMs w.profile (w.k + 1)) }

/-- R75: the wait timer of the target's queued request expires. -/
def syncWaitExpiry (t : Target) (s : State) : State :=
  match s.syu.queue.find? (fun r => r.target = t) with
  | none => s
  | some req =>
    failRequest req .failedWait
      ((s.advanceTo req.waitDue).modSyu fun y => { y with queue := y.queue.filter fun r => r.target ≠ t })

/-- R82: the watch timer of a channel expires. -/
def watchExpiry (c : Chan) (s : State) : State :=
  match (s.syu.chans[c]).bind (fun w => w.watchDue) with
  | none => s
  | some due => failAttempt c (s.advanceTo due)

/-- R86, R77: the backoff timer of a channel expires and the next attempt begins. -/
def backoffExpiry (c : Chan) (s : State) : State :=
  match (s.syu.chans[c]).bind (fun w => w.backoffDue) with
  | none => s
  | some due =>
    let s := s.advanceTo due
    s.modChan c (Option.map (ChanWork.begin s.now))

/-! ### Closing (R83, R85) -/

/-- R83, R88: the confirm window of a close: t_c plus the confirm margin. -/
def confirmWindow (e : BreakerEntry) : Nat := e.tc + e.margin

/-- R83: the channel enters CLOSING. -/
def enterClosing (c : Chan) (s : State) : State :=
  match s.syu.chans[c] with
  | none => s
  | some w =>
    (command .close w.req.target s).modChan c fun _ => some
      { w with
        phase := .closing
        watchDue := none
        commandTime := some s.now
        confirmDue := some (s.now + confirmWindow (s.breaker w.req.target)) }

/-- R85: the close of channel `c` fails to confirm. -/
def closeFailed (c : Chan) (s : State) : State :=
  match s.syu.chans[c] with
  | none => s
  | some w => failAttempt c ((command .openCmd w.req.target s).post (.raise (evNoConfirm w.req.target)))

/-- R85: the confirm timer of a channel expires. -/
def confirmExpiry (c : Chan) (s : State) : State :=
  match (s.syu.chans[c]).bind (fun w => w.confirmDue) with
  | none => s
  | some due => closeFailed c (s.advanceTo due)

/-- R84 steps 1 to 4, R89: a confirmed close is measured and learned, and the close-held mark is set. -/
def measureClose (t : Target) (commandTime : Nat) (s : State) : State :=
  (s.modBreaker t fun e =>
    { e with
      lastMeasured := some (s.now - commandTime)
      tc := if e.learn then learn e.tc (s.now - commandTime) else e.tc }).setCloseHeld t true

/-- R84 steps 6 to 8: a confirmed close ends its request. -/
def confirmEnd (c : Chan) (req : SyncReq) (s : State) : State :=
  idleChannel c (endRequest req .success s)

/-! ### Evaluations and target pairs (R77 to R81) -/

/-- R77: the target pair is handed to RFG. -/
def handPair (t : Target) (f : Int) (v : Nat) (s : State) : State :=
  match targetKind t with
  | .inl o => takeBerthPair o f v s
  | .inr m => takeModulePair m f v s

/-- R77: a record of the reference point gives a target pair. -/
def steer (c : Chan) (s : State) : State :=
  match s.syu.chans[c] with
  | none => s
  | some w =>
    let r := s.point w.req.refPoint
    handPair w.req.target (r.freq + w.profile.slipTarget) r.voltage
      (s.modChan c fun _ => some { w with pair := some (r.freq + w.profile.slipTarget, r.voltage) })

/-- R80, R92: an evaluation in ADJUSTING. -/
def judgeAdjusting (estop : Bool) (e : Evaluation) (w : ChanWork) : ChanWork :=
  if e.vOk && e.sOk && !estop then
    { w with settle := w.settle + 1, phase := if w.settle + 1 = w.profile.settleCount then .watching else .adjusting }
  else { w with settle := 0 }

/-- R81: an evaluation in WATCHING acts. R92: none closes while the emergency-stop input is asserted. -/
def judgeWatching (c : Chan) (e : Evaluation) (w : ChanWork) (s : State) : State :=
  if !(e.vOk && e.sOk) || (e.aOk && s.pins.estop) then
    s.modChan c fun _ => some { w with phase := .adjusting, settle := 0 }
  else if e.aOk then enterClosing c s
  else s

/-- R78, R79: an evaluation of channel `c`, when one runs. -/
def evaluateChannel (c : Chan) (s : State) : State :=
  match s.syu.chans[c] with
  | none => s
  | some w =>
    if (s.point w.req.matchPoint).state = .fresh then
      let e := evaluate w.profile (s.breaker w.req.target).tc (s.point w.req.matchPoint) (s.point w.req.refPoint)
      let w1 := { w with eval := some e }
      match w.phase with
      | .adjusting => s.modChan c fun _ => some (judgeAdjusting s.pins.estop e w1)
      | .watching => judgeWatching c e w1 (s.modChan c fun _ => some w1)
      | .closing => s
      | .backoff => s
    else s

/-- R77, R78: channel `c` sees an accepted valid record of `p`. -/
def channelRecord (p : Point) (c : Chan) (s : State) : State :=
  match s.syu.chans[c] with
  | none => s
  | some w => if w.req.refPoint = p then evaluateChannel c (steer c s) else s

/-- R77, R78: SCL hands SYU an accepted valid record of `p`. DESIGN CHOICE (log 43): where both channels steer by `p`, S0
takes the record before S1. -/
def syuRecord (p : Point) (s : State) : State := channelRecord p 1 (channelRecord p 0 s)

/-! ### Dead-bus closes (R88, R89) -/

/-- The far point of a dead-bus close (R88). -/
def farPoint (t : Target) (b : Berth) : Point :=
  match targetKind t with
  | .inl _ => shPoint b
  | .inr _ => cbPoint b

/-- R88: BSQ's ship record is current and its last STATE message carried DEAD_BUS. -/
def shipDeadBus (s : State) (b : Berth) : Bool :=
  shipCurrent s b && (s.bsq.ships[b]).any fun r => r.deadBus

/-- R88: the checks of a dead-bus request pass. -/
def deadBusAllowed (s : State) (t : Target) (b : Berth) : Bool :=
  !s.pins.estop && !s.syu.busy t && (s.breaker t).node ≠ 0 && (s.point (farPoint t b)).state ≠ .stale &&
    decide ((s.point (farPoint t b)).voltage * 100 < (s.entry b).nominalV * (s.profile t).deadThreshold) &&
    (if t.val < 4 then shipDeadBus s b else true)

/-- R88: SYU takes a dead-bus request. -/
def requestDeadBus (t : Target) (b : Berth) (q : Requester) (s : State) : State :=
  if deadBusAllowed s t b then
    (command .close t s).modSyu fun y =>
      { y with deadBus := y.deadBus ++ [⟨t, b, q, s.now, s.now + confirmWindow (s.breaker t)⟩] }
  else giveOutcome t b .refused s

/-- The record of a dead-bus close is removed. -/
def dropDeadClose (t : Target) (s : State) : State :=
  s.modSyu fun y => { y with deadBus := y.deadBus.filter fun d => d.target ≠ t }

/-- R89: a pending dead-bus close is not confirmed. -/
def deadCloseFailed (d : DeadClose) (s : State) : State :=
  giveOutcome d.target d.berth .notConfirmed
    (dropDeadClose d.target ((command .openCmd d.target s).post (.raise (evNoConfirm d.target))))

/-- R89: the confirm timer of a dead-bus close expires. -/
def deadBusConfirmExpiry (t : Target) (s : State) : State :=
  match s.syu.deadBus.find? (fun d => d.target = t) with
  | none => s
  | some d => deadCloseFailed d (s.advanceTo d.confirmDue)

/-! ### Cancellation and emergency stop (R90, R91) -/

/-- R90: the attempt of channel `c`, if it is for target `t`, is cancelled. -/
def cancelChannel (t : Target) (c : Chan) (s : State) : State :=
  match s.syu.chans[c] with
  | none => s
  | some w =>
    if w.req.target = t then
      idleChannel c (endRequest w.req .cancelled (if w.phase = .closing then command .openCmd t s else s))
    else s

/-- R90: the target's queued request is cancelled. -/
def cancelQueued (t : Target) (s : State) : State :=
  match s.syu.queue.find? (fun r => r.target = t) with
  | none => s
  | some req =>
    endRequest req .cancelled (s.modSyu fun y => { y with queue := y.queue.filter fun r => r.target ≠ t })

/-- R90: the target's pending dead-bus close is cancelled. -/
def cancelDeadClose (t : Target) (s : State) : State :=
  if s.syu.deadPending t then dropDeadClose t (command .openCmd t s) else s

/-- R90: BSQ or MPM cancels SYU's work for a target. -/
def cancelSync (t : Target) (s : State) : State :=
  cancelDeadClose t (cancelChannel t 1 (cancelChannel t 0 (cancelQueued t s)))

/-- R91: channel `c` at the assertion of the emergency-stop input. -/
def estopChannel (c : Chan) (s : State) : State :=
  match s.syu.chans[c] with
  | none => s
  | some w =>
    match w.phase with
    | .closing => idleChannel c (endRequest w.req .cancelled (command .openCmd w.req.target s))
    | .watching => s.modChan c fun _ => some { w with phase := .adjusting, settle := 0 }
    | .adjusting => s
    | .backoff => s

/-- R91: a pending dead-bus close at the assertion of the emergency-stop input. -/
def estopDeadClose (d : DeadClose) (s : State) : State :=
  giveOutcome d.target d.berth .refused (dropDeadClose d.target (command .openCmd d.target s))

/-- R91: the emergency-stop input becomes asserted at SYU. -/
def syuEstop (s : State) : State :=
  let s := estopChannel 1 (estopChannel 0 s)
  s.syu.deadBus.foldl (fun s d => estopDeadClose d s) s

end Sys2Proof.Machine
end

