-- ==== Sys2Proof/Machine/Mpm.lean ====
section
/-! DEFINITION. The Module Pool Manager (chapter 3): the polling scan, replies, allocation, release, loss,
replacement, blocking and the contactor reports. -/

namespace Sys2Proof.Machine

/-! ### What MPM tells BSQ (R53) -/

/-- The summary of berth `b` may have changed. -/
def tellSummary (b : Berth) (s : State) : State := s.post (.summary b)

/-- The list of berth `b` has lost a module: BSQ is handed the summary, and the instant the list becomes empty. -/
def tellLeft (b : Option Berth) (s : State) : State :=
  match b with
  | none => s
  | some b => if (s.list b).isEmpty then (tellSummary b s).post (.listEmpty b) else tellSummary b s

/-- A first-module failure is reported when `v` holds. -/
def tellFailure (v : Bool) (b : Option Berth) (s : State) : State :=
  match b with
  | none => s
  | some b => if v then s.post (.firstFailure b) else s

/-! ### Leaving and entering lists (R34, R40, R46) -/

/-- Module `m` enters STANDBY, LOST or BLOCKED and leaves any list that holds it. DESIGN CHOICE (log 36): its
start-issued flag, kept through STOPPING, is cleared here, and so is its sync request deferred flag, which R46 drops at
a release and R48 leaves open for a module lost from SYNCING with its request deferred. -/
def leaveList (m : Module) (st : ModuleState) (s : State) : State :=
  clearModuleRef m
    ((s.modMpm fun c => { c with lists := c.lists.map fun l => l.filter fun x => x ≠ m }).modModule m fun r =>
      { r with
        state := st
        first := false
        startIssued := false
        deferred := false
        blockPending := false
        startDue := none
        stopDue := none })

/-- R40, R49: module `m` enters STARTING at the tail of the berth's list. -/
def takeModule (b : Berth) (first : Bool) (m : Module) (s : State) : State :=
  clearModuleRef m
    ((s.modMpm fun c => { c with lists := upd c.lists b fun l => l ++ [m] }).modModule m fun r =>
      { r with
        state := .starting
        first := first
        startIssued := !first
        deferred := false
        blockPending := false
        startDue := some (s.now + s.mpm.table[m].startLimit * 1000)
        stopDue := none
        closedNoted := false
        runningSeen := false })

/-- R46: MPM releases module `m`. -/
def release (m : Module) (s : State) : State :=
  match (s.modu m).state with
  | .starting | .syncing | .online =>
    let s1 := s.modModule m fun r =>
      { r with
        state := .stopping
        deferred := false
        startDue := none
        stopDue := some (s.now + s.mpm.table[m].stopLimit * 1000)
        offSeen := false
        openSeen := false
        openNoted := s.now }
    let s2 := command .openCmd (contactor m) (cancelSync (contactor m) (dropModulePair m s1))
    match s.berthOfModule m with
    | none => s2
    | some b => tellSummary b s2
  | .stopping | .standby | .lost | .blocked | .absent => s

/-- R46: BSQ releases every module of the berth's list, in list order. -/
def releaseBerth (b : Berth) (s : State) : State := (s.list b).foldl (fun s m => release m s) s

/-! ### The modules an allocation takes (R40) -/

/-- The modules in STANDBY, lowest first. -/
def standbyModules (s : State) : List Module := allModules.filter fun m => (s.modu m).state = .standby

/-- R40: the capacity check of the berth passes. DESIGN CHOICE (log 42): a rating written since a module's last reply
counts at once, here and in `allocate`. -/
def capacityCheck (s : State) (b : Berth) : Bool :=
  (s.entry b).contract ≤ ((standbyModules s).map fun m => s.mpm.table[m].rating).sum

/-- R40: the modules taken in turn until the running sum of their ratings reaches what is needed. -/
def pickModules (rating : Module → Nat) : Nat → List Module → List Module
  | _, [] => []
  | need, m :: ms => if need = 0 then [] else m :: pickModules rating (need - rating m) ms

/-- R49: a module of berth `b` has left ONLINE by loss or block. -/
def replaceModule (b : Berth) (s : State) : State :=
  if (s.entry b).replacement = 1 ∧ (s.berth b).state.replaces ∧ onlineModules s b ≠ [] then
    match standbyModules s with
    | [] => s
    | m :: _ => takeModule b false m s
  else s

/-- R49 for a module that was ONLINE on the berth of `b`. -/
def replaceAfter (wasOnline : Bool) (b : Option Berth) (s : State) : State :=
  match b with
  | none => s
  | some b => if wasOnline then replaceModule b s else s

/-! ### Loss, and the ends of starts and stops (R38, R44, R47, R48) -/

/-- R38, R48: module `m` becomes LOST. -/
def lose (m : Module) (s : State) : State :=
  let st := (s.modu m).state
  let b := s.berthOfModule m
  let failed := (s.modu m).first && st ≠ .online
  let s1 := (leaveList m .lost s).post (.raise (evModuleLost m))
  if st.allocated then
    tellLeft b (tellFailure failed b (replaceAfter (st = .online) b
      (command .openCmd (contactor m) (cancelSync (contactor m) s1))))
  else s1

/-- R38: the states in which a third miss makes a module LOST. -/
def ModuleState.losable : ModuleState → Bool
  | .standby | .starting | .syncing | .online => true
  | .absent | .stopping | .lost | .blocked => false

/-- R36, R38: a poll of module `m` ends as a miss. -/
def miss (m : Module) (s : State) : State :=
  let s1 := (s.modMpm fun c => { c with poll := none }).modModule m fun r =>
    { r with missCount := satAdd 255 r.missCount 1, answered := false }
  if Config.lossMisses ≤ (s1.modu m).missCount ∧ (s1.modu m).state.losable then lose m s1 else s1

/-- R36: the LPU reports a POLL skipped. -/
def pollSkippedTaken (m : Module) (number : Nat) (s : State) : State :=
  match s.mpm.poll with
  | none => s
  | some p => if p.module = m ∧ p.number = number then miss m s else s

/-- R36: the reply timer of the open poll expires. -/
def pollReplyExpiry (s : State) : State :=
  match s.mpm.poll with
  | some ⟨m, _, some due⟩ => miss m (s.advanceTo due)
  | _ => s

/-- R44: the start limit timer of module `m` expires. -/
def startExpiry (m : Module) (s : State) : State :=
  match (s.modu m).state, (s.modu m).startDue with
  | .starting, some due =>
    let s := s.advanceTo due
    let b := s.berthOfModule m
    tellLeft b (tellFailure (s.modu m).first b
      (command .openCmd (contactor m) (cancelSync (contactor m)
        ((leaveList m .blocked s).post (.raise (evModuleFault m))))))
  | _, _ => s

/-- R47: a stop whose two marks are set ends. -/
def stopCheck (m : Module) (s : State) : State :=
  let r := s.modu m
  if r.state = .stopping ∧ r.offSeen ∧ r.openSeen then
    tellLeft (s.berthOfModule m) (leaveList m (if r.blockPending then .blocked else .standby) s)
  else s

/-- R47: the stop limit timer of module `m` expires. -/
def stopExpiry (m : Module) (s : State) : State :=
  match (s.modu m).state, (s.modu m).stopDue with
  | .stopping, some due =>
    let s := s.advanceTo due
    tellLeft (s.berthOfModule m)
      (command .openCmd (contactor m) ((leaveList m .blocked s).post (.raise (evModuleFault m))))
  | _, _ => s

/-! ### Coming ONLINE (R41 to R43) -/

/-- R42: the deferred sync request of module `m` is queued. -/
def queueDeferred (b : Berth) (m : Module) (s : State) : State :=
  if (s.modu m).deferred then
    requestSync (contactor m) b .mpm (s.modModule m fun r => { r with deferred := false })
  else s

/-- R42, R43: module `m` of berth `b` becomes ONLINE; the first module's doing so queues the deferred requests. -/
def becomeOnline (b : Berth) (m : Module) (s : State) : State :=
  let s1 := dropModulePair m (s.modModule m fun r => { r with state := .online, startDue := none })
  tellSummary b
    (if (s.modu m).first then (s1.list b).foldl (fun s x => queueDeferred b x s) s1 else s1)

/-- R42: a later module of berth `b` becomes SYNCING. -/
def becomeSyncing (b : Berth) (m : Module) (s : State) : State :=
  let s1 := s.modModule m fun r => { r with state := .syncing, startDue := none }
  if onlineModules s b ≠ [] then requestSync (contactor m) b .mpm s1
  else s1.modModule m fun r => { r with deferred := true }

/-- R42: the start of module `m` is tested at a reply or at SYU's confirmation. -/
def startCheck (m : Module) (s : State) : State :=
  let r := s.modu m
  match r.state, s.berthOfModule m with
  | .starting, some b =>
    if !r.runningSeen then s
    else if r.first then (if r.closedNoted then becomeOnline b m s else s)
    else becomeSyncing b m s
  | _, _ => s

/-- R41: SYU's outcome for the dead-bus close of module `m`'s contactor on berth `b`. -/
def contactorOutcome (m : Module) (b : Berth) (o : DeadOutcome) (s : State) : State :=
  let r := s.modu m
  if r.state = .starting ∧ r.first ∧ s.berthOfModule m = some b then
    match o with
    | .confirmed => startCheck m (s.modModule m fun r => { r with closedNoted := true, startIssued := true })
    | .refused | .notConfirmed => (release m s).post (.firstFailure b)
  else s

/-- R43: SYU's result for the sync request of module `m`'s contactor. -/
def contactorResult (m : Module) (res : SyncResult) (s : State) : State :=
  match (s.modu m).state, s.berthOfModule m with
  | .syncing, some b =>
    match res with
    | .success => becomeOnline b m s
    | .failedWait | .failedAttempts => release m s
    | .cancelled => s
  | _, _ => s

/-! ### Allocation at an acceptance (R40, R99) -/

/-- R40, R41, R99: MPM asks SYU for the dead-bus close of the first module's contactor. SYU checks it at once, and a
refusal is answered within the asking, so that the release and the report of the first-module failure arise in it. -/
def askFirstClose (b : Berth) (m : Module) (s : State) : State :=
  if deadBusAllowed s (contactor m) b then requestDeadBus (contactor m) b .mpm s
  else contactorOutcome m b .refused s

/-- R40: MPM allocates modules to the berth: the first asks for its dead-bus close, the others are started. -/
def allocate (b : Berth) (s : State) : State :=
  match pickModules (fun m => s.mpm.table[m].rating) (s.entry b).contract (standbyModules s) with
  | [] => s
  | m :: ms =>
    tellSummary b (askFirstClose b m (ms.foldl (fun s x => takeModule b false x s) (takeModule b true m s)))

/-! ### Contactor reports (R45, R47) -/

/-- R45, R47: SYU passes MPM a reported position of a contactor, taken at the present instant. -/
def contactorPosition (m : Module) (p : Position) (s : State) : State :=
  if p = .openPos then
    match (s.modu m).state with
    | .online => release m (s.post (.raise (evModuleFault m)))
    | .stopping =>
      if (s.modu m).openNoted < s.now then stopCheck m (s.modModule m fun r => { r with openSeen := true }) else s
    | .standby | .starting | .syncing | .lost | .blocked | .absent => s
  else s

/-! ### The scan and the replies (R35 to R39) -/

/-- R35: the next module in rotation. -/
def nextPolled (s : State) : Option Module :=
  let installed := allModules.filter fun m => s.mpm.table[m].installed
  match s.mpm.lastPolled with
  | none => installed.head?
  | some l =>
    match installed.find? fun m => l.val < m.val with
    | some m => some m
    | none => installed.head?

/-- R35: MPM gives the POLL of module `m`. -/
def pollModule (m : Module) (s : State) : State :=
  givePoll s.mpm.table[m].node m s.mpm.pollCounter
    (s.modMpm fun c =>
      { c with
        poll := some ⟨m, c.pollCounter, none⟩
        lastPolled := some m
        pollCounter := (c.pollCounter + 1) % 256 })

/-- R35: a scan slot. -/
def scanSlot (s : State) : State :=
  let s := (s.advanceTo s.mpm.scanDue).modMpm fun c => { c with scanDue := c.scanDue + Config.scanSlotMs }
  if s.mpm.poll.isSome then s
  else
    match nextPolled s with
    | none => s
    | some m => pollModule m s

/-- A PRPY as received (section 1.6). -/
structure Reply where
  module : Module
  number : Nat
  state : Reported
  derate : Bool
  capacity : Nat
deriving DecidableEq, Repr

/-- R37: a PRPY from `src` matches the open poll. -/
def replyMatches (s : State) (src : Nat) (y : Reply) : Bool :=
  match s.mpm.poll with
  | some ⟨m, number, some _⟩ => y.module = m && y.number = number && s.mpm.table[m].node = src
  | _ => false

/-- R37: the stored capacity of a reply. -/
def storedCapacity (st : ModuleState) (rating : Nat) (y : Reply) : Nat :=
  if (st = .syncing ∨ st = .online) ∧ y.state = .off then 0 else min y.capacity rating

/-- R39: the reply raises MODULE_FAULT. -/
def replyFault (st : ModuleState) (prev : Option Reported) (y : Reply) : Bool :=
  (y.state = .fault && prev ≠ some .fault) ||
    (y.state = .off && (st = .syncing || st = .online) && prev ≠ some .off)

/-- R37, R39: the poll record is updated and the events of the reply are raised. -/
def recordReply (y : Reply) (s : State) : State :=
  let m := y.module
  let r := s.modu m
  let cap := storedCapacity r.state s.mpm.table[m].rating y
  let derated := y.derate || decide (cap < s.mpm.table[m].rating)
  let s1 := (s.modMpm fun c => { c with poll := none }).modModule m fun r =>
    { r with
      missCount := 0
      answered := true
      reported := some y.state
      derateFlag := y.derate
      capacity := some cap
      derateCond := derated }
  let s2 := if replyFault r.state r.reported y then s1.post (.raise (evModuleFault m)) else s1
  if derated then s2.post (.raise (evModuleDerated m)) else s2

/-- R42, R47: the start, stop and sync rules at an answered reply. -/
def replyRules (y : Reply) (s : State) : State :=
  let m := y.module
  match (s.modu m).state, y.state with
  | .starting, .running => startCheck m (s.modModule m fun r => { r with runningSeen := true })
  | .stopping, .off => stopCheck m (s.modModule m fun r => { r with offSeen := true })
  | .online, _ =>
    match s.berthOfModule m with
    | none => s
    | some b => tellSummary b s
  | _, _ => s

/-- R37: the LPU hands MPM a PRPY. -/
def replyTaken (src : Nat) (y : Reply) (s : State) : State :=
  if replyMatches s src y then replyRules y (recordReply y s)
  else s.modMpm fun c => { c with ignored := count1 c.ignored }

/-! ### Module commands and the block action (R50 to R52) -/

/-- R50, R52: module `m` is blocked. -/
def blockModule (m : Module) (s : State) : State :=
  let r := s.modu m
  let b := s.berthOfModule m
  match r.state with
  | .standby | .lost => leaveList m .blocked s
  | .starting | .syncing | .online =>
    tellFailure (r.first && r.state ≠ .online) b (replaceAfter (r.state = .online) b
      ((release m s).modModule m fun r => { r with blockPending := true }))
  | .stopping => s.modModule m fun r => { r with blockPending := true }
  | .blocked | .absent => s

/-- R50: BLOCK. -/
def blockCmd (m : Module) (s : State) : Result × State :=
  if (s.modu m).state = .absent then (.badValue, s) else (.done, blockModule m s)

/-- R51: UNBLOCK. -/
def unblockCmd (m : Module) (s : State) : Result × State :=
  match (s.modu m).state with
  | .absent => (.badValue, s)
  | .blocked => (.done, leaveList m .standby s)
  | .stopping =>
    if (s.modu m).blockPending then (.done, s.modModule m fun r => { r with blockPending := false }) else (.busy, s)
  | .standby | .starting | .syncing | .online | .lost => (.busy, s)

/-- R51: READMIT. -/
def readmitCmd (m : Module) (s : State) : Result × State :=
  match (s.modu m).state with
  | .absent => (.badValue, s)
  | .lost => if (s.modu m).answered then (.done, leaveList m .standby s) else (.busy, s)
  | .standby | .starting | .syncing | .online | .stopping | .blocked => (.busy, s)

end Sys2Proof.Machine
end

