-- ==== Sys2Proof/Machine/Bsq.lean ====
section
/-! DEFINITION. The Berth Sequencer (chapter 6): the berth states, connection, ramps and holds, departure, trips,
pilot loops, emergency stop and ship messages. -/

namespace Sys2Proof.Machine

/-! ### Trip outputs, notices and changes of state (R98, R119) -/

/-- R119, R168: each trip output is asserted while its berth's trip demand is set or the emergency-stop input is
asserted. -/
def driveOutputs (s : State) : State :=
  s.modEvr fun e => { e with outputs := Vector.ofFn fun b : Fin 4 => s.bsq.recs[b].demand || s.pins.estop }

/-- R98: the BERTH notice of the berth's present state. -/
def berthNotice (b : Berth) (s : State) : State :=
  giveShpn (s.entry b).gateway (.berth b (s.berth b).state.code) s

/-- R29: the staleness conditions of a berth as it passes between states. -/
def watchChange (b : Berth) (old new : BerthState) (s : State) : State :=
  if !old.watched && new.watched then watchBegins b s
  else if old.watched && !new.watched then watchEnds b s
  else s

/-- The berth's state becomes `st`, with what SCL and RFG do at such a change (R27, R29, R62), without a notice. -/
def changeState (b : Berth) (st : BerthState) (s : State) : State :=
  let old := (s.berth b).state
  let s1 := watchChange b old st (s.modBerth b fun r => { r with state := st })
  let s2 := if old = .shore ∧ st ≠ .shore then clearBands b s1 else s1
  if old = .syncing ∧ st ≠ .syncing then dropBerthPair b s2 else s2

/-- R98: the berth enters `st` and the BERTH notice is given. -/
def enterState (b : Berth) (st : BerthState) (s : State) : State := berthNotice b (changeState b st s)

/-! ### Holds and the ramp timers (R104, R105, R107) -/

/-- R107: the ramp timeout timer runs while no hold is in force and pauses while one is. -/
def BerthRec.syncTimer (now : Nat) (r : BerthRec) : BerthRec :=
  match r.rampTimer with
  | .running due => if r.held then { r with rampTimer := .paused (due - now) } else r
  | .paused left => if r.held then r else { r with rampTimer := .running (now + left) }
  | .stopped => r

/-- The hold limit of the berth, ms. -/
def holdLimitMs (s : State) (b : Berth) : Nat := (s.entry b).holdLimit * 1000

/-- R105: the ship hold time accumulated up to the present instant. -/
def heldTime (s : State) (b : Berth) : Nat :=
  let r := s.berth b
  if r.holdEnd.isSome then min (r.holdAcc + (s.now - r.holdFrom)) (holdLimitMs s b) else r.holdAcc

/-- R105: the ship hold's end instant becomes `v`, the time up to now being accumulated. -/
def setShipHold (b : Berth) (v : Option Nat) (s : State) : State :=
  s.modBerth b fun r =>
    BerthRec.syncTimer s.now { r with holdEnd := v, holdFrom := s.now, holdAcc := heldTime s b }

/-- R105: the Event Router hands BSQ the berth's event hold. -/
def setEventHold (b : Berth) (v : Bool) (s : State) : State :=
  s.modBerth b fun r => BerthRec.syncTimer s.now { r with eventHold := v }

/-- R104, R105, R107: the hold record is cleared and the ramp timers start. -/
def startRamp (b : Berth) (s : State) : State :=
  s.modBerth b fun r =>
    BerthRec.syncTimer s.now
      { r with
        holdEnd := none
        holdFrom := s.now
        holdAcc := 0
        holdMark := false
        rampDue := some (s.now + Config.rampPeriodMs)
        rampTimer := .running (s.now + (s.entry b).rampTimeout * 1000) }

/-- R105 to R108: the ramp timers stop, the ship hold ends and the capacity condition is cleared. -/
def stopRamp (b : Berth) (s : State) : State :=
  (setShipHold b none s).modBerth b fun r =>
    { r with rampDue := none, rampTimer := .stopped, capacityCond := false }

/-- The berth enters RAMP_UP (R102, R104). -/
def enterRampUp (b : Berth) (s : State) : State :=
  enterState b .rampUp ((startRamp b s).modBerth b fun r => { r with rampDone := false, capacityCond := false })

/-- The berth enters RAMP_DOWN with P_set as given (R110, R114). -/
def enterRampDown (b : Berth) (s : State) : State :=
  enterState b .rampDown ((startRamp b s).modBerth b fun r => { r with capacityCond := false })

/-! ### Releasing and tripping (R113, R115) -/

/-- R113, R121: what is cleared whenever a berth returns to DEAD. -/
def clearCall (b : Berth) (s : State) : State :=
  discardRef b (s.modBerth b fun r => { r with deadShip := false, energised := false })

/-- R113: the berth enters DEAD from RELEASING. -/
def enterDead (b : Berth) (s : State) : State :=
  enterState b .dead (driveOutputs (clearCall b
    (s.modBerth b fun r => { r with demand := r.demand && !r.fromOpening, fromOpening := false, lastLimit := 0 })))

/-- R113: MPM hands BSQ the instant the berth's list becomes empty. -/
def listEmptyTaken (b : Berth) (s : State) : State :=
  if (s.berth b).state = .releasing ∧ s.list b = [] then enterDead b s else s

/-- R113: the berth enters RELEASING, and DEAD at once when its list is already empty. -/
def enterReleasing (b : Berth) (s : State) : State :=
  listEmptyTaken b
    (enterState b .releasing (releaseBerth b (freeSlot b (cancelSync (outlet b) s))))

/-- R115 step 5: the session is closed with the trip's reason, or the reservation freed. -/
def endBilling (b : Berth) (reason : EndReason) (s : State) : State := freeSlot b (closeSession b reason s)

/-- R115 step 6. -/
def stopTimers (b : Berth) (s : State) : State :=
  setPSet b 0 ((stopRamp b s).modBerth b fun r => { r with genDue := none, openDue := none })

/-- R115: a trip of berth `b`. -/
def tripBerth (b : Berth) (reason : TripReason) (s : State) : State :=
  if (s.berth b).state.active then
    let s1 := driveOutputs (s.modBerth b fun r => { r with demand := true, fromOpening := false })
    let s2 := releaseBerth b (command .trip (outlet b) (cancelSync (outlet b) s1))
    let s3 := stopTimers b (endBilling b reason.endReason s2)
    enterState b .tripped (s3.modBerth b fun r => { r with reason := some reason })
  else s

/-! ### Connection (R99 to R103) -/

/-- R99: BLG's current tariff set is LOADED. -/
def tariffLoaded (s : State) : Bool :=
  match s.blg.current with
  | none => false
  | some i => s.blg.sets[i].loaded

/-- R99: the ship check passes. -/
def shipReady (s : State) (b : Berth) : Bool := shipCurrent s b && (s.bsq.ships[b]).any fun r => r.ready

/-- R99 step 4. -/
def prepareRecord (b : Berth) (deadShip : Bool) (s : State) : State :=
  s.modBerth b fun r =>
    { r with
      deadShip := deadShip
      energised := false
      holdEnd := none
      holdFrom := s.now
      holdAcc := 0
      holdMark := false
      rampDone := false
      capacityCond := false
      lastLimit := 0
      reason := none }

/-- R99: an accepted connection. -/
def acceptConnect (b : Berth) (deadShip : Bool) (s : State) : State :=
  enterState b .allocating (prepareRecord b deadShip (createRef b (allocate b (reserveSlot b s))))

/-- R99: CONNECT and CONNECT_DEAD_SHIP. -/
def connectCmd (b : Berth) (deadShip : Bool) (s : State) : Result × State :=
  if (s.berth b).state ≠ .dead ∨ s.pins.estop then (.busy, s)
  else if !s.pins.pilot[b] then (.pilotOpen, s)
  else if !shipReady s b then (.notReady, s)
  else if !tariffLoaded s then (.noTariff, s.post (.raise evTariffNotSet))
  else
    let s1 := evalLogFull s
    if !s.blg.slotCheck then (.noSlot, s1)
    else if !capacityCheck s b then (.noCapacity, s1)
    else (.done, acceptConnect b deadShip s1)

/-- R101: the berth leaves ENERGISING once its bus is formed and every listed module is ONLINE. -/
def energisedTest (b : Berth) (s : State) : State :=
  let r := s.berth b
  if r.state = .energising ∧ r.energised ∧ 0 < r.summary.listed ∧ r.summary.allOnline then
    if r.deadShip then enterState b .deadClose (requestDeadBus (outlet b) b .bsq s)
    else enterState b .syncing (requestSync (outlet b) b .bsq s)
  else s

/-- R61, R101: RFG's completion of soft energise. -/
def energisedTaken (b : Berth) (s : State) : State :=
  if (s.berth b).state = .energising then energisedTest b (s.modBerth b fun r => { r with energised := true })
  else s

/-- R103: the berth has lost its source before the close. -/
def loseSource (b : Berth) (s : State) : State :=
  enterReleasing b ((cancelSync (outlet b) s).post (.raise (evCapacityLimit b)))

/-- R100, R101, R103, R120: BSQ acts on a summary. -/
def actOnSummary (b : Berth) (s : State) : State :=
  let r := s.berth b
  match r.state with
  | .allocating => if 0 < r.summary.online then energisedTest b (enterState b .energising s) else s
  | .energising => if r.summary.online = 0 then loseSource b s else energisedTest b s
  | .syncing | .deadClose => if r.summary.online = 0 then loseSource b s else s
  | .rampUp | .shore | .awaitGenerators | .rampDown =>
    if r.summary.online = 0 then tripBerth b .noSource s else s
  | .unused | .dead | .opening | .releasing | .tripped => s

/-- R53: MPM hands BSQ the berth's summary when it has changed. -/
def summaryTaken (b : Berth) (s : State) : State :=
  if summaryOf s b = (s.berth b).summary then s
  else actOnSummary b (s.modBerth b fun r => { r with summary := summaryOf s b })

/-- R100: a first-module failure. -/
def firstFailureTaken (b : Berth) (s : State) : State :=
  if (s.berth b).state = .allocating then enterReleasing b (s.post (.raise (evCapacityLimit b))) else s

/-- R102: SYU's result for the outlet request. -/
def outletResultTaken (b : Berth) (r : SyncResult) (s : State) : State :=
  if (s.berth b).state = .syncing then
    match r with
    | .success => enterRampUp b (openSession b s)
    | .failedWait | .failedAttempts => enterReleasing b s
    | .cancelled => s
  else s

/-- R102: SYU's outcome for the dead-bus close of the outlet. -/
def outletOutcomeTaken (b : Berth) (o : DeadOutcome) (s : State) : State :=
  if (s.berth b).state = .deadClose then
    match o with
    | .confirmed => enterState b .shore (openSession b s)
    | .refused | .notConfirmed => enterReleasing b (s.post (.raise (evSyncFail b)))
  else s

/-! ### The ramps (R104, R106, R110, R111) -/

/-- The step of P_set per ramp period, kW (R95). -/
def rampStep (s : State) (b : Berth) : Nat := (s.entry b).rampRate / 50

/-- R104: the berth's ramp target. -/
def targetOf (s : State) (b : Berth) : Nat :=
  rampTarget (shipLoad s b) (s.entry b).contract (s.berth b).summary.capacity

/-- R104: P_set after a ramp period in RAMP_UP. -/
def rampUpMove (s : State) (b : Berth) : Nat :=
  if (s.berth b).held then min (pSetOf s b) (targetOf s b)
  else min (pSetOf s b + rampStep s b) (targetOf s b)

/-- R104: the RAMP_DONE notice is given once P_set equals the ship load. -/
def rampDoneTest (b : Berth) (s : State) : State :=
  if pSetOf s b = shipLoad s b ∧ !(s.berth b).rampDone then
    giveShpn (s.entry b).gateway (.rampDone b) (s.modBerth b fun r => { r with rampDone := true })
  else s

/-- R106: the capacity condition is judged. -/
def capacityTest (b : Berth) (s : State) : State :=
  let t := targetOf s b
  if t < shipLoad s b ∧ pSetOf s b = t then
    let s1 := s.post (.raise (evCapacityLimit b))
    if (s.berth b).capacityCond ∧ (s.berth b).lastLimit = t then s1
    else
      giveShpn (s.entry b).gateway (.limit b t)
        (s1.modBerth b fun r => { r with capacityCond := true, lastLimit := t })
  else s.modBerth b fun r => { r with capacityCond := false }

/-- R111: P_set after a ramp period in RAMP_DOWN. -/
def rampDownMove (s : State) (b : Berth) : Nat :=
  min (if (s.berth b).held then pSetOf s b else pSetOf s b - rampStep s b) (s.berth b).summary.capacity

/-- The confirm margin of the outlet plus 100 ms (R111, R112). -/
def openWindow (s : State) (b : Berth) : Nat := (s.breaker (outlet b)).margin + 100

/-- R111, R112: the opening timer starts and the instant of the command is noted. -/
def startOpening (b : Berth) (s : State) : State :=
  s.modBerth b fun r => { r with openDue := some (s.now + openWindow s b), openNoted := s.now }

/-- R111: the ship side is at or below the open threshold. -/
def belowThreshold (s : State) (b : Berth) : Bool :=
  (s.point (shPoint b)).state ≠ .stale &&
    (kilowatts (s.point (shPoint b)).pCal).natAbs ≤ (s.entry b).openThreshold

/-- R111: the outlet is opened when the ramp has come down. -/
def openTest (b : Berth) (s : State) : State :=
  if pSetOf s b = 0 ∧ !(s.berth b).held ∧ belowThreshold s b then
    enterState b .opening (stopRamp b (startOpening b (command .openCmd (outlet b) s)))
  else s

/-- R104, R111: a ramp period. -/
def rampPeriodTaken (b : Berth) (s : State) : State :=
  match (s.berth b).rampDue with
  | none => s
  | some due =>
    let s := (s.advanceTo due).modBerth b fun r => { r with rampDue := some (due + Config.rampPeriodMs) }
    match (s.berth b).state with
    | .rampUp => capacityTest b (rampDoneTest b (setPSet b (rampUpMove s b) s))
    | .rampDown => openTest b (setPSet b (rampDownMove s b) s)
    | _ => s

/-- R107: the ramp timeout expires. -/
def rampTimeoutTaken (b : Berth) (s : State) : State :=
  match (s.berth b).rampTimer with
  | .running due =>
    ((s.advanceTo due).modBerth b fun r => { r with rampTimer := .stopped }).post (.raise (evRampTimeout b))
  | _ => s

/-- R105: the ship hold's end instant is reached. -/
def shipHoldEndTaken (b : Berth) (s : State) : State :=
  match (s.berth b).holdEnd with
  | none => s
  | some due => setShipHold b none (s.advanceTo due)

/-- R105: the instant at which the accumulated ship hold time reaches the hold limit. -/
def holdLimitDue (s : State) (b : Berth) : Nat := (s.berth b).holdFrom + (holdLimitMs s b - (s.berth b).holdAcc)

/-- R105: the accumulated ship hold time runs toward the hold limit, or has reached it without the limit having been
taken: a ship hold that ended at that very instant, by its end or by a HOLD of no quanta, leaves the limit due. -/
def holdLimitPending (s : State) (b : Berth) : Bool :=
  (s.berth b).holdEnd.isSome ||
    ((s.berth b).state.ramping && !(s.berth b).holdMark && decide (holdLimitMs s b ≤ (s.berth b).holdAcc))

/-- R105: the accumulated ship hold time reaches the hold limit. -/
def holdLimitTaken (b : Berth) (s : State) : State :=
  if holdLimitPending s b then
    ((setShipHold b none (s.advanceTo (holdLimitDue s b))).modBerth b fun r =>
      { r with holdMark := true }).post (.raise (evHoldLimit b))
  else s

/-- R109: the generator wait timer expires. -/
def generatorWaitTaken (b : Berth) (s : State) : State :=
  match (s.berth b).genDue with
  | none => s
  | some due =>
    ((s.advanceTo due).modBerth b fun r => { r with genDue := none }).post (.raise (evRampTimeout b))

/-- R112: the opening timer expires. -/
def openingTaken (b : Berth) (s : State) : State :=
  match (s.berth b).openDue with
  | none => s
  | some due =>
    let s1 := (s.advanceTo due).post (.raise (evBreakerNoConfirm b))
    let s2 := driveOutputs (s1.modBerth b fun r => { r with demand := true, fromOpening := true })
    startOpening b (command .trip (outlet b) s2)

/-! ### Ship messages (R96, R97, R105, R108, R110) -/

/-- R105: a HOLD message. -/
def holdTaken (b : Berth) (quanta : Nat) (s : State) : State :=
  if !(s.berth b).state.ramping || (s.berth b).holdMark then s
  else if quanta = 0 then setShipHold b none s
  else setShipHold b (some (s.now + quanta * 100)) s

/-- R108: GEN_OFF. -/
def genOffTaken (b : Berth) (s : State) : State :=
  if (s.berth b).state = .rampUp then enterState b .shore (stopRamp b s) else s

/-- R110: P_set at GEN_ON. -/
def genOnPSet (s : State) (b : Berth) : Nat :=
  let p := s.point (shPoint b)
  let limit := min (s.entry b).contract (s.berth b).summary.capacity
  if p.state = .stale then min (match s.berthRef b with | none => 0 | some r => r.pB) limit
  else clampInt 0 limit (kilowatts p.pCal)

/-- R110: GEN_ON. -/
def genOnTaken (b : Berth) (s : State) : State :=
  if (s.berth b).state = .awaitGenerators then
    enterRampDown b (setPSet b (genOnPSet s b) (s.modBerth b fun r => { r with genDue := none }))
  else s

/-- R96, R97: a ship message for berth `b`. -/
def shipMessage (b : Berth) (m : ShipMsg) (s : State) : State :=
  match m with
  | .state ready deadBus gens load ident => s.setShip b (some ⟨ready, deadBus, gens, load, ident, s.now⟩)
  | .hold q => holdTaken b q s
  | .genOff => genOffTaken b s
  | .genOn => genOnTaken b s
  | .shedAck kw => s.modBerth b fun r => { r with shedAck := kw }

/-- R7, R96: the configured berth whose ship gateway is the node. -/
def gatewayBerth (s : State) (src : Nat) : Option Berth :=
  allBerths.find? fun b => (s.entry b).configured && (s.entry b).gateway = src

/-! ### Departure, abort, trips and their commands (R109, R114, R116, R121) -/

/-- R109: DEPART. -/
def departCmd (b : Berth) (s : State) : Result × State :=
  if (s.berth b).state = .shore then
    (.done, enterState b .awaitGenerators
      (s.modBerth b fun r => { r with genDue := some (s.now + (s.entry b).genWait * 1000) }))
  else (.busy, s)

/-- R114: ABORT. -/
def abortCmd (b : Berth) (s : State) : Result × State :=
  match (s.berth b).state with
  | .allocating | .energising | .syncing | .deadClose => (.done, enterReleasing b s)
  | .rampUp => (.done, enterRampDown b s)
  | .unused | .dead | .shore | .awaitGenerators | .rampDown | .opening | .releasing | .tripped => (.busy, s)

/-- R116: TRIP. -/
def tripCmd (b : Berth) (s : State) : Result × State :=
  match (s.berth b).state with
  | .unused | .dead => (.busy, s)
  | _ => (.done, tripBerth b .operator s)

/-- R121: RESET_TRIP is taken. -/
def resetTripAllowed (s : State) (b : Berth) : Bool :=
  (s.berth b).state = .tripped && (s.breaker (outlet b)).lastPosition = some .openPos && !s.pins.estop &&
    (s.list b).isEmpty

/-- R121: RESET_TRIP. -/
def resetTripCmd (b : Berth) (s : State) : Result × State :=
  if resetTripAllowed s b then
    (.done, enterState b .dead (driveOutputs (clearCall b
      (s.modBerth b fun r => { r with demand := false, fromOpening := false, reason := none }))))
  else (.busy, s)

/-! ### Breaker status at BSQ (R112, R118) -/

/-- R112, R118: BSQ takes a reported position of the berth's outlet. -/
def outletPosition (b : Berth) (p : Position) (s : State) : State :=
  if p ≠ .openPos then s
  else if (s.berth b).state = .opening then
    if (s.berth b).openNoted < s.now then
      enterReleasing b (closeSession b .normal (s.modBerth b fun r => { r with openDue := none }))
    else s
  else if (s.berth b).state.carrying then (tripBerth b .externalOpen s).post (.raise (evBreakerExtOpen b))
  else s

/-! ### Hardwired inputs (R91, R117, R122) -/

/-- R117: a pilot-loop input changes. -/
def pilotChange (b : Berth) (asserted : Bool) (s : State) : State :=
  if s.pins.pilot[b] = asserted then s
  else
    let s1 := s.modPins fun p => { p with pilot := upd p.pilot b fun _ => asserted }
    if !asserted && (s.berth b).state.active then (tripBerth b .pilot s1).post (.raise (evPilotLoss b)) else s1

/-- R91, R122: SYU and BSQ take the assertion of the emergency-stop input. -/
def estopTaken (s : State) : State :=
  let s1 := driveOutputs (s.modPins fun p => { p with estop := true })
  ((allBerths.foldl (fun s b => tripBerth b .estop s) (syuEstop s1)).post (.raise evEstop)).modBsq
    fun q => { q with estopRepeat := some (s.now + Config.estopRepeatMs) }

/-- R122: the emergency-stop input becomes asserted. -/
def estopAsserted (s : State) : State := if s.pins.estop then s else estopTaken s

/-- R122: the emergency-stop input is released. -/
def estopReleased (s : State) : State :=
  driveOutputs ((s.modPins fun p => { p with estop := false }).modBsq fun q => { q with estopRepeat := none })

/-- R122: the emergency-stop repeat timer expires. -/
def estopRepeatTaken (s : State) : State :=
  match s.bsq.estopRepeat with
  | none => s
  | some due =>
    ((s.advanceTo due).modBsq fun q => { q with estopRepeat := some (due + Config.estopRepeatMs) }).post
      (.raise evEstop)

end Sys2Proof.Machine
end

