-- ==== Sys2Proof/Machine/Evr.lean ====
section
/-! DEFINITION. The Event Router (chapter 9): raises, notices, event holds, actions, enabling and clearing. -/

namespace Sys2Proof.Machine

/-- The event table entry `e`. -/
def State.event (s : State) (e : EventIx) : EventEntry := s.evr.entries[e]

/-! ### Notices (R160) -/

/-- The ship gateway of a berth, if the berth is configured. -/
def gatewayOf (s : State) (b : Berth) : List Nat := if (s.entry b).configured then [(s.entry b).gateway] else []

/-- R160: the ship gateways an entry's notices go to. -/
def shipDests (s : State) (e : EventIx) : List Nat :=
  match eventFamily e with
  | .berth b _ => gatewayOf s b
  | .module m _ =>
    match s.berthOfModule m with
    | none => []
    | some b => gatewayOf s b
  | .single => (allBerths.map (gatewayOf s)).flatten

/-- R160: the destinations an entry's flags select, in order. -/
def noteDests (s : State) (e : EventIx) : List Nat :=
  (if (s.event e).notifyOperator then [s.mgu.opn.toNat] else []) ++
    (if (s.event e).notifyBilling then [s.mgu.bln.toNat] else []) ++
    (if (s.event e).notifyShip then shipDests s e else [])

/-- R160: a destination that receives notices. -/
def destOk (s : State) (n : Nat) : Bool := n ≠ 0 && n ≠ 63 && s.own ≠ some n

/-- R160: the notice of an entry to a destination. -/
def noteFrame (s : State) (e : EventIx) (dest : Nat) : ReplyFrame :=
  .note dest e (s.event e).count ((s.event e).clock.getD (0, 0)).1 ((s.event e).clock.getD (0, 0)).2

/-- R160: the entry's notices are given. -/
def giveNotes (e : EventIx) (s : State) : State :=
  ((noteDests s e).filter (destOk s)).foldl (fun s d => giveNote (noteFrame s e d) s) s

/-! ### Event holds (R162) -/

/-- R162: entry `e` holds berth `b`. -/
def holdsBerth (x : EventEntry) (e : EventIx) (b : Berth) : Bool :=
  x.enabled && x.raw &&
    match x.action, eventFamily e with
    | .hold, .berth c _ => c = b
    | .holdAll, _ => true
    | _, _ => false

/-- R162: the event hold of berth `b` by the table. -/
def eventHold (t : Vector EventEntry 100) (b : Berth) : Bool :=
  (List.finRange 100).any fun e => holdsBerth t[e] e b

/-- R162: the flag of one berth is recomputed, and handed to BSQ when it has changed. -/
def recomputeHold (b : Berth) (s : State) : State :=
  let v := eventHold s.evr.entries b
  if s.evr.holds[b] = v then s
  else setEventHold b v (s.modEvr fun r => { r with holds := upd r.holds b fun _ => v })

/-- R162: the four flags are recomputed, in berth order. -/
def recomputeHolds (s : State) : State := allBerths.foldl (fun s b => recomputeHold b s) s

/-! ### Actions and raises (R159, R163 to R165) -/

/-- R164: a trip action for one berth. -/
def tripEvent (b : Berth) (s : State) : State := tripBerth b .event s

/-- R163 to R165: the entry's action, when it is one that acts once. -/
def applyAction (e : EventIx) (s : State) : State :=
  match (s.event e).action, eventFamily e with
  | .shed, .berth b _ => shedAction b s
  | .tripBerth, .berth b _ => tripEvent b s
  | .tripBerth, .module m _ =>
    match s.berthOfModule m with
    | none => s
    | some b => tripEvent b s
  | .tripAll, _ => allBerths.foldl (fun s b => tripEvent b s) s
  | .blockModule, .module m _ => blockModule m s
  | _, _ => s

/-- R159: EVR takes a raise of entry `e`. -/
def raiseEntry (e : EventIx) (s : State) : State :=
  if (s.event e).raw then s.modEntry e fun x => { x with count := satAdd 255 x.count 1 }
  else
    let s1 := s.modEntry e fun x => { x with raw := true, count := 0, clock := some s.clock }
    if (s.event e).enabled then applyAction e (recomputeHolds (giveNotes e s1)) else s1

/-! ### Enabling, clearing and testing (R161, R166, R167) -/

/-- R161: EVENT_ENABLE. -/
def enableEntry (e : EventIx) (s : State) : State :=
  if (s.event e).enabled then s
  else
    let s1 := s.modEntry e fun x => { x with enabled := true }
    if (s.event e).raw then recomputeHolds (giveNotes e s1) else s1

/-- R161: EVENT_DISABLE. -/
def disableEntry (e : EventIx) (s : State) : State :=
  recomputeHolds (s.modEntry e fun x => { x with enabled := false })

/-- R166: the owner's condition flag of a level event; false for an edge event. -/
def conditionHolds (s : State) (e : EventIx) : Bool :=
  match eventFamily e with
  | .berth b k =>
    match k.val with
    | 0 => (staleCond s b .ship).isSome
    | 1 => (staleCond s b .converter).isSome
    | 6 => (s.berthRef b).any fun r => r.overload && r.overloadDue.isNone
    | 11 => (s.berth b).capacityCond
    | 12 => (s.point (shPoint b)).vOut
    | 13 => (s.point (shPoint b)).fOut
    | _ => false
  | .module m k => k.val = 2 && (s.modu m).derateCond
  | .single =>
    match e.val with
    | 88 => s.lpu.lossIndicator
    | 92 => (s.point gridPoint).vOut
    | 93 => (s.point gridPoint).fOut
    | 94 => s.blg.logFull
    | 97 => s.mlk.exhausted
    | 99 => s.pins.estop
    | _ => false

/-- R166: EVENT_CLEAR. -/
def clearEntry (e : EventIx) (s : State) : State :=
  let s1 := recomputeHolds (s.modEntry e fun x => { x with raw := false, count := 0, clock := none })
  if conditionHolds s1 e then raiseEntry e s1 else s1

end Sys2Proof.Machine
end

