-- ==== Sys2Proof/Machine/Handoff.lean ====
section
/-! DEFINITION. Settling a command: what blocks have handed each other is taken in the order in which it was
handed, each hand-off as one event of the block it is for (R159, section "Time"). -/

namespace Sys2Proof.Machine

/-- The block a hand-off is for takes it. -/
def takeHandoff (h : Handoff) (s : State) : State :=
  match h with
  | .raise e => raiseEntry e s
  | .summary b => summaryTaken b s
  | .firstFailure b => firstFailureTaken b s
  | .listEmpty b => listEmptyTaken b s
  | .outletResult b r => outletResultTaken b r s
  | .outletOutcome b o => outletOutcomeTaken b o s
  | .contactorResult m r => contactorResult m r s
  | .contactorOutcome m b o => contactorOutcome m b o s
  | .energised b => energisedTaken b s
  | .pollSkipped m n => pollSkippedTaken m n s
  | .serveChannels => serveChannelsTaken s

/-- The hand-offs are taken, oldest first, at most `n` of them. -/
def drain : Nat → State → State
  | 0, s => s
  | n + 1, s =>
    match s.handoffs with
    | [] => s
    | h :: t => drain n (takeHandoff h { s with handoffs := t })

/-- Every hand-off of a command is taken; what `Config.settleFuel` of them leave over is counted and dropped. -/
def settle (s : State) : State :=
  let s1 := drain Config.settleFuel s
  { s1 with overrun := s1.overrun + s1.handoffs.length, handoffs := [] }

/-- The work `g` of one block and everything it leads to at the others. -/
def whole (g : State → State) (s : State) : State := settle (g { s with handoffs := [] })

/-- A command's outcome: its work done whole. -/
def done (g : State → State) (s : State) : Host.Outcome State Fault Refusal := .next (whole g s)

end Sys2Proof.Machine
end

