-- ==== Sys2Proof/Machine/Bsta.lean ====
section
/-! DEFINITION. A breaker status frame at SYU, MPM and BSQ (R72, R84, R85, R87, R89, R45, R112, R118). -/

namespace Sys2Proof.Machine

/-- R72 steps 2 and 3: the position is recorded, and OPEN clears the close-held mark. -/
def recordPosition (t : Target) (p : Position) (s : State) : State :=
  let s1 := s.modBreaker t fun e => { e with lastPosition := some p }
  if p = .openPos then s1.setCloseHeld t false else s1

/-- The channel in CLOSING for the target. -/
def closingChannel (s : State) (t : Target) : Option (Chan × ChanWork) :=
  allChans.findSome? fun c =>
    match s.syu.chans[c] with
    | none => none
    | some w => if w.req.target = t ∧ w.phase = .closing then some (c, w) else none

/-- R89: a report for a pending dead-bus close. -/
def deadCloseReport (d : DeadClose) (p : Position) (s : State) : State :=
  match p with
  | .closed => giveOutcome d.target d.berth .confirmed (dropDeadClose d.target (measureClose d.target d.commandTime s))
  | .fault => deadCloseFailed d s
  | .openPos | .moving => s

/-- R84, R85: a report for the target of a channel in CLOSING. -/
def closingReport (c : Chan) (w : ChanWork) (p : Position) (s : State) : State :=
  match p with
  | .closed => confirmEnd c w.req (measureClose w.req.target (w.commandTime.getD s.now) s)
  | .fault => closeFailed c s
  | .openPos | .moving => s

/-- R87: an uncommanded closure fails the attempt of a channel in ADJUSTING or WATCHING. -/
def failUncommanded (t : Target) (c : Chan) (s : State) : State :=
  match s.syu.chans[c] with
  | none => s
  | some w => if w.req.target = t ∧ (w.phase = .adjusting ∨ w.phase = .watching) then failAttempt c s else s

/-- R87: an uncommanded closure. -/
def uncommandedClosure (t : Target) (s : State) : State :=
  failUncommanded t 1 (failUncommanded t 0 (command .openCmd t (s.post (.raise (evUncommanded t)))))

/-- R72 step 4: the frame's effect on SYU's own work, given the previous position. -/
def ownReport (t : Target) (p : Position) (prev : Option Position) (s : State) : State :=
  match s.syu.deadBus.find? (fun d => d.target = t), closingChannel s t with
  | some d, _ => deadCloseReport d p s
  | none, some (c, w) => closingReport c w p s
  | none, none =>
    if p = .closed ∧ !s.syu.closeHeld[t] ∧ prev ≠ some .closed then uncommandedClosure t s else s

/-- R72: the LPU hands SYU and BSQ a BSTA. -/
def bstaTaken (t : Target) (p : Position) (s : State) : State :=
  let s1 := ownReport t p (s.breaker t).lastPosition (recordPosition t p s)
  match targetKind t with
  | .inl b => outletPosition b p s1
  | .inr m => contactorPosition m p s1

end Sys2Proof.Machine
end

