-- ==== Sys2Proof/Machine/Measure.lean ====
section
/-! DEFINITION. MEAS frames (sections 2.2 to 2.5 and 2.7): matching, the sequence check, the point update and the
readers of a valid record. -/

namespace Sys2Proof.Machine

/-- R21: an accepted record's sequence enters its point. -/
def acceptSeq (seq missed : Nat) (r : PointRec) : PointRec :=
  { r with lastSeq := some seq, missed := satAdd 65535 r.missed missed }

/-- R23, R24: an accepted valid record's values enter its point. -/
def storeValues (x : MeasRecord) (gain now : Nat) (r : PointRec) : PointRec :=
  { r with
    state := .fresh
    neverReceived := false
    timestamp := x.timestamp
    voltage := x.voltage
    angle := x.angle
    freq := x.freq
    pCal := calibrate x.p gain
    qCal := calibrate x.q gain
    arrival := now }

/-- Sections 2.5, R27, R28: a band check of point `p`: its flags are set and the events of outside values raised. -/
def bandCheck (p : Point) (vOut fOut : Bool) (evV evF : EventIx) (s : State) : State :=
  let s1 := s.modPoint p fun r => { r with vOut := vOut, fOut := fOut }
  let s2 := if vOut then s1.post (.raise evV) else s1
  if fOut then s2.post (.raise evF) else s2

/-- R27, R28: the band check a record of `p` calls for. -/
def bandChecks (p : Point) (s : State) : State :=
  let r := s.point p
  if p = gridPoint then
    let g := s.scl.grid
    bandCheck p (voltageOutside r.voltage g.nominalV g.vBand) (freqOutside r.freq g.nominalF g.fBand)
      evGridVoltageBand evGridFreqBand s
  else
    match pointSide p with
    | some (b, .ship) =>
      if (s.berth b).state = .shore then
        let t := s.entry b
        bandCheck p (voltageOutside r.voltage t.nominalV t.vBand) (freqOutside r.freq t.nominalF t.fBand)
          (evVoltageBand b) (evFreqBand b) s
      else s
    | _ => s

/-- R30: the record is handed to MTR when its point is a revenue point. -/
def meterHandOff (p : Point) (nominal : Nat) (wasStale : Bool) (s : State) : State :=
  match pointSide p with
  | some (b, .ship) => meterRecord b ⟨(s.point p).pCal, (s.point p).timestamp, nominal, wasStale⟩ s
  | _ => s

/-- R23, R30: an accepted valid record of `p`, whose stream entry is `e`. -/
def validRecord (p : Point) (e : StreamEntry) (x : MeasRecord) (s : State) : State :=
  let wasStale : Bool := (s.point p).state = .stale
  let s1 := staleEnds p (s.modPoint p (storeValues x s.scl.gains[p] s.now))
  bandChecks p (meterHandOff p e.interval wasStale (syuRecord p s1))

/-- R21, R22: a matched record of `p`. -/
def matchedRecord (p : Point) (e : StreamEntry) (x : MeasRecord) (s : State) : State :=
  match seqCheck (s.point p).lastSeq x.seq with
  | .discard => s.modPoint p fun r => { r with discarded := count16 r.discarded }
  | .accept missed =>
    let s1 := s.modPoint p (acceptSeq x.seq missed)
    if x.valid then validRecord p e x s1 else s1

/-- R20: one record of a MEAS frame from `src`. -/
def takeRecord (src : Nat) (x : MeasRecord) (s : State) : State :=
  match matchEntry s.scl.streams src x.channel with
  | none => s.modScl fun c => { c with unmatched := count1 c.unmatched }
  | some e =>
    match pointOf? e.point with
    | none => s
    | some p => matchedRecord p e x s

/-- R20: SCL takes a MEAS frame as one event, its records in order. -/
def measTaken (src : Nat) (payload : List Byte) (s : State) : State :=
  (measRecords (byteAt payload 0) (payload.drop 1)).foldl (fun s x => takeRecord src x s) s

end Sys2Proof.Machine
end

