-- ==== Sys2Proof/Machine/Views.lean ====
section
/-! DEFINITION. What management replies carry: table entries, the session record and the nine status views, each
as its fields by R15. -/

namespace Sys2Proof.Machine

/-- An optional group of fields of `k` bytes in all: presence byte, then the fields, all zero when absent. -/
def encGroup {α : Type} (k : Nat) (f : α → List Byte) : Option α → List Byte
  | none => be 1 0 ++ be k 0
  | some x => be 1 1 ++ f x

/-! ### Table entries (R18, R24, R28, R33, R56, R71, R73, R95, R137, R141, R143, R158) -/

/-- R18. -/
def encStream (e : StreamEntry) : List Byte :=
  encFlag e.valid ++ be 1 e.node ++ be 1 e.channel ++ be 1 e.point ++ be 2 e.interval ++ be 4 e.staleLimit

/-- R28. -/
def encGrid (g : GridSettings) : List Byte := be 2 g.nominalF ++ be 2 g.nominalV ++ be 1 g.vBand ++ be 2 g.fBand

/-- R33: entry `i`. -/
def encModuleEntry (i : Nat) (e : ModuleEntry) : List Byte :=
  encFlag e.installed ++ be 2 e.rating ++ be 1 e.node ++ be 1 (4 + i) ++ be 1 e.startLimit ++ be 1 e.stopLimit

/-- R56. -/
def encRefSettings (r : RefSettings) : List Byte :=
  be 1 r.fLimit ++ be 1 r.vLimit ++ be 1 r.softFraction ++ be 1 r.softIncrement ++ be 2 r.shedMargin

/-- R71. -/
def encBreaker (e : BreakerEntry) : List Byte :=
  be 1 e.node ++ be 2 e.tc ++ be 2 e.margin ++ encFlag e.learn ++ encOpt 2 e.lastMeasured ++
    encOpt 1 (e.lastPosition.map Position.code)

/-- R73. -/
def encProfile (p : Profile) : List Byte :=
  be 2 p.vWindow ++ beInt 2 p.slipLow ++ beInt 2 p.slipHigh ++ beInt 2 p.slipTarget ++ be 2 p.angleWindow ++
    be 1 p.settleCount ++ be 1 p.watchLimit ++ be 1 p.attemptLimit ++ be 2 p.backoffBase ++ be 1 p.backoffCap ++
    be 2 p.waitLimit ++ be 1 p.deadThreshold

/-- R95. -/
def encBerthEntry (e : BerthEntry) : List Byte :=
  encFlag e.configured ++ be 2 e.nominalF ++ be 2 e.nominalV ++ be 2 e.contract ++ be 1 e.gateway ++
    be 2 e.rampRate ++ be 2 e.holdLimit ++ be 2 e.rampTimeout ++ be 2 e.genWait ++ be 2 e.openThreshold ++
    be 1 e.overloadTime ++ be 1 e.vBand ++ be 2 e.fBand ++ be 1 e.replacement

/-- R137: the enumeration of the demand interval. -/
def demandCode (d : Nat) : Nat :=
  if d = 300 then 0 else if d = 600 then 1 else if d = 900 then 2 else if d = 1800 then 3 else 4

/-- R137: the demand interval of an enumeration value. -/
def demandOf? : Nat → Option Nat
  | 0 => some 300
  | 1 => some 600
  | 2 => some 900
  | 3 => some 1800
  | 4 => some 3600
  | _ => none

/-- R141: a set with its bound count. -/
def encTariff (t : TariffSet) (bound : Nat) : List Byte :=
  encFlag t.loaded ++ encList (fun e => be 4 e.1 ++ be 1 e.2) t.schedule ++
    be 4 t.rates[0] ++ be 4 t.rates[1] ++ be 4 t.rates[2] ++ be 4 t.rates[3] ++ be 4 t.demandRate ++ be 1 bound

/-- R143: SET0 to SET3 and NONE. -/
def currentCode : Option (Fin 4) → Nat
  | none => 4
  | some i => i.val

/-- R158. -/
def encEvent (e : EventEntry) : List Byte :=
  encFlag e.enabled ++ encFlag e.notifyOperator ++ encFlag e.notifyBilling ++ encFlag e.notifyShip ++
    be 1 e.action.code ++ encFlag e.raw ++ be 1 e.count ++ encOptClock e.clock

/-- The entries of a bank from index `first`, `count` of them, each by `f` with its index. -/
def encRange {α : Type} {n : Nat} (f : Nat → α → List Byte) (v : Vector α n) (first count : Nat) : List Byte :=
  ((List.range count).map fun i =>
    match bankGet? v (first + i) with
    | none => []
    | some x => f (first + i) x).flatten

/-- R178: the addressed entries of a table, in index order. -/
def encTable (s : State) (t : Table) (first count : Nat) : List Byte :=
  match t with
  | .streams => encRange (fun _ e => encStream e) s.scl.streams first count
  | .gains => encRange (fun _ g => be 4 g) s.scl.gains first count
  | .grid => encGrid s.scl.grid
  | .modules => encRange encModuleEntry s.mpm.table first count
  | .reference => encRefSettings s.rfg.settings
  | .breakers => encRange (fun _ e => encBreaker e) s.syu.breakers first count
  | .profiles => encRange (fun _ p => encProfile p) s.syu.profiles first count
  | .berths => encRange (fun _ e => encBerthEntry e) s.bsq.table first count
  | .metering => be 4 s.mtr.gapLimit ++ be 1 (demandCode s.mtr.demandS)
  | .tariffs =>
    encRange (fun i t => encTariff t (match (berthOf? i) with | none => 0 | some k => s.blg.bound k)) s.blg.sets
      first count
  | .current => be 1 (currentCode s.blg.current)
  | .events => encRange (fun _ e => encEvent e) s.evr.entries first count

/-! ### The session record (R147) -/

/-- The bytes of a session record. -/
abbrev sessionBytes : Nat := 113

/-- R147. -/
def encSession (r : Session) : List Byte :=
  encOpt 4 r.number ++ be 1 r.berth.val ++ encIdent r.ident ++ be 1 r.set.val ++
    be 2 r.startClock.1 ++ be 4 r.startClock.2 ++ encOptClock r.endClock ++ encOpt 1 (r.reason.map EndReason.code) ++
    be 8 r.bands[0] ++ be 8 r.bands[1] ++ be 8 r.bands[2] ++ be 8 r.bands[3] ++ be 8 r.importWh ++
    be 8 r.returnedWh ++ be 4 r.peak ++ be 4 r.unmeteredMs ++
    encOpt 8 r.energyCharge ++ encOpt 8 r.demandCharge ++ encOpt 8 r.totalCharge

/-! ### Views -/

/-- An age in ms, saturating at 65535. -/
def age16 (s : State) (since : Nat) : Nat := min (s.now - since) 65535

/-- What is left of a timer, absent when it does not run. -/
def leftOf (s : State) (due : Option Nat) : Option Nat := due.map s.left

/-- R31: one point. -/
def encPoint (s : State) (p : Point) : List Byte :=
  let r := s.point p
  be 1 p.val ++ be 1 r.state.code ++ encFlag r.neverReceived ++ encOpt 1 (entryOfPoint s.scl.streams p) ++
    encOpt 2 r.lastSeq ++ be 4 r.timestamp ++ be 2 r.voltage ++ be 2 r.angle ++ be 4 r.freq ++
    beInt 8 r.pCal ++ beInt 8 r.qCal ++ be 2 (if r.neverReceived then 65535 else age16 s r.arrival) ++
    be 2 r.missed ++ be 2 r.discarded ++ encFlag r.vOut ++ encFlag r.fOut

/-- R31: POINTS. -/
def viewPoints (s : State) : List Byte := (allPoints.map (encPoint s)).flatten ++ be 4 s.scl.unmatched

/-- R54: one module. -/
def encModule (s : State) (m : Module) : List Byte :=
  let r := s.modu m
  be 1 m.val ++ be 1 r.state.code ++ encOpt 1 ((s.berthOfModule m).map fun b => b.val) ++ encFlag r.first ++
    encFlag r.startIssued ++ encFlag r.deferred ++ encFlag r.blockPending ++ be 1 r.missCount ++
    encFlag r.answered ++ encOpt 1 (r.reported.map Reported.code) ++ encOpt 2 r.capacity ++
    encFlag r.derateFlag ++ encFlag r.derateCond ++ encOpt 2 (leftOf s (r.startDue <|> r.stopDue)) ++
    encFlag r.offSeen ++ encFlag r.openSeen

/-- R54: MODULES. -/
def viewModules (s : State) : List Byte :=
  (allModules.map (encModule s)).flatten ++
    (allBerths.map fun b => encList (fun m : Module => be 1 m.val) (s.list b)).flatten ++
    be 1 s.mpm.pollCounter ++ be 4 s.mpm.ignored

/-- R123 item 8: a ship record. -/
def encShip (s : State) (r : ShipRec) : List Byte :=
  encFlag r.ready ++ encFlag r.deadBus ++ be 1 r.generators ++ be 2 r.load ++ encIdent r.ident ++
    be 2 (age16 s r.received)

/-- What is left of the ramp timeout, present while its timer runs or is paused. -/
def rampLeft (s : State) : PauseTimer → Option Nat
  | .stopped => none
  | .running due => some (s.left due)
  | .paused k => some k

/-- R123: BSQ's fields of one berth. -/
def encBerth (s : State) (b : Berth) : List Byte :=
  let r := s.berth b
  be 1 b.val ++ be 1 r.state.code ++ encFlag s.pins.pilot[b] ++ encFlag r.demand ++ encFlag r.fromOpening ++
    encFlag s.evr.outputs[b] ++ encOpt 1 (r.reason.map TripReason.code) ++ encFlag r.deadShip ++
    encFlag r.energised ++ encGroup 15 (encShip s) s.bsq.ships[b] ++ be 2 r.shedAck ++
    encOpt 4 (leftOf s r.holdEnd) ++ encFlag r.eventHold ++ be 4 (heldTime s b) ++ encFlag r.holdMark ++
    encOpt 4 (rampLeft s r.rampTimer) ++ encOpt 4 (leftOf s r.genDue) ++ encOpt 2 (leftOf s r.openDue) ++
    encFlag r.capacityCond ++ encFlag r.rampDone ++ be 2 r.lastLimit ++
    be 1 r.summary.listed ++ be 1 r.summary.online ++ encFlag r.summary.allOnline ++ be 2 r.summary.capacity

/-- A frequency and a voltage. -/
def encPair (p : Nat × Nat) : List Byte := be 4 p.1 ++ be 2 p.2

/-- R69 item 11: one module of a berth's list. -/
def encListed (s : State) (m : Module) : List Byte :=
  let r := s.rfg.modules[m]
  be 1 m.val ++ encFlag r.startSent ++ encGroup 6 encPair r.own ++
    encGroup 7 (fun x : Nat × Nat × SetpMode => be 4 x.1 ++ be 2 x.2.1 ++ be 1 x.2.2.code) r.lastSent ++
    encGroup 11 (fun x : BuiltSetp => be 1 x.mode.code ++ be 4 x.f ++ be 2 x.v ++ be 2 x.pRef ++ be 2 x.pLimit) r.built

/-- R69: items 2 to 10 of a berth reference record. -/
def encBerthRef (s : State) (r : BerthRef) : List Byte :=
  encFlag r.follow ++ be 4 r.fRef ++ be 2 r.vRef ++ be 1 r.progress.code ++ encFlag r.pair.isSome ++
    encGroup 6 encPair r.pair ++ be 2 r.pSet ++ be 2 r.pB ++ encFlag r.overload ++
    encOpt 2 (leftOf s r.overloadDue) ++ be 2 r.lastShed

/-- R69: the RFG items of one berth. -/
def encBerthRfg (s : State) (b : Berth) : List Byte :=
  encGroup 26 (encBerthRef s) (s.berthRef b) ++ encList (encListed s) (s.list b)

/-- R123, R69: BERTHS. -/
def viewBerths (s : State) : List Byte :=
  (allBerths.map fun b => encBerth s b ++ encBerthRfg s b).flatten ++ be 2 s.rfg.periodCounter ++ encFlag s.pins.estop

/-- R93 item 2: a queued request. -/
def encQueued (s : State) (r : SyncReq) : List Byte :=
  be 1 r.target.val ++ be 1 r.berth.val ++ be 1 r.requester.code ++ be 1 (profileIx r.target).val ++
    be 1 r.refPoint.val ++ be 1 r.matchPoint.val ++ be 4 (s.left r.waitDue)

/-- R93 item 3: the last evaluation. -/
def encEval : Option Evaluation → List Byte
  | none => encOptInt 2 none ++ encOptInt 8 none ++ encOptInt 2 none ++ encOptInt 2 none ++ encFlag false ++
      encFlag false ++ encFlag false
  | some e => encOptInt 2 e.phi ++ encOptInt 8 e.slip ++ encOptInt 2 e.delta ++ encOptInt 2 e.phiP ++ encFlag e.vOk ++
      encFlag e.sOk ++ encFlag e.aOk

/-- R93 item 3: the command time's age, present in CLOSING. -/
def commandAge (s : State) (w : ChanWork) : Option Nat :=
  if w.phase = .closing then w.commandTime.map fun t => s.now - t else none

/-- R93 item 3: a channel that holds a request. -/
def encChanWork (s : State) (w : ChanWork) : List Byte :=
  be 1 w.phase.code ++ encOpt 1 (some w.req.target.val) ++
    encGroup 2 (fun r : SyncReq => be 1 r.berth.val ++ be 1 r.requester.code) (some w.req) ++ be 1 w.k ++
    be 1 w.settle ++ encOpt 4 (leftOf s w.watchDue) ++ encOpt 2 (leftOf s w.confirmDue) ++
    encOpt 2 (leftOf s w.backoffDue) ++ encOpt 2 (commandAge s w) ++
    encGroup 10 (fun p : Int × Nat => beInt 8 p.1 ++ be 2 p.2) w.pair ++ encEval w.eval

/-- R93 item 3: an IDLE channel. -/
def encIdle : List Byte :=
  be 1 0 ++ encOpt 1 none ++ be 3 0 ++ be 1 0 ++ be 1 0 ++ encOpt 4 none ++ encOpt 2 none ++ encOpt 2 none ++
    encOpt 2 none ++ be 11 0 ++ encEval none

/-- R93 item 3. -/
def encChan (s : State) (c : Chan) : List Byte :=
  match s.syu.chans[c] with
  | none => encIdle
  | some w => encChanWork s w

/-- R93 item 4. -/
def encDeadClose (s : State) (d : DeadClose) : List Byte :=
  be 1 d.target.val ++ be 1 d.berth.val ++ be 1 d.requester.code ++ be 2 (s.left d.confirmDue)

/-- R93: SYNC. -/
def viewSync (s : State) : List Byte :=
  encFlag s.pins.estop ++ encList (encQueued s) s.syu.queue ++ encChan s 0 ++ encChan s 1 ++
    encList (encDeadClose s) s.syu.deadBus ++ (allTargets.map fun t => encFlag s.syu.closeHeld[t]).flatten

/-- R156: the code of a slot state. -/
def Slot.code : Slot → Nat
  | .free => 0
  | .reserved => 1
  | .openSlot _ => 2

/-- The open session record of a slot. -/
def Slot.session? : Slot → Option Session
  | .openSlot r => some r
  | _ => none

/-- R156: SESSIONS. -/
def viewSessions (s : State) : List Byte :=
  (allBerths.map fun b =>
    be 1 b.val ++ be 1 (s.slot b).code ++ encGroup sessionBytes encSession (s.slot b).session?).flatten ++
    be 1 (currentCode s.blg.current) ++ (allBerths.map fun i => be 1 (s.blg.bound i)).flatten ++
    be 1 s.blg.log.length ++ encOpt 4 (s.blg.log.head?.bind fun r => r.number) ++
    encOpt 4 (s.blg.log.getLast?.bind fun r => r.number) ++ be 8 s.blg.counter ++ encFlag s.blg.logFull

/-- R139: one berth. -/
def encMeter (s : State) (b : Berth) : List Byte :=
  let m := s.mtr.recs[b]
  let u := s.mtr.unbilled[b]
  be 1 b.val ++ be 8 u.importWh ++ be 8 u.returnedWh ++ be 8 u.unmeteredMs ++ encOpt 4 m.baseline ++
    encOpt 2 (m.lastArrival.map (age16 s)) ++ be 4 m.importResidue ++ be 4 m.returnedResidue ++
    be 2 m.unmeteredRem ++ encFlag (s.sessionOpen b) ++ be 8 m.demandAcc ++ be 2 m.gapCount ++
    be 2 m.backwardCount ++ be 2 m.restartCount

/-- R139: UNBILLED. -/
def viewUnbilled (s : State) : List Byte :=
  (allBerths.map (encMeter s)).flatten ++ be 2 s.mtr.day ++ be 4 s.mtr.second ++ be 2 s.mtr.demandS ++
    be 4 s.mtr.intervalStart ++ be 4 s.mtr.intervalEnd

/-- R190: LOCK. -/
def viewLock (s : State) : List Byte :=
  be 1 s.mlk.lock.code ++ encFlag s.mlk.strict ++ encFlag s.mlk.operatorCode.isSome ++
    encFlag s.mlk.metrologyCode.isSome ++ be 2 s.mlk.revision ++ encFlag s.mlk.frozen ++ be 1 s.mlk.attempts ++
    encFlag s.mlk.exhausted

/-- R16: LINK. -/
def viewLink (s : State) : List Byte :=
  let l := s.lpu
  let c := l.counters
  encFlag s.own.isNone ++ encFlag l.lossIndicator ++ be 1 l.forward.length ++ be 1 l.protect.length ++
    be 1 l.commandList.length ++ be 1 l.control.length ++ be 1 l.ordinary ++ be 1 l.reservations ++
    encFlag l.refusalTaken ++ be 4 c.good ++ be 4 c.rejected ++ be 4 c.overlong ++ be 4 c.stripped ++
    be 4 c.sourceIgnored ++ be 4 c.formDiscards ++ be 4 c.forwardDrops ++ be 4 c.promoted ++ be 4 c.pollSkipped ++
    be 4 c.shpnLost ++ be 4 c.noteLost ++ be 4 c.sent

/-- R179 item 1: the capture record. -/
def encCapture (c : Capture) : List Byte :=
  be 1 c.source ++ be 1 c.kind ++ be 1 c.table ++ be 1 c.first ++ be 1 c.count

/-- R179: CAPTURE. -/
def viewCapture (s : State) : List Byte :=
  encGroup 5 encCapture s.mgu.capture ++ be 1 s.mgu.queue.length ++ encFlag s.mgu.prepOperator ++
    encFlag s.mgu.prepBilling ++ be 4 s.mgu.dropped

/-- R179: the views by their codes. -/
def viewOf? (s : State) : Nat → Option (List Byte)
  | 1 => some (viewPoints s)
  | 2 => some (viewModules s)
  | 3 => some (viewBerths s)
  | 4 => some (viewSync s)
  | 5 => some (viewSessions s)
  | 6 => some (viewUnbilled s)
  | 7 => some (viewLock s)
  | 8 => some (viewLink s)
  | 9 => some (viewCapture s)
  | _ => none

end Sys2Proof.Machine
end

