-- ==== Sys2Proof/Machine/Tables.lean ====
section
/-! DEFINITION. Table writes (R177): for each of the twelve tables the entry a write carries, the state in which an
addressed entry may not be written, the checks of its values, and what a write that is taken does. -/

namespace Sys2Proof.Machine

/-! ### Checks -/

/-- A number within a range. -/
def within (lo hi n : Nat) : Bool := lo ≤ n && n ≤ hi

/-- A flag byte is 0 or 1 (R15). -/
def flagOk (n : Nat) : Bool := n ≤ 1

/-- A node 1..62 other than the SC-48's own (R18, R33, R95). -/
def peerNode (s : State) (n : Nat) : Bool := within 1 62 n && s.own ≠ some n

/-- The number at position `i` of an entry. -/
def fld (e : List Nat) (i : Nat) : Nat := e.getD i 0

/-- A flag at position `i` of an entry. -/
def fldFlag (e : List Nat) (i : Nat) : Bool := fld e i = 1

/-- The elements of a bank the write addresses. -/
def addressed {α : Type} {n : Nat} (v : Vector α n) (first count : Nat) : List α := (v.toList.drop first).take count

/-- The numbered instances the write addresses. -/
def addressedOf {α : Type} (all : List α) (first count : Nat) : List α := (all.drop first).take count

/-! ### Entries as carried -/

/-- R18. -/
def toStream (e : List Nat) : StreamEntry := ⟨fldFlag e 0, fld e 1, fld e 2, fld e 3, fld e 4, fld e 5⟩

/-- R18: the fields of a valid entry are in their ranges. -/
def streamOk (s : State) (e : List Nat) : Bool :=
  flagOk (fld e 0) && (!fldFlag e 0 ||
    (peerNode s (fld e 1) && fld e 2 ≤ 7 && fld e 3 ≤ 16 && within 5000 50000 (fld e 4) &&
      within (2 * fld e 4) 1000000 (fld e 5)))

/-- R18: no two valid entries carry the same source node and channel, or the same point. -/
def streamsOk (t : Vector StreamEntry 24) : Bool :=
  let v := t.toList.filter fun e => e.valid
  decide (v.map fun e => (e.node, e.channel)).Nodup && decide (v.map fun e => e.point).Nodup

/-- R24. -/
def gainOk (e : List Nat) : Bool := within 49152 81920 (fld e 0)

/-- R28, R95: a nominal frequency. -/
def nominalOk (f : Nat) : Bool := f = 50000 || f = 60000

/-- R28. -/
def toGrid (e : List Nat) : GridSettings := ⟨fld e 0, fld e 1, fld e 2, fld e 3⟩

/-- R28. -/
def gridOk (e : List Nat) : Bool :=
  nominalOk (fld e 0) && within 400 60000 (fld e 1) && within 10 200 (fld e 2) && within 50 3000 (fld e 3)

/-- R33. -/
def toModuleEntry (e : List Nat) : ModuleEntry := ⟨fldFlag e 0, fld e 1, fld e 2, fld e 4, fld e 5⟩

/-- R33. -/
def moduleOk (s : State) (e : List Nat) : Bool :=
  flagOk (fld e 0) && (!fldFlag e 0 ||
    (within 250 4000 (fld e 1) && peerNode s (fld e 2) && within 5 60 (fld e 4) && within 5 60 (fld e 5)))

/-- R33: no two installed entries name the same node. -/
def modulesOk (t : Vector ModuleEntry 8) : Bool :=
  decide ((t.toList.filter fun e => e.installed).map fun e => e.node).Nodup

/-- R56. -/
def toRefSettings (e : List Nat) : RefSettings := ⟨fld e 0, fld e 1, fld e 2, fld e 3, fld e 4⟩

/-- R56. -/
def refSettingsOk (e : List Nat) : Bool :=
  within 1 200 (fld e 0) && within 1 200 (fld e 1) && within 10 50 (fld e 2) && within 1 10 (fld e 3) &&
    fld e 4 ≤ 2000

/-- R71: the entry `old` as the write leaves it; the read-only fields carried are not examined. -/
def toBreaker (e : List Nat) (old : BreakerEntry) : BreakerEntry :=
  { old with
    node := fld e 0
    tc := fld e 1
    margin := fld e 2
    learn := fldFlag e 3
    lastPosition := if fld e 0 = old.node then old.lastPosition else none }

/-- R71. -/
def breakerOk (s : State) (e : List Nat) : Bool :=
  fld e 0 ≤ 62 && s.own ≠ some (fld e 0) && within 20 300 (fld e 1) && within 20 500 (fld e 2) && flagOk (fld e 3)

/-- R73. -/
def toProfile (e : List Nat) : Profile where
  vWindow := fld e 0
  slipLow := toSigned 2 (fld e 1)
  slipHigh := toSigned 2 (fld e 2)
  slipTarget := toSigned 2 (fld e 3)
  angleWindow := fld e 4
  settleCount := fld e 5
  watchLimit := fld e 6
  attemptLimit := fld e 7
  backoffBase := fld e 8
  backoffCap := fld e 9
  waitLimit := fld e 10
  deadThreshold := fld e 11

/-- R73. -/
def profileOk (e : List Nat) : Bool :=
  let p := toProfile e
  within 10 1000 p.vWindow && decide (-500 ≤ p.slipLow ∧ p.slipLow ≤ 500) &&
    decide (-500 ≤ p.slipHigh ∧ p.slipHigh ≤ 500) && decide (p.slipLow < p.slipHigh) &&
    decide (p.slipLow ≤ p.slipTarget ∧ p.slipTarget ≤ p.slipHigh) && within 91 1820 p.angleWindow &&
    within 1 20 p.settleCount && within 5 120 p.watchLimit && within 1 5 p.attemptLimit &&
    within 100 5000 p.backoffBase && p.backoffCap ≤ 4 && within 10 600 p.waitLimit && within 5 20 p.deadThreshold

/-- R95. -/
def toBerthEntry (e : List Nat) : BerthEntry where
  configured := fldFlag e 0
  nominalF := fld e 1
  nominalV := fld e 2
  contract := fld e 3
  gateway := fld e 4
  rampRate := fld e 5
  holdLimit := fld e 6
  rampTimeout := fld e 7
  genWait := fld e 8
  openThreshold := fld e 9
  overloadTime := fld e 10
  vBand := fld e 11
  fBand := fld e 12
  replacement := fld e 13

/-- R95: the fields of a configured entry are in their ranges. -/
def berthFieldsOk (s : State) (e : BerthEntry) : Bool :=
  nominalOk e.nominalF && within 440 15000 e.nominalV && within 100 16000 e.contract && peerNode s e.gateway &&
    within 50 5000 e.rampRate && e.rampRate % 50 = 0 && within 10 3600 e.holdLimit &&
    within 30 1800 e.rampTimeout && within 30 1800 e.genWait && within 10 1000 e.openThreshold &&
    within 1 60 e.overloadTime && within 10 200 e.vBand && within 50 3000 e.fBand && flagOk e.replacement

/-- R95. -/
def berthOk (s : State) (e : List Nat) : Bool :=
  flagOk (fld e 0) && (!fldFlag e 0 || berthFieldsOk s (toBerthEntry e))

/-- R95: no two configured entries name the same gateway. -/
def berthsOk (t : Vector BerthEntry 4) : Bool :=
  decide ((t.toList.filter fun e => e.configured).map fun e => e.gateway).Nodup

/-- R137. -/
def meteringOk (e : List Nat) : Bool := within 20000 1000000 (fld e 0) && fld e 1 ≤ 4

/-- The schedule of a tariff entry as carried, flat: start, band, start, band, … -/
def schedulePairs : Nat → List Nat → List (Nat × Nat)
  | 0, _ => []
  | n + 1, xs => (fld xs 0, fld xs 1) :: schedulePairs n (xs.drop 2)

/-- The schedule a tariff entry carries. -/
def carriedSchedule (e : List Nat) : List (Nat × Nat) := schedulePairs (fld e 1) (e.drop 2)

/-- The numbers a tariff entry carries after its schedule: four energy rates, the demand rate, the bound count. -/
def carriedRates (e : List Nat) : List Nat := e.drop (2 + 2 * fld e 1)

/-- R141: the set `old` as the write leaves it; the bound count carried is not examined. -/
def toTariff (e : List Nat) (old : TariffSet) : TariffSet :=
  if fldFlag e 0 then
    ⟨true, carriedSchedule e,
      #v[fld (carriedRates e) 0, fld (carriedRates e) 1, fld (carriedRates e) 2, fld (carriedRates e) 3],
      fld (carriedRates e) 4, old.bound⟩
  else { TariffSet.empty with bound := old.bound }

/-- R141: starts that begin at 0 and increase strictly. -/
def startsOk : List Nat → Bool
  | [] => false
  | x :: xs => x = 0 && decide ((x :: xs).Pairwise (· < ·))

/-- R141: a LOADED entry's checks. -/
def loadedOk (e : List Nat) : Bool :=
  within 1 8 (fld e 1) && startsOk ((carriedSchedule e).map Prod.fst) &&
    (carriedSchedule e).all (fun x => x.1 ≤ 86399 && x.2 ≤ 3) &&
    ((carriedRates e).take 4).all (fun r => r ≤ 10000000) && fld (carriedRates e) 4 ≤ 100000000

/-- R141. -/
def tariffOk (e : List Nat) : Bool := flagOk (fld e 0) && (!fldFlag e 0 || loadedOk e)

/-- R141, R143: the index names no EMPTY set. -/
def currentOk (sets : Vector TariffSet 4) : Option (Fin 4) → Bool
  | none => true
  | some i => sets[i].loaded

/-- R143: the value of the current-set index. -/
def toCurrent (e : List Nat) : Option (Fin 4) := berthOf? (fld e 0)

/-- R158: the actions allowed for an entry. -/
def actionAllowed (i : EventIx) (a : Action) : Bool :=
  match eventFamily i with
  | .berth _ k =>
    if k.val = 9 then a = .tripBerth
    else a = .none || a = .hold || a = .shed || a = .tripBerth || a = .tripAll
  | .module _ _ => a = .none || a = .blockModule || a = .tripBerth || a = .tripAll
  | .single =>
    if i.val < 94 then a = .none || a = .holdAll || a = .tripAll
    else if i.val = 99 then a = .tripAll
    else a = .none

/-- R158: an addressed entry's checks. -/
def eventOk (i : EventIx) (e : List Nat) : Bool :=
  flagOk (fld e 0) && flagOk (fld e 1) && flagOk (fld e 2) && flagOk (fld e 3) &&
    match actionOf? (fld e 4) with
    | none => false
    | some a => actionAllowed i a

/-- R158: the entry `old` as the write leaves it; the read-only fields carried are not examined. -/
def toEvent (e : List Nat) (old : EventEntry) : EventEntry :=
  { old with
    enabled := fldFlag e 0
    notifyOperator := fldFlag e 1
    notifyBilling := fldFlag e 2
    notifyShip := fldFlag e 3
    action := (actionOf? (fld e 4)).getD .none }

/-! ### The tables as they would stand -/

/-- The bank `v` with the elements from `first` on changed by the entries of a write. -/
def updAll {α : Type} {n : Nat} (g : List Nat → α → α) : Vector α n → Nat → List (List Nat) → Vector α n
  | v, _, [] => v
  | v, first, e :: es => updAll g (if h : first < n then v.set first (g e v[first]) h else v) (first + 1) es

/-- R141: the sets as the write would leave them. -/
def setsAfter (s : State) (first : Nat) (es : List (List Nat)) : Vector TariffSet 4 :=
  updAll toTariff s.blg.sets first es

/-! ### State and value checks (R177 steps 5 and 6) -/

/-- R177 step 5: an addressed entry may not be written. -/
def writeInUse (s : State) (t : Table) (first : Nat) (es : List (List Nat)) : Bool :=
  match t with
  | .modules => (addressedOf allModules first es.length).any fun m => (s.modu m).state.allocated
  | .breakers => (addressedOf allTargets first es.length).any fun k => s.syu.busy k
  | .berths =>
    (addressedOf allBerths first es.length).any fun b => (s.berth b).state ≠ .unused && (s.berth b).state ≠ .dead
  | .tariffs => (addressedOf allBerths first es.length).any fun i => 0 < s.blg.bound i
  | .current => es.any (fun e => fld e 0 = 4) && s.blg.slots.toList.any fun x => x = .reserved
  | .streams | .gains | .grid | .reference | .profiles | .metering | .events => false

/-- R177 step 6: every addressed entry and the table as it would stand pass their checks. -/
def writeValuesOk (s : State) (t : Table) (first : Nat) (es : List (List Nat)) : Bool :=
  match t with
  | .streams => es.all (streamOk s) && streamsOk (putAll s.scl.streams first (es.map toStream))
  | .gains => es.all gainOk
  | .grid => es.all gridOk
  | .modules => es.all (moduleOk s) && modulesOk (putAll s.mpm.table first (es.map toModuleEntry))
  | .reference => es.all refSettingsOk
  | .breakers => es.all (breakerOk s)
  | .profiles => es.all profileOk
  | .berths => es.all (berthOk s) && berthsOk (putAll s.bsq.table first (es.map toBerthEntry))
  | .metering => es.all meteringOk
  | .tariffs => es.all tariffOk && currentOk (setsAfter s first es) s.blg.current
  | .current => es.all fun e => fld e 0 ≤ 4 && currentOk s.blg.sets (toCurrent e)
  | .events => ((addressedOf (List.finRange 100) first es.length).zip es).all fun x => eventOk x.1 x.2

/-! ### What a write that is taken does (R177 step 7) -/

/-- R18, R19. -/
def applyStreams (first : Nat) (es : List (List Nat)) (s : State) : State :=
  pointStoreReset (s.modScl fun c => { c with streams := putAll c.streams first (es.map toStream) })

/-- R37: a cleared poll record. DESIGN CHOICE (log 35): its reported derate flag is cleared with it. -/
def clearPollRecord (r : ModuleRec) : ModuleRec :=
  { r with missCount := 0, answered := false, reported := none, derateFlag := false, capacity := none }

/-- R33: an open poll of module `m` is abandoned. -/
def abandonPoll (m : Module) (s : State) : State :=
  s.modMpm fun c => { c with poll := c.poll.filter fun p => p.module ≠ m }

/-- R33: what a write does to an addressed module, given its old and new entries. -/
def moduleWritten (old new : ModuleEntry) (m : Module) (s : State) : State :=
  if !old.installed then
    if new.installed then clearModuleRef m (s.modModule m fun _ => .cleared .standby) else s
  else if !new.installed then abandonPoll m (s.modModule m fun r => { r with state := .absent })
  else if old.node ≠ new.node then abandonPoll m (s.modModule m clearPollRecord)
  else s

/-- R33. -/
def applyModules (first : Nat) (es : List (List Nat)) (s : State) : State :=
  let t := putAll s.mpm.table first (es.map toModuleEntry)
  (addressedOf allModules first es.length).foldl (fun s1 m => moduleWritten s.mpm.table[m] t[m] m s1)
    (s.modMpm fun c => { c with table := t })

/-- R71: the close-held mark of an entry whose node is changed is cleared. -/
def breakerWritten (old new : BreakerEntry) (t : Target) (s : State) : State :=
  if old.node = new.node then s else s.setCloseHeld t false

/-- R71. -/
def applyBreakers (first : Nat) (es : List (List Nat)) (s : State) : State :=
  let v := updAll toBreaker s.syu.breakers first es
  (addressedOf allTargets first es.length).foldl (fun s1 t => breakerWritten s.syu.breakers[t] v[t] t s1)
    (s.modSyu fun y => { y with breakers := v })

/-- R95: what a write does to an addressed berth, given its old and new entries. -/
def berthWritten (old new : BerthEntry) (b : Berth) (s : State) : State :=
  let s1 := if old.configured && (!new.configured || old.gateway ≠ new.gateway) then s.setShip b none else s
  if !old.configured && new.configured then changeState b .dead s1
  else if old.configured && !new.configured then changeState b .unused s1
  else s1

/-- R95. -/
def applyBerths (first : Nat) (es : List (List Nat)) (s : State) : State :=
  let t := putAll s.bsq.table first (es.map toBerthEntry)
  (addressedOf allBerths first es.length).foldl (fun s1 b => berthWritten s.bsq.table[b] t[b] b s1)
    (s.modBsq fun q => { q with table := t })

/-- R158, R161: the notices of an entry that the write has enabled while its raw status is set. -/
def eventWritten (old : EventEntry) (e : EventIx) (s : State) : State :=
  if !old.enabled && (s.event e).enabled && (s.event e).raw then giveNotes e s else s

/-- R158. -/
def applyEvents (first : Nat) (es : List (List Nat)) (s : State) : State :=
  recomputeHolds ((addressedOf (List.finRange 100) first es.length).foldl
    (fun s1 e => eventWritten (s.event e) e s1)
    (s.modEvr fun r => { r with entries := updAll toEvent r.entries first es }))

/-- R177 step 7: the write is applied by its owner. New reference settings are stored here and come into force at the
next period (R56). -/
def applyWrite (t : Table) (first : Nat) (es : List (List Nat)) (s : State) : State :=
  match t with
  | .streams => applyStreams first es s
  | .gains => s.modScl fun c => { c with gains := putAll c.gains first (es.map fun e => fld e 0) }
  | .grid => s.modScl fun c => { c with grid := toGrid (es.headD []) }
  | .modules => applyModules first es s
  | .reference => s.modRfg fun c => { c with settings := toRefSettings (es.headD []) }
  | .breakers => applyBreakers first es s
  | .profiles => s.modSyu fun y => { y with profiles := putAll y.profiles first (es.map toProfile) }
  | .berths => applyBerths first es s
  | .metering => meteringTaken (fld (es.headD []) 0) ((demandOf? (fld (es.headD []) 1)).getD s.mtr.demandS) s
  | .tariffs => s.modBlg fun g => { g with sets := setsAfter s first es }
  | .current => s.modBlg fun g => { g with current := toCurrent (es.headD []) }
  | .events => applyEvents first es s

end Sys2Proof.Machine
end

