-- ==== Sys2Proof/Machine/Mlk.lean ====
section
/-! DEFINITION. The Metrology Lock (chapter 11): protected requests, mismatches, lock requests and BILLING_CLEAR,
with the prepare flags that the Management Unit holds (R180). -/

namespace Sys2Proof.Machine

/-! ### Station nodes and prepare flags (R174, R180) -/

/-- R174: the source is the operator node. -/
def isOperator (s : State) (src : Nat) : Bool := strapNode s.mgu.opn = some src

/-- R174: the source is the billing node. -/
def isBilling (s : State) (src : Nat) : Bool := strapNode s.mgu.bln = some src

/-- R180: the prepare flag of the source's node; a node that is no station node has none. -/
def prepared (s : State) (src : Nat) : Bool :=
  (isOperator s src && s.mgu.prepOperator) || (isBilling s src && s.mgu.prepBilling)

/-- R180: the prepare flag of the source's node set to `v`; when both straps name it, it is shown in both places. -/
def setPrepared (src : Nat) (v : Bool) (s : State) : State :=
  s.modMgu fun g =>
    { g with
      prepOperator := if isOperator s src then v else g.prepOperator
      prepBilling := if isBilling s src then v else g.prepBilling }

/-! ### Judging (R183 to R185) -/

/-- The identifiers of UNLOCK, SET_CODE and BILLING_CLEAR. -/
inductive CodeId where
  | operator
  | metrology
deriving DecidableEq, Repr

/-- The identifier of a byte. -/
def codeId? : Nat → Option CodeId
  | 1 => some .operator
  | 2 => some .metrology
  | _ => none

/-- The code MLK holds for an identifier. -/
def Mlk.held (k : Mlk) : CodeId → Option Code
  | .operator => k.operatorCode
  | .metrology => k.metrologyCode

/-- R184: MLK is asked about a protected request; none: it is taken. -/
def askLock (s : State) : Option Result × State :=
  if s.mlk.attempts = 0 then (some .lockExhausted, s.post (.raise evLockExhausted))
  else if s.mlk.lock = .locked then (some .locked, s)
  else (none, s)

/-- R185: the lock after a code mismatch. -/
def Mlk.missed (k : Mlk) : Mlk :=
  { k with
    attempts := k.attempts - 1
    exhausted := k.exhausted || k.attempts - 1 = 0
    lock := if k.attempts - 1 = 0 ∧ k.lock = .unlocked then .locked else k.lock }

/-- R185: a code mismatch. -/
def codeMismatch (s : State) : Result × State :=
  let s1 := (s.modMlk Mlk.missed).post (.raise evLockMismatch)
  (.lockMismatch, if s1.mlk.attempts = 0 then s1.post (.raise evLockExhausted) else s1)

/-- R185: a lock request is judged: exhaustion first, then the frozen flag where it matters, then its own
conditions `k`. -/
def judged (frozenMatters : Bool) (k : State → Result × State) (s : State) : Result × State :=
  if s.mlk.attempts = 0 then (.lockExhausted, s.post (.raise evLockExhausted))
  else if frozenMatters && s.mlk.frozen then (.frozen, s)
  else k s

/-! ### The lock requests (R186 to R189) -/

/-- R186: UNLOCK's own conditions. -/
def unlockOwn (i : CodeId) (code : Code) (s : State) : Result × State :=
  if s.mlk.lock = .unprotected then (.busy, s)
  else if i = .metrology ∧ s.mlk.strict then (.levelStrict, s)
  else if i = .metrology ∧ s.mlk.metrologyCode = none then (.badValue, s)
  else if s.mlk.held i = some code then (.done, s.modMlk fun k => { k with lock := .unlocked })
  else codeMismatch s

/-- R186: UNLOCK. -/
def unlockReq (i : CodeId) (code : Code) (s : State) : Result × State := judged true (unlockOwn i code) s

/-- R186: RELOCK's own conditions. -/
def relockOwn (s : State) : Result × State :=
  if s.mlk.lock = .unprotected then (.busy, s) else (.done, s.modMlk fun k => { k with lock := .locked })

/-- R186: RELOCK. -/
def relockReq (s : State) : Result × State := judged false relockOwn s

/-- R187: SET_CODE OPERATOR's own conditions. -/
def setOperatorOwn (code : Code) (level : Nat) (s : State) : Result × State :=
  if s.mlk.lock = .locked then (.locked, s)
  else if 1 < level then (.badValue, s)
  else (.done, s.modMlk fun k => { k with operatorCode := some code, strict := level = 1, lock := .locked })

/-- R187: SET_CODE OPERATOR. -/
def setOperatorReq (code : Code) (level : Nat) (s : State) : Result × State := judged true (setOperatorOwn code level) s

/-- R187: the metrology code and revision become those given. -/
def setMetrology (code : Code) (revision : Nat) (s : State) : State :=
  s.modMlk fun k => { k with metrologyCode := some code, revision := revision }

/-- R187: SET_CODE METROLOGY's own conditions; `current` is present in a request of 35 bytes. -/
def setMetrologyOwn (code : Code) (revision : Nat) (current : Option Code) (s : State) : Result × State :=
  if current.isSome ≠ s.mlk.metrologyCode.isSome then (.badValue, s)
  else if 65533 < revision then (.badValue, s)
  else if current ≠ s.mlk.metrologyCode then codeMismatch s
  else (.done, setMetrology code revision s)

/-- R187: SET_CODE METROLOGY. -/
def setMetrologyReq (code : Code) (revision : Nat) (current : Option Code) (s : State) : Result × State :=
  judged true (setMetrologyOwn code revision current) s

/-- R188, R189: the operator code is removed. -/
def Mlk.removeOperator (k : Mlk) : Mlk := { k with operatorCode := none, strict := false, lock := .unprotected }

/-- R188: REMOVE_CODE's own conditions. -/
def removeCodeOwn (code : Code) (s : State) : Result × State :=
  match s.mlk.lock with
  | .unprotected => (.busy, s)
  | .locked => (.locked, s)
  | .unlocked => if s.mlk.operatorCode = some code then (.done, s.modMlk Mlk.removeOperator) else codeMismatch s

/-- R188: REMOVE_CODE. -/
def removeCodeReq (code : Code) (s : State) : Result × State := judged true (removeCodeOwn code) s

/-- R188: FREEZE's own conditions. -/
def freezeOwn (s : State) : Result × State :=
  if s.mlk.lock = .locked then (.locked, s) else (.done, s.modMlk fun k => { k with frozen := true })

/-- R188: FREEZE. -/
def freezeReq (s : State) : Result × State := judged false freezeOwn s

/-- R189: CLEAR_PREPARE from `src`. -/
def clearPrepareReq (src : Nat) (s : State) : Result × State :=
  judged true (fun s => (.done, setPrepared src true s)) s

/-- R155: BLG empties the log. -/
def emptyLog (s : State) : State := evalLogFull (s.modBlg fun g => { g with log := [] })

/-- R131, R189: all twelve unbilled registers become 0. -/
def zeroUnbilled (s : State) : State := s.modMtr fun m => { m with unbilled := Vector.replicate 4 ⟨0, 0, 0⟩ }

/-- R189: a BILLING_CLEAR that passes every row. -/
def billingClearTaken (s : State) : State := (zeroUnbilled (emptyLog s)).modMlk Mlk.removeOperator

/-- R189: BILLING_CLEAR's own conditions; `prep` is the sender's prepare flag as noted. -/
def billingClearOwn (prep : Bool) (i : CodeId) (code : Code) (s : State) : Result × State :=
  if !prep then (.noPrepare, s)
  else if s.blg.taken ≠ 0 then (.inUse, s)
  else if i = .operator ∧ s.mlk.strict then (.levelStrict, s)
  else if s.mlk.held i = none then (.badValue, s)
  else if s.mlk.held i = some code then (.done, billingClearTaken s)
  else codeMismatch s

/-- R189: BILLING_CLEAR. -/
def billingClearReq (prep : Bool) (i : CodeId) (code : Code) (s : State) : Result × State :=
  judged true (billingClearOwn prep i code) s

end Sys2Proof.Machine
end

