-- ==== Sys2Proof/Machine/Resets.lean ====
section
/-! DEFINITION. Cold reset, warm reset and the restart of every block (R17, R32, R55, R70, R94, R124, R140, R157,
R170, R182, R191, section "Resets"). -/

namespace Sys2Proof.Machine

/-! ### What each block keeps across a warm reset or RESTART -/

/-- R32. -/
def Scl.warm (c : Scl) : Scl :=
  { Scl.cold with
    streams := c.streams
    gains := c.gains
    grid := c.grid
    points := Vector.ofFn fun p => .cold (pointLimits c.streams p) }

/-- R55. -/
def Mpm.warm (now : Nat) (c : Mpm) : Mpm :=
  { Mpm.cold now with
    table := c.table
    recs := c.table.map fun e => .cleared (if e.installed then .standby else .absent) }

/-- R56, R70: the entry is retained. DESIGN CHOICE (log 38): it is in force from the end of the reset, a write of the
period the reset cut short included. -/
def Rfg.warm (now : Nat) (c : Rfg) : Rfg := { Rfg.cold now with settings := c.settings, inForce := c.settings }

/-- R94. -/
def Syu.warm (y : Syu) : Syu :=
  { Syu.cold with breakers := y.breakers.map fun e => { e with lastPosition := none }, profiles := y.profiles }

/-- R124. -/
def Bsq.warm (q : Bsq) : Bsq :=
  { Bsq.cold with
    table := q.table
    recs := q.table.map fun e => .cleared (if e.configured then .dead else .unused) }

/-- R140: the metering records after a reset; the clock, settings and unbilled registers are kept. -/
def Mtr.warm (m : Mtr) : Mtr := { m with recs := Vector.replicate 4 .cold }

/-- R157: every slot is FREE; the LOG_FULL condition is evaluated at the end of the reset. -/
def Blg.warm (g : Blg) : Blg := { g with slots := Vector.replicate 4 .free, logFull := false }

/-- R170. -/
def Evr.warm (e : Evr) : Evr :=
  { Evr.cold with entries := e.entries.map fun x => { x with raw := false, count := 0, clock := none } }

/-- R191: the lock across a warm reset. -/
def Mlk.warm (k : Mlk) : Mlk :=
  { k with
    lock := if k.lock = .unlocked then .locked else k.lock
    frozen := false
    attempts := Config.lockAttempts
    exhausted := false }

/-! ### The order of a reset (R140, R157) -/

/-- R140 step 1: MTR discards the residues and the unmetered remainders. -/
def discardResidues (s : State) : State :=
  s.modMtr fun m =>
    { m with recs := m.recs.map fun r => { r with importResidue := 0, returnedResidue := 0, unmeteredRem := 0 } }

/-- R157: BLG closes each open session with reason SUPPLY, in berth order. -/
def supplyCloses (s : State) : State := allBerths.foldl (fun s b => closeSession b .supply s) s

/-- The blocks other than MLK as a warm reset or RESTART leaves them before its end; what they had handed each other
is discarded. -/
def warmBlocks (nid opn bln : BitVec 6) (s : State) : State :=
  { s with
    lpu := .cold nid s.now
    scl := s.scl.warm
    mpm := s.mpm.warm s.now
    rfg := s.rfg.warm s.now
    syu := s.syu.warm
    bsq := s.bsq.warm
    mtr := s.mtr.warm
    blg := s.blg.warm
    evr := s.evr.warm
    mgu := .cold opn bln
    handoffs := [] }

/-- R55: MPM commands the contactor of module `m`, if it is installed, open. -/
def openContactor (m : Module) (s : State) : State :=
  if s.mpm.table[m].installed then command .openCmd (contactor m) s else s

/-- R55: the contactors of the installed modules, lowest first. -/
def openContactors (s : State) : State := allModules.foldl (fun s m => openContactor m s) s

/-- R98: the BERTH notice of berth `b`, if it is configured. -/
def deadNotice (b : Berth) (s : State) : State := if (s.entry b).configured then berthNotice b s else s

/-- R98: the BERTH notices of the configured berths. -/
def deadNotices (s : State) : State := allBerths.foldl (fun s b => deadNotice b s) s

/-- R122, R124: the emergency-stop input found asserted at the end of a reset. -/
def estopAtEnd (s : State) : State := if s.pins.estop then estopTaken s else driveOutputs s

/-- What the blocks do at the end of a reset. -/
def resetEnd (s : State) : State := estopAtEnd (evalLogFull (deadNotices (openContactors s)))

/-- The terminal clock's ticks while the main supply is absent or the reset lasts: device time, the clock and the
instant of the next tick move on together (R132, R140). -/
def passTicks (n : Nat) (s : State) : State :=
  { s with now := s.now + n * Config.clockTickMs }.modMtr fun m =>
    { m.advanceClock n with tickDue := m.tickDue + n * Config.clockTickMs }

/-- A warm reset: `loss` ticks pass before the open sessions are closed, `reset` ticks until the reset ends. -/
def warmReset (nid opn bln : BitVec 6) (loss reset : Nat) (s : State) : State :=
  resetEnd (setInterval
    ((warmBlocks nid opn bln (passTicks reset (supplyCloses (discardResidues (passTicks loss s))))).modMlk Mlk.warm))

/-- R181, R185: the restart of every block except MLK. -/
def restartBlocks (s : State) : State :=
  let s1 := resetEnd (setInterval
    (warmBlocks s.lpu.nid s.mgu.opn s.mgu.bln (supplyCloses (discardResidues s))))
  if s1.mlk.attempts = 0 then s1.post (.raise evLockExhausted) else s1

/-- A cold reset. -/
def coldReset (nid opn bln : BitVec 6) (s : State) : State :=
  resetEnd (.coldWith s.pins nid opn bln s.now s.overrun s.pending)

end Sys2Proof.Machine
end

