-- ==== Sys2Proof/Machine/Mgu.lean ====
section
/-! DEFINITION. The Management Unit (chapter 10): arrival, form, authority, the order of the checks, table requests,
status views, the parts of a reply, and RESTART. -/

namespace Sys2Proof.Machine

/-! ### Requests and their form (R173) -/

/-- A request that has passed the form check. -/
inductive Request where
  | read (t : Table) (first count : Nat)
  | write (t : Table) (first count : Nat) (entries : List (List Nat))
  | berth (b cmd : Nat)
  | module (m cmd : Nat)
  | eventClear (i : Nat)
  | eventSet (i : Nat)
  | eventEnable (i : Nat)
  | eventDisable (i : Nat)
  | clockSet (day second : Nat)
  | logRead
  | logRemove (number : Nat)
  | status (view : Nat)
  | unlock (i : CodeId) (code : Code)
  | relock
  | setOperator (code : Code) (level : Nat)
  | setMetrology (code : Code) (revision : Nat) (current : Option Code)
  | removeCode (code : Code)
  | freeze
  | clearPrepare
  | billingClear (i : CodeId) (code : Code)
  | restart
deriving DecidableEq, Repr

/-- A 16-byte code at offset `i`. -/
def codeAt (p : List Byte) (i : Nat) : Code := BitVec.ofNat 128 (fieldAt p i 16)

/-- R173: READ_TABLE. -/
def parseRead (p : List Byte) : Option Request :=
  if p.length = 3 ∧ byteAt p 2 ≠ 0 then (tableOf? (byteAt p 0)).map fun t => .read t (byteAt p 1) (byteAt p 2) else none

/-- R173: WRITE_TABLE. -/
def parseWrite (p : List Byte) : Option Request :=
  if p.length < 3 ∨ byteAt p 2 = 0 then none
  else
    match tableOf? (byteAt p 0) with
    | none => none
    | some t => (takeEntries t.form (byteAt p 2) (p.drop 3)).map fun es => .write t (byteAt p 1) (byteAt p 2) es

/-- R173: SET_CODE. -/
def parseSetCode (p : List Byte) : Option Request :=
  match byteAt p 0, p.length with
  | 1, 18 => some (.setOperator (codeAt p 1) (byteAt p 17))
  | 2, 19 => some (.setMetrology (codeAt p 1) (fieldAt p 17 2) none)
  | 2, 35 => some (.setMetrology (codeAt p 1) (fieldAt p 17 2) (some (codeAt p 19)))
  | _, _ => none

/-- R173: a request with an identifier and a code. -/
def parseCoded (mk : CodeId → Code → Request) (p : List Byte) : Option Request :=
  if p.length = 17 then (codeId? (byteAt p 0)).map fun i => mk i (codeAt p 1) else none

/-- R173: a request whose parameters have exactly `n` bytes. -/
def exactly (n : Nat) (r : Request) (p : List Byte) : Option Request := if p.length = n then some r else none

/-- R173: the form check: the request of a kind code and its parameter bytes, none when it is MALFORMED. -/
def parseRequest (kind : Nat) (p : List Byte) : Option Request :=
  match kind with
  | 1 => parseRead p
  | 2 => parseWrite p
  | 3 => exactly 2 (.berth (byteAt p 0) (byteAt p 1)) p
  | 4 => exactly 2 (.module (byteAt p 0) (byteAt p 1)) p
  | 5 => exactly 1 (.eventClear (byteAt p 0)) p
  | 6 => exactly 1 (.eventSet (byteAt p 0)) p
  | 7 => exactly 1 (.eventEnable (byteAt p 0)) p
  | 8 => exactly 1 (.eventDisable (byteAt p 0)) p
  | 9 => exactly 6 (.clockSet (fieldAt p 0 2) (fieldAt p 2 4)) p
  | 10 => exactly 0 .logRead p
  | 11 => exactly 4 (.logRemove (fieldAt p 0 4)) p
  | 12 => exactly 1 (.status (byteAt p 0)) p
  | 13 => parseCoded .unlock p
  | 14 => exactly 0 .relock p
  | 15 => parseSetCode p
  | 16 => exactly 16 (.removeCode (codeAt p 0)) p
  | 17 => exactly 0 .freeze p
  | 18 => exactly 0 .clearPrepare p
  | 19 => parseCoded .billingClear p
  | 20 => exactly 0 .restart p
  | _ => none

/-! ### Authority, range and the lock step (R174 to R176) -/

/-- Who may send a request (section 10.2). -/
inductive Sender where
  | operator
  | billing
  | either
deriving DecidableEq, Repr

/-- The tables the billing node writes; each such write is protected (R176). -/
def Table.revenue : Table → Bool
  | .gains | .metering | .tariffs | .current => true
  | .streams | .grid | .modules | .reference | .breakers | .profiles | .berths | .events => false

/-- R174: the nodes a request kind admits. -/
def Request.sender : Request → Sender
  | .write t _ _ _ => if t.revenue then .billing else .operator
  | .berth _ _ | .module _ _ | .restart => .operator
  | .clockSet _ _ | .logRemove _ => .billing
  | .read _ _ _ | .eventClear _ | .eventSet _ | .eventEnable _ | .eventDisable _ | .logRead | .status _
  | .unlock _ _ | .relock | .setOperator _ _ | .setMetrology _ _ _ | .removeCode _ | .freeze | .clearPrepare
  | .billingClear _ _ => .either

/-- R174: the source may send the request. -/
def admitted (s : State) (src : Nat) : Sender → Bool
  | .operator => isOperator s src
  | .billing => isBilling s src
  | .either => isOperator s src || isBilling s src

/-- R175: the table, first index and count of a table request. -/
def Request.range? : Request → Option (Table × Nat × Nat)
  | .read t first count => some (t, first, count)
  | .write t first count _ => some (t, first, count)
  | _ => none

/-- R175: a table request outside its table. -/
def Request.outOfRange (r : Request) : Bool :=
  match r.range? with
  | none => false
  | some (t, first, count) => t.size < first + count

/-- R176: the protected requests. -/
def Request.guarded : Request → Bool
  | .write t _ _ _ => t.revenue
  | .clockSet _ _ => true
  | _ => false

/-- The code of a table (section 1.6). -/
def Table.code : Table → Nat
  | .streams => 1
  | .gains => 2
  | .grid => 3
  | .modules => 4
  | .reference => 5
  | .breakers => 6
  | .profiles => 7
  | .berths => 8
  | .metering => 9
  | .tariffs => 10
  | .current => 11
  | .events => 12

/-- R175: the capture record at an OUT_OF_RANGE refusal. -/
def captureRange (src kind : Nat) (r : Request) (s : State) : State :=
  match s.mgu.capture, r.range? with
  | none, some (t, first, count) =>
    (s.modMgu fun g => { g with capture := some ⟨src, kind, t.code, first, count⟩ }).post (.raise evMgmtOutOfRange)
  | _, _ => s

/-! ### Answers (R172, R178) -/

/-- What a request is answered with: the result and the data of each part of the reply. -/
structure Answer where
  result : Result
  parts : List (List Byte)
deriving DecidableEq, Repr

/-- A reply without data. -/
def plain (r : Result) : Answer := ⟨r, [[]]⟩

/-- R178: a body cut into parts of at most 474 bytes, `n` bounding their number. -/
def chunks : Nat → List Byte → List (List Byte)
  | 0, _ => []
  | n + 1, bs =>
    if bs.length ≤ Config.partBytes then [bs] else bs.take Config.partBytes :: chunks n (bs.drop Config.partBytes)

/-- R178: part index and part count before each part. -/
def numberParts (count : Nat) : Nat → List (List Byte) → List (List Byte)
  | _, [] => []
  | i, d :: ds => (be 1 i ++ be 1 count ++ d) :: numberParts count (i + 1) ds

/-- R178: a DONE reply with a body. -/
def bodied (body : List Byte) : Answer :=
  let cs := chunks (body.length + 1) body
  ⟨.done, numberParts cs.length 0 cs⟩

/-- A result from an owner without data. -/
def ofOwner (x : Result × State) : Answer × State := (plain x.1, x.2)

/-! ### The owners' actions (R172 step 7) -/

/-- R177: a WRITE_TABLE that has passed steps 1 to 4. -/
def performWrite (t : Table) (first : Nat) (es : List (List Nat)) (s : State) : Result × State :=
  if writeInUse s t first es then (.inUse, s)
  else if !writeValuesOk s t first es then (.badValue, s)
  else (.done, applyWrite t first es s)

/-- R99 to R121: a BERTH_COMMAND at BSQ. -/
def performBerth (b cmd : Nat) (s : State) : Result × State :=
  match berthOf? b, cmd with
  | some b, 1 => connectCmd b false s
  | some b, 2 => connectCmd b true s
  | some b, 3 => departCmd b s
  | some b, 4 => abortCmd b s
  | some b, 5 => tripCmd b s
  | some b, 6 => resetTripCmd b s
  | _, _ => (.badValue, s)

/-- R50, R51: a MODULE_COMMAND at MPM. -/
def performModule (m cmd : Nat) (s : State) : Result × State :=
  match moduleOf? m, cmd with
  | some m, 1 => blockCmd m s
  | some m, 2 => unblockCmd m s
  | some m, 3 => readmitCmd m s
  | _, _ => (.badValue, s)

/-- Section 9.4: an event request at EVR. -/
def performEvent (g : EventIx → State → State) (i : Nat) (s : State) : Result × State :=
  match eventOf? i with
  | none => (.badValue, s)
  | some e => (.done, g e s)

/-- R133: CLOCK_SET at MTR. -/
def performClock (day second : Nat) (s : State) : Result × State :=
  if day ≤ 65535 ∧ second ≤ 86399 then (.done, clockSetTaken day second s) else (.badValue, s)

/-- R153: LOG_READ_OLDEST. -/
def performLogRead (s : State) : Answer :=
  match s.blg.log with
  | [] => plain .logEmpty
  | r :: _ => bodied (encSession r)

/-- R154: LOG_REMOVE_OLDEST. -/
def performLogRemove (number : Nat) (s : State) : Answer × State :=
  match s.blg.log with
  | [] => (plain .logEmpty, s)
  | r :: rest =>
    if r.number = some number then
      (⟨.done, [be 4 number]⟩, evalLogFull (s.modBlg fun g => { g with log := rest }))
    else (plain .badValue, s)

/-- R179: STATUS_READ. Building the CAPTURE view empties the capture record. -/
def performStatus (view : Nat) (s : State) : Answer × State :=
  match viewOf? s view with
  | none => (plain .badValue, s)
  | some body => (bodied body, if view = 9 then s.modMgu fun g => { g with capture := none } else s)

/-- R181: RESTART is taken when every configured berth is DEAD and every other UNUSED. -/
def restartAllowed (s : State) : Bool :=
  allBerths.all fun b => (s.berth b).state = if (s.entry b).configured then .dead else .unused

/-- R181: RESTART. The ordinary place its reply will take is held from the moment the queues are empty. -/
def performRestart (s : State) : Result × State :=
  if restartAllowed s then (.done, reservePlace (restartBlocks s)) else (.busy, s)

/-- R172 step 7 and, for a write, steps 5 to 7: the owner takes the request. `prep` is the noted prepare flag. -/
def perform (src : Nat) (prep : Bool) (r : Request) (s : State) : Answer × State :=
  match r with
  | .read t first count => (bodied (encTable s t first count), s)
  | .write t first _ es => ofOwner (performWrite t first es s)
  | .berth b cmd => ofOwner (performBerth b cmd s)
  | .module m cmd => ofOwner (performModule m cmd s)
  | .eventClear i => ofOwner (performEvent clearEntry i s)
  | .eventSet i => ofOwner (performEvent raiseEntry i s)
  | .eventEnable i => ofOwner (performEvent enableEntry i s)
  | .eventDisable i => ofOwner (performEvent disableEntry i s)
  | .clockSet day second => ofOwner (performClock day second s)
  | .logRead => (performLogRead s, s)
  | .logRemove n => performLogRemove n s
  | .status v => performStatus v s
  | .unlock i code => ofOwner (unlockReq i code s)
  | .relock => ofOwner (relockReq s)
  | .setOperator code level => ofOwner (setOperatorReq code level s)
  | .setMetrology code rev cur => ofOwner (setMetrologyReq code rev cur s)
  | .removeCode code => ofOwner (removeCodeReq code s)
  | .freeze => ofOwner (freezeReq s)
  | .clearPrepare => ofOwner (clearPrepareReq src s)
  | .billingClear i code => ofOwner (billingClearReq prep i code s)
  | .restart => ofOwner (performRestart s)

/-! ### Service (R172, R178, R180) -/

/-- R172 steps 2 to 7 for a request of good form. -/
def judge (src kind : Nat) (prep : Bool) (r : Request) (s : State) : Answer × State :=
  if !admitted s src r.sender then (plain .notAuthorised, s)
  else if r.outOfRange then (plain .outOfRange, captureRange src kind r s)
  else if r.guarded then
    match askLock s with
    | (some refusal, s1) => (plain refusal, s1)
    | (none, s1) => perform src prep r s1
  else perform src prep r s

/-- R172, R180: the service of a request: the form check, then the prepare flag is noted and cleared, then the other
checks and the owner's action. -/
def serve (q : MguReq) (s : State) : Answer × State :=
  match parseRequest q.kind.toNat q.params with
  | none => (plain .malformed, s)
  | some r => judge q.source q.kind.toNat (prepared s q.source) r (setPrepared q.source false s)

/-- The MREP that answers a request with one part's data. -/
def replyOf (q : MguReq) (r : Result) (data : List Byte) : ReplyFrame := .mrep q.source q.tag q.kind r data

/-- R178: the parts still to enter, entered while a place can be reserved. -/
def enterParts (q : MguReq) : List (List Byte) → State → State
  | [], s => s.modMgu fun g => { g with parts := [] }
  | d :: ds, s =>
    if s.lpu.placeFree then enterParts q ds (enterReserved (replyOf q .done d) (reservePlace s))
    else s.modMgu fun g => { g with parts := d :: ds }

/-- R172: the request at the head has ended service and leaves the queue, unless parts of its reply wait. -/
def endService (s : State) : State :=
  if s.mgu.parts.isEmpty then s.modMgu fun g => { g with queue := g.queue.drop 1 } else s

/-- R172, R178: the reply enters the REPLY queue. -/
def enterAnswer (q : MguReq) (a : Answer) (s : State) : State :=
  endService (enterParts q a.parts.tail (enterReserved (replyOf q a.result (a.parts.headD [])) s))

/-- R172: the request at the head is served; the reply enters once what the owner's action led to is taken. -/
def serveHead (q : MguReq) (s : State) : State :=
  let x := serve q s
  enterAnswer q x.1 (drain Config.settleFuel x.2)

/-- R172: requests are served, oldest first, until the queue is empty or one waits with a part of its reply. -/
def serveAll : Nat → State → State
  | 0, s => s
  | n + 1, s =>
    match s.mgu.queue with
    | [] => s
    | q :: _ => if s.mgu.parts.isEmpty then serveAll n (serveHead q s) else s

/-- The requests one event can serve: no more than the queue holds. -/
abbrev serviceBound : Nat := Config.requestPlaces + 1

/-! ### Arrival (R171) -/

/-- R171: the immediate answer BUSY, or the drop. -/
def refuseArrival (q : MguReq) (s : State) : State :=
  if s.lpu.refusalTaken then s.modMgu fun g => { g with dropped := count1 g.dropped }
  else enterReply (replyOf q .busy []) true s

/-- R171: the MGU accepts a request. -/
def arrivalAccepted (s : State) : Bool := s.mgu.queue.length < Config.requestPlaces && s.lpu.placeFree

/-- R171: the LPU hands the MGU an MREQ. Its service begins at once when the queue was empty (R172). -/
def arrive (q : MguReq) (s : State) : State :=
  if arrivalAccepted s then
    let s1 := (reservePlace s).modMgu fun g => { g with queue := g.queue ++ [q] }
    if s.mgu.queue.isEmpty then serveAll serviceBound s1 else s1
  else refuseArrival q s

/-- R171: the request of an MREQ payload. -/
def requestOf (src : Nat) (p : List Byte) : MguReq :=
  ⟨src, BitVec.ofNat 16 (fieldAt p 0 2), BitVec.ofNat 8 (byteAt p 2), p.drop 3⟩

/-- R178: the next part of a reply enters as soon as a place can be reserved. -/
def nextPart (s : State) : State :=
  match s.mgu.queue with
  | [] => s
  | q :: _ => if s.mgu.parts.isEmpty then s else serveAll serviceBound (endService (enterParts q s.mgu.parts s))

end Sys2Proof.Machine
end

