-- ==== Sys2Proof/Machine/Link.lean ====
section
/-! DEFINITION. Reception and consumption (R2, R4, R6, R7): a frame's fate, the source and form checks, and the
hand-off of a consumed frame to the block that owns its kind. -/

namespace Sys2Proof.Machine

/-- R7: one more frame that failed the source check. -/
def sourceIgnored (s : State) : State := s.count fun c => { c with sourceIgnored := count1 c.sourceIgnored }

/-- R7: one more frame that failed the form check. -/
def formDiscard (s : State) : State := s.count fun c => { c with formDiscards := count1 c.formDiscards }

/-- R7: the two checks, then the hand-off when the form gives something to hand over. -/
def checked {α : Type} (sourceOk : Bool) (form : Option α) (k : α → State → State) (s : State) : State :=
  if !sourceOk then sourceIgnored s
  else
    match form with
    | none => formDiscard s
    | some x => k x s

/-- R7: a MEAS payload of a count 1..8 and its length. -/
def measForm (p : List Byte) : Option (List Byte) :=
  if 1 ≤ byteAt p 0 ∧ byteAt p 0 ≤ 8 ∧ p.length = 1 + 24 * byteAt p 0 then some p else none

/-- R7: a MEAS frame. -/
def consumeMeas (src : Nat) (p : List Byte) (s : State) : State :=
  checked (s.scl.streams.toList.any fun e => e.valid && e.node = src) (measForm p) (measTaken src) s

/-- The breaker a BSTA payload names. -/
def bstaTarget (p : List Byte) : Option Target := if p.length < 2 then none else targetOf? (byteAt p 1)

/-- R7: a breaker table entry has the source as its node and the frame's target index as its index. -/
def bstaSource (s : State) (src : Nat) (p : List Byte) : Bool :=
  match bstaTarget p with
  | none => false
  | some t => (s.breaker t).node = src

/-- R7: a BSTA payload of 4 bytes with a position 0..3. -/
def bstaForm (p : List Byte) : Option (Target × Position) :=
  match bstaTarget p, positionOf? (byteAt p 0) with
  | some t, some x => if p.length = 4 then some (t, x) else none
  | _, _ => none

/-- R7: a BSTA. -/
def consumeBsta (src : Nat) (p : List Byte) (s : State) : State :=
  checked (bstaSource s src p) (bstaForm p) (fun x => bstaTaken x.1 x.2) s

/-- R7: a PRPY payload of 6 bytes with a module 0..7 and a state 0..2. -/
def prpyForm (p : List Byte) : Option Reply :=
  match moduleOf? (byteAt p 0), reportedOf? (byteAt p 2) with
  | some m, some st => if p.length = 6 then some ⟨m, byteAt p 1, st, byteAt p 3 = 1, fieldAt p 4 2⟩ else none
  | _, _ => none

/-- R7: a PRPY. -/
def consumePrpy (src : Nat) (p : List Byte) (s : State) : State :=
  checked (s.mpm.table.toList.any fun e => e.installed && e.node = src) (prpyForm p) (replyTaken src) s

/-- R7, R96: an SHPM. -/
def consumeShpm (src : Nat) (p : List Byte) (s : State) : State :=
  match gatewayBerth s src with
  | none => sourceIgnored s
  | some b => checked true (shipMsg? p) (shipMessage b) s

/-- R7: an MREQ addressed to the own node. -/
def consumeMreq (src : Nat) (p : List Byte) (s : State) : State :=
  checked true (if 3 ≤ p.length then some p else none) (fun q => arrive (requestOf src q)) s

/-- R7: a consumed frame; `toAll` when its destination is 63. -/
def consume (toAll : Bool) (kind src : Nat) (p : List Byte) (s : State) : State :=
  if kind = kindMeas then consumeMeas src p s
  else if kind = kindBsta then consumeBsta src p s
  else if kind = kindPrpy then consumePrpy src p s
  else if kind = kindShpm then consumeShpm src p s
  else if kind = kindMreq ∧ !toAll then consumeMreq src p s
  else s

/-- R6: a good frame's fate. DESIGN CHOICE (log 41): a frame that is both forwarded and consumed is forwarded first, so
that a free egress begins it before any frame that its consumption gives. -/
def routeFrame (bytes : List Byte) (r : Received) (s : State) : State :=
  match s.own with
  | none => forwardFrame bytes s
  | some n =>
    if r.src = n then s.count fun c => { c with stripped := count1 c.stripped }
    else if r.dest = n then consume false r.kind r.src r.payload s
    else if r.dest = 63 then consume true r.kind r.src r.payload (forwardFrame bytes s)
    else forwardFrame bytes s

/-- R2, R4: a frame's reception ends. -/
def frameTaken (bytes : List Byte) (s : State) : State :=
  if Config.maxFrame < bytes.length then cutOverlong s
  else
    match receive bytes with
    | none => s.count fun c => { c with rejected := count1 c.rejected }
    | some r => routeFrame bytes r (goodFrame s)

/-- R1, R6: a frame of `src` addressed to the SC-48 reaches consumption: the SC-48 has a node number and the frame is
not its own. -/
def reaches (s : State) (src : Nat) : Bool := src ≠ 0 && src ≠ 63 && s.own.isSome && s.own ≠ some src

/-- R6, R7: the hand-off of a frame of one kind. -/
def handOff (kind : Nat) (src : Byte) (p : List Byte) (s : State) : State :=
  if reaches s src.toNat then consume false kind src.toNat p s else s

/-- R171: the hand-off of an MREQ with a tag, a kind and parameters. -/
def request (src : Byte) (tag : BitVec 16) (kind : Nat) (params : List Byte) (s : State) : State :=
  handOff kindMreq src (be 2 tag.toNat ++ be 1 kind ++ params) s

end Sys2Proof.Machine
end

