-- ==== Sys2Proof/Machine/ExecBerths.lean ====
section
/-! DEFINITION. Meanings of commands: ship messages and the berth sequence (chapter 6). -/

namespace Sys2Proof.Machine

/-- R96: a STATE message is handed over. -/
def execShipState (src flags generators : Byte) (load : BitVec 16) (ident : ShipId)
    (s : State) : Host.Outcome State Fault Refusal :=
  done (handOff kindShpm src (statePayload flags generators load ident)) s

/-- R97, R105: a HOLD message is handed over. -/
def execHold (src : Byte) (quanta : BitVec 16) (s : State) : Host.Outcome State Fault Refusal :=
  done (handOff kindShpm src (be 1 2 ++ be 2 quanta.toNat)) s

/-- R97, R108: a GEN_OFF message is handed over. -/
def execGenOff (src : Byte) (s : State) : Host.Outcome State Fault Refusal :=
  done (handOff kindShpm src (be 1 3)) s

/-- R97, R110: a GEN_ON message is handed over. -/
def execGenOn (src : Byte) (s : State) : Host.Outcome State Fault Refusal :=
  done (handOff kindShpm src (be 1 4)) s

/-- R97: a SHED_ACK message is handed over. -/
def execShedAck (src : Byte) (kw : BitVec 16) (s : State) : Host.Outcome State Fault Refusal :=
  done (handOff kindShpm src (be 1 5 ++ be 2 kw.toNat)) s

/-- R104, R111: a ramp period. -/
def execRampPeriod (b : Berth) (s : State) : Host.Outcome State Fault Refusal :=
  done (rampPeriodTaken b) s

/-- R105: the ship hold's end instant is reached. -/
def execShipHoldEnd (b : Berth) (s : State) : Host.Outcome State Fault Refusal :=
  done (shipHoldEndTaken b) s

/-- R105: the ship hold time reaches the hold limit. -/
def execHoldLimitReached (b : Berth) (s : State) : Host.Outcome State Fault Refusal :=
  done (holdLimitTaken b) s

/-- R107: the ramp timeout expires. -/
def execRampTimeoutExpiry (b : Berth) (s : State) : Host.Outcome State Fault Refusal :=
  done (rampTimeoutTaken b) s

/-- R109: the generator wait timer expires. -/
def execGeneratorWaitExpiry (b : Berth) (s : State) : Host.Outcome State Fault Refusal :=
  done (generatorWaitTaken b) s

/-- R112: the opening timer expires. -/
def execOpeningTimerExpiry (b : Berth) (s : State) : Host.Outcome State Fault Refusal :=
  done (openingTaken b) s

end Sys2Proof.Machine
end

