-- ==== Sys2Proof/Machine/ExecClock.lean ====
section
/-! DEFINITION. Meanings of commands: the terminal clock (sections 7.4 and 7.5). -/

namespace Sys2Proof.Machine

/-- R132: a tick of the terminal clock. -/
def execClockTick (s : State) : Host.Outcome State Fault Refusal :=
  done tick s

/-- R135: a demand interval end. -/
def execDemandIntervalEnd (s : State) : Host.Outcome State Fault Refusal :=
  done intervalEndTaken s

end Sys2Proof.Machine
end

