-- ==== Sys2Proof/Machine/ExecInputs.lean ====
section
/-! DEFINITION. Meanings of commands: the resets and the hardwired inputs (section "Resets", R117, R122). -/

namespace Sys2Proof.Machine

/-- Cold reset with the straps sampled (section "Resets"). -/
def execColdReset (nid opn bln : BitVec 6) (s : State) : Host.Outcome State Fault Refusal :=
  done (coldReset nid opn bln) s

/-- Warm reset with the straps sampled, after `lossTicks` ticks of the terminal clock without the main supply (R140, R157). -/
def execWarmReset (nid opn bln : BitVec 6) (lossTicks resetTicks : Nat)
    (s : State) : Host.Outcome State Fault Refusal :=
  done (warmReset nid opn bln lossTicks resetTicks) s

/-- R117: a pilot-loop input takes a level. -/
def execPilotInputChange (b : Berth) (asserted : Bool) (s : State) : Host.Outcome State Fault Refusal :=
  done (pilotChange b asserted) s

/-- R91, R122: the emergency-stop input becomes asserted. -/
def execEstopAssert (s : State) : Host.Outcome State Fault Refusal :=
  done estopAsserted s

/-- R122: the emergency-stop input is released. -/
def execEstopRelease (s : State) : Host.Outcome State Fault Refusal :=
  done estopReleased s

/-- R122: the emergency-stop repeat timer expires. -/
def execEstopRepeatTimerExpiry (s : State) : Host.Outcome State Fault Refusal :=
  done estopRepeatTaken s

end Sys2Proof.Machine
end

