-- ==== Sys2Proof/Machine/ExecLink.lean ====
section
/-! DEFINITION. Meanings of commands: the Quay Link (chapter 1). -/

namespace Sys2Proof.Machine

/-- R2: a frame's reception ends. -/
def execFrameReceptionEnd (bytes : List Byte) (s : State) : Host.Outcome State Fault Refusal :=
  done (frameTaken bytes) s

/-- R4: ingress activity runs past 492 bytes. -/
def execOverlongCut (s : State) : Host.Outcome State Fault Refusal :=
  done cutOverlong s

/-- R5: the ingress loss timer reaches 20 ms. -/
def execIngressLossTimerExpiry (s : State) : Host.Outcome State Fault Refusal :=
  done ingressLoss s

/-- R14: egress becomes free. -/
def execEgressFree (s : State) : Host.Outcome State Fault Refusal :=
  done egressFreed s

/-- R12: the oldest CONTROL frame not yet promoted reaches the defer limit. -/
def execPromotion (s : State) : Host.Outcome State Fault Refusal :=
  done promote s

end Sys2Proof.Machine
end

