-- ==== Sys2Proof/Machine/ExecLock.lean ====
section
/-! DEFINITION. Meanings of commands: the metrology lock and RESTART (chapter 11, R181). -/

namespace Sys2Proof.Machine

/-- R187: the current code a SET_CODE METROLOGY carries, nothing when it carries none. -/
def currentBytes : Option Code → List Byte
  | none => []
  | some c => be 16 c.toNat

/-- R186: UNLOCK. -/
def execUnlock (src : Byte) (tag : BitVec 16) (ident : Byte) (code : Code)
    (s : State) : Host.Outcome State Fault Refusal :=
  done (request src tag 13 ([ident] ++ be 16 code.toNat)) s

/-- R186: RELOCK. -/
def execRelock (src : Byte) (tag : BitVec 16) (s : State) : Host.Outcome State Fault Refusal :=
  done (request src tag 14 []) s

/-- R187: SET_CODE OPERATOR. -/
def execSetCodeOperator (src : Byte) (tag : BitVec 16) (code : Code) (level : Byte)
    (s : State) : Host.Outcome State Fault Refusal :=
  done (request src tag 15 (be 1 1 ++ be 16 code.toNat ++ [level])) s

/-- R187: SET_CODE METROLOGY, with the current code when one is carried. -/
def execSetCodeMetrology (src : Byte) (tag : BitVec 16) (code : Code) (revision : BitVec 16) (current : Option Code)
    (s : State) : Host.Outcome State Fault Refusal :=
  done (request src tag 15 (be 1 2 ++ be 16 code.toNat ++ be 2 revision.toNat ++ currentBytes current)) s

/-- R188: REMOVE_CODE. -/
def execRemoveCode (src : Byte) (tag : BitVec 16) (code : Code)
    (s : State) : Host.Outcome State Fault Refusal :=
  done (request src tag 16 (be 16 code.toNat)) s

/-- R188: FREEZE. -/
def execFreeze (src : Byte) (tag : BitVec 16) (s : State) : Host.Outcome State Fault Refusal :=
  done (request src tag 17 []) s

/-- R189: CLEAR_PREPARE. -/
def execClearPrepare (src : Byte) (tag : BitVec 16) (s : State) : Host.Outcome State Fault Refusal :=
  done (request src tag 18 []) s

/-- R189: BILLING_CLEAR. -/
def execBillingClear (src : Byte) (tag : BitVec 16) (ident : Byte) (code : Code)
    (s : State) : Host.Outcome State Fault Refusal :=
  done (request src tag 19 ([ident] ++ be 16 code.toNat)) s

/-- R181: RESTART. -/
def execRestart (src : Byte) (tag : BitVec 16) (s : State) : Host.Outcome State Fault Refusal :=
  done (request src tag 20 []) s

end Sys2Proof.Machine
end

