-- ==== Sys2Proof/Machine/ExecModules.lean ====
section
/-! DEFINITION. Meanings of commands: the module pool and the references (chapters 3 and 4). -/

namespace Sys2Proof.Machine

/-- R35: a scan slot. -/
def execScanSlot (s : State) : Host.Outcome State Fault Refusal :=
  done scanSlot s

/-- R36: the open poll's reply timer expires. -/
def execPollReplyTimerExpiry (s : State) : Host.Outcome State Fault Refusal :=
  done pollReplyExpiry s

/-- R7, R37: a PRPY is handed over. -/
def execPrpyFrame (src : Byte) (payload : List Byte) (s : State) : Host.Outcome State Fault Refusal :=
  done (handOff kindPrpy src payload) s

/-- R44: a start limit timer expires. -/
def execStartLimitExpiry (m : Module) (s : State) : Host.Outcome State Fault Refusal :=
  done (startExpiry m) s

/-- R47: a stop limit timer expires. -/
def execStopLimitExpiry (m : Module) (s : State) : Host.Outcome State Fault Refusal :=
  done (stopExpiry m) s

/-- R57: a period of the Reference Generator. -/
def execRfgPeriod (s : State) : Host.Outcome State Fault Refusal :=
  done period s

/-- R67: an overload timer expires. -/
def execOverloadTimerExpiry (b : Berth) (s : State) : Host.Outcome State Fault Refusal :=
  done (overloadExpiry b) s

end Sys2Proof.Machine
end

