-- ==== Sys2Proof/Machine/ExecRequests.lean ====
section
/-! DEFINITION. Meanings of commands: commands of berths, modules and events, the clock, the log and the views (chapter 10). -/

namespace Sys2Proof.Machine

/-- R99: BERTH_COMMAND 1. -/
def execConnect (src : Byte) (tag : BitVec 16) (berth : Byte)
    (s : State) : Host.Outcome State Fault Refusal :=
  done (request src tag 3 [berth, 1]) s

/-- R99: BERTH_COMMAND 2. -/
def execConnectDeadShip (src : Byte) (tag : BitVec 16) (berth : Byte)
    (s : State) : Host.Outcome State Fault Refusal :=
  done (request src tag 3 [berth, 2]) s

/-- R109: BERTH_COMMAND 3. -/
def execDepart (src : Byte) (tag : BitVec 16) (berth : Byte) (s : State) : Host.Outcome State Fault Refusal :=
  done (request src tag 3 [berth, 3]) s

/-- R114: BERTH_COMMAND 4. -/
def execAbort (src : Byte) (tag : BitVec 16) (berth : Byte) (s : State) : Host.Outcome State Fault Refusal :=
  done (request src tag 3 [berth, 4]) s

/-- R116: BERTH_COMMAND 5. -/
def execTrip (src : Byte) (tag : BitVec 16) (berth : Byte) (s : State) : Host.Outcome State Fault Refusal :=
  done (request src tag 3 [berth, 5]) s

/-- R121: BERTH_COMMAND 6. -/
def execResetTrip (src : Byte) (tag : BitVec 16) (berth : Byte)
    (s : State) : Host.Outcome State Fault Refusal :=
  done (request src tag 3 [berth, 6]) s

/-- R50: MODULE_COMMAND 1. -/
def execBlock (src : Byte) (tag : BitVec 16) (module : Byte) (s : State) : Host.Outcome State Fault Refusal :=
  done (request src tag 4 [module, 1]) s

/-- R51: MODULE_COMMAND 2. -/
def execUnblock (src : Byte) (tag : BitVec 16) (module : Byte)
    (s : State) : Host.Outcome State Fault Refusal :=
  done (request src tag 4 [module, 2]) s

/-- R51: MODULE_COMMAND 3. -/
def execReadmit (src : Byte) (tag : BitVec 16) (module : Byte)
    (s : State) : Host.Outcome State Fault Refusal :=
  done (request src tag 4 [module, 3]) s

/-- R166: the event request of kind 5. -/
def execEventClear (src : Byte) (tag : BitVec 16) (index : Byte)
    (s : State) : Host.Outcome State Fault Refusal :=
  done (request src tag 5 [index]) s

/-- R167: the event request of kind 6. -/
def execEventSet (src : Byte) (tag : BitVec 16) (index : Byte)
    (s : State) : Host.Outcome State Fault Refusal :=
  done (request src tag 6 [index]) s

/-- R161: the event request of kind 7. -/
def execEventEnable (src : Byte) (tag : BitVec 16) (index : Byte)
    (s : State) : Host.Outcome State Fault Refusal :=
  done (request src tag 7 [index]) s

/-- R161: the event request of kind 8. -/
def execEventDisable (src : Byte) (tag : BitVec 16) (index : Byte)
    (s : State) : Host.Outcome State Fault Refusal :=
  done (request src tag 8 [index]) s

/-- R133: CLOCK_SET. -/
def execClockSet (src : Byte) (tag : BitVec 16) (day : BitVec 16) (second : BitVec 32)
    (s : State) : Host.Outcome State Fault Refusal :=
  done (request src tag 9 (be 2 day.toNat ++ be 4 second.toNat)) s

/-- R153: LOG_READ_OLDEST. -/
def execLogReadOldest (src : Byte) (tag : BitVec 16) (s : State) : Host.Outcome State Fault Refusal :=
  done (request src tag 10 []) s

/-- R154: LOG_REMOVE_OLDEST. -/
def execLogRemoveOldest (src : Byte) (tag : BitVec 16) (number : BitVec 32)
    (s : State) : Host.Outcome State Fault Refusal :=
  done (request src tag 11 (be 4 number.toNat)) s

/-- R31: STATUS_READ of view 1. -/
def execStatusReadPoints (src : Byte) (tag : BitVec 16) (s : State) : Host.Outcome State Fault Refusal :=
  done (request src tag 12 [1]) s

/-- R54: STATUS_READ of view 2. -/
def execStatusReadModules (src : Byte) (tag : BitVec 16) (s : State) : Host.Outcome State Fault Refusal :=
  done (request src tag 12 [2]) s

/-- R69, R123: STATUS_READ of view 3. -/
def execStatusReadBerths (src : Byte) (tag : BitVec 16) (s : State) : Host.Outcome State Fault Refusal :=
  done (request src tag 12 [3]) s

/-- R93: STATUS_READ of view 4. -/
def execStatusReadSync (src : Byte) (tag : BitVec 16) (s : State) : Host.Outcome State Fault Refusal :=
  done (request src tag 12 [4]) s

/-- R156: STATUS_READ of view 5. -/
def execStatusReadSessions (src : Byte) (tag : BitVec 16) (s : State) : Host.Outcome State Fault Refusal :=
  done (request src tag 12 [5]) s

/-- R139: STATUS_READ of view 6. -/
def execStatusReadUnbilled (src : Byte) (tag : BitVec 16) (s : State) : Host.Outcome State Fault Refusal :=
  done (request src tag 12 [6]) s

/-- R190: STATUS_READ of view 7. -/
def execStatusReadLock (src : Byte) (tag : BitVec 16) (s : State) : Host.Outcome State Fault Refusal :=
  done (request src tag 12 [7]) s

/-- R16: STATUS_READ of view 8. -/
def execStatusReadLink (src : Byte) (tag : BitVec 16) (s : State) : Host.Outcome State Fault Refusal :=
  done (request src tag 12 [8]) s

/-- R179: STATUS_READ of view 9. -/
def execStatusReadCapture (src : Byte) (tag : BitVec 16) (s : State) : Host.Outcome State Fault Refusal :=
  done (request src tag 12 [9]) s

end Sys2Proof.Machine
end

