-- ==== Sys2Proof/Machine/ExecStreams.lean ====
section
/-! DEFINITION. Meanings of commands: streams and points (chapter 2). -/

namespace Sys2Proof.Machine

/-- R7, R20: a MEAS frame is handed over. -/
def execMeasFrame (src : Byte) (payload : List Byte) (s : State) : Host.Outcome State Fault Refusal :=
  done (handOff kindMeas src payload) s

/-- R25: a point's age exceeds its HELD limit. -/
def execHeldLimitExpiry (p : Point) (s : State) : Host.Outcome State Fault Refusal :=
  done (heldExpiry p) s

/-- R25, R26: a point's age exceeds its STALE limit. -/
def execStaleLimitExpiry (p : Point) (s : State) : Host.Outcome State Fault Refusal :=
  done (staleExpiry p) s

/-- R29: a staleness condition's repeat timer expires. -/
def execStalenessRepeatTimerExpiry (b : Berth) (side : Side) (s : State) : Host.Outcome State Fault Refusal :=
  done (staleRepeat b side) s

end Sys2Proof.Machine
end

