-- ==== Sys2Proof/Machine/ExecSync.lean ====
section
/-! DEFINITION. Meanings of commands: synchronising (chapter 5). -/

namespace Sys2Proof.Machine

/-- R75: a queued request's wait timer expires. -/
def execSyncWaitTimerExpiry (t : Target) (s : State) : Host.Outcome State Fault Refusal :=
  done (syncWaitExpiry t) s

/-- R82: a channel's watch timer expires. -/
def execWatchTimerExpiry (c : Chan) (s : State) : Host.Outcome State Fault Refusal :=
  done (watchExpiry c) s

/-- R85: a channel's confirm timer expires. -/
def execConfirmTimerExpiry (c : Chan) (s : State) : Host.Outcome State Fault Refusal :=
  done (confirmExpiry c) s

/-- R86: a channel's backoff timer expires. -/
def execBackoffTimerExpiry (c : Chan) (s : State) : Host.Outcome State Fault Refusal :=
  done (backoffExpiry c) s

/-- R89: a dead-bus close's confirm timer expires. -/
def execDeadBusConfirmTimerExpiry (t : Target) (s : State) : Host.Outcome State Fault Refusal :=
  done (deadBusConfirmExpiry t) s

/-- R7, R72: a BSTA is handed over. -/
def execBstaFrame (src : Byte) (payload : List Byte) (s : State) : Host.Outcome State Fault Refusal :=
  done (handOff kindBsta src payload) s

end Sys2Proof.Machine
end

