-- ==== Sys2Proof/Machine/ExecTables.lean ====
section
/-! DEFINITION. Meanings of commands: arrival, reply parts and table requests (chapter 10). -/

namespace Sys2Proof.Machine

/-- R171: an MREQ is handed over. -/
def execMreqArrival (src : Byte) (payload : List Byte) (s : State) : Host.Outcome State Fault Refusal :=
  done (handOff kindMreq src payload) s

/-- R178: the next part of a reply enters. -/
def execNextReplyPart (s : State) : Host.Outcome State Fault Refusal :=
  done nextPart s

/-- R175, R178: READ_TABLE. -/
def execReadTable (src : Byte) (tag : BitVec 16) (table first count : Byte)
    (s : State) : Host.Outcome State Fault Refusal :=
  done (request src tag 1 [table, first, count]) s

/-- R18, R19, R177: WRITE_TABLE on table 1. -/
def execWriteStreamTable (src : Byte) (tag : BitVec 16) (first count : Byte) (entries : List Byte)
    (s : State) : Host.Outcome State Fault Refusal :=
  done (request src tag 2 (be 1 1 ++ [first, count] ++ entries)) s

/-- R24, R177: WRITE_TABLE on table 2. -/
def execWriteCalibrationGains (src : Byte) (tag : BitVec 16) (first count : Byte) (entries : List Byte)
    (s : State) : Host.Outcome State Fault Refusal :=
  done (request src tag 2 (be 1 2 ++ [first, count] ++ entries)) s

/-- R28, R177: WRITE_TABLE on table 3. -/
def execWriteGridSettings (src : Byte) (tag : BitVec 16) (first count : Byte) (entries : List Byte)
    (s : State) : Host.Outcome State Fault Refusal :=
  done (request src tag 2 (be 1 3 ++ [first, count] ++ entries)) s

/-- R33, R177: WRITE_TABLE on table 4. -/
def execWriteModuleTable (src : Byte) (tag : BitVec 16) (first count : Byte) (entries : List Byte)
    (s : State) : Host.Outcome State Fault Refusal :=
  done (request src tag 2 (be 1 4 ++ [first, count] ++ entries)) s

/-- R56, R177: WRITE_TABLE on table 5. -/
def execWriteReferenceSettings (src : Byte) (tag : BitVec 16) (first count : Byte) (entries : List Byte)
    (s : State) : Host.Outcome State Fault Refusal :=
  done (request src tag 2 (be 1 5 ++ [first, count] ++ entries)) s

/-- R71, R177: WRITE_TABLE on table 6. -/
def execWriteBreakerTable (src : Byte) (tag : BitVec 16) (first count : Byte) (entries : List Byte)
    (s : State) : Host.Outcome State Fault Refusal :=
  done (request src tag 2 (be 1 6 ++ [first, count] ++ entries)) s

/-- R73, R177: WRITE_TABLE on table 7. -/
def execWriteSyncProfiles (src : Byte) (tag : BitVec 16) (first count : Byte) (entries : List Byte)
    (s : State) : Host.Outcome State Fault Refusal :=
  done (request src tag 2 (be 1 7 ++ [first, count] ++ entries)) s

/-- R95, R177: WRITE_TABLE on table 8. -/
def execWriteBerthTable (src : Byte) (tag : BitVec 16) (first count : Byte) (entries : List Byte)
    (s : State) : Host.Outcome State Fault Refusal :=
  done (request src tag 2 (be 1 8 ++ [first, count] ++ entries)) s

/-- R137, R138, R177: WRITE_TABLE on table 9. -/
def execWriteMeteringSettings (src : Byte) (tag : BitVec 16) (first count : Byte) (entries : List Byte)
    (s : State) : Host.Outcome State Fault Refusal :=
  done (request src tag 2 (be 1 9 ++ [first, count] ++ entries)) s

/-- R141, R177: WRITE_TABLE on table 10. -/
def execWriteTariffSets (src : Byte) (tag : BitVec 16) (first count : Byte) (entries : List Byte)
    (s : State) : Host.Outcome State Fault Refusal :=
  done (request src tag 2 (be 1 10 ++ [first, count] ++ entries)) s

/-- R143, R177: WRITE_TABLE on table 11. -/
def execWriteCurrentSetIndex (src : Byte) (tag : BitVec 16) (first count : Byte) (entries : List Byte)
    (s : State) : Host.Outcome State Fault Refusal :=
  done (request src tag 2 (be 1 11 ++ [first, count] ++ entries)) s

/-- R158, R177: WRITE_TABLE on table 12. -/
def execWriteEventTable (src : Byte) (tag : BitVec 16) (first count : Byte) (entries : List Byte)
    (s : State) : Host.Outcome State Fault Refusal :=
  done (request src tag 2 (be 1 12 ++ [first, count] ++ entries)) s

end Sys2Proof.Machine
end

