-- ==== Sys2Proof/Machine/Dispatch.lean ====
section
/-! DEFINITION. What each command does: one arm per constructor, one meaning per arm. -/

namespace Sys2Proof.Machine

def exec (i : Instr) (s : State) : Host.Outcome State Fault Refusal :=
  match i with
  | .coldReset nid opn bln => Sys2Proof.Machine.execColdReset nid opn bln s
  | .warmReset nid opn bln lossTicks resetTicks => Sys2Proof.Machine.execWarmReset nid opn bln lossTicks resetTicks s
  | .pilotInputChange b asserted => Sys2Proof.Machine.execPilotInputChange b asserted s
  | .estopAssert => Sys2Proof.Machine.execEstopAssert s
  | .estopRelease => Sys2Proof.Machine.execEstopRelease s
  | .estopRepeatTimerExpiry => Sys2Proof.Machine.execEstopRepeatTimerExpiry s
  | .frameReceptionEnd bytes => Sys2Proof.Machine.execFrameReceptionEnd bytes s
  | .overlongCut => Sys2Proof.Machine.execOverlongCut s
  | .ingressLossTimerExpiry => Sys2Proof.Machine.execIngressLossTimerExpiry s
  | .egressFree => Sys2Proof.Machine.execEgressFree s
  | .promotion => Sys2Proof.Machine.execPromotion s
  | .measFrame src payload => Sys2Proof.Machine.execMeasFrame src payload s
  | .heldLimitExpiry p => Sys2Proof.Machine.execHeldLimitExpiry p s
  | .staleLimitExpiry p => Sys2Proof.Machine.execStaleLimitExpiry p s
  | .stalenessRepeatTimerExpiry b side => Sys2Proof.Machine.execStalenessRepeatTimerExpiry b side s
  | .scanSlot => Sys2Proof.Machine.execScanSlot s
  | .pollReplyTimerExpiry => Sys2Proof.Machine.execPollReplyTimerExpiry s
  | .prpyFrame src payload => Sys2Proof.Machine.execPrpyFrame src payload s
  | .startLimitExpiry m => Sys2Proof.Machine.execStartLimitExpiry m s
  | .stopLimitExpiry m => Sys2Proof.Machine.execStopLimitExpiry m s
  | .rfgPeriod => Sys2Proof.Machine.execRfgPeriod s
  | .overloadTimerExpiry b => Sys2Proof.Machine.execOverloadTimerExpiry b s
  | .syncWaitTimerExpiry t => Sys2Proof.Machine.execSyncWaitTimerExpiry t s
  | .watchTimerExpiry c => Sys2Proof.Machine.execWatchTimerExpiry c s
  | .confirmTimerExpiry c => Sys2Proof.Machine.execConfirmTimerExpiry c s
  | .backoffTimerExpiry c => Sys2Proof.Machine.execBackoffTimerExpiry c s
  | .deadBusConfirmTimerExpiry t => Sys2Proof.Machine.execDeadBusConfirmTimerExpiry t s
  | .bstaFrame src payload => Sys2Proof.Machine.execBstaFrame src payload s
  | .shipState src flags generators load ident => Sys2Proof.Machine.execShipState src flags generators load ident s
  | .hold src quanta => Sys2Proof.Machine.execHold src quanta s
  | .genOff src => Sys2Proof.Machine.execGenOff src s
  | .genOn src => Sys2Proof.Machine.execGenOn src s
  | .shedAck src kw => Sys2Proof.Machine.execShedAck src kw s
  | .rampPeriod b => Sys2Proof.Machine.execRampPeriod b s
  | .shipHoldEnd b => Sys2Proof.Machine.execShipHoldEnd b s
  | .holdLimitReached b => Sys2Proof.Machine.execHoldLimitReached b s
  | .rampTimeoutExpiry b => Sys2Proof.Machine.execRampTimeoutExpiry b s
  | .generatorWaitExpiry b => Sys2Proof.Machine.execGeneratorWaitExpiry b s
  | .openingTimerExpiry b => Sys2Proof.Machine.execOpeningTimerExpiry b s
  | .clockTick => Sys2Proof.Machine.execClockTick s
  | .demandIntervalEnd => Sys2Proof.Machine.execDemandIntervalEnd s
  | .mreqArrival src payload => Sys2Proof.Machine.execMreqArrival src payload s
  | .nextReplyPart => Sys2Proof.Machine.execNextReplyPart s
  | .readTable src tag table first count => Sys2Proof.Machine.execReadTable src tag table first count s
  | .writeStreamTable src tag first count entries => Sys2Proof.Machine.execWriteStreamTable src tag first count entries s
  | .writeCalibrationGains src tag first count entries => Sys2Proof.Machine.execWriteCalibrationGains src tag first count entries s
  | .writeGridSettings src tag first count entries => Sys2Proof.Machine.execWriteGridSettings src tag first count entries s
  | .writeModuleTable src tag first count entries => Sys2Proof.Machine.execWriteModuleTable src tag first count entries s
  | .writeReferenceSettings src tag first count entries => Sys2Proof.Machine.execWriteReferenceSettings src tag first count entries s
  | .writeBreakerTable src tag first count entries => Sys2Proof.Machine.execWriteBreakerTable src tag first count entries s
  | .writeSyncProfiles src tag first count entries => Sys2Proof.Machine.execWriteSyncProfiles src tag first count entries s
  | .writeBerthTable src tag first count entries => Sys2Proof.Machine.execWriteBerthTable src tag first count entries s
  | .writeMeteringSettings src tag first count entries => Sys2Proof.Machine.execWriteMeteringSettings src tag first count entries s
  | .writeTariffSets src tag first count entries => Sys2Proof.Machine.execWriteTariffSets src tag first count entries s
  | .writeCurrentSetIndex src tag first count entries => Sys2Proof.Machine.execWriteCurrentSetIndex src tag first count entries s
  | .writeEventTable src tag first count entries => Sys2Proof.Machine.execWriteEventTable src tag first count entries s
  | .connect src tag berth => Sys2Proof.Machine.execConnect src tag berth s
  | .connectDeadShip src tag berth => Sys2Proof.Machine.execConnectDeadShip src tag berth s
  | .depart src tag berth => Sys2Proof.Machine.execDepart src tag berth s
  | .abort src tag berth => Sys2Proof.Machine.execAbort src tag berth s
  | .trip src tag berth => Sys2Proof.Machine.execTrip src tag berth s
  | .resetTrip src tag berth => Sys2Proof.Machine.execResetTrip src tag berth s
  | .block src tag module => Sys2Proof.Machine.execBlock src tag module s
  | .unblock src tag module => Sys2Proof.Machine.execUnblock src tag module s
  | .readmit src tag module => Sys2Proof.Machine.execReadmit src tag module s
  | .eventClear src tag index => Sys2Proof.Machine.execEventClear src tag index s
  | .eventSet src tag index => Sys2Proof.Machine.execEventSet src tag index s
  | .eventEnable src tag index => Sys2Proof.Machine.execEventEnable src tag index s
  | .eventDisable src tag index => Sys2Proof.Machine.execEventDisable src tag index s
  | .clockSet src tag day second => Sys2Proof.Machine.execClockSet src tag day second s
  | .logReadOldest src tag => Sys2Proof.Machine.execLogReadOldest src tag s
  | .logRemoveOldest src tag number => Sys2Proof.Machine.execLogRemoveOldest src tag number s
  | .statusReadPoints src tag => Sys2Proof.Machine.execStatusReadPoints src tag s
  | .statusReadModules src tag => Sys2Proof.Machine.execStatusReadModules src tag s
  | .statusReadBerths src tag => Sys2Proof.Machine.execStatusReadBerths src tag s
  | .statusReadSync src tag => Sys2Proof.Machine.execStatusReadSync src tag s
  | .statusReadSessions src tag => Sys2Proof.Machine.execStatusReadSessions src tag s
  | .statusReadUnbilled src tag => Sys2Proof.Machine.execStatusReadUnbilled src tag s
  | .statusReadLock src tag => Sys2Proof.Machine.execStatusReadLock src tag s
  | .statusReadLink src tag => Sys2Proof.Machine.execStatusReadLink src tag s
  | .statusReadCapture src tag => Sys2Proof.Machine.execStatusReadCapture src tag s
  | .unlock src tag ident code => Sys2Proof.Machine.execUnlock src tag ident code s
  | .relock src tag => Sys2Proof.Machine.execRelock src tag s
  | .setCodeOperator src tag code level => Sys2Proof.Machine.execSetCodeOperator src tag code level s
  | .setCodeMetrology src tag code revision current => Sys2Proof.Machine.execSetCodeMetrology src tag code revision current s
  | .removeCode src tag code => Sys2Proof.Machine.execRemoveCode src tag code s
  | .freeze src tag => Sys2Proof.Machine.execFreeze src tag s
  | .clearPrepare src tag => Sys2Proof.Machine.execClearPrepare src tag s
  | .billingClear src tag ident code => Sys2Proof.Machine.execBillingClear src tag ident code s
  | .restart src tag => Sys2Proof.Machine.execRestart src tag s

end Sys2Proof.Machine
end

