-- ==== Sys2Proof/Machine/Due.lean ====
section
/-! DEFINITION. Which of the part's own events is due at device time: the expiries of its timers and the internal
events of the table that nothing outside brings about. -/

namespace Sys2Proof.Machine

/-- A timer that runs has reached its instant. -/
def reached (s : State) : Option Nat → Bool
  | none => false
  | some t => t ≤ s.now

/-- The command `c` when `v` holds. -/
def dueIf (v : Bool) (c : Instr) : List Instr := if v then [c] else []

/-- Chapters 1, 7 and 10: egress, the promotion, the reply parts, the clock. -/
def dueLink (s : State) : List Instr :=
  dueIf s.lpu.sending.isSome .egressFree ++
    dueIf (!s.mgu.parts.isEmpty && s.lpu.placeFree) .nextReplyPart ++
    dueIf s.mtr.endDue .demandIntervalEnd ++
    dueIf (reached s (some s.lpu.lossDue)) .ingressLossTimerExpiry ++
    dueIf (s.lpu.control.any fun p => !p.promoted && p.entry + Config.deferMs ≤ s.now) .promotion ++
    dueIf (reached s (some s.mtr.tickDue)) .clockTick ++
    dueIf (reached s s.bsq.estopRepeat) .estopRepeatTimerExpiry

/-- R25: the instant a point's age exceeds its HELD limit. -/
def heldDue (r : PointRec) : Option Nat :=
  match r.state, r.limits with
  | .fresh, some (h, l) => if h < l then some (r.arrival + h + 1) else none
  | _, _ => none

/-- R25: the instant a point's age exceeds its STALE limit. -/
def staleDue (r : PointRec) : Option Nat :=
  match r.limits with
  | none => none
  | some (_, l) => if r.state = .stale then none else some (r.arrival + l + 1)

/-- Chapter 2: the freshness limits and the staleness conditions. -/
def dueStreams (s : State) : List Instr :=
  (allPoints.map fun p =>
    dueIf (reached s (heldDue (s.point p))) (.heldLimitExpiry p) ++
      dueIf (reached s (staleDue (s.point p))) (.staleLimitExpiry p)).flatten ++
    (allBerths.map fun b =>
      dueIf (reached s s.scl.shipStale[b]) (.stalenessRepeatTimerExpiry b .ship) ++
        dueIf (reached s s.scl.convStale[b]) (.stalenessRepeatTimerExpiry b .converter)).flatten

/-- Chapters 3 and 4. -/
def dueModules (s : State) : List Instr :=
  dueIf (reached s (some s.mpm.scanDue)) .scanSlot ++
    dueIf (reached s (s.mpm.poll.bind fun p => p.replyDue)) .pollReplyTimerExpiry ++
    (allModules.map fun m =>
      dueIf (reached s (s.modu m).startDue) (.startLimitExpiry m) ++
        dueIf (reached s (s.modu m).stopDue) (.stopLimitExpiry m)).flatten ++
    dueIf (reached s (some s.rfg.periodDue)) .rfgPeriod ++
    (allBerths.map fun b =>
      dueIf (reached s ((s.berthRef b).bind fun r => r.overloadDue)) (.overloadTimerExpiry b)).flatten

/-- Chapter 5. -/
def dueSync (s : State) : List Instr :=
  (s.syu.queue.map fun r => dueIf (reached s (some r.waitDue)) (.syncWaitTimerExpiry r.target)).flatten ++
    (allChans.map fun c =>
      dueIf (reached s (s.syu.chans[c].bind fun w => w.watchDue)) (.watchTimerExpiry c) ++
        dueIf (reached s (s.syu.chans[c].bind fun w => w.confirmDue)) (.confirmTimerExpiry c) ++
        dueIf (reached s (s.syu.chans[c].bind fun w => w.backoffDue)) (.backoffTimerExpiry c)).flatten ++
    (s.syu.deadBus.map fun d => dueIf (reached s (some d.confirmDue)) (.deadBusConfirmTimerExpiry d.target)).flatten

/-- R107: the instant the ramp timeout expires. -/
def rampTimeoutDue : PauseTimer → Option Nat
  | .running due => some due
  | _ => none

/-- Chapter 6, one berth. -/
def dueBerth (s : State) (b : Berth) : List Instr :=
  dueIf (reached s (s.berth b).holdEnd) (.shipHoldEnd b) ++
    dueIf (holdLimitPending s b && holdLimitDue s b ≤ s.now) (.holdLimitReached b) ++
    dueIf (reached s (rampTimeoutDue (s.berth b).rampTimer)) (.rampTimeoutExpiry b) ++
    dueIf (reached s (s.berth b).genDue) (.generatorWaitExpiry b) ++
    dueIf (reached s (s.berth b).openDue) (.openingTimerExpiry b) ++
    dueIf (reached s (s.berth b).rampDue) (.rampPeriod b)

/-- The part's own events that are due, in the order in which the model takes them. -/
def dueCommands (s : State) : List Instr :=
  dueLink s ++ dueStreams s ++ dueModules s ++ dueSync s ++ (allBerths.map (dueBerth s)).flatten

/-- The first of them. -/
def dueCommand (s : State) : Option Instr := (dueCommands s).head?

end Sys2Proof.Machine
end

