-- ==== Sys2Proof/Machine/Idle.lean ====
section
/-! DEFINITION. What the part does when no command waits: its own due events, and the passing of time. -/

namespace Sys2Proof.Machine

/-- With no command waiting, what the part itself does next: the first of its own events that is due at device time,
or one more millisecond. -/
def idle (s : State) : Host.Outcome State Fault Refusal :=
  match dueCommand s with
  | some c => exec c s
  | none => .next { s with now := s.now + 1 }

end Sys2Proof.Machine
end

