-- ==== Sys2Proof/Safety.lean ====
section
/-! DEFINITION. What holds of the SC-48 between commands, by the manual's statements about the whole part, and the
words in which the statements about single commands are put. -/

namespace Sys2Proof.Machine

/-! ### Invariants -/

/-- Nothing that one block has handed another waits to be taken. -/
def Quiet (s : State) : Prop := s.handoffs = []

/-- R119, R168: TRIPb is asserted exactly while berth b's trip demand is set or the emergency-stop input is
asserted. -/
def TripOutputs (s : State) : Prop := ∀ b : Berth, s.evr.outputs[b] = (s.bsq.recs[b].demand || s.pins.estop)

/-- R122: the states no berth is in while the emergency-stop input is asserted. -/
def BerthState.connected : BerthState → Bool
  | .allocating | .energising | .syncing | .deadClose | .rampUp | .shore | .awaitGenerators | .rampDown
  | .opening => true
  | .unused | .dead | .releasing | .tripped => false

/-- R122: while the emergency-stop input is asserted no berth is connected. -/
def EstopHolds (s : State) : Prop := s.pins.estop = true → ∀ b : Berth, s.bsq.recs[b].state.connected = false

/-- R145: the reservations and sessions with the records of the log stay within the log's places, and the session
numbers left suffice for them. -/
def BillingRoom (s : State) : Prop :=
  s.blg.sum ≤ Config.billingPlaces ∧ s.blg.counter + s.blg.taken ≤ Config.u32Max + 1

/-- R149: the import total of a session record is the sum of its four band registers. -/
def Session.addsUp (r : Session) : Prop := r.importWh = r.bands[0] + r.bands[1] + r.bands[2] + r.bands[3]

/-- R141, R149: the schedules name bands 0 to 3, and every session record, open or logged, adds up. -/
def SessionsAddUp (s : State) : Prop :=
  (∀ i : Fin 4, ∀ e ∈ s.blg.sets[i].schedule, e.2 ≤ 3) ∧
    (∀ b r, s.slot b = .openSlot r → r.addsUp) ∧ ∀ r ∈ s.blg.log, r.addsUp

/-- R152: the session numbers of the log increase strictly from oldest to newest and lie below the counter. -/
def LogOrdered (s : State) : Prop :=
  (s.blg.log.map fun r => r.number.getD 0).Pairwise (· < ·) ∧
    ∀ r ∈ s.blg.log, ∃ n, r.number = some n ∧ n < s.blg.counter

/-- R144: the bound count of a set is the number of open sessions bound to it. -/
def Blg.boundTo (g : Blg) (i : Fin 4) : Nat :=
  g.slots.toList.countP fun x =>
    match x with
    | .openSlot r => r.set = i
    | _ => false

/-- R144: every set's bound count. -/
def BoundCounts (s : State) : Prop := ∀ i : Fin 4, s.blg.bound i = s.blg.boundTo i

/-- R145: the slot a berth holds in each of its states. -/
def slotFits : BerthState → Slot → Bool
  | .unused, .free | .dead, .free | .releasing, .free | .tripped, .free => true
  | .allocating, .reserved | .energising, .reserved | .syncing, .reserved | .deadClose, .reserved => true
  | .rampUp, .openSlot _ | .shore, .openSlot _ | .awaitGenerators, .openSlot _ | .rampDown, .openSlot _
  | .opening, .openSlot _ => true
  | _, _ => false

/-- R143, R145: every slot fits its berth's state, the current-set index names a LOADED set or none, and it names one
while a slot is RESERVED. -/
def SlotsFit (s : State) : Prop :=
  (∀ b : Berth, slotFits (s.berth b).state (s.slot b) = true) ∧
    (∀ i, s.blg.current = some i → s.blg.sets[i].loaded = true) ∧
    ∀ b : Berth, s.slot b = .reserved → s.blg.current ≠ none

/-- R183, R185: the lock state is UNPROTECTED exactly while the operator code is absent, the attempt counter is within
0..5, the exhausted condition says that it is 0, an exhausted lock is not open, and the revision is 65534 exactly while
no metrology code is held. -/
def LockSound (s : State) : Prop :=
  (s.mlk.operatorCode = none ↔ s.mlk.lock = .unprotected) ∧ s.mlk.attempts ≤ Config.lockAttempts ∧
    (s.mlk.exhausted = true ↔ s.mlk.attempts = 0) ∧ (s.mlk.attempts = 0 → s.mlk.lock ≠ .unlocked) ∧
    (s.mlk.metrologyCode = none ↔ s.mlk.revision = Config.revisionUnset)

/-- R8, R10, R11: the forward buffer, PROTECT and the CONTROL queue stay within their places, the command list is
used only while all places of PROTECT are taken, PROTECT and the command list together hold at most one command for
each breaker, and CONTROL at most one SETP for each module. -/
def LinkBounds (s : State) : Prop :=
  s.lpu.forward.length ≤ Config.forwardPlaces ∧ s.lpu.protect.length ≤ Config.protectPlaces ∧
    (s.lpu.commandList = [] ∨ s.lpu.protect.length = Config.protectPlaces) ∧
    ((s.lpu.protect ++ s.lpu.commandList).map fun c => c.target).Nodup ∧
    s.lpu.control.length ≤ Config.controlPlaces ∧
    ∀ m, s.lpu.control.countP (ControlPlace.isSetpFor m) ≤ 1

/-- R13, R171, R178: the request queue holds at most 8 requests; between commands the one at its head waits with parts
of its reply, the others each hold a reservation, and frames and reservations take at most the ordinary places; the
refusal place holds at most one frame. -/
def RepliesReserved (s : State) : Prop :=
  s.mgu.queue.length ≤ Config.requestPlaces ∧ (s.mgu.parts = [] ↔ s.mgu.queue = []) ∧
    s.lpu.reservations = s.mgu.queue.length - 1 ∧
    s.lpu.ordinary + s.lpu.reservations ≤ Config.replyPlaces ∧
    (s.lpu.reply.countP fun p => p.refusal) ≤ 1

/-- R74: each breaker has at most one request in the queue and the channels together, or a dead-bus close
pending. -/
def SyncOnce (s : State) : Prop :=
  ((s.syu.queue.map fun r => r.target) ++ (s.syu.chans.toList.filterMap fun w => w.map fun w => w.req.target) ++
    s.syu.deadBus.map fun d => d.target).Nodup

/-- R34: a module stands in the allocation list of exactly one berth when it is allocated, in none otherwise, and twice
in no list. -/
def ModulesListed (s : State) : Prop :=
  (∀ b, (s.list b).Nodup) ∧ (∀ b c m, m ∈ s.list b → m ∈ s.list c → b = c) ∧
    ∀ m, (s.modu m).state.allocated = true ↔ ∃ b, m ∈ s.list b

/-- R162: the event hold of each berth is what the event table gives, and BSQ has been handed it. -/
def HoldsCurrent (s : State) : Prop :=
  ∀ b : Berth, s.evr.holds[b] = eventHold s.evr.entries b ∧ s.bsq.recs[b].eventHold = s.evr.holds[b]

/-- R129, R131: the unbilled registers of every berth stay within 64 bits. -/
def UnbilledFits (s : State) : Prop :=
  ∀ b : Berth, s.mtr.unbilled[b].importWh ≤ Config.u64Max ∧ s.mtr.unbilled[b].returnedWh ≤ Config.u64Max ∧
    s.mtr.unbilled[b].unmeteredMs ≤ Config.u64Max

/-- R125, R131, R132, R134, R137: residues below one Wh, unmetered remainders below one ms and unbilled registers within
64 bits; the clock in its ranges, the demand interval one of the five, and the running interval the one that contains the
second of day, unless its end is due. -/
def MeterSound (s : State) : Prop :=
  (∀ b : Berth, s.mtr.recs[b].importResidue < Config.wattHour ∧ s.mtr.recs[b].returnedResidue < Config.wattHour ∧
      s.mtr.recs[b].unmeteredRem < 1000) ∧
    UnbilledFits s ∧ s.mtr.day ≤ 65535 ∧ s.mtr.second ≤ 86399 ∧ s.mtr.demandS ∈ [300, 600, 900, 1800, 3600] ∧
    (s.mtr.endDue = true → s.mtr.second % s.mtr.demandS = 0) ∧
    (s.mtr.endDue = false →
      s.mtr.intervalStart = s.mtr.second / s.mtr.demandS * s.mtr.demandS ∧
        s.mtr.intervalEnd = (s.mtr.second / s.mtr.demandS * s.mtr.demandS + s.mtr.demandS) % 86400)

/-- R14: while egress is free, nothing waits to be sent. -/
def EgressWorks (s : State) : Prop :=
  s.lpu.sending = none →
    s.lpu.protect = [] ∧ s.lpu.commandList = [] ∧ s.lpu.control = [] ∧ s.lpu.forward = [] ∧ s.lpu.reply = []

/-! ### Words for statements about commands -/

/-- R159: a raise of entry `e` concerns the entry alone: the entry is raw already, or it is not enabled. -/
def RaisesAlone (e : EventIx) (s : State) : Prop := (s.event e).raw = true ∨ (s.event e).enabled = false

/-- R159: an entry after a raise: counted when it was raw, otherwise set with the terminal clock. -/
def EventEntry.raised (clock : Nat × Nat) (x : EventEntry) : EventEntry :=
  if x.raw then { x with count := min (x.count + 1) 255 }
  else { x with raw := true, count := 0, clock := some clock }

/-- The state with entry `e` raised and nothing else changed. -/
def raised (e : EventIx) (s : State) : State :=
  { s with evr := { s.evr with entries := upd s.evr.entries e (EventEntry.raised s.clock) } }

/-- R2, R5: a good frame has been heard: the ingress loss timer restarts and the loss indicator is clear. -/
def heard (s : State) : State :=
  { s with
    lpu := { s.lpu with
      lossDue := s.now + 20
      lossIndicator := false
      counters := { s.lpu.counters with good := min (s.lpu.counters.good + 1) Config.u32Max } } }

/-- R9, R14: egress has begun a frame of the part's own with the transmit sequence counter's value. -/
def Lpu.begun (dest kind flags : Nat) (payload : List Byte) (l : Lpu) : Lpu :=
  { l with
    sending := some (frameBytes dest ((strapNode l.nid).getD 0) kind flags l.seq payload)
    seq := (l.seq + 1) % 65536
    counters := { l.counters with sent := min (l.counters.sent + 1) Config.u32Max } }

/-- R36, R65: what egress tells when it begins a CONTROL frame: a SETP's references and mode become its module's
last-sent values, and a START sets the start-sent flag; the reply timer of 4 ms starts for the open poll whose POLL it
is. -/
def told (f : ControlFrame) (s : State) : State :=
  match f with
  | .setp g => { s with rfg := { s.rfg with modules := upd s.rfg.modules g.module fun r => { r with
      lastSent := some (g.f, g.v, g.mode)
      startSent := r.startSent || decide (g.mode = .start) } } }
  | .poll _ m n => { s with mpm := { s.mpm with poll := s.mpm.poll.map fun p =>
      if p.module = m ∧ p.number = n then { p with replyDue := some (s.now + 4) } else p } }
  | .shpn _ _ => s

/-- R9, R14: egress has begun a CONTROL frame, with PROMOTED set when `flags` is 1. -/
def controlBegun (f : ControlFrame) (flags : Nat) (s : State) : State :=
  told f { s with lpu := s.lpu.begun f.parts.1 f.parts.2.1 flags f.parts.2.2 }

/-- R13, R14: a frame has entered the REPLY queue at the tail in an ordinary place, or, when egress was free, has been
begun. -/
def Lpu.replied (f : ReplyFrame) (l : Lpu) : Lpu :=
  match l.sending with
  | none => l.begun f.parts.1 f.parts.2.1 0 f.parts.2.2
  | some _ => { l with reply := l.reply ++ [⟨f, false⟩] }

/-- A request of `src` that the MGU accepts and serves at once: it reaches consumption (R1, R6), no other request is in
the queue or in service, and an ordinary place of the REPLY queue can be reserved (R171, R172). -/
def Served (s : State) (src : Byte) : Prop :=
  reaches s src.toNat = true ∧ s.mgu.queue = [] ∧ s.mgu.parts = [] ∧ s.lpu.placeFree = true

/-- R174: the source is the operator node or the billing node. -/
def fromStation (s : State) (src : Byte) : Prop := isOperator s src.toNat = true ∨ isBilling s src.toNat = true

/-- The reply to a request of `src` with this tag and kind: a result and data. -/
def reply (src : Byte) (tag : BitVec 16) (kind : Nat) (r : Result) (data : List Byte) : ReplyFrame :=
  .mrep src.toNat tag (BitVec.ofNat 8 kind) r data

/-- R172, R180: a request of `src` has been answered: its node's prepare flag is cleared and the reply has been
given. -/
def answered (src : Byte) (tag : BitVec 16) (kind : Nat) (r : Result) (data : List Byte) (s : State) : State :=
  { setPrepared src.toNat false s with lpu := s.lpu.replied (reply src tag kind r data) }

/-- R150: the closed record `x` of session `r`: what the session carried, with the reason and the end clock. -/
def ClosedAs (r x : Session) (why : EndReason) (clock : Nat × Nat) : Prop :=
  x.berth = r.berth ∧ x.ident = r.ident ∧ x.set = r.set ∧ x.startClock = r.startClock ∧ x.bands = r.bands ∧
    x.importWh = r.importWh ∧ x.returnedWh = r.returnedWh ∧ x.unmeteredMs = r.unmeteredMs ∧ x.reason = some why ∧
    x.endClock = some clock

/-- R13, R14, R172: the frame stands in an ordinary place of the REPLY queue of `t`, or egress, found free, has begun
it. -/
def ReplyGiven (f : ReplyFrame) (t : State) : Prop :=
  (⟨f, false⟩ : ReplyPlace) ∈ t.lpu.reply ∨ ∃ l : Lpu, t.lpu = l.begun f.parts.1 f.parts.2.1 0 f.parts.2.2

/-- R10, R14: the command stands in PROTECT or the command list of `t`, or egress, found free, has begun it. -/
def CommandGiven (c : Bcmd) (t : State) : Prop :=
  c ∈ t.lpu.protect ∨ c ∈ t.lpu.commandList ∨ ∃ l : Lpu, t.lpu = l.begun c.dest 5 0 c.payload

/-- R11, R14: the SHPN, given at the present instant, stands in the CONTROL queue of `t`, or egress, found free, has
begun it. -/
def NoticeGiven (dest : Nat) (n : Notice) (t : State) : Prop :=
  let f := ControlFrame.shpn dest n
  (⟨f, t.now, false⟩ : ControlPlace) ∈ t.lpu.control ∨
    ∃ l : Lpu, t.lpu = l.begun f.parts.1 f.parts.2.1 0 f.parts.2.2

/-- R115: berth `b` of `s`, in one of the states a trip acts in, has been tripped in `t`: the demand and the reason, the
outlet's request cancelled, BCMD TRIP given, the modules released, the session closed or the reservation freed, the timers
stopped, and the BERTH notice given. -/
def TrippedFrom (b : Berth) (why : TripReason) (s t : State) : Prop :=
  (t.berth b).state = .tripped ∧ (t.berth b).demand = true ∧ (t.berth b).fromOpening = false ∧
    (t.berth b).reason = some why ∧ t.evr.outputs[b] = true ∧
    (t.berth b).rampDue = none ∧ (t.berth b).rampTimer = .stopped ∧ (t.berth b).holdEnd = none ∧
    (t.berth b).genDue = none ∧ (t.berth b).openDue = none ∧ (t.berth b).capacityCond = false ∧
    (∀ r, t.berthRef b = some r → r.pSet = 0) ∧ t.slot b = .free ∧
    (∀ r, s.slot b = .openSlot r → ∃ x ∈ t.blg.log, ClosedAs r x why.endReason s.clock) ∧
    (∀ m ∈ s.list b, (t.modu m).state ≠ .starting ∧ (t.modu m).state ≠ .syncing ∧ (t.modu m).state ≠ .online) ∧
    (SyncOnce s → t.syu.busy (outlet b) = false) ∧
    (EgressWorks s → s.own ≠ none →
      CommandGiven ⟨(s.breaker (outlet b)).node, .trip, outlet b, (s.breaker (outlet b)).margin + 100⟩ t ∧
        ((∀ e, RaisesAlone e s ∨ (s.event e).action ∈ [.tripBerth, .tripAll]) → ModulesListed s →
          s.lpu.control.length + 4 ≤ 24 → NoticeGiven (s.entry b).gateway (.berth b 12) t))

/-- R113: berth `b`, whose list holds `kept`, has been taken to RELEASING in `t`, and to DEAD at once with an empty list: the
outlet's request cancelled, the reservation freed, the modules released, the BERTH notices given. -/
def ReleasedFrom (b : Berth) (kept : List Module) (s t : State) : Prop :=
  (t.berth b).state = (if kept = [] then .dead else .releasing) ∧ t.slot b ≠ .reserved ∧ t.list b = kept ∧
    (∀ m ∈ kept, (t.modu m).state ∉ [.starting, .syncing, .online]) ∧ t.syu.busy (outlet b) = false ∧
    (EgressWorks s → s.own ≠ none → s.lpu.control.length ≤ 4 →
      NoticeGiven (s.entry b).gateway (.berth b 11) t ∧
        (kept = [] → NoticeGiven (s.entry b).gateway (.berth b 1) t))

/-- R46, R48: what SYU held for the contactor of module `m` of `s` has been cancelled in `t`, and BCMD OPEN given. -/
def Parted (m : Module) (s t : State) : Prop :=
  t.syu.busy (contactor m) = false ∧
    (EgressWorks s → s.own ≠ none → CommandGiven ⟨(s.breaker (contactor m)).node, .openCmd, contactor m,
      (s.breaker (contactor m)).margin + 100⟩ t)

/-- R46: module `m` of `s`, in service, has been released in `t`. -/
def StoppedFrom (m : Module) (s t : State) : Prop :=
  (t.modu m).state = .stopping ∧ (t.modu m).stopDue = some (t.now + s.mpm.table[m].stopLimit * 1000) ∧
    (t.modu m).startDue = none ∧ (t.modu m).deferred = false ∧ (t.modu m).offSeen = false ∧
    (t.modu m).openSeen = false ∧ (t.modu m).openNoted = t.now ∧ Parted m s t

/-- R41, R48, R49, R100, R103, R120: module `m` of berth `b`, STARTING, SYNCING or ONLINE, has left service by loss or
block, and the berth's list keeps `kept`: a replacement for a module that was ONLINE; the berth and its other modules
where they stand while one of these is ONLINE; and otherwise, or with a first module before it was ONLINE, the end of
the berth's connection. -/
def LeftService (b : Berth) (m : Module) (kept : List Module) (s t : State) : Prop :=
  let st := (s.berth b).state
  let was := decide ((s.modu m).state = .online)
  let feeds := (s.list b).any fun x => decide (x ≠ m) && decide ((s.modu x).state = .online)
  let replaces := was && feeds && decide ((s.entry b).replacement = 1) &&
    decide (st ∈ [.energising, .syncing, .deadClose, .rampUp, .shore, .awaitGenerators, .rampDown])
  let spare := if replaces then (List.finRange 8).find? fun x => decide ((s.modu x).state = .standby) else none
  let shown := (s.berth b).summary.online ≠ 0
  let lost := (t.event (evCapacityLimit b)).raw = true ∧ ReleasedFrom b kept s t
  t.list b = kept ++ spare.toList ∧
  (∀ j, spare = some j → (t.modu j).state = .starting ∧ (t.modu j).startIssued = true ∧ (t.modu j).first = false ∧
    (t.modu j).startDue = some (t.now + s.mpm.table[j].startLimit * 1000)) ∧
  (feeds = true → st ∉ [.allocating, .energising] → (t.berth b).state = st ∧
    t.syu.busy (outlet b) = s.syu.busy (outlet b) ∧ ∀ x, x ≠ m → spare ≠ some x → t.modu x = s.modu x) ∧
  (feeds = false → shown → st ∈ [.energising, .syncing, .deadClose] → lost) ∧
  (feeds = false → shown → st ∈ [.rampUp, .shore, .awaitGenerators, .rampDown] → TrippedFrom b .noSource s t) ∧
  ((s.modu m).first = true → was = false → st = .allocating → lost)

/-- R42, R100: first module `m` of berth `b` has become ONLINE in `t`: the deferred requests of the berth are taken up, and
a berth in ALLOCATING is ENERGISING. -/
def FirstOnline (b : Berth) (m : Module) (s t : State) : Prop :=
  (t.modu m).state = .online ∧ (t.modu m).startDue = none ∧
    (∀ x ∈ s.list b, x ≠ m → (s.modu x).deferred = true → (t.modu x).deferred = false ∧
      ((s.breaker (contactor x)).node ≠ 0 → t.syu.busy (contactor x) = true)) ∧
    ((s.berth b).state = .allocating → (s.berth b).summary.online = 0 → (t.berth b).state = .energising ∧
      (EgressWorks s → s.own ≠ none → s.lpu.control.length ≤ 4 →
        NoticeGiven (s.entry b).gateway (.berth b 3) t))

/-- R88, R101, R102: berth `b` of `s`, ENERGISING with its bus formed and every listed module ONLINE, has left ENERGISING in
`t`: a request for its outlet in SYNCING, a dead-bus close in DEAD_CLOSE, or RELEASING with SYNC_FAIL when SYU took
neither. -/
def LeftEnergising (b : Berth) (s t : State) : Prop :=
  let k := outlet b
  let e := s.breaker k
  let free := s.syu.busy k = false ∧ e.node ≠ 0
  let far := s.point (shPoint b)
  let dead := s.pins.estop = false ∧ far.state ≠ .stale ∧
    far.voltage * 100 < (s.entry b).nominalV * s.syu.profiles[0].deadThreshold ∧
    ∃ r, s.bsq.ships[b] = some r ∧ t.now - r.received ≤ 2000 ∧ r.deadBus = true
  let request : SyncReq := {
    target := k, berth := b, requester := .bsq, refPoint := shPoint b, matchPoint := cbPoint b
    instant := t.now, waitDue := t.now + s.syu.profiles[0].waitLimit * 1000 }
  let failed := (t.event (evSyncFail b)).raw = true ∧ ReleasedFrom b (s.list b) s t
  ((s.berth b).deadShip = false → free → (t.berth b).state = .syncing ∧
    (request ∈ t.syu.queue ∨ ∃ c : Chan, ∃ w, t.syu.chans[c] = some w ∧ w.req = request) ∧
    (EgressWorks s → s.own ≠ none → s.lpu.control.length ≤ 4 →
      NoticeGiven (s.entry b).gateway (.berth b 4) t)) ∧
  ((s.berth b).deadShip = false → s.syu.busy k = false → e.node = 0 → failed) ∧
  ((s.berth b).deadShip = true → free → dead → (t.berth b).state = .deadClose ∧
    (⟨k, b, .bsq, t.now, t.now + (e.tc + e.margin)⟩ : DeadClose) ∈ t.syu.deadBus ∧
    (EgressWorks s → s.own ≠ none → CommandGiven ⟨e.node, .close, k, e.tc + e.margin⟩ t ∧
      (s.lpu.control.length ≤ 4 → NoticeGiven (s.entry b).gateway (.berth b 5) t))) ∧
  ((s.berth b).deadShip = true → s.syu.busy k = false → ¬ (free ∧ dead) → failed)

/-- R43, R102: the request for breaker `k` of `s` has ended in `t` with FAILED_WAIT or FAILED_ATTEMPTS, and its requester has
acted on it: an outlet's berth in SYNCING has gone to RELEASING, a module in SYNCING has been released. -/
def FailedAt (k : Target) (s t : State) : Prop :=
  (∀ b, k = outlet b → (s.berth b).state = .syncing → ReleasedFrom b (s.list b) s t) ∧
    ∀ m b, k = contactor m → m ∈ s.list b → (s.modu m).state = .syncing → StoppedFrom m s t ∧ t.list b = s.list b

/-- R41, R100, R102: the dead-bus close `d` of `s` has failed to confirm by `t`, and its requester has acted on it: an
outlet's berth in DEAD_CLOSE has gone to RELEASING with SYNC_FAIL; a first module in STARTING has been released, and its
berth, in ALLOCATING, has gone to RELEASING with CAPACITY_LIMIT. -/
def NotConfirmed (d : DeadClose) (s t : State) : Prop :=
  (∀ b, d.target = outlet b → (s.berth b).state = .deadClose →
      (t.event (evSyncFail b)).raw = true ∧ ReleasedFrom b (s.list b) s t) ∧
    ∀ m, d.target = contactor m → m ∈ s.list d.berth → (s.modu m).state = .starting → (s.modu m).first = true →
      StoppedFrom m s t ∧ ((s.berth d.berth).state = .allocating →
        (t.event (evCapacityLimit d.berth)).raw = true ∧ ReleasedFrom d.berth (s.list d.berth) s t)

/-- R17, R32, R55, R70, R94, R98, R124, R140, R157, R170: what a warm reset and RESTART keep and clear alike. `closed` is the
terminal clock at which the open sessions were closed. -/
def ResetKept (closed : Nat × Nat) (s t : State) : Prop :=
  let opening (m : Module) : Bcmd :=
    ⟨(s.breaker (contactor m)).node, .openCmd, contactor m, (s.breaker (contactor m)).margin + 100⟩
  let before (n : Nat) : Nat := ((List.finRange 4).filter fun a => a.val < n ∧ s.sessionOpen a = true).length
  (t.lpu.lossIndicator = false ∧ t.lpu.lossDue = t.now + 20 ∧ t.lpu.forward = [] ∧ t.lpu.reservations = 0 ∧
    (∀ p ∈ t.lpu.reply, p.refusal = false) ∧ t.lpu.seq = t.lpu.counters.sent ∧
    t.lpu.counters.sent = (if t.lpu.sending = none then 0 else 1) ∧
    t.lpu.counters = { LinkCounters.zero with
      sent := t.lpu.counters.sent, shpnLost := t.lpu.counters.shpnLost, noteLost := t.lpu.counters.noteLost } ∧
    (∀ c ∈ t.lpu.protect ++ t.lpu.commandList, ∃ m : Module, s.mpm.table[m].installed = true ∧ c = opening m) ∧
    (∀ p ∈ t.lpu.control, ∃ b, (s.entry b).configured = true ∧
      p = ⟨.shpn (s.entry b).gateway (.berth b 1), t.now, false⟩) ∧
    (t.own ≠ none → t.lpu.counters.shpnLost = 0 ∧
      (∀ m : Module, s.mpm.table[m].installed = true → CommandGiven (opening m) t) ∧
      ∀ b, (s.entry b).configured = true → NoticeGiven (s.entry b).gateway (.berth b 1) t)) ∧
  t.scl = {
    streams := s.scl.streams, gains := s.scl.gains, grid := s.scl.grid
    points := Vector.ofFn fun p => {
      state := .stale, neverReceived := true, lastSeq := none, timestamp := 0, voltage := 0, angle := 0, freq := 0
      pCal := 0, qCal := 0, arrival := 0, missed := 0, discarded := 0, vOut := false, fOut := false
      limits := pointLimits s.scl.streams p }
    unmatched := 0, shipStale := Vector.replicate 4 none, convStale := Vector.replicate 4 none } ∧
  t.mpm = {
    table := s.mpm.table
    recs := s.mpm.table.map fun e => {
      state := if e.installed then .standby else .absent
      first := false, startIssued := false, deferred := false, blockPending := false, missCount := 0
      answered := false, reported := none, capacity := none, derateFlag := false, derateCond := false
      startDue := none, stopDue := none, offSeen := false, openSeen := false, openNoted := 0, closedNoted := false
      runningSeen := false }
    lists := Vector.replicate 4 [], poll := none, lastPolled := none, pollCounter := 0, ignored := 0
    scanDue := t.now + 10 } ∧
  t.rfg = {
    settings := s.rfg.settings, inForce := s.rfg.settings, berths := Vector.replicate 4 none
    modules := Vector.replicate 8 { lastSent := none, startSent := false, own := none, built := none }
    handed := Vector.replicate 4 (0, 0), periodCounter := 0, periodDue := t.now + 20 } ∧
  t.syu = {
    breakers := s.syu.breakers.map fun e => { e with lastPosition := none }
    profiles := s.syu.profiles, queue := [], chans := #v[none, none], deadBus := []
    closeHeld := Vector.replicate 12 false } ∧
  (t.bsq.table = s.bsq.table ∧ t.bsq.ships = Vector.replicate 4 none ∧
    t.bsq.estopRepeat = (if s.pins.estop then some (t.now + 100) else none) ∧
    ∀ b, t.berth b = {
      state := if (s.entry b).configured then .dead else .unused
      demand := false, fromOpening := false, reason := none, deadShip := false, energised := false, holdEnd := none
      holdFrom := 0, holdAcc := 0, holdMark := false, eventHold := (t.berth b).eventHold, rampDue := none
      rampTimer := .stopped, genDue := none, openDue := none, openNoted := 0, capacityCond := false
      rampDone := false, lastLimit := 0
      summary := { listed := 0, online := 0, allOnline := true, capacity := 0 }, shedAck := 0 }) ∧
  (t.mtr.recs = Vector.replicate 4 {
      baseline := none, lastArrival := none, importResidue := 0, returnedResidue := 0, unmeteredRem := 0
      demandAcc := 0, gapCount := 0, backwardCount := 0, restartCount := 0 } ∧
    t.mtr.unbilled = s.mtr.unbilled ∧ t.mtr.gapLimit = s.mtr.gapLimit ∧ t.mtr.demandS = s.mtr.demandS ∧
    t.mtr.intervalStart = t.mtr.second / s.mtr.demandS * s.mtr.demandS ∧
    t.mtr.intervalEnd = (t.mtr.second / s.mtr.demandS * s.mtr.demandS + s.mtr.demandS) % 86400 ∧
    t.mtr.endDue = false) ∧
  (t.blg.current = s.blg.current ∧ t.blg.slots = Vector.replicate 4 .free ∧ s.blg.log <+: t.blg.log ∧
    (∀ b r, s.slot b = .openSlot r → ∃ x ∈ t.blg.log, x.number = some (s.blg.counter + before b.val) ∧
      ClosedAs r x .supply closed) ∧
    t.blg.log.length = s.blg.log.length + before 4 ∧ t.blg.counter = s.blg.counter + before 4 ∧
    (∀ i : Fin 4, t.blg.sets[i] = { s.blg.sets[i] with bound := s.blg.bound i - s.blg.boundTo i }) ∧
    (BoundCounts s → ∀ i, t.blg.bound i = 0) ∧ (t.blg.logFull = true ↔ t.blg.log.length = 32)) ∧
  t.evr.outputs = Vector.replicate 4 s.pins.estop ∧
  (∀ e, (t.event e).enabled = (s.event e).enabled ∧ (t.event e).notifyOperator = (s.event e).notifyOperator ∧
    (t.event e).notifyBilling = (s.event e).notifyBilling ∧ (t.event e).notifyShip = (s.event e).notifyShip ∧
    (t.event e).action = (s.event e).action) ∧
  (∀ e, e ≠ evLogFull → e ≠ evEstop → e ≠ evLockExhausted →
    (t.event e).raw = false ∧ (t.event e).count = 0 ∧ (t.event e).clock = none) ∧
  (t.event evLogFull).raw = t.blg.logFull ∧ (t.event evEstop).raw = s.pins.estop ∧
  ((∀ e, (s.event e).action ≠ .holdAll) → t.evr.holds = Vector.replicate 4 false ∧
    ∀ b, (t.berth b).eventHold = false)

/-- R105, R107: a berth record once the ship hold has ended at `now` with the accumulated time `acc`: the ramp timeout
runs on unless the event hold is in force. -/
def BerthRec.holdEnded (now acc : Nat) (r : BerthRec) : BerthRec :=
  { r with
    holdEnd := none
    holdFrom := now
    holdAcc := acc
    rampTimer :=
      match r.rampTimer with
      | .running due => if r.eventHold then .paused (due - now) else .running due
      | .paused left => if r.eventHold then .paused left else .running (now + left)
      | .stopped => .stopped }

/-- R104, R105, R107: a berth record once a ramp has begun at `now` with the ramp timeout `ms`. -/
def BerthRec.rampBegun (now ms : Nat) (r : BerthRec) : BerthRec :=
  { r with
    holdEnd := none
    holdFrom := now
    holdAcc := 0
    holdMark := false
    rampDue := some (now + 20)
    rampTimer := if r.eventHold then .paused ms else .running (now + ms)
    capacityCond := false }

/-- R104: the ramp target of berth `b`: min(ship load, contract demand, ONLINE capacity of the latest summary). -/
def targetKw (s : State) (b : Berth) : Nat :=
  min (match s.bsq.ships[b] with | none => 0 | some r => r.load) (min (s.entry b).contract (s.berth b).summary.capacity)

/-- R171, R172: the state in which an accepted request that is served at once is judged: the request stands at the head
of the queue and holds its reservation. -/
def accepted (q : MguReq) (s : State) : State :=
  { s with
    lpu := { s.lpu with reservations := s.lpu.reservations + 1 }
    mgu := { s.mgu with queue := [q] } }

/-- R178: the parts of a reply with a body: part index, part count, and at most 474 bytes each. -/
def partsOf (body : List Byte) : List (List Byte) :=
  let n := max 1 ((body.length + 473) / 474)
  (List.range n).map fun i => be 1 i ++ be 1 n ++ (body.drop (474 * i)).take 474

/-- R172, R178: a request of `src` has been answered DONE with a body, all parts entered. -/
def answeredWith (src : Byte) (tag : BitVec 16) (kind : Nat) (body : List Byte) (s : State) : State :=
  { setPrepared src.toNat false s with
    lpu := (partsOf body).foldl (fun l d => l.replied (reply src tag kind .done d)) s.lpu }

/-- R176, R184: a protected request passes the lock step. -/
def LockOpen (s : State) : Prop := s.mlk.attempts ≠ 0 ∧ s.mlk.lock ≠ .locked

/-- R177: a bank after a write of `xs` from index `first` on. -/
def written {α : Type} {n : Nat} (v : Vector α n) (first : Nat) (xs : List α) : Vector α n :=
  Vector.ofFn fun i => if first ≤ i.val then xs[i.val - first]?.getD v[i] else v[i]

/-- R177: index `i` is one of the `n` indices from `first` on. -/
def addressedBy (first n i : Nat) : Prop := first ≤ i ∧ i < first + n

/-- R105: the ship hold time of berth `b` runs toward the hold limit, or has reached it and the limit is still to be
taken (log 30). -/
def LimitPending (b : Berth) (s : State) : Prop :=
  (s.berth b).holdEnd ≠ none ∨
    (s.berth b).state ∈ [.rampUp, .rampDown] ∧ (s.berth b).holdMark = false ∧
      (s.entry b).holdLimit * 1000 ≤ (s.berth b).holdAcc

/-! ### Words for the contents of replies (R15)

A field is a pair of its width in bytes and the number it carries. -/

/-- The numbers that bytes carry in fields of these widths, most significant byte first. -/
def numbersOf : List Nat → List Byte → List Nat
  | [], _ => []
  | k :: ks, bs => fromBe (bs.take k) :: numbersOf ks (bs.drop k)

/-- The bytes are these fields one after another and nothing more, each number modulo its width. -/
def Carries (fs : List (Nat × Nat)) (bs : List Byte) : Prop :=
  bs.length = (fs.map Prod.fst).sum ∧ numbersOf (fs.map Prod.fst) bs = fs.map fun f => f.2 % 256 ^ f.1

/-- A flag. -/
def flagField (b : Bool) : Nat × Nat := (1, if b then 1 else 0)

/-- A signed number of `k` bytes, in two's complement. -/
def signedField (k : Nat) (i : Int) : Nat × Nat := (k, (i % ((256 ^ k : Nat) : Int)).toNat)

/-- An optional group: the presence byte, then its fields, all zero when absent. -/
def optFields {α : Type} (widths : List Nat) (fields : α → List (Nat × Nat)) : Option α → List (Nat × Nat)
  | none => (1, 0) :: widths.map fun k => (k, 0)
  | some x => (1, 1) :: fields x

/-- An optional number of `k` bytes. -/
def optField (k : Nat) : Option Nat → List (Nat × Nat) := optFields [k] fun n => [(k, n)]

/-- A list of varying length: the count byte, then the fields of the items. -/
def listFields {α : Type} (fields : α → List (Nat × Nat)) (xs : List α) : List (Nat × Nat) :=
  (1, xs.length) :: (xs.map fields).flatten

/-! ### The commands that are management requests -/

end Sys2Proof.Machine

namespace Sys2Proof

/-- R172, R173: the source, tag, kind and parameters of a command that is a management request. -/
def Instr.request? : Instr → Option (Byte × BitVec 16 × Nat × List Byte)
  | .readTable src tag table first count => some (src, tag, 1, [table, first, count])
  | .writeStreamTable src tag first count e => some (src, tag, 2, 1#8 :: first :: count :: e)
  | .writeCalibrationGains src tag first count e => some (src, tag, 2, 2#8 :: first :: count :: e)
  | .writeGridSettings src tag first count e => some (src, tag, 2, 3#8 :: first :: count :: e)
  | .writeModuleTable src tag first count e => some (src, tag, 2, 4#8 :: first :: count :: e)
  | .writeReferenceSettings src tag first count e => some (src, tag, 2, 5#8 :: first :: count :: e)
  | .writeBreakerTable src tag first count e => some (src, tag, 2, 6#8 :: first :: count :: e)
  | .writeSyncProfiles src tag first count e => some (src, tag, 2, 7#8 :: first :: count :: e)
  | .writeBerthTable src tag first count e => some (src, tag, 2, 8#8 :: first :: count :: e)
  | .writeMeteringSettings src tag first count e => some (src, tag, 2, 9#8 :: first :: count :: e)
  | .writeTariffSets src tag first count e => some (src, tag, 2, 10#8 :: first :: count :: e)
  | .writeCurrentSetIndex src tag first count e => some (src, tag, 2, 11#8 :: first :: count :: e)
  | .writeEventTable src tag first count e => some (src, tag, 2, 12#8 :: first :: count :: e)
  | .connect src tag b => some (src, tag, 3, [b, 1])
  | .connectDeadShip src tag b => some (src, tag, 3, [b, 2])
  | .depart src tag b => some (src, tag, 3, [b, 3])
  | .abort src tag b => some (src, tag, 3, [b, 4])
  | .trip src tag b => some (src, tag, 3, [b, 5])
  | .resetTrip src tag b => some (src, tag, 3, [b, 6])
  | .block src tag m => some (src, tag, 4, [m, 1])
  | .unblock src tag m => some (src, tag, 4, [m, 2])
  | .readmit src tag m => some (src, tag, 4, [m, 3])
  | .eventClear src tag i => some (src, tag, 5, [i])
  | .eventSet src tag i => some (src, tag, 6, [i])
  | .eventEnable src tag i => some (src, tag, 7, [i])
  | .eventDisable src tag i => some (src, tag, 8, [i])
  | .clockSet src tag day second => some (src, tag, 9, Machine.be 2 day.toNat ++ Machine.be 4 second.toNat)
  | .logReadOldest src tag => some (src, tag, 10, [])
  | .logRemoveOldest src tag n => some (src, tag, 11, Machine.be 4 n.toNat)
  | .statusReadPoints src tag => some (src, tag, 12, [1])
  | .statusReadModules src tag => some (src, tag, 12, [2])
  | .statusReadBerths src tag => some (src, tag, 12, [3])
  | .statusReadSync src tag => some (src, tag, 12, [4])
  | .statusReadSessions src tag => some (src, tag, 12, [5])
  | .statusReadUnbilled src tag => some (src, tag, 12, [6])
  | .statusReadLock src tag => some (src, tag, 12, [7])
  | .statusReadLink src tag => some (src, tag, 12, [8])
  | .statusReadCapture src tag => some (src, tag, 12, [9])
  | .unlock src tag i code => some (src, tag, 13, i :: Machine.be 16 code.toNat)
  | .relock src tag => some (src, tag, 14, [])
  | .setCodeOperator src tag code level => some (src, tag, 15, 1#8 :: Machine.be 16 code.toNat ++ [level])
  | .setCodeMetrology src tag code rev cur =>
    some (src, tag, 15, 2#8 :: Machine.be 16 code.toNat ++ Machine.be 2 rev.toNat ++
      match cur with
      | none => []
      | some c => Machine.be 16 c.toNat)
  | .removeCode src tag code => some (src, tag, 16, Machine.be 16 code.toNat)
  | .freeze src tag => some (src, tag, 17, [])
  | .clearPrepare src tag => some (src, tag, 18, [])
  | .billingClear src tag i code => some (src, tag, 19, i :: Machine.be 16 code.toNat)
  | .restart src tag => some (src, tag, 20, [])
  | .coldReset _ _ _ | .warmReset _ _ _ _ _ | .pilotInputChange _ _ | .estopAssert | .estopRelease
  | .estopRepeatTimerExpiry | .frameReceptionEnd _ | .overlongCut | .ingressLossTimerExpiry | .egressFree
  | .promotion | .measFrame _ _ | .heldLimitExpiry _ | .staleLimitExpiry _ | .stalenessRepeatTimerExpiry _ _
  | .scanSlot | .pollReplyTimerExpiry | .prpyFrame _ _ | .startLimitExpiry _ | .stopLimitExpiry _ | .rfgPeriod
  | .overloadTimerExpiry _ | .syncWaitTimerExpiry _ | .watchTimerExpiry _ | .confirmTimerExpiry _
  | .backoffTimerExpiry _ | .deadBusConfirmTimerExpiry _ | .bstaFrame _ _ | .shipState _ _ _ _ _ | .hold _ _
  | .genOff _ | .genOn _ | .shedAck _ _ | .rampPeriod _ | .shipHoldEnd _ | .holdLimitReached _
  | .rampTimeoutExpiry _ | .generatorWaitExpiry _ | .openingTimerExpiry _ | .clockTick | .demandIntervalEnd
  | .mreqArrival _ _ | .nextReplyPart => none

end Sys2Proof
end

