-- ==== Sys2Proof/Certificates/Slice0/Obligations.lean ====
section
/-! DEFINITION. The statements for the provers. A next state is written out wherever the command's effect is finite;
`RaisesAlone e s` says that entry `e` of the event table is raw already or not enabled, so that its raise changes the
entry and nothing else. -/

open Sys2Proof Sys2Proof.Machine

/-! ### The step, reset, and what holds between commands -/

/-- A step runs the command at the front of the queue on the state with the queue's rest (the queue is the model's own,
log 1). -/
def Obligations.StepRunsFront : Prop :=
  ∀ (c : Instr) (rest : List Instr) (s : State), s.pending = c :: rest → step s = exec c { s with pending := rest }

/-- Every command ends in a next state, with the queue as it was, nothing left to hand over, and device time no
earlier (the model's frame of a command, log 2, 5 and 10). -/
def Obligations.EveryCommandCompletes : Prop :=
  ∀ (c : Instr) (s : State), ∃ t, exec c s = .next t ∧ t.pending = s.pending ∧ t.handoffs = [] ∧ s.now ≤ t.now

/-- Every invariant below holds right after reset (its straps, inputs and device time are the model's, log 11). -/
def Obligations.ResetSound : Prop :=
  Quiet State.reset ∧ TripOutputs State.reset ∧ EstopHolds State.reset ∧ BillingRoom State.reset ∧
    SessionsAddUp State.reset ∧ LogOrdered State.reset ∧ BoundCounts State.reset ∧ SlotsFit State.reset ∧
    LockSound State.reset ∧ LinkBounds State.reset ∧ EgressWorks State.reset ∧ RepliesReserved State.reset ∧
    SyncOnce State.reset ∧ ModulesListed State.reset ∧ HoldsCurrent State.reset ∧ MeterSound State.reset

/-- R119, R122, R168: the trip outputs follow the trip demands and the emergency-stop input, and no berth is connected
while that input is asserted. -/
def Obligations.TripsKept : Prop :=
  ∀ s t : State, TripOutputs s → EstopHolds s → step s = .next t → TripOutputs t ∧ EstopHolds t

/-- R145, R149, R152: reservations, open sessions and log records never exceed the log's places, the session numbers
suffice, and the log is in session number order below the counter; a session's import total is the sum of its bands; and
the log only grows, at its end, under every command that can neither remove a record nor serve a request that does. -/
def Obligations.BillingKept : Prop :=
  (∀ s t : State, BillingRoom s → LogOrdered s → step s = .next t → BillingRoom t ∧ LogOrdered t) ∧
  (∀ s t : State, SessionsAddUp s → step s = .next t → SessionsAddUp t) ∧
  ∀ (c : Instr) (s t : State), (∀ nid opn bln, c ≠ .coldReset nid opn bln) →
    (∀ bytes, c ≠ .frameReceptionEnd bytes) → (∀ src p, c ≠ .mreqArrival src p) → c ≠ .nextReplyPart →
    (∀ src tag n, c ≠ .logRemoveOldest src tag n) → (∀ src tag i code, c ≠ .billingClear src tag i code) →
    exec c s = .next t → ∃ more, t.blg.log = s.blg.log ++ more

/-- R143, R144, R145: a set's bound count is the number of open sessions bound to it, each berth's billing slot fits its
state, and the current-set index names a LOADED set. -/
def Obligations.SlotsKept : Prop :=
  ∀ s t : State, BoundCounts s → SlotsFit s → step s = .next t → BoundCounts t ∧ SlotsFit t

/-- R183, R185, R188: the lock state, the codes, the attempt counter and the revision agree; and under every command
but a cold or a warm reset, RESTART included, the attempt counter does not rise and neither the exhausted condition nor
the frozen flag is cleared. -/
def Obligations.LockSoundKept : Prop :=
  (∀ s t : State, LockSound s → step s = .next t → LockSound t) ∧
  ∀ (c : Instr) (s t : State), (∀ nid opn bln, c ≠ .coldReset nid opn bln) →
    (∀ nid opn bln k n, c ≠ .warmReset nid opn bln k n) → exec c s = .next t →
    t.mlk.attempts ≤ s.mlk.attempts ∧ (s.mlk.exhausted = true → t.mlk.exhausted = true) ∧
      (s.mlk.frozen = true → t.mlk.frozen = true)

/-- R8, R10, R11, R14: the queues of the LPU stay within their places, and nothing waits behind a free egress. -/
def Obligations.LinkKept : Prop :=
  ∀ s t : State, LinkBounds s → EgressWorks s → step s = .next t → LinkBounds t ∧ EgressWorks t

/-- R13, R171, R178: requests, reservations and the REPLY queue agree. -/
def Obligations.RepliesReservedKept : Prop := ∀ s t : State, RepliesReserved s → step s = .next t → RepliesReserved t

/-- R74: no breaker has two requests, attempts or dead-bus closes. -/
def Obligations.SyncOnceKept : Prop := ∀ s t : State, SyncOnce s → step s = .next t → SyncOnce t

/-- R34: the allocation lists hold exactly the allocated modules, each once. -/
def Obligations.ModulesListedKept : Prop := ∀ s t : State, ModulesListed s → step s = .next t → ModulesListed t

/-- R162: the event holds are those the table gives, at EVR and at BSQ. -/
def Obligations.HoldsCurrentKept : Prop := ∀ s t : State, HoldsCurrent s → step s = .next t → HoldsCurrent t

/-- R125, R131, R132, R134, R137: residues, the unbilled registers, the clock and the demand interval. -/
def Obligations.MeterSoundKept : Prop := ∀ s t : State, MeterSound s → step s = .next t → MeterSound t

/-- R116, R121: a TRIPPED berth whose outlet has not been reported OPEN stays TRIPPED, with its demand and reason,
under every command but a cold or a warm reset. -/
def Obligations.TrippedStays : Prop :=
  ∀ (c : Instr) (s t : State) (b : Berth), (s.berth b).state = .tripped → (s.berth b).demand = true →
    (s.breaker (outlet b)).lastPosition ≠ some .openPos →
    (∀ nid opn bln, c ≠ .coldReset nid opn bln) → (∀ nid opn bln k n, c ≠ .warmReset nid opn bln k n) →
    exec c s = .next t →
    (t.berth b).state = .tripped ∧ (t.berth b).demand = true ∧ (t.berth b).reason = (s.berth b).reason

/-! ### Encodings -/

/-- R2, R3: a frame built for the link passes the reception checks and gives back its destination, source, kind and
payload. -/
def Obligations.FrameRoundTrip : Prop :=
  ∀ (dest src kind flags seq : Nat) (payload : List Byte), 1 ≤ dest → dest ≤ 255 → 1 ≤ src → src ≤ 255 → src ≠ 63 →
    kind ≤ 255 → payload.length ≤ 480 →
    receive (frameBytes dest src kind flags seq payload) = some ⟨dest, src, kind, payload⟩

/-- R15: what READ_TABLE gives of an entry, WRITE_TABLE reads back, for six tables. -/
def Obligations.TableRoundTrip : Prop :=
  (∀ (e : StreamEntry) (rest : List Byte), e.node < 256 → e.channel < 256 → e.point < 256 → e.interval < 65536 →
      e.staleLimit < 4294967296 →
      ∃ xs, takeEntry Table.streams.form (encStream e ++ rest) = some (xs, rest) ∧ toStream xs = e) ∧
    (∀ (g : GridSettings) (rest : List Byte), g.nominalF < 65536 → g.nominalV < 65536 → g.vBand < 256 →
      g.fBand < 65536 → ∃ xs, takeEntry Table.grid.form (encGrid g ++ rest) = some (xs, rest) ∧ toGrid xs = g) ∧
    (∀ (i : Module) (e : ModuleEntry) (rest : List Byte), e.rating < 65536 → e.node < 256 → e.startLimit < 256 →
      e.stopLimit < 256 →
      ∃ xs, takeEntry Table.modules.form (encModuleEntry i.val e ++ rest) = some (xs, rest) ∧ toModuleEntry xs = e) ∧
    (∀ (r : RefSettings) (rest : List Byte), r.fLimit < 256 → r.vLimit < 256 → r.softFraction < 256 →
      r.softIncrement < 256 → r.shedMargin < 65536 →
      ∃ xs, takeEntry Table.reference.form (encRefSettings r ++ rest) = some (xs, rest) ∧ toRefSettings xs = r) ∧
    (∀ (p : Profile) (rest : List Byte), p.vWindow < 65536 → -32768 ≤ p.slipLow → p.slipLow < 32768 →
      -32768 ≤ p.slipHigh → p.slipHigh < 32768 → -32768 ≤ p.slipTarget → p.slipTarget < 32768 →
      p.angleWindow < 65536 → p.settleCount < 256 → p.watchLimit < 256 → p.attemptLimit < 256 →
      p.backoffBase < 65536 → p.backoffCap < 256 → p.waitLimit < 65536 → p.deadThreshold < 256 →
      ∃ xs, takeEntry Table.profiles.form (encProfile p ++ rest) = some (xs, rest) ∧ toProfile xs = p) ∧
    ∀ (e : BerthEntry) (rest : List Byte), e.nominalF < 65536 → e.nominalV < 65536 → e.contract < 65536 →
      e.gateway < 256 → e.rampRate < 65536 → e.holdLimit < 65536 → e.rampTimeout < 65536 → e.genWait < 65536 →
      e.openThreshold < 65536 → e.overloadTime < 256 → e.vBand < 256 → e.fBand < 65536 → e.replacement < 256 →
      ∃ xs, takeEntry Table.berths.form (encBerthEntry e ++ rest) = some (xs, rest) ∧ toBerthEntry xs = e

/-! ### Computed quantities -/

/-- R66: the shares of the ONLINE modules add up to P_b, and none exceeds its module's capacity. -/
def Obligations.SharesAddUp : Prop :=
  ∀ (cap : Module → Nat) (ms : List Module) (pB : Nat), ms.Nodup → 0 < (ms.map cap).sum → pB ≤ (ms.map cap).sum →
    (ms.map (shareOf cap ms pB)).sum = pB ∧
      ∀ m ∈ ms, shareOf cap ms pB m ≤ cap m ∧ pB * cap m / (ms.map cap).sum ≤ shareOf cap ms pB m ∧
        shareOf cap ms pB m ≤ pB * cap m / (ms.map cap).sum + 1

/-- R126, R127, R128, R129, R130: what MTR does with a record of SHb: the five cases, with the unmetered remainder and
its carry; and where an increment goes: the residue of its direction, and its whole watt-hours to the open session, to
its band, total and the demand accumulator, or, with no session, to the unbilled registers. That the energies of a
session and the demand accumulator grow past 2^64 is the model's reading of "do not saturate" (log 20). -/
def Obligations.EnergyIsCarried : Prop :=
  (∀ (b : Berth) (r : RevenueRecord) (s : State),
    let m := s.mtr.recs[b]
    let change (g : MeterRec → MeterRec) (u : State) : State :=
      { u with mtr := { u.mtr with recs := upd u.mtr.recs b g } }
    let noted (u : State) : State :=
      change (fun x => { x with baseline := some r.timestamp, lastArrival := some s.now }) u
    let unmetered (us : Nat) (u : State) : State :=
      let ms := (m.unmeteredRem + us) / 1000
      let v := change (fun x => { x with unmeteredRem := (m.unmeteredRem + us) % 1000 }) u
      match u.slot b with
      | .openSlot x =>
        let x' : Session := { x with unmeteredMs := min (x.unmeteredMs + ms) Config.u32Max }
        { v with blg := { v.blg with slots := upd v.blg.slots b fun _ => .openSlot x' } }
      | _ =>
        let more (x : Unbilled) : Unbilled := { x with unmeteredMs := min (x.unmeteredMs + ms) Config.u64Max }
        { v with mtr := { v.mtr with unbilled := upd v.mtr.unbilled b more } }
    let restarted := change fun x => { x with restartCount := min (x.restartCount + 1) 65535 }
    (m.baseline = none → meterRecord b r s = noted s) ∧
    ∀ base, m.baseline = some base →
      let dt := (r.timestamp + 4294967296 - base) % 4294967296
      (r.wasStale = true → m.lastArrival = none → meterRecord b r s = noted (restarted s)) ∧
      (∀ a, r.wasStale = true → m.lastArrival = some a →
        meterRecord b r s = noted (restarted (unmetered ((s.now - a) * 1000) s))) ∧
      (r.wasStale = false → 2147483648 ≤ dt → meterRecord b r s =
        noted (change (fun x => { x with backwardCount := min (x.backwardCount + 1) 65535 }) s)) ∧
      (r.wasStale = false → dt < 2147483648 → s.mtr.gapLimit < dt → r.nominal < dt → meterRecord b r s =
        let u := noted (unmetered (dt - r.nominal) (integrate b (r.pCal * r.nominal)
          (change (fun x => { x with gapCount := min (x.gapCount + 1) 65535 }) s)))
        { u with handoffs := s.handoffs ++ [.raise (evMeterGap b)] }) ∧
      (r.wasStale = false → dt < 2147483648 → ¬ (s.mtr.gapLimit < dt ∧ r.nominal < dt) →
        meterRecord b r s = noted (integrate b (r.pCal * dt) s))) ∧
  ∀ (b : Berth) (inc : Int) (s : State),
    let t := integrate b inc s
    let imp := s.mtr.recs[b].importResidue + inc.toNat
    let ret := s.mtr.recs[b].returnedResidue + (-inc).toNat
    t.mtr.recs[b] = { s.mtr.recs[b] with
      importResidue := imp % 3600000000
      returnedResidue := ret % 3600000000
      demandAcc := s.mtr.recs[b].demandAcc + if s.sessionOpen b then imp / 3600000000 else 0 } ∧
      (∀ r, s.slot b = .openSlot r → bandOf s.blg.sets[r.set].schedule s.mtr.second ≤ 3 →
        ∃ bands : Vector Nat 4, t.slot b = .openSlot { r with
            bands := bands
            importWh := r.importWh + imp / 3600000000
            returnedWh := r.returnedWh + ret / 3600000000 } ∧
          (∀ i : Fin 4, bands[i] = r.bands[i] +
            if i.val = bandOf s.blg.sets[r.set].schedule s.mtr.second then imp / 3600000000 else 0) ∧
          t.mtr.unbilled = s.mtr.unbilled) ∧
      (s.sessionOpen b = false → UnbilledFits s → t.blg = s.blg ∧
        t.mtr.unbilled[b] = { s.mtr.unbilled[b] with
          importWh := min (s.mtr.unbilled[b].importWh + imp / 3600000000) Config.u64Max
          returnedWh := min (s.mtr.unbilled[b].returnedWh + ret / 3600000000) Config.u64Max }) ∧
      (∀ c, c ≠ b → t.mtr.recs[c] = s.mtr.recs[c] ∧ t.mtr.unbilled[c] = s.mtr.unbilled[c] ∧ t.slot c = s.slot c) ∧
      t = { s with
        mtr := { s.mtr with recs := t.mtr.recs, unbilled := t.mtr.unbilled }
        blg := { s.blg with slots := t.blg.slots } }

/-- R129, R136, R142, R148, R150, R151, R152: the band of a second of day; the opening of a session, and the close with
its charges and its record, each asked of BLG and as a breaker report leads to it. An open that finds no reservation or
no current set does nothing (log 31). -/
def Obligations.SessionsBilled : Prop :=
  (∀ (schedule : List (Nat × Nat)) (sec : Nat), startsOk (schedule.map Prod.fst) = true →
    ∃ e ∈ schedule, e.1 ≤ sec ∧ (∀ x ∈ schedule, x.1 ≤ sec → x.1 ≤ e.1) ∧ bandOf schedule sec = e.2) ∧
  (∀ (b : Berth) (s : State),
    let m := s.mtr.recs[b]
    let cleared : Vector MeterRec 4 := upd s.mtr.recs b fun x => { x with demandAcc := 0 }
    (∀ i, s.slot b = .reserved → s.blg.current = some i →
      let opened : Session :=
        { number := none, berth := b, ident := (s.bsq.ships[b]).bind fun x => x.ident, set := i
          startClock := (s.mtr.day, s.mtr.second), endClock := none, reason := none
          bands := #v[0, 0, 0, 0], importWh := 0, returnedWh := 0, peak := 0, unmeteredMs := 0
          energyCharge := none, demandCharge := none, totalCharge := none }
      openSession b s = { s with
        blg := { s.blg with
          slots := upd s.blg.slots b fun _ => .openSlot opened
          sets := upd s.blg.sets i fun x => { x with bound := x.bound + 1 } }
        mtr := { s.mtr with recs := cleared } }) ∧
    (s.slot b ≠ .reserved ∨ s.blg.current = none → openSession b s = s) ∧
    ((∀ r, s.slot b ≠ .openSlot r) → ∀ why, closeSession b why s = s) ∧
    ∀ r why, s.slot b = .openSlot r →
      let peak := max r.peak (min (m.demandAcc * 3600 / s.mtr.demandS) Config.u32Max)
      let set := s.blg.sets[r.set]
      let energy := min ((r.bands[0] * set.rates[0] + r.bands[1] * set.rates[1] + r.bands[2] * set.rates[2] +
        r.bands[3] * set.rates[3] + 500) / 1000) (2 ^ 40 - 1)
      let demand := min ((peak * set.demandRate + 500) / 1000) (2 ^ 40 - 1)
      let closed : Session := { r with
        number := some s.blg.counter
        endClock := some (s.mtr.day, s.mtr.second)
        reason := some why
        peak := peak
        energyCharge := some energy
        demandCharge := some demand
        totalCharge := some (min (energy + demand) (2 ^ 40 - 1)) }
      let full := s.blg.taken + s.blg.log.length = 32
      closeSession b why s = { s with
        blg := { s.blg with
          slots := upd s.blg.slots b fun _ => .free
          sets := upd s.blg.sets r.set fun x => { x with bound := x.bound - 1 }
          log := s.blg.log ++ [closed]
          counter := s.blg.counter + 1
          logFull := decide full }
        mtr := { s.mtr with recs := cleared }
        handoffs := s.handoffs ++ if full then [.raise evLogFull] else [] }) ∧
  ∀ (src : Byte) (p : List Byte) (b : Berth) (s : State), Quiet s → reaches s src.toNat = true → SyncOnce s →
    p.length = 4 → byteAt p 1 = b.val → (s.breaker (outlet b)).node = src.toNat →
    (∀ i, byteAt p 0 = 1 → s.slot b = .reserved → s.blg.current = some i →
      (((s.berth b).state = .syncing ∧ ∃ (c : Chan) (w : ChanWork), s.syu.chans[c] = some w ∧
          w.req.target = outlet b ∧ w.phase = .closing) ∨
        (s.berth b).state = .deadClose ∧ ∃ d ∈ s.syu.deadBus, d.target = outlet b) →
      ∃ t, exec (.bstaFrame src p) s = .next t ∧
        t.blg = (openSession b s).blg ∧ t.mtr = (openSession b s).mtr ∧
        (t.berth b).state = if (s.berth b).state = .syncing then .rampUp else .shore) ∧
    (∀ r, byteAt p 0 = 0 → s.slot b = .openSlot r → (s.berth b).state = .opening →
      (s.berth b).openNoted < s.now → RaisesAlone evLogFull s → ModulesListed s →
      ∃ t, exec (.bstaFrame src p) s = .next t ∧
        t.blg = (closeSession b .normal s).blg ∧ t.mtr = (closeSession b .normal s).mtr)

/-! ### Resets and inputs -/

/-- Cold reset (R17, R32, R55, R70, R94, R124, R140, R157, R170, R182, R191, and R122 with the emergency-stop input
asserted at its end): every block at its cold values, whatever the state before. Device time goes on through it, and
fields that mean nothing before an event fills them stand at 0 (log 12, 13). That the summary of an empty list counts all
of its modules as ONLINE is the model's choice (log 18). -/
def Obligations.ColdResetClears : Prop :=
  ∀ (nid opn bln : BitVec 6) (s : State),
    let stop := s.pins.estop
    exec (.coldReset nid opn bln) s = .next {
      pins := s.pins
      lpu := {
        nid := nid, lossDue := s.now + 20, lossIndicator := false, forward := [], protect := [], commandList := []
        control := [], reply := [], reservations := 0, seq := 0, sending := none
        counters := {
          good := 0, rejected := 0, overlong := 0, stripped := 0, sourceIgnored := 0, formDiscards := 0
          forwardDrops := 0, promoted := 0, pollSkipped := 0, shpnLost := 0, noteLost := 0, sent := 0 } }
      scl := {
        streams := Vector.replicate 24
          { valid := false, node := 0, channel := 0, point := 0, interval := 0, staleLimit := 0 }
        gains := Vector.replicate 17 65536
        grid := { nominalF := 50000, nominalV := 11000, vBand := 50, fBand := 500 }
        points := Vector.replicate 17 {
          state := .stale, neverReceived := true, lastSeq := none, timestamp := 0, voltage := 0, angle := 0
          freq := 0, pCal := 0, qCal := 0, arrival := 0, missed := 0, discarded := 0, vOut := false, fOut := false
          limits := none }
        unmatched := 0, shipStale := Vector.replicate 4 none, convStale := Vector.replicate 4 none }
      mpm := {
        table := Vector.replicate 8 { installed := false, rating := 0, node := 0, startLimit := 0, stopLimit := 0 }
        recs := Vector.replicate 8 {
          state := .absent, first := false, startIssued := false, deferred := false, blockPending := false
          missCount := 0, answered := false, reported := none, capacity := none, derateFlag := false
          derateCond := false, startDue := none, stopDue := none, offSeen := false, openSeen := false
          openNoted := 0, closedNoted := false, runningSeen := false }
        lists := Vector.replicate 4 [], poll := none, lastPolled := none, pollCounter := 0, ignored := 0
        scanDue := s.now + 10 }
      rfg := {
        settings := { fLimit := 20, vLimit := 50, softFraction := 20, softIncrement := 2, shedMargin := 100 }
        inForce := { fLimit := 20, vLimit := 50, softFraction := 20, softIncrement := 2, shedMargin := 100 }
        berths := Vector.replicate 4 none
        modules := Vector.replicate 8 { lastSent := none, startSent := false, own := none, built := none }
        handed := Vector.replicate 4 (0, 0), periodCounter := 0, periodDue := s.now + 20 }
      syu := {
        breakers := Vector.replicate 12
          { node := 0, tc := 100, margin := 100, learn := false, lastMeasured := none, lastPosition := none }
        profiles := #v[
          { vWindow := 330, slipLow := 10, slipHigh := 150, slipTarget := 60, angleWindow := 364, settleCount := 3
            watchLimit := 60, attemptLimit := 3, backoffBase := 1000, backoffCap := 2, waitLimit := 300
            deadThreshold := 10 },
          { vWindow := 200, slipLow := 10, slipHigh := 100, slipTarget := 40, angleWindow := 546, settleCount := 3
            watchLimit := 30, attemptLimit := 3, backoffBase := 500, backoffCap := 2, waitLimit := 120
            deadThreshold := 10 }]
        queue := [], chans := #v[none, none], deadBus := [], closeHeld := Vector.replicate 12 false }
      bsq := {
        table := Vector.replicate 4 {
          configured := false, nominalF := 0, nominalV := 0, contract := 0, gateway := 0, rampRate := 0
          holdLimit := 0, rampTimeout := 0, genWait := 0, openThreshold := 0, overloadTime := 0, vBand := 0
          fBand := 0, replacement := 0 }
        recs := Vector.replicate 4 {
          state := .unused, demand := false, fromOpening := false, reason := none, deadShip := false
          energised := false, holdEnd := none, holdFrom := 0, holdAcc := 0, holdMark := false, eventHold := false
          rampDue := none, rampTimer := .stopped, genDue := none, openDue := none, openNoted := 0
          capacityCond := false, rampDone := false, lastLimit := 0
          summary := { listed := 0, online := 0, allOnline := true, capacity := 0 }, shedAck := 0 }
        ships := Vector.replicate 4 none, estopRepeat := if stop then some (s.now + 100) else none }
      mtr := {
        recs := Vector.replicate 4 {
          baseline := none, lastArrival := none, importResidue := 0, returnedResidue := 0, unmeteredRem := 0
          demandAcc := 0, gapCount := 0, backwardCount := 0, restartCount := 0 }
        unbilled := Vector.replicate 4 { importWh := 0, returnedWh := 0, unmeteredMs := 0 }
        day := 0, second := 0, tickDue := s.now + 1000, gapLimit := 100000, demandS := 900
        intervalStart := 0, intervalEnd := 900, endDue := false }
      blg := {
        sets := Vector.replicate 4
          { loaded := false, schedule := [], rates := #v[0, 0, 0, 0], demandRate := 0, bound := 0 }
        current := none, slots := Vector.replicate 4 .free, log := [], counter := 1, logFull := false }
      evr := {
        entries := Vector.ofFn fun i => {
          enabled := false, notifyOperator := false, notifyBilling := false, notifyShip := false
          action := if i.val = 99 then .tripAll else if i.val < 56 ∧ i.val % 14 = 9 then .tripBerth else .none
          raw := stop && i.val = 99, count := 0, clock := if stop && i.val = 99 then some (0, 0) else none }
        holds := Vector.replicate 4 false, outputs := Vector.replicate 4 stop }
      mgu := {
        queue := [], parts := [], prepOperator := false, prepBilling := false, capture := none, dropped := 0
        opn := opn, bln := bln }
      mlk := {
        operatorCode := none, strict := false, metrologyCode := none, revision := 65534, lock := .unprotected
        frozen := false, attempts := 5, exhausted := false }
      now := s.now, handoffs := [], overrun := s.overrun, pending := s.pending }

/-- A warm reset (R17, R32, R55, R70, R94, R124, R140, R157, R170, R182, R191): what each block keeps and what it
clears (`ResetKept`, which RESTART shares), and what the end of the reset gives the LPU (R55, R98). `loss` and `last`
ticks of the terminal clock pass before and after the open sessions are closed (log 13). That fields which nothing has
set stand at 0 (log 12), that the summary of an empty list says all ONLINE (log 18) and that the retained reference
settings are in force at once (log 38) are the model's choices. -/
def Obligations.WarmResetKeeps : Prop :=
  ∀ (nid opn bln : BitVec 6) (loss last : Nat) (s : State),
    ∃ t, exec (.warmReset nid opn bln loss last) s = .next t ∧
      ResetKept ((s.mtr.day + (s.mtr.second + loss) / 86400) % 65536, (s.mtr.second + loss) % 86400) s t ∧
      t.pins = s.pins ∧ t.mgu = Mgu.cold opn bln ∧ t.lpu.nid = nid ∧ (t.own ≠ none → t.lpu.counters.noteLost = 0) ∧
      t.now = s.now + (loss + last) * 1000 ∧ t.mtr.tickDue = s.mtr.tickDue + (loss + last) * 1000 ∧
      t.mtr.day = (s.mtr.day + (s.mtr.second + (loss + last)) / 86400) % 65536 ∧
      t.mtr.second = (s.mtr.second + (loss + last)) % 86400 ∧
      ((t.event evLockExhausted).raw = false ∧ (t.event evLockExhausted).count = 0 ∧
        (t.event evLockExhausted).clock = none) ∧
      t.mlk = { s.mlk with
        lock := if s.mlk.lock = .unlocked then .locked else s.mlk.lock
        frozen := false
        attempts := 5
        exhausted := false }

/-- R117: a pilot-loop input that becomes asserted, or that is released in UNUSED, DEAD or TRIPPED, changes its level
and nothing else; a release in any other state trips the berth and raises PILOT_LOSS. -/
def Obligations.PilotLoop : Prop :=
  ∀ (b : Berth) (asserted : Bool) (s : State), Quiet s →
    (asserted = true ∨ (s.berth b).state ∈ [.unused, .dead, .tripped] →
      exec (.pilotInputChange b asserted) s =
        .next { s with pins := { s.pins with pilot := upd s.pins.pilot b fun _ => asserted } }) ∧
    (s.pins.pilot[b] = true → asserted = false → (s.berth b).state ∉ [.unused, .dead, .tripped] →
      ∃ t, exec (.pilotInputChange b asserted) s = .next t ∧
        t.pins = { s.pins with pilot := upd s.pins.pilot b fun _ => false } ∧
        TrippedFrom b .pilot s t ∧ (t.event (evPilotLoss b)).raw = true)

/-- R91, R119, R122: the assertion and the release of the emergency-stop input, and its repeat timer. An assertion of an
input that is asserted is no change (log 23), and instants are device time (log 5). -/
def Obligations.EmergencyStop : Prop :=
  ∀ s : State, Quiet s →
    (s.pins.estop = true → exec .estopAssert s = .next s) ∧
    (s.pins.estop = false → SyncOnce s → ∃ t, exec .estopAssert s = .next t ∧
      t.pins = { s.pins with estop := true } ∧ (∀ b : Berth, t.evr.outputs[b] = true) ∧
      (∀ b, (s.berth b).state ∉ [.unused, .dead, .tripped] → TrippedFrom b .estop s t) ∧
      (∀ b, (s.berth b).state ∈ [.unused, .dead, .tripped] →
        (t.berth b).state = (s.berth b).state ∧ (t.berth b).demand = (s.berth b).demand) ∧
      t.bsq.estopRepeat = some (s.now + 100) ∧ (t.event evEstop).raw = true ∧ t.syu.deadBus = [] ∧
      ∀ (c : Chan) w, t.syu.chans[c] = some w → w.phase = .adjusting ∨ w.phase = .backoff) ∧
    exec .estopRelease s = .next { s with
      pins := { s.pins with estop := false }
      bsq := { s.bsq with estopRepeat := none }
      evr := { s.evr with outputs := s.bsq.recs.map fun r => r.demand } } ∧
    (s.bsq.estopRepeat = none → exec .estopRepeatTimerExpiry s = .next s) ∧
    (∀ due, s.bsq.estopRepeat = some due → RaisesAlone evEstop s →
      exec .estopRepeatTimerExpiry s = .next (raised evEstop { s with
        now := max s.now due
        bsq := { s.bsq with estopRepeat := some (due + 100) } })) ∧
    (∀ due, s.bsq.estopRepeat = some due → ∃ t, exec .estopRepeatTimerExpiry s = .next t ∧
      (t.event evEstop).raw = true)

/-! ### The Quay Link -/

/-- R2, R4, R6, R7, R8: the fate of a received frame: cut, dropped, stripped, forwarded (begun at once by a free egress),
turned away by a full forward buffer, consumed, or both forwarded and consumed. A consumed frame has the effect of the
command of its kind, which stands for the hand-off of such a frame (log 2); an SHPM of no known form is counted; kinds
that no block consumes, and an MREQ to all nodes, change nothing more. More than 492 bytes are a cut (log 16), and that a
frame to all nodes is forwarded before it is consumed is the model's choice (log 41). -/
def Obligations.FrameFates : Prop :=
  ∀ (bytes : List Byte) (s : State), Quiet s →
    let run := exec (.frameReceptionEnd bytes) s
    let counted (g : LinkCounters → LinkCounters) (u : State) : State :=
      { u with lpu := { u.lpu with counters := g u.lpu.counters } }
    let onward (u : State) : State := { u with lpu := { u.lpu with forward := u.lpu.forward ++ [bytes] } }
    let begun (u : State) : State := counted (fun c => { c with sent := min (c.sent + 1) Config.u32Max })
      { u with lpu := { u.lpu with sending := some bytes } }
    let dropped (u : State) : State :=
      counted (fun c => { c with forwardDrops := min (c.forwardDrops + 1) Config.u32Max }) u
    let handed (r : Received) (u : State) : Prop :=
      let src : Byte := BitVec.ofNat 8 r.src
      let gateway := ∃ b, (s.entry b).configured = true ∧ (s.entry b).gateway = r.src
      (r.kind = 1 → run = exec (.measFrame src r.payload) u) ∧
      (r.kind = 4 → run = exec (.prpyFrame src r.payload) u) ∧
      (r.kind = 6 → run = exec (.bstaFrame src r.payload) u) ∧
      (∀ fl gens load ident, r.kind = 7 →
        r.payload = be 1 1 ++ [fl, gens] ++ be 2 (BitVec.toNat load) ++ be 8 (BitVec.toNat ident) →
        run = exec (.shipState src fl gens load ident) u) ∧
      (∀ quanta, r.kind = 7 → r.payload = be 1 2 ++ be 2 (BitVec.toNat quanta) → run = exec (.hold src quanta) u) ∧
      (r.kind = 7 → r.payload = [3] → run = exec (.genOff src) u) ∧
      (r.kind = 7 → r.payload = [4] → run = exec (.genOn src) u) ∧
      (∀ kw, r.kind = 7 → r.payload = be 1 5 ++ be 2 (BitVec.toNat kw) → run = exec (.shedAck src kw) u) ∧
      (r.kind = 7 → ¬ gateway → run =
        .next (counted (fun c => { c with sourceIgnored := min (c.sourceIgnored + 1) Config.u32Max }) u)) ∧
      (r.kind = 7 → gateway → (byteAt r.payload 0, r.payload.length) ∉ [(1, 13), (2, 3), (3, 1), (4, 1), (5, 3)] →
        run = .next (counted (fun c => { c with formDiscards := min (c.formDiscards + 1) Config.u32Max }) u))
    (492 < bytes.length → run = exec .overlongCut s) ∧
    (bytes.length ≤ 492 → receive bytes = none →
      run = .next (counted (fun c => { c with rejected := min (c.rejected + 1) Config.u32Max }) s)) ∧
    ∀ r, bytes.length ≤ 492 → receive bytes = some r →
      let elsewhere := s.own ≠ some r.dest ∧ (r.dest ≠ 63 ∨ s.own = none)
      let toAll := s.own ≠ some r.dest ∧ r.dest = 63 ∧ s.own ≠ none
      (s.own = some r.src →
        run = .next (counted (fun c => { c with stripped := min (c.stripped + 1) Config.u32Max }) (heard s))) ∧
      (s.own ≠ some r.src →
        (elsewhere →
          (∀ f, s.lpu.sending = some f → s.lpu.forward.length < 4 → run = .next (onward (heard s))) ∧
          (s.lpu.sending = none → EgressWorks s → run = .next (begun (heard s))) ∧
          (4 ≤ s.lpu.forward.length → RaisesAlone evLinkForwardDrop s →
            run = .next (raised evLinkForwardDrop (dropped (heard s))))) ∧
        (s.own = some r.dest →
          handed r (heard s) ∧
          (r.kind = 9 → run = exec (.mreqArrival (BitVec.ofNat 8 r.src) r.payload) (heard s)) ∧
          (r.kind ∉ [1, 4, 6, 7, 9] → run = .next (heard s)) ∧
          run = .next (settle (consume false r.kind r.src r.payload (heard s)))) ∧
        (toAll →
          (∀ f, s.lpu.sending = some f → s.lpu.forward.length < 4 →
            handed r (onward (heard s)) ∧ (r.kind ∉ [1, 4, 6, 7] → run = .next (onward (heard s)))) ∧
          (s.lpu.sending = none → EgressWorks s →
            handed r (begun (heard s)) ∧ (r.kind ∉ [1, 4, 6, 7] → run = .next (begun (heard s)))) ∧
          (4 ≤ s.lpu.forward.length →
            (r.kind ∉ [1, 4, 6, 7] → RaisesAlone evLinkForwardDrop s →
              run = .next (raised evLinkForwardDrop (dropped (heard s)))) ∧
            run = .next (settle (consume true r.kind r.src r.payload
              { dropped (heard s) with handoffs := [.raise evLinkForwardDrop] })))))

/-- R7: the source check and the form check of the consumed kinds, each with its count. A BSTA that names no breaker, by
an index above 11 or a payload of fewer than 2 bytes, fails the source check (log 28); the rows named after frame kinds
are hand-offs of such frames (log 2). -/
def Obligations.ConsumptionChecks : Prop :=
  ∀ (src : Byte) (p : List Byte) (s : State), Quiet s → reaches s src.toNat = true →
    let ignored : State := { s with lpu := { s.lpu with counters := { s.lpu.counters with
      sourceIgnored := min (s.lpu.counters.sourceIgnored + 1) Config.u32Max } } }
    let discarded : State := { s with lpu := { s.lpu with counters := { s.lpu.counters with
      formDiscards := min (s.lpu.counters.formDiscards + 1) Config.u32Max } } }
    ((∀ e ∈ s.scl.streams.toList, ¬ (e.valid = true ∧ e.node = src.toNat)) →
      exec (.measFrame src p) s = .next ignored) ∧
    ((∃ e ∈ s.scl.streams.toList, e.valid = true ∧ e.node = src.toNat) →
      ¬ (1 ≤ byteAt p 0 ∧ byteAt p 0 ≤ 8 ∧ p.length = 1 + 24 * byteAt p 0) →
      exec (.measFrame src p) s = .next discarded) ∧
    ((∀ e ∈ s.mpm.table.toList, ¬ (e.installed = true ∧ e.node = src.toNat)) →
      exec (.prpyFrame src p) s = .next ignored) ∧
    ((∃ e ∈ s.mpm.table.toList, e.installed = true ∧ e.node = src.toNat) →
      ¬ (p.length = 6 ∧ byteAt p 0 ≤ 7 ∧ byteAt p 2 ≤ 2) → exec (.prpyFrame src p) s = .next discarded) ∧
    ((∀ t : Target, t.val = byteAt p 1 → (s.breaker t).node ≠ src.toNat) →
      exec (.bstaFrame src p) s = .next ignored) ∧
    (2 ≤ p.length → (∃ t : Target, t.val = byteAt p 1 ∧ (s.breaker t).node = src.toNat) →
      ¬ (p.length = 4 ∧ byteAt p 0 ≤ 3) → exec (.bstaFrame src p) s = .next discarded) ∧
    ((∀ b, ¬ ((s.entry b).configured = true ∧ (s.entry b).gateway = src.toNat)) →
      (∀ fl g load id, exec (.shipState src fl g load id) s = .next ignored) ∧
        (∀ q, exec (.hold src q) s = .next ignored) ∧ exec (.genOff src) s = .next ignored ∧
        exec (.genOn src) s = .next ignored ∧ ∀ kw, exec (.shedAck src kw) s = .next ignored) ∧
    (p.length < 3 → exec (.mreqArrival src p) s = .next discarded)

/-- R4, R5, R12: a cut, the ingress loss timer at 20 ms, and the defer limit of the oldest CONTROL frame not yet
promoted. A cut of a frame received as bytes is in `FrameFates`. Instants are device time (log 5). -/
def Obligations.LinkTimers : Prop :=
  ∀ s : State, Quiet s →
    (RaisesAlone evLinkOverlong s → exec .overlongCut s = .next (raised evLinkOverlong { s with
      lpu := { s.lpu with counters := { s.lpu.counters with
        overlong := min (s.lpu.counters.overlong + 1) Config.u32Max } } })) ∧
    (∃ t, exec .overlongCut s = .next t ∧ (t.event evLinkOverlong).raw = true ∧
      t.lpu.counters.overlong = min (s.lpu.counters.overlong + 1) Config.u32Max ∧
      t.lpu.lossDue = s.lpu.lossDue ∧ t.lpu.counters.good = s.lpu.counters.good ∧ t.now = s.now) ∧
    (∃ t, exec .ingressLossTimerExpiry s = .next t ∧ (t.event evLinkRxLoss).raw = true ∧
      t.lpu.lossIndicator = true ∧ t.now = max s.now s.lpu.lossDue ∧ t.lpu.lossDue = max s.now s.lpu.lossDue + 20) ∧
    (RaisesAlone evLinkRxLoss s → exec .ingressLossTimerExpiry s = .next (raised evLinkRxLoss { s with
      now := max s.now s.lpu.lossDue
      lpu := { s.lpu with lossIndicator := true, lossDue := max s.now s.lpu.lossDue + 20 } })) ∧
    ((∀ p ∈ s.lpu.control, p.promoted = true) → exec .promotion s = .next s) ∧
    (∀ before p after, s.lpu.control = before ++ p :: after → (∀ x ∈ before, x.promoted = true) →
      p.promoted = false → RaisesAlone evLinkInsertDefer s →
      exec .promotion s = .next (raised evLinkInsertDefer { s with
        now := max s.now (p.entry + 5)
        lpu := { s.lpu with
          control := before ++ { p with promoted := true } :: after
          counters := { s.lpu.counters with promoted := min (s.lpu.counters.promoted + 1) Config.u32Max } } }))

/-- R9, R10, R12, R13, R14, R36, R65: the frame that egress begins when it becomes free, by the order of R14, and what
leaves its queue. RFG is told of a SETP, whose references and mode become its module's last-sent values, and MPM of a
POLL, whose reply timer of 4 ms starts (`told`). -/
def Obligations.EgressOrder : Prop :=
  ∀ s : State, Quiet s →
    (∀ c rest, s.lpu.protect = c :: rest → exec .egressFree s = .next { s with
      lpu := ({ s.lpu with
        protect := rest ++ s.lpu.commandList.take 1
        commandList := s.lpu.commandList.drop 1 } : Lpu).begun c.dest 5 0 c.payload }) ∧
    (∀ before p after, s.lpu.protect = [] → s.lpu.control = before ++ p :: after →
      (∀ x ∈ before, x.promoted = false) → p.promoted = true →
      exec .egressFree s =
        .next (controlBegun p.frame 1 { s with lpu := { s.lpu with control := before ++ after } })) ∧
    (∀ f rest, s.lpu.protect = [] → (∀ x ∈ s.lpu.control, x.promoted = false) → s.lpu.forward = f :: rest →
      exec .egressFree s = .next { s with
        lpu := { s.lpu with
          forward := rest
          sending := some f
          counters := { s.lpu.counters with sent := min (s.lpu.counters.sent + 1) Config.u32Max } } }) ∧
    (∀ p rest, s.lpu.protect = [] → s.lpu.forward = [] → (∀ x ∈ s.lpu.control, x.promoted = false) →
      s.lpu.control = p :: rest →
      exec .egressFree s = .next (controlBegun p.frame 0 { s with lpu := { s.lpu with control := rest } })) ∧
    (∀ p rest, s.lpu.protect = [] → s.lpu.forward = [] → s.lpu.control = [] → s.lpu.reply = p :: rest →
      exec .egressFree s = .next { s with
        lpu := ({ s.lpu with reply := rest } : Lpu).begun p.frame.parts.1 p.frame.parts.2.1
          (if p.refusal then 2 else 0) p.frame.parts.2.2 }) ∧
    (s.lpu.protect = [] → s.lpu.forward = [] → s.lpu.control = [] → s.lpu.reply = [] →
      exec .egressFree s = .next { s with lpu := { s.lpu with sending := none } })

/-- R1, R10, R11, R14 and the operate limit of section 1.6: what the LPU does with a BCMD, an SHPN, a SETP and a POLL,
without an own node, with egress free and while a frame is being sent, and that nothing else changes. -/
def Obligations.FramesGiven : Prop :=
  (∀ (cmd : BreakerCmd) (k : Target) (s : State), EgressWorks s →
      let e := s.breaker k
      let c : Bcmd := ⟨e.node, cmd, k, if cmd = .close then e.tc + e.margin else e.margin + 100⟩
      (s.own = none → command cmd k s = s) ∧
      (s.own ≠ none → s.lpu.sending = none →
        command cmd k s = { s with lpu := s.lpu.begun c.dest 5 0 c.payload }) ∧
      (∀ f, s.own ≠ none → s.lpu.sending = some f → (∀ x ∈ s.lpu.protect ++ s.lpu.commandList, x.target ≠ k) →
        s.lpu.protect.length < 8 →
        command cmd k s = { s with lpu := { s.lpu with protect := s.lpu.protect ++ [c] } }) ∧
      (∀ f, s.own ≠ none → s.lpu.sending = some f → (∀ x ∈ s.lpu.protect ++ s.lpu.commandList, x.target ≠ k) →
        8 ≤ s.lpu.protect.length →
        command cmd k s = { s with lpu := { s.lpu with commandList := s.lpu.commandList ++ [c] } }) ∧
      (∀ f before x after, s.own ≠ none → s.lpu.sending = some f → s.lpu.protect = before ++ x :: after →
        x.target = k → (∀ y ∈ before ++ after, y.target ≠ k) →
        command cmd k s = { s with lpu := { s.lpu with protect := before ++ c :: after } }) ∧
      (∀ f before x after, s.own ≠ none → s.lpu.sending = some f → (∀ y ∈ s.lpu.protect, y.target ≠ k) →
        s.lpu.commandList = before ++ x :: after → x.target = k → (∀ y ∈ before ++ after, y.target ≠ k) →
        command cmd k s = { s with lpu := { s.lpu with commandList := before ++ c :: after } })) ∧
  (∀ s : State, s.own = none →
    (∀ dest body, giveShpn dest body s = { s with lpu := { s.lpu with counters := { s.lpu.counters with
      shpnLost := min (s.lpu.counters.shpnLost + 1) Config.u32Max } } }) ∧
    (∀ g, giveSetp g s = s) ∧
    ∀ dest m n, givePoll dest m n s = { s with
      lpu := { s.lpu with counters := { s.lpu.counters with
        pollSkipped := min (s.lpu.counters.pollSkipped + 1) Config.u32Max } }
      handoffs := s.handoffs ++ [.pollSkipped m n] }) ∧
  (∀ s : State, s.own ≠ none → s.lpu.sending = none → EgressWorks s →
    (∀ dest body, giveShpn dest body s = controlBegun (.shpn dest body) 0 s) ∧
    (∀ g, giveSetp g s = controlBegun (.setp g) 0 s) ∧
    ∀ dest m n, givePoll dest m n s = controlBegun (.poll dest m n) 0 s) ∧
  ∀ (s : State) (f : List Byte), s.own ≠ none → s.lpu.sending = some f →
    (∀ dest m n, s.lpu.control.length < 24 →
      givePoll dest m n s = { s with lpu := { s.lpu with
        control := s.lpu.control ++ [⟨.poll dest m n, s.now, false⟩] } }) ∧
    (∀ dest m n, 24 ≤ s.lpu.control.length → (∀ p ∈ s.lpu.control, p.isShpn = false) →
      givePoll dest m n s = { s with
        lpu := { s.lpu with counters := { s.lpu.counters with
          pollSkipped := min (s.lpu.counters.pollSkipped + 1) Config.u32Max } }
        handoffs := s.handoffs ++ [.pollSkipped m n] }) ∧
    (∀ dest m n before p after, 24 ≤ s.lpu.control.length → s.lpu.control = before ++ p :: after →
      (∀ x ∈ before, x.isShpn = false) → p.isShpn = true →
      givePoll dest m n s = { s with lpu := { s.lpu with
        control := before ++ after ++ [⟨.poll dest m n, s.now, false⟩]
        counters := { s.lpu.counters with shpnLost := min (s.lpu.counters.shpnLost + 1) Config.u32Max } } }) ∧
    (∀ dest body, s.lpu.control.length < 24 →
      giveShpn dest body s = { s with lpu := { s.lpu with
        control := s.lpu.control ++ [⟨.shpn dest body, s.now, false⟩] } }) ∧
    (∀ dest body, 24 ≤ s.lpu.control.length → (∀ p ∈ s.lpu.control, p.isShpn = false) →
      giveShpn dest body s = { s with lpu := { s.lpu with counters := { s.lpu.counters with
        shpnLost := min (s.lpu.counters.shpnLost + 1) Config.u32Max } } }) ∧
    (∀ dest body before p after, 24 ≤ s.lpu.control.length → s.lpu.control = before ++ p :: after →
      (∀ x ∈ before, x.isShpn = false) → p.isShpn = true →
      giveShpn dest body s = { s with lpu := { s.lpu with
        control := before ++ after ++ [⟨.shpn dest body, s.now, false⟩]
        counters := { s.lpu.counters with shpnLost := min (s.lpu.counters.shpnLost + 1) Config.u32Max } } }) ∧
    (∀ g before p after, s.lpu.control = before ++ p :: after → p.isSetpFor g.module = true →
      (∀ x ∈ before ++ after, x.isSetpFor g.module = false) →
      giveSetp g s = { s with lpu := { s.lpu with
        control := before ++ { p with frame := .setp g } :: after } }) ∧
    (∀ g, (∀ x ∈ s.lpu.control, x.isSetpFor g.module = false) → s.lpu.control.length < 24 →
      giveSetp g s = { s with lpu := { s.lpu with control := s.lpu.control ++ [⟨.setp g, s.now, false⟩] } }) ∧
    (∀ g before p after, (∀ x ∈ s.lpu.control, x.isSetpFor g.module = false) → 24 ≤ s.lpu.control.length →
      s.lpu.control = before ++ p :: after → (∀ x ∈ before, x.isShpn = false) → p.isShpn = true →
      giveSetp g s = { s with lpu := { s.lpu with
        control := before ++ after ++ [⟨.setp g, s.now, false⟩]
        counters := { s.lpu.counters with shpnLost := min (s.lpu.counters.shpnLost + 1) Config.u32Max } } }) ∧
    (∀ g before dest m n entry promoted after, (∀ x ∈ s.lpu.control, x.isSetpFor g.module = false) →
      24 ≤ s.lpu.control.length → (∀ x ∈ s.lpu.control, x.isShpn = false) →
      s.lpu.control = before ++ ⟨.poll dest m n, entry, promoted⟩ :: after → (∀ x ∈ before, x.isPoll = false) →
      giveSetp g s = { s with
        lpu := { s.lpu with
          control := before ++ after ++ [⟨.setp g, s.now, false⟩]
          counters := { s.lpu.counters with pollSkipped := min (s.lpu.counters.pollSkipped + 1) Config.u32Max } }
        handoffs := s.handoffs ++ [.pollSkipped m n] })

/-! ### Streams and points -/

/-- R20, R21, R22: one record that is unmatched, discarded, or accepted without VALID; and a frame of several records:
its first record is taken as the one record of a frame and the others as a frame of theirs, before anything that any of
them raises is taken (log 21). -/
def Obligations.RecordNotValid : Prop :=
  (∀ (src : Byte) (n : Nat) (first rest : List Byte) (s : State), Quiet s → reaches s src.toNat = true →
    (∃ e ∈ s.scl.streams.toList, e.valid = true ∧ e.node = src.toNat) →
    first.length = 24 → 1 ≤ n → n ≤ 7 → rest.length = 24 * n →
    let frame : List Byte := be 1 (n + 1) ++ first ++ rest
    let u := measTaken src.toNat (be 1 1 ++ first) s
    exec (.measFrame src frame) s = .next (settle (measTaken src.toNat (be 1 n ++ rest) u)) ∧
      exec (.measFrame src (be 1 1 ++ first)) s = .next (settle u) ∧
      (u.handoffs = [] → exec (.measFrame src (be 1 1 ++ first)) s = .next u ∧
        exec (.measFrame src frame) s = exec (.measFrame src (be 1 n ++ rest)) u)) ∧
  ∀ (src : Byte) (p : List Byte) (s : State), Quiet s → reaches s src.toNat = true →
    (∃ e ∈ s.scl.streams.toList, e.valid = true ∧ e.node = src.toNat) → p.length = 25 → byteAt p 0 = 1 →
    let x := measRecord (p.drop 1)
    ((∀ e ∈ s.scl.streams.toList, ¬ (e.valid = true ∧ e.node = src.toNat ∧ e.channel = x.channel)) →
      exec (.measFrame src p) s = .next { s with
        scl := { s.scl with unmatched := min (s.scl.unmatched + 1) Config.u32Max } }) ∧
    (∀ (e : StreamEntry) (q : Point) (l : Nat), matchEntry s.scl.streams src.toNat x.channel = some e →
      e.point = q.val → (s.point q).lastSeq = some l → l ≤ 65535 →
      (x.seq + 65536 - l) % 65536 = 0 ∨ 32768 ≤ (x.seq + 65536 - l) % 65536 →
      exec (.measFrame src p) s = .next { s with
        scl := { s.scl with points := upd s.scl.points q fun r =>
          { r with discarded := min (r.discarded + 1) 65535 } } }) ∧
    (∀ (e : StreamEntry) (q : Point), matchEntry s.scl.streams src.toNat x.channel = some e → e.point = q.val →
      x.valid = false → (s.point q).lastSeq = none →
      exec (.measFrame src p) s = .next { s with
        scl := { s.scl with points := upd s.scl.points q fun r =>
          { r with lastSeq := some x.seq, missed := min r.missed 65535 } } }) ∧
    (∀ (e : StreamEntry) (q : Point) (l : Nat), matchEntry s.scl.streams src.toNat x.channel = some e →
      e.point = q.val → x.valid = false → (s.point q).lastSeq = some l → l ≤ 65535 →
      1 ≤ (x.seq + 65536 - l) % 65536 → (x.seq + 65536 - l) % 65536 ≤ 32767 →
      exec (.measFrame src p) s = .next { s with
        scl := { s.scl with points := upd s.scl.points q fun r =>
          { r with
            lastSeq := some x.seq
            missed := min (r.missed + ((x.seq + 65536 - l) % 65536 - 1)) 65535 } } })

/-- R23, R24, R27, R28, R29: one accepted valid record: the point's new values, the other points' values, the band flags of
the grid point and of an SHb point, and the end of the point's staleness condition with its repeat timer. Where no raise leads further, SYU has taken the record at every channel that steers
by the point, MTR has taken it where the point is a revenue point, and nothing else of either has changed; frames of
several records are in `RecordNotValid`. That S0 takes the record before S1 is the model's choice (log 43). -/
def Obligations.ValidRecord : Prop :=
  ∀ (src : Byte) (p : List Byte) (s : State) (e : StreamEntry) (q : Point), reaches s src.toNat = true →
    p.length = 25 → byteAt p 0 = 1 →
    let x := measRecord (p.drop 1)
    matchEntry s.scl.streams src.toNat x.channel = some e → e.point = q.val → x.valid = true →
    ((s.point q).lastSeq = none ∨ ∃ l, (s.point q).lastSeq = some l ∧ l ≤ 65535 ∧
      1 ≤ (x.seq + 65536 - l) % 65536 ∧ (x.seq + 65536 - l) % 65536 ≤ 32767) →
    ∃ t, exec (.measFrame src p) s = .next t ∧
      (t.point q = { s.point q with
        state := .fresh
        neverReceived := false
        lastSeq := some x.seq
        timestamp := x.timestamp
        voltage := x.voltage
        angle := x.angle
        freq := x.freq
        pCal := roundHalfAway (x.p * s.scl.gains[q]) 65536
        qCal := roundHalfAway (x.q * s.scl.gains[q]) 65536
        arrival := s.now
        missed := min ((s.point q).missed + match (s.point q).lastSeq with
          | none => 0
          | some l => (x.seq + 65536 - l) % 65536 - 1) 65535
        vOut := (t.point q).vOut
        fOut := (t.point q).fOut }) ∧
      (∀ o, o ≠ q → t.point o = { s.point o with vOut := (t.point o).vOut, fOut := (t.point o).fOut }) ∧
      (q = gridPoint →
        ((t.point q).vOut = true ↔
          s.scl.grid.nominalV * s.scl.grid.vBand < ((x.voltage : Int) - s.scl.grid.nominalV).natAbs * 1000) ∧
        ((t.point q).fOut = true ↔ s.scl.grid.fBand < ((x.freq : Int) - s.scl.grid.nominalF).natAbs)) ∧
      (q ≠ gridPoint → (∀ b, q ≠ shPoint b ∨ (s.berth b).state ≠ .shore) →
        (t.point q).vOut = (s.point q).vOut ∧ (t.point q).fOut = (s.point q).fOut) ∧
      (∀ b, q = shPoint b → (s.berth b).state = .shore →
        let vBad := (s.entry b).nominalV * (s.entry b).vBand < ((x.voltage : Int) - (s.entry b).nominalV).natAbs * 1000
        let fBad := (s.entry b).fBand < ((x.freq : Int) - (s.entry b).nominalF).natAbs
        (vBad → (t.event (evVoltageBand b)).raw = true) ∧ (fBad → (t.event (evFreqBand b)).raw = true) ∧
          ((∀ e, RaisesAlone e s) → ((t.point q).vOut = true ↔ vBad) ∧ ((t.point q).fOut = true ↔ fBad))) ∧
      ((∀ e, RaisesAlone e s) →
        let u := syuRecord q { s with scl := t.scl }
        (∀ o, o ≠ q → t.point o = s.point o) ∧ t.syu = u.syu ∧ t.rfg = u.rfg ∧ t.lpu = u.lpu ∧ t.bsq = s.bsq ∧
          ((∀ b, q ≠ shPoint b) → t.mtr = s.mtr ∧ t.blg = s.blg) ∧
          ∀ b, q = shPoint b →
            let v := meterRecord b
              ⟨roundHalfAway (x.p * s.scl.gains[q]) 65536, x.timestamp, e.interval, (s.point q).state = .stale⟩ s
            t.mtr = v.mtr ∧ t.blg = v.blg) ∧
      (∀ b, (q = shPoint b → t.scl.shipStale[b] = none) ∧ (q = cbPoint b → t.scl.convStale[b] = none)) ∧
      t.scl.streams = s.scl.streams ∧ t.scl.gains = s.scl.gains ∧ t.scl.unmatched = s.scl.unmatched ∧
      t.mlk = s.mlk ∧ t.mgu = s.mgu ∧ t.pins = s.pins ∧ t.now = s.now

/-- R25, R26, R29: the expiries of a point's limits and of a staleness condition's repeat timer. An age exceeds a limit
one ms after it has reached it, as in section 2.9 (log 6). -/
def Obligations.FreshnessExpiries : Prop :=
  ∀ s : State, Quiet s →
    (∀ p h l, (s.point p).state = .fresh → (s.point p).limits = some (h, l) → h < l →
      exec (.heldLimitExpiry p) s = .next { s with
        now := max s.now ((s.point p).arrival + h + 1)
        scl := { s.scl with points := upd s.scl.points p fun r => { r with state := .held } } }) ∧
    (∀ p h l, (s.point p).limits = some (h, l) → (s.point p).state ≠ .fresh ∨ l ≤ h →
      exec (.heldLimitExpiry p) s = .next s) ∧
    (∀ p, (s.point p).limits = none ∨ (s.point p).state = .stale → exec (.staleLimitExpiry p) s = .next s) ∧
    (∀ p h l, (s.point p).limits = some (h, l) → (s.point p).state ≠ .stale →
      (∀ b side, pointSide p = some (b, side) → (s.berth b).state.watched = false) →
      exec (.staleLimitExpiry p) s = .next { s with
        now := max s.now ((s.point p).arrival + l + 1)
        scl := { s.scl with points := upd s.scl.points p fun r => { r with state := .stale, lastSeq := none } }
        syu := { s.syu with chans := s.syu.chans.map (Option.map (ChanWork.sawStale p)) } }) ∧
    (∀ (b : Berth) h l, (s.point (shPoint b)).limits = some (h, l) → (s.point (shPoint b)).state ≠ .stale →
      (s.berth b).state.watched = true → RaisesAlone (evShipBusStale b) s →
      exec (.staleLimitExpiry (shPoint b)) s = .next (raised (evShipBusStale b) { s with
        now := max s.now ((s.point (shPoint b)).arrival + l + 1)
        scl := { s.scl with
          points := upd s.scl.points (shPoint b) fun r => { r with state := .stale, lastSeq := none }
          shipStale := upd s.scl.shipStale b fun _ =>
            some (max s.now ((s.point (shPoint b)).arrival + l + 1) + 100) }
        syu := { s.syu with chans := s.syu.chans.map (Option.map (ChanWork.sawStale (shPoint b))) } })) ∧
    (∀ (b : Berth) h l, (s.point (cbPoint b)).limits = some (h, l) → (s.point (cbPoint b)).state ≠ .stale →
      (s.berth b).state.watched = true → RaisesAlone (evCbStale b) s →
      exec (.staleLimitExpiry (cbPoint b)) s = .next (raised (evCbStale b) { s with
        now := max s.now ((s.point (cbPoint b)).arrival + l + 1)
        scl := { s.scl with
          points := upd s.scl.points (cbPoint b) fun r => { r with state := .stale, lastSeq := none }
          convStale := upd s.scl.convStale b fun _ =>
            some (max s.now ((s.point (cbPoint b)).arrival + l + 1) + 100) }
        syu := { s.syu with chans := s.syu.chans.map (Option.map (ChanWork.sawStale (cbPoint b))) } })) ∧
    (∀ b side, staleCond s b side = none → exec (.stalenessRepeatTimerExpiry b side) s = .next s) ∧
    (∀ b due, s.scl.shipStale[b] = some due → RaisesAlone (evShipBusStale b) s →
      exec (.stalenessRepeatTimerExpiry b .ship) s = .next (raised (evShipBusStale b) { s with
        now := max s.now due
        scl := { s.scl with shipStale := upd s.scl.shipStale b fun _ => some (max s.now due + 100) } })) ∧
    (∀ b due, s.scl.convStale[b] = some due → RaisesAlone (evCbStale b) s →
      exec (.stalenessRepeatTimerExpiry b .converter) s = .next (raised (evCbStale b) { s with
        now := max s.now due
        scl := { s.scl with convStale := upd s.scl.convStale b fun _ => some (max s.now due + 100) } }))

/-! ### The module pool and the references -/

/-- R35: a scan slot with the previous poll open, with no module installed, and with a poll to give; and the next module
in rotation. The slot's command moves device time to its instant, and the next slot is 10 ms after that instant
(log 5). -/
def Obligations.ScanSlots : Prop :=
  ∀ s : State, Quiet s →
    (s.mpm.poll.isSome ∨ (∀ m : Module, s.mpm.table[m].installed = false) →
      exec .scanSlot s = .next { s with
        now := max s.now s.mpm.scanDue
        mpm := { s.mpm with scanDue := s.mpm.scanDue + 10 } }) ∧
    (∀ m f, s.mpm.poll = none → nextPolled s = some m → s.own ≠ none → s.lpu.sending = some f →
      s.lpu.control.length < 24 →
      exec .scanSlot s = .next { s with
        now := max s.now s.mpm.scanDue
        mpm := { s.mpm with
          scanDue := s.mpm.scanDue + 10
          poll := some ⟨m, s.mpm.pollCounter, none⟩
          lastPolled := some m
          pollCounter := (s.mpm.pollCounter + 1) % 256 }
        lpu := { s.lpu with
          control := s.lpu.control ++
            [⟨.poll s.mpm.table[m].node m s.mpm.pollCounter, max s.now s.mpm.scanDue, false⟩] } }) ∧
    (∀ m, nextPolled s = some m → s.mpm.table[m].installed = true ∧
      (s.mpm.lastPolled = none → ∀ j : Module, s.mpm.table[j].installed = true → m.val ≤ j.val) ∧
      ∀ l, s.mpm.lastPolled = some l →
        (l.val < m.val ∧ ∀ j : Module, s.mpm.table[j].installed = true → l.val < j.val → m.val ≤ j.val) ∨
        ∀ j : Module, s.mpm.table[j].installed = true → m.val ≤ j.val ∧ j.val ≤ l.val) ∧
    ((∃ j : Module, s.mpm.table[j].installed = true) → ∃ m, nextPolled s = some m)

/-- R36, R37, R38, R39, R42, R47, R100: the end of an open poll by its reply timer or by a matching PRPY, and a PRPY
that does not match: the poll record, the events of R39, and the start, stop and sync rules at the reply, each where
no raise leads further, with the berth's way from ALLOCATING to ENERGISING at its first ONLINE module. What a loss by
misses brings the berth is in `ModulesLeaveService`. The timer's command moves device time to its instant (log 5), a
derate byte other than 1 reads as not set (log 19), and a stop that ends, or a loss, clears the start-issued flag and
the deferred flag (log 36). -/
def Obligations.PollEnds : Prop :=
  ∀ s : State, Quiet s →
    ((∀ m n due, s.mpm.poll ≠ some ⟨m, n, some due⟩) → exec .pollReplyTimerExpiry s = .next s) ∧
    (∀ m n due, s.mpm.poll = some ⟨m, n, some due⟩ →
      (s.modu m).missCount + 1 < 3 ∨ (s.modu m).state ∈ [.absent, .stopping, .lost, .blocked] →
      exec .pollReplyTimerExpiry s = .next { s with
        now := max s.now due
        mpm := { s.mpm with
          poll := none
          recs := upd s.mpm.recs m fun r =>
            { r with missCount := min (r.missCount + 1) 255, answered := false } } }) ∧
    (∀ m n due, s.mpm.poll = some ⟨m, n, some due⟩ → 3 ≤ (s.modu m).missCount + 1 →
      (s.modu m).state ∈ [.standby, .starting, .syncing, .online] →
      ∃ t, exec .pollReplyTimerExpiry s = .next t ∧ t.mpm.poll = none ∧
        (t.modu m).missCount = min ((s.modu m).missCount + 1) 255 ∧ (t.modu m).answered = false ∧
        (t.event (evModuleLost m)).raw = true ∧ (∀ b, m ∉ t.list b) ∧
        ((t.modu m).state = .lost ∨ (s.event (evModuleLost m)).action = .blockModule ∧ (t.modu m).state = .blocked)) ∧
    (∀ (src : Byte) (p : List Byte) (m : Module) (st : Reported), reaches s src.toNat = true →
      (∃ e ∈ s.mpm.table.toList, e.installed = true ∧ e.node = src.toNat) → p.length = 6 → byteAt p 0 = m.val →
      reportedOf? (byteAt p 2) = some st →
      ((∀ due, s.mpm.poll ≠ some ⟨m, byteAt p 1, some due⟩) ∨ s.mpm.table[m].node ≠ src.toNat →
        exec (.prpyFrame src p) s = .next { s with
          mpm := { s.mpm with ignored := min (s.mpm.ignored + 1) Config.u32Max } }) ∧
      (∀ due, s.mpm.poll = some ⟨m, byteAt p 1, some due⟩ → s.mpm.table[m].node = src.toNat →
        ∃ t, exec (.prpyFrame src p) s = .next t ∧ t.mpm.poll = none ∧ (t.modu m).missCount = 0 ∧
          (t.modu m).answered = true ∧ (t.modu m).reported = some st ∧
          (t.modu m).derateFlag = decide (byteAt p 3 = 1) ∧
          (t.modu m).capacity = some (
            if ((s.modu m).state = .syncing ∨ (s.modu m).state = .online) ∧ st = .off then 0
            else min (fieldAt p 4 2) s.mpm.table[m].rating) ∧
          (∀ o, o ≠ m → (t.modu o).missCount = (s.modu o).missCount ∧ (t.modu o).capacity = (s.modu o).capacity) ∧
          t.mpm.table = s.mpm.table ∧ t.mpm.ignored = s.mpm.ignored) ∧
      (∀ due, s.mpm.poll = some ⟨m, byteAt p 1, some due⟩ → s.mpm.table[m].node = src.toNat →
        let o := s.modu m
        let k := contactor m
        let cap :=
          if (o.state = .syncing ∨ o.state = .online) ∧ st = .off then 0
          else min (fieldAt p 4 2) s.mpm.table[m].rating
        let fault := st = .fault ∧ o.reported ≠ some .fault ∨
          st = .off ∧ (o.state = .syncing ∨ o.state = .online) ∧ o.reported ≠ some .off
        let derated := byteAt p 3 = 1 ∨ cap < s.mpm.table[m].rating
        let noted (g : ModuleRec → ModuleRec) : State :=
          let u : State := { s with mpm := { s.mpm with
            poll := none
            recs := upd s.mpm.recs m fun r => g { r with
              missCount := 0
              answered := true
              reported := some st
              derateFlag := decide (byteAt p 3 = 1)
              derateCond := decide derated
              capacity := some cap } } }
          let v := if fault then raised (evModuleFault m) u else u
          if derated then raised (evModuleDerated m) v else v
        (∃ t, exec (.prpyFrame src p) s = .next t ∧ (t.modu m).derateCond = decide derated ∧
          (fault → (t.event (evModuleFault m)).raw = true) ∧ (derated → (t.event (evModuleDerated m)).raw = true)) ∧
        ((∀ e, RaisesAlone e s) →
          (o.state ∈ [.absent, .standby, .lost, .blocked, .syncing] ∨ o.state = .starting ∧ st ≠ .running ∨
            o.state = .stopping ∧ st ≠ .off → exec (.prpyFrame src p) s = .next (noted id)) ∧
          (∀ b, o.state = .online → ModulesListed s → m ∈ s.list b →
            (s.berth b).state ∉ [.allocating, .energising] → exec (.prpyFrame src p) s = .next (
              let u := noted id
              { u with bsq := { u.bsq with recs := upd u.bsq.recs b fun r => { r with summary := {
                listed := (s.list b).length
                online := ((s.list b).filter fun x => (s.modu x).state = .online).length
                allOnline := (s.list b).all fun x => (s.modu x).state = .online
                capacity := (((s.list b).filter fun x => (s.modu x).state = .online).map fun x =>
                  if x = m then cap else (s.modu x).capacity.getD 0).sum } } } })) ∧
          (o.state = .starting → st = .running → o.first = true → o.closedNoted = false → ModulesListed s →
            exec (.prpyFrame src p) s = .next (noted fun r => { r with runningSeen := true })) ∧
          (∀ b, o.state = .starting → st = .running → o.first = true → o.closedNoted = true → ModulesListed s →
            m ∈ s.list b → (s.berth b).energised = false →
            ∃ t, exec (.prpyFrame src p) s = .next t ∧ FirstOnline b m s t) ∧
          (∀ b, o.state = .starting → st = .running → o.first = false → ModulesListed s → m ∈ s.list b →
            let syncing (later : Bool) := noted fun r =>
              { r with runningSeen := true, state := .syncing, startDue := none, deferred := later || r.deferred }
            let request : SyncReq := {
              target := k, berth := b, requester := .mpm, refPoint := cbPoint b, matchPoint := moPoint m
              instant := s.now, waitDue := s.now + s.syu.profiles[1].waitLimit * 1000 }
            ((∀ x ∈ s.list b, (s.modu x).state ≠ .online) →
              exec (.prpyFrame src p) s = .next (syncing true)) ∧
            ((∃ x ∈ s.list b, (s.modu x).state = .online) → s.syu.busy k = false → (s.breaker k).node ≠ 0 →
              exec (.prpyFrame src p) s = .next (serveChannelsTaken { syncing false with
                syu := { s.syu with queue := s.syu.queue ++ [request] } }))) ∧
          (o.state = .stopping → st = .off → o.openSeen = false →
            exec (.prpyFrame src p) s = .next (noted fun r => { r with offSeen := true })) ∧
          (∀ b, o.state = .stopping → st = .off → o.openSeen = true → ModulesListed s → m ∈ s.list b →
            ∃ t, exec (.prpyFrame src p) s = .next t ∧
              (t.modu m).state = (if o.blockPending then .blocked else .standby) ∧
              (t.modu m).blockPending = false ∧ (t.modu m).startIssued = false ∧ (t.modu m).stopDue = none ∧
              (∀ c, m ∉ t.list c) ∧
              ((s.berth b).state = .releasing → s.list b = [m] → (t.berth b).state = .dead)))))

/-- R38, R41, R44, R47, R48, R49, R100, R103, R113, R120: how modules leave service: the start and stop limits, and
the loss of an allocated module at its third miss, with what its contactor is given and what becomes of its berth.
Instants are device time (log 5). -/
def Obligations.ModulesLeaveService : Prop :=
  ∀ (m : Module) (s : State), Quiet s →
    ((s.modu m).state ≠ .starting ∨ (s.modu m).startDue = none → exec (.startLimitExpiry m) s = .next s) ∧
    ((s.modu m).state ≠ .stopping ∨ (s.modu m).stopDue = none → exec (.stopLimitExpiry m) s = .next s) ∧
    (∀ due, (s.modu m).state = .starting → (s.modu m).startDue = some due →
      ∃ t, exec (.startLimitExpiry m) s = .next t ∧ t.now = max s.now due ∧ (t.modu m).state = .blocked ∧
        (t.modu m).startDue = none ∧ (∀ b, m ∉ t.list b) ∧ (t.event (evModuleFault m)).raw = true ∧
        t.mpm.table = s.mpm.table ∧ (t.modu m).missCount = (s.modu m).missCount ∧
        ∀ b, m ∈ s.list b → ModulesListed s → SyncOnce s → (∀ e, RaisesAlone e s) →
          Parted m s t ∧ LeftService b m ((s.list b).filter fun x => x ≠ m) s t) ∧
    (∀ due, (s.modu m).state = .stopping → (s.modu m).stopDue = some due →
      ∃ t, exec (.stopLimitExpiry m) s = .next t ∧ t.now = max s.now due ∧ (t.modu m).state = .blocked ∧
        (t.modu m).blockPending = false ∧ (t.modu m).stopDue = none ∧ (∀ b, m ∉ t.list b) ∧
        (t.event (evModuleFault m)).raw = true ∧ t.mpm.table = s.mpm.table ∧
        (t.modu m).missCount = (s.modu m).missCount ∧
        ((∀ e, RaisesAlone e s) → (EgressWorks s → s.own ≠ none → CommandGiven ⟨(s.breaker (contactor m)).node,
            .openCmd, contactor m, (s.breaker (contactor m)).margin + 100⟩ t) ∧
          ∀ b, ModulesListed s → s.list b = [m] → (s.berth b).state = .releasing → (t.berth b).state = .dead)) ∧
    ∀ n due b, s.mpm.poll = some ⟨m, n, some due⟩ → 3 ≤ (s.modu m).missCount + 1 → m ∈ s.list b →
      (s.modu m).state ∈ [.starting, .syncing, .online] → ModulesListed s → SyncOnce s → (∀ e, RaisesAlone e s) →
      ∃ t, exec .pollReplyTimerExpiry s = .next t ∧ t.now = max s.now due ∧ (t.modu m).state = .lost ∧
        (t.modu m).startDue = none ∧ (∀ c, m ∉ t.list c) ∧ (t.event (evModuleLost m)).raw = true ∧
        t.rfg.modules[m].lastSent = none ∧ t.rfg.modules[m].own = none ∧ Parted m s t ∧
        LeftService b m ((s.list b).filter fun x => x ≠ m) s t

/-- R57, R59, R60, R61, R63, R64, R66, R67, R88, R101, R102: a period of the Reference Generator: the counter; each
berth's references, by at most their limits toward the targets of its state, its soft-energise progress, P_b and the
judgement of overload; the SETP built for each module, none for a first module whose start is not issued; for a berth
that works alone, the SHED and the SETPs given; and, for a berth whose bus is formed in this period with every listed
module ONLINE, how it leaves ENERGISING. The period's command moves device time to its instant, and the next period is
20 ms after that instant (log 5). A STOP repeats the last-sent references (log 39), and a shed amount below 0 is 0
(log 37). -/
def Obligations.ReferencePeriod : Prop :=
  ∀ s : State, ∃ t, exec .rfgPeriod s = .next t ∧ t.now = max s.now s.rfg.periodDue ∧
    t.rfg.periodCounter = (s.rfg.periodCounter + 1) % 65536 ∧ t.rfg.periodDue = s.rfg.periodDue + 20 ∧
    t.rfg.settings = s.rfg.settings ∧ t.rfg.inForce = s.rfg.settings ∧
    let set := s.rfg.settings
    let toward (limit cur goal : Nat) : Nat := max (cur - limit) (min (cur + limit) goal)
    let goals (b : Berth) (r : BerthRef) : Nat × Nat :=
      match (s.berth b).state with
      | .allocating => (r.nominalF, r.vRef)
      | .energising => (r.nominalF, min (r.vRef + r.nominalV * set.softIncrement / 100) r.nominalV)
      | .syncing =>
        match r.pair with
        | none => (r.nominalF, r.nominalV)
        | some x => x
      | .deadClose | .shore | .awaitGenerators => (r.nominalF, r.nominalV)
      | .rampUp | .rampDown | .opening =>
        if (s.point (shPoint b)).state = .stale then (r.fRef, r.vRef)
        else (max 40000 (min 70000 (s.point (shPoint b)).freq), (s.point (shPoint b)).voltage)
      | .releasing | .tripped | .unused | .dead => (r.fRef, r.vRef)
    let moved (b : Berth) (r : BerthRef) : Nat × Nat :=
      (toward set.fLimit r.fRef (goals b r).1, toward set.vLimit r.vRef (goals b r).2)
    let refs (b : Berth) : Nat × Nat :=
      match s.berthRef b with
      | none => s.rfg.handed[b]
      | some r => moved b r
    let follow (b : Berth) : Prop := (s.berth b).state ∈ [.rampUp, .rampDown, .opening]
    let online (b : Berth) : List Module := (s.list b).filter fun m => (s.modu m).state = .online
    let capacity (m : Module) : Nat := (s.modu m).capacity.getD 0
    let sumA (b : Berth) : Nat := ((online b).map capacity).sum
    let measured (b : Berth) : Int := roundHalfAway (s.point (cbPoint b)).pCal 1000
    let power (b : Berth) (r : BerthRef) : Nat := min (min (s.entry b).contract (sumA b))
      (if follow b then r.pSet
      else if (s.berth b).state = .shore ∨ (s.berth b).state = .awaitGenerators then
        if (s.point (cbPoint b)).state = .stale then r.pB else (max 0 (min (sumA b : Int) (measured b))).toNat
      else 0)
    let overloaded (b : Berth) (r : BerthRef) : Prop :=
      (s.berth b).state ∈ [.rampUp, .shore, .awaitGenerators, .rampDown] ∧
        if (s.point (cbPoint b)).state = .stale then r.overload = true else (sumA b : Int) < measured b
    let shed (b : Berth) : Nat := (max 0 (min 65535 (measured b - sumA b + set.shedMargin))).toNat
    let setpOf (b : Berth) (m : Module) (mode : SetpMode) : BuiltSetp :=
      let x := s.rfg.modules[m]
      let fv : Nat × Nat :=
        match x.lastSent with
        | none => refs b
        | some (f, v, _) =>
          if mode = .stop then (f, v)
          else if x.startSent = false then refs b
          else
            let goal := if (s.modu m).state = .syncing then x.own.getD (refs b) else refs b
            (toward set.fLimit f goal.1, toward set.vLimit v goal.2)
      let share : Nat :=
        match s.berthRef b with
        | none => 0
        | some r => shareOf capacity (online b) (power b r) m
      { mode := mode, f := fv.1, v := fv.2, pRef := if (s.modu m).state = .online then share else 0
        pLimit := capacity m }
    let onlineMode (b : Berth) : SetpMode := if follow b ∧ s.berthRef b ≠ none then .follow else .form
    let cbPasses (b : Berth) (r : BerthRef) : Prop :=
      let cb := s.point (cbPoint b)
      cb.state = .fresh ∧ ((cb.voltage : Int) - r.nominalV).natAbs * 1000 ≤ r.nominalV * 20 ∧
        ((cb.freq : Int) - r.nominalF).natAbs ≤ (s.entry b).fBand
    (∀ b r r', s.berthRef b = some r → t.berthRef b = some r' →
      r'.fRef = (moved b r).1 ∧ r'.vRef = (moved b r).2 ∧ r'.nominalF = r.nominalF ∧ r'.nominalV = r.nominalV ∧
        (r'.follow = true ↔ follow b) ∧ r'.pB = power b r ∧
        (let soft := (s.berth b).state = .energising ∧ r.progress ≠ .complete
        let passes := cbPasses b r
        (¬ soft → r'.progress = r.progress) ∧ (soft → ¬ passes → r'.progress = .rising) ∧
          (soft → passes → r'.progress = .complete ∧
            ((∀ e, RaisesAlone e s) → (t.berth b).energised = true))) ∧
        (¬ overloaded b r → r'.overload = false ∧ r'.overloadDue = none) ∧
        (overloaded b r → r'.overload = true ∧
          (r.overload = false → r'.overloadDue = some (t.now + (s.entry b).overloadTime * 1000)) ∧
          (r.overload = true → r'.overloadDue = r.overloadDue ∧
            (r.overloadDue = none → (t.event (evOverload b)).raw = true)) ∧
          ((∀ e, RaisesAlone e s) → r'.lastShed = if r.overload then r.lastShed else shed b))) ∧
    (ModulesListed s →
      (∀ b, ∀ m ∈ s.list b,
        ((s.modu m).state = .starting → (s.modu m).startIssued = true →
          t.rfg.modules[m].built = some (setpOf b m .start)) ∧
        ((s.modu m).state = .starting → (s.modu m).startIssued = false →
          t.rfg.modules[m].built = s.rfg.modules[m].built) ∧
        ((s.modu m).state = .syncing → t.rfg.modules[m].built = some (setpOf b m .form)) ∧
        ((s.modu m).state = .online → t.rfg.modules[m].built = some (setpOf b m (onlineMode b))) ∧
        ((s.modu m).state = .stopping → t.rfg.modules[m].built = some (setpOf b m .stop))) ∧
      ∀ m : Module, (∀ b, m ∉ s.list b) → t.rfg.modules[m].built = s.rfg.modules[m].built) ∧
    (∀ b r f, ModulesListed s → (∀ c, c ≠ b → s.berthRef c = none ∧ s.list c = []) →
      s.berthRef b = some r → (s.berth b).state ≠ .energising → RaisesAlone (evOverload b) s → s.own ≠ none →
      s.lpu.sending = some f → s.lpu.control.length ≤ 12 →
      (overloaded b r → r.overload = false →
        (⟨.shpn (s.entry b).gateway (.shed b (shed b)), t.now, false⟩ : ControlPlace) ∈ t.lpu.control) ∧
      ∀ m ∈ s.list b, ∀ x, t.rfg.modules[m].built = some x →
        ((s.modu m).state ≠ .starting ∨ (s.modu m).startIssued = true) →
        ∃ p ∈ t.lpu.control, p.frame = .setp {
          dest := s.mpm.table[m].node, module := m, mode := x.mode, period := s.rfg.periodCounter
          f := x.f, v := x.v, pRef := x.pRef, pLimit := x.pLimit, berth := b }) ∧
    (∀ b r, s.berthRef b = some r → (s.berth b).state = .energising → r.progress ≠ .complete → cbPasses b r →
      0 < (s.berth b).summary.listed → (s.berth b).summary.allOnline = true → ModulesListed s → SyncOnce s →
      (∀ e, RaisesAlone e s) → LeftEnergising b s t) ∧
    t.mlk = s.mlk ∧ t.mgu = s.mgu ∧ t.pins = s.pins ∧ t.bsq.table = s.bsq.table ∧ t.mpm.table = s.mpm.table

/-! ### Synchronising -/

/-- R76, R77, R79, R80, R81, R83, R92: an attempt: how the channels take requests, S0 first; the stages of an evaluation;
the target pair, the settle run, WATCHING and the close at an accepted valid record of the reference point, as SYU takes
it (`ValidRecord`). The pair comes before the evaluation, and in window under emergency stop the channel goes back to
ADJUSTING (log 27). -/
def Obligations.SyncAttempts : Prop :=
  (∀ s : State, s.handoffs = [] →
    let start (r : SyncReq) : ChanWork :=
      let q := s.syu.profiles[profileIx r.target]
      { req := r, profile := q, phase := .adjusting, k := 0, settle := 0
        watchDue := some (s.now + q.watchLimit * 1000), confirmDue := none, backoffDue := none
        commandTime := none, pair := none, eval := none }
    let served (q : List SyncReq) (v : Vector (Option ChanWork) 2) : Prop :=
      serveChannelsTaken s = { s with syu := { s.syu with queue := q, chans := v } }
    (s.syu.queue = [] → serveChannelsTaken s = s) ∧
    (∀ r rest, s.syu.queue = r :: rest → s.syu.chans[0] ≠ none → s.syu.chans[1] ≠ none → serveChannelsTaken s = s) ∧
    (∀ r, s.syu.queue = [r] → s.syu.chans[0] = none → served [] #v[some (start r), s.syu.chans[1]]) ∧
    (∀ r rest, s.syu.queue = r :: rest → s.syu.chans[0] = none → s.syu.chans[1] ≠ none →
      served rest #v[some (start r), s.syu.chans[1]]) ∧
    (∀ r rest, s.syu.queue = r :: rest → s.syu.chans[0] ≠ none → s.syu.chans[1] = none →
      served rest #v[s.syu.chans[0], some (start r)]) ∧
    (∀ r0 r1 rest, s.syu.queue = r0 :: r1 :: rest → s.syu.chans[0] = none → s.syu.chans[1] = none →
      served rest #v[some (start r0), some (start r1)])) ∧
  (∀ (p : Profile) (tc : Nat) (m r : PointRec), tc ≤ 300 → -500 ≤ p.slipLow → p.slipHigh ≤ 500 →
    let e := evaluate p tc m r
    let s : Int := (m.freq : Int) - r.freq
    (e.vOk = true ↔ ((m.voltage : Int) - r.voltage).natAbs ≤ p.vWindow) ∧
      (e.sOk = true ↔ (40000 ≤ m.freq ∧ m.freq ≤ 70000 ∧ 40000 ≤ r.freq ∧ r.freq ≤ 70000) ∧
        p.slipLow ≤ s ∧ s ≤ p.slipHigh) ∧
      e.slip = some s ∧
      (e.sOk = false → e.phi = none ∧ e.delta = none ∧ e.phiP = none ∧ e.aOk = false) ∧
      (e.sOk = true → ∃ phi delta phiP : Int,
        e.phi = some phi ∧ e.delta = some delta ∧ e.phiP = some phiP ∧
          -32768 ≤ phi ∧ phi ≤ 32767 ∧ 65536 ∣ phi - ((m.angle : Int) - r.angle) ∧
          2 * (delta * 1000000 - s * tc * 65536).natAbs ≤ 1000000 ∧
          -32768 ≤ phiP ∧ phiP ≤ 32767 ∧ 65536 ∣ phiP - (phi + delta) ∧
          (e.aOk = true ↔ phiP.natAbs ≤ p.angleWindow))) ∧
  ∀ (c : Chan) (w : ChanWork) (s : State), s.syu.chans[c] = some w →
    let r := s.point w.req.refPoint
    let fresh := (s.point w.req.matchPoint).state = .fresh
    let k := w.req.target
    let e := evaluate w.profile (s.breaker k).tc (s.point w.req.matchPoint) r
    let f : Int := (r.freq : Int) + w.profile.slipTarget
    let held : Nat × Nat := ((max 40000 (min 70000 f)).toNat, min r.voltage 65535)
    let berthRef (b : Berth) : Option BerthRef := if k.val = b.val ∧ (s.berth b).state = .syncing then
      (s.berthRef b).map fun x => { x with pair := some held } else s.berthRef b
    let moduleRef (m : Module) : ModuleRef := if k.val = 4 + m.val ∧ (s.modu m).state = .syncing then
      { s.rfg.modules[m] with own := some held } else s.rfg.modules[m]
    let becomes (x : ChanWork) : State := { s with
      rfg := { s.rfg with berths := Vector.ofFn berthRef, modules := Vector.ofFn moduleRef }
      syu := { s.syu with chans := upd s.syu.chans c fun _ => some { x with pair := some (f, r.voltage) } } }
    let taken := channelRecord w.req.refPoint c s
    let steady := e.vOk = true ∧ e.sOk = true
    (∀ p, p ≠ w.req.refPoint → channelRecord p c s = s) ∧
    (w.phase = .closing ∨ w.phase = .backoff ∨ ¬ fresh → taken = becomes w) ∧
    (w.phase = .adjusting → fresh → steady → s.pins.estop = false → taken = becomes { w with
      eval := some e
      settle := w.settle + 1
      phase := if w.settle + 1 = w.profile.settleCount then .watching else .adjusting }) ∧
    (w.phase = .adjusting → fresh → ¬ steady ∨ s.pins.estop = true →
      taken = becomes { w with eval := some e, settle := 0 }) ∧
    (w.phase = .watching → fresh → ¬ steady ∨ e.aOk = true ∧ s.pins.estop = true →
      taken = becomes { w with eval := some e, settle := 0, phase := .adjusting }) ∧
    (w.phase = .watching → fresh → steady → e.aOk = false → taken = becomes { w with eval := some e }) ∧
    (w.phase = .watching → fresh → steady → e.aOk = true → s.pins.estop = false → EgressWorks s →
      taken = { becomes { w with
          eval := some e
          phase := .closing
          watchDue := none
          commandTime := some s.now
          confirmDue := some (s.now + ((s.breaker k).tc + (s.breaker k).margin)) } with
        lpu := (command .close k s).lpu })

/-- R41, R43, R75, R82, R85, R86, R89, R100, R102: the timers of the Synchronising Unit, and what the requester of a
request or dead-bus close does when one of them ends it without a confirmed closure. Instants are device time (log 5).
-/
def Obligations.SyncTimers : Prop :=
  ∀ s : State, Quiet s →
    (∀ k, (∀ r ∈ s.syu.queue, r.target ≠ k) → exec (.syncWaitTimerExpiry k) s = .next s) ∧
    (∀ k, ∀ r ∈ s.syu.queue, r.target = k → SyncOnce s →
      ∃ t, exec (.syncWaitTimerExpiry k) s = .next t ∧ t.now = max s.now r.waitDue ∧ t.syu.busy k = false ∧
        (t.event (evSyncFail r.berth)).raw = true ∧ t.syu.profiles = s.syu.profiles ∧
        t.syu.breakers = s.syu.breakers ∧
        (ModulesListed s → (∀ e, RaisesAlone e s) → FailedAt k s t)) ∧
    (∀ c : Chan, (∀ w due, s.syu.chans[c] = some w → w.watchDue ≠ some due) →
      exec (.watchTimerExpiry c) s = .next s) ∧
    (∀ (c : Chan) w due, s.syu.chans[c] = some w → w.watchDue = some due → w.k + 1 ≠ w.profile.attemptLimit →
      exec (.watchTimerExpiry c) s = .next { s with
        now := max s.now due
        syu := { s.syu with chans := upd s.syu.chans c fun _ => some { w with
          phase := .backoff
          k := w.k + 1
          watchDue := none
          confirmDue := none
          backoffDue := some (max s.now due + w.profile.backoffBase * 2 ^ min w.k w.profile.backoffCap) } } }) ∧
    (∀ (c : Chan) w due, s.syu.chans[c] = some w → w.watchDue = some due → w.k + 1 = w.profile.attemptLimit →
      SyncOnce s →
      ∃ t, exec (.watchTimerExpiry c) s = .next t ∧ t.now = max s.now due ∧ t.syu.busy w.req.target = false ∧
        (t.event (evSyncFail w.req.berth)).raw = true ∧ t.syu.profiles = s.syu.profiles ∧
        t.syu.breakers = s.syu.breakers ∧
        (ModulesListed s → (∀ e, RaisesAlone e s) → FailedAt w.req.target s t)) ∧
    (∀ c : Chan, (∀ w due, s.syu.chans[c] = some w → w.confirmDue ≠ some due) →
      exec (.confirmTimerExpiry c) s = .next s) ∧
    (∀ (c : Chan) w due, s.syu.chans[c] = some w → w.confirmDue = some due → w.k + 1 ≠ w.profile.attemptLimit →
      EgressWorks s → RaisesAlone (evNoConfirm w.req.target) s →
      exec (.confirmTimerExpiry c) s = .next (raised (evNoConfirm w.req.target) { s with
        now := max s.now due
        lpu := (command .openCmd w.req.target s).lpu
        syu := { s.syu with chans := upd s.syu.chans c fun _ => some { w with
          phase := .backoff
          k := w.k + 1
          watchDue := none
          confirmDue := none
          backoffDue := some (max s.now due + w.profile.backoffBase * 2 ^ min w.k w.profile.backoffCap) } } })) ∧
    (∀ (c : Chan) w due, s.syu.chans[c] = some w → w.confirmDue = some due → w.k + 1 = w.profile.attemptLimit →
      SyncOnce s →
      ∃ t, exec (.confirmTimerExpiry c) s = .next t ∧ t.now = max s.now due ∧ t.syu.busy w.req.target = false ∧
        (t.event (evNoConfirm w.req.target)).raw = true ∧ (t.event (evSyncFail w.req.berth)).raw = true ∧
        t.syu.profiles = s.syu.profiles ∧ t.syu.breakers = s.syu.breakers ∧
        (ModulesListed s → (∀ e, RaisesAlone e s) → FailedAt w.req.target s t) ∧
        (EgressWorks s → s.own ≠ none → (∀ e, RaisesAlone e s) → CommandGiven ⟨(s.breaker w.req.target).node, .openCmd,
          w.req.target, (s.breaker w.req.target).margin + 100⟩ t)) ∧
    (∀ c : Chan, (∀ w due, s.syu.chans[c] = some w → w.backoffDue ≠ some due) →
      exec (.backoffTimerExpiry c) s = .next s) ∧
    (∀ (c : Chan) w due, s.syu.chans[c] = some w → w.backoffDue = some due →
      exec (.backoffTimerExpiry c) s = .next { s with
        now := max s.now due
        syu := { s.syu with chans := upd s.syu.chans c fun _ => some { w with
          phase := .adjusting
          settle := 0
          watchDue := some (max s.now due + w.profile.watchLimit * 1000)
          confirmDue := none
          backoffDue := none } } }) ∧
    (∀ k, (∀ d ∈ s.syu.deadBus, d.target ≠ k) → exec (.deadBusConfirmTimerExpiry k) s = .next s) ∧
    (∀ k, ∀ d ∈ s.syu.deadBus, d.target = k → SyncOnce s →
      ∃ t, exec (.deadBusConfirmTimerExpiry k) s = .next t ∧ t.now = max s.now d.confirmDue ∧
        t.syu.busy k = false ∧ (t.event (evNoConfirm k)).raw = true ∧ t.syu.profiles = s.syu.profiles ∧
        t.syu.breakers = s.syu.breakers ∧ (ModulesListed s → (∀ e, RaisesAlone e s) → NotConfirmed d s t) ∧
        (EgressWorks s → s.own ≠ none → (∀ e, RaisesAlone e s) →
          CommandGiven ⟨(s.breaker k).node, .openCmd, k, (s.breaker k).margin + 100⟩ t))

/-- R41, R42, R43, R45, R47, R72, R84, R85, R87, R89, R100, R101, R102, R112, R118: a breaker status frame: the
position recorded, a close confirmed, measured and learned, with what it brings a module and its berth (an outlet's is
in `SessionsBilled`), a close that fails by FAULT, with what its requester does, MOVING and OPEN while a close is
pending, an uncommanded closure, its OPEN command and the failed attempt of a channel in ADJUSTING or WATCHING, an
opening confirmed, an opening that nothing commanded, and the contactor of an ONLINE and of a STOPPING module reported
OPEN. "After the instant of the command" is strict in ms (log 7), and a stop that ends clears the start-issued flag
(log 36). -/
def Obligations.BreakerReports : Prop :=
  ∀ (src : Byte) (p : List Byte) (s : State) (k : Target) (x : Position), Quiet s → reaches s src.toNat = true →
    p.length = 4 → byteAt p 1 = k.val → positionOf? (byteAt p 0) = some x → (s.breaker k).node = src.toNat →
    (x ≠ .openPos → (∀ d ∈ s.syu.deadBus, d.target ≠ k) →
      (∀ (c : Chan) w, s.syu.chans[c] = some w → w.req.target = k → w.phase ≠ .closing) →
      (x ≠ .closed ∨ s.syu.closeHeld[k] = true ∨ (s.breaker k).lastPosition = some .closed) →
      exec (.bstaFrame src p) s = .next { s with
        syu := { s.syu with breakers := upd s.syu.breakers k fun e => { e with lastPosition := some x } } }) ∧
    (x = .moving → exec (.bstaFrame src p) s = .next { s with
      syu := { s.syu with breakers := upd s.syu.breakers k fun e => { e with lastPosition := some .moving } } }) ∧
    (x = .openPos →
      (∀ b, k = outlet b → (s.berth b).state ∉ [.rampUp, .shore, .awaitGenerators, .rampDown, .opening]) →
      (∀ m, k = contactor m → (s.modu m).state ∉ [.online, .stopping]) →
      exec (.bstaFrame src p) s = .next { s with syu := { s.syu with
        breakers := upd s.syu.breakers k fun e => { e with lastPosition := some .openPos }
        closeHeld := upd s.syu.closeHeld k fun _ => false } }) ∧
    (∀ (c : Chan) w, x = .fault → s.syu.chans[c] = some w → w.req.target = k → w.phase = .closing → SyncOnce s →
      (w.k + 1 ≠ w.profile.attemptLimit → EgressWorks s → RaisesAlone (evNoConfirm k) s →
        exec (.bstaFrame src p) s = .next (raised (evNoConfirm k) { s with
          lpu := (command .openCmd k s).lpu
          syu := { s.syu with
            breakers := upd s.syu.breakers k fun e => { e with lastPosition := some .fault }
            chans := upd s.syu.chans c fun _ => some { w with
              phase := .backoff
              k := w.k + 1
              watchDue := none
              confirmDue := none
              backoffDue := some (s.now + w.profile.backoffBase * 2 ^ min w.k w.profile.backoffCap) } } })) ∧
      (w.k + 1 = w.profile.attemptLimit →
        ∃ t, exec (.bstaFrame src p) s = .next t ∧ t.syu.busy k = false ∧ (t.event (evNoConfirm k)).raw = true ∧
          (t.event (evSyncFail w.req.berth)).raw = true ∧
          t.breaker k = { s.breaker k with lastPosition := some .fault } ∧
          (ModulesListed s → (∀ e, RaisesAlone e s) → FailedAt k s t) ∧
          (EgressWorks s → s.own ≠ none → (∀ e, RaisesAlone e s) →
            CommandGiven ⟨src.toNat, .openCmd, k, (s.breaker k).margin + 100⟩ t))) ∧
    (∀ d, x = .fault → d ∈ s.syu.deadBus → d.target = k → SyncOnce s →
      ∃ t, exec (.bstaFrame src p) s = .next t ∧ t.syu.busy k = false ∧ (t.event (evNoConfirm k)).raw = true ∧
        t.breaker k = { s.breaker k with lastPosition := some .fault } ∧
        (ModulesListed s → (∀ e, RaisesAlone e s) → NotConfirmed d s t) ∧
        (EgressWorks s → s.own ≠ none → (∀ e, RaisesAlone e s) →
          CommandGiven ⟨src.toNat, .openCmd, k, (s.breaker k).margin + 100⟩ t)) ∧
    (∃ t, exec (.bstaFrame src p) s = .next t ∧ (t.breaker k).lastPosition = some x ∧
      (∀ o, o ≠ k → t.breaker o = s.breaker o) ∧ (x = .openPos → t.syu.closeHeld[k] = false) ∧
      t.syu.profiles = s.syu.profiles ∧ t.now = s.now ∧ t.mlk = s.mlk ∧ t.mgu = s.mgu ∧ t.pins = s.pins) ∧
    (∀ (c : Chan) w due, x = .closed → s.syu.chans[c] = some w → w.req.target = k → w.phase = .closing →
      w.commandTime = some due → SyncOnce s →
      ∃ t, exec (.bstaFrame src p) s = .next t ∧ (t.breaker k).lastMeasured = some (s.now - due) ∧
        (t.breaker k).tc = (if (s.breaker k).learn then
          max 20 (min 300 ((3 * (s.breaker k).tc + (s.now - due) + 2) / 4)) else (s.breaker k).tc) ∧
        t.syu.closeHeld[k] = true ∧
        ∀ m b, k = contactor m → (s.modu m).state = .syncing → m ∈ s.list b → ModulesListed s →
          (∀ e, RaisesAlone e s) →
          ((s.berth b).energised = false ∨ (s.berth b).state ∉ [.allocating, .energising] →
            (t.modu m).state = .online ∧ (t.modu m).startDue = none) ∧
          ((s.berth b).state = .allocating → (s.berth b).summary.online = 0 → (s.berth b).energised = false →
            (t.berth b).state = .energising) ∧
          ((s.berth b).state = .energising → (s.berth b).energised = true → (s.berth b).summary.allOnline = false →
            (∀ y ∈ s.list b, y ≠ m → (s.modu y).state = .online) → LeftEnergising b s t)) ∧
    (∀ d, x = .closed → d ∈ s.syu.deadBus → d.target = k → SyncOnce s →
      ∃ t, exec (.bstaFrame src p) s = .next t ∧ (t.breaker k).lastMeasured = some (s.now - d.commandTime) ∧
        (t.breaker k).tc = (if (s.breaker k).learn then
          max 20 (min 300 ((3 * (s.breaker k).tc + (s.now - d.commandTime) + 2) / 4)) else (s.breaker k).tc) ∧
        t.syu.closeHeld[k] = true ∧ t.syu.deadPending k = false ∧
        ∀ m, k = contactor m → (s.modu m).state = .starting → (s.modu m).first = true → m ∈ s.list d.berth →
          ModulesListed s → (∀ e, RaisesAlone e s) → (s.berth d.berth).energised = false →
          (t.modu m).closedNoted = true ∧ (t.modu m).startIssued = true ∧
            ((s.modu m).runningSeen = false → (t.modu m).state = .starting ∧ (t.modu m).startDue = (s.modu m).startDue ∧
              (t.berth d.berth).state = (s.berth d.berth).state) ∧
            ((s.modu m).runningSeen = true → FirstOnline d.berth m s t)) ∧
    (x = .closed → s.syu.closeHeld[k] = false → (s.breaker k).lastPosition ≠ some .closed →
      (∀ d ∈ s.syu.deadBus, d.target ≠ k) →
      (∀ (c : Chan) w, s.syu.chans[c] = some w → w.req.target = k → w.phase ≠ .closing) →
      let closedNow : State := { s with
        lpu := (command .openCmd k s).lpu
        syu := { s.syu with breakers := upd s.syu.breakers k fun e => { e with lastPosition := some .closed } } }
      (∃ t, exec (.bstaFrame src p) s = .next t ∧ (t.event (evUncommanded k)).raw = true ∧
        t.syu.closeHeld[k] = false ∧ (EgressWorks s → (∀ e, RaisesAlone e s) →
          CommandGiven ⟨src.toNat, .openCmd, k, (s.breaker k).margin + 100⟩ t)) ∧
      ((∀ (c : Chan) w, s.syu.chans[c] = some w → w.req.target = k → w.phase = .backoff) → EgressWorks s →
        RaisesAlone (evUncommanded k) s →
        exec (.bstaFrame src p) s = .next (raised (evUncommanded k) closedNow)) ∧
      ∀ (c : Chan) w, s.syu.chans[c] = some w → w.req.target = k → w.phase = .adjusting ∨ w.phase = .watching →
        SyncOnce s →
        (w.k + 1 ≠ w.profile.attemptLimit → EgressWorks s → RaisesAlone (evUncommanded k) s →
          exec (.bstaFrame src p) s = .next (raised (evUncommanded k) { closedNow with
            syu := { closedNow.syu with chans := upd s.syu.chans c fun _ => some { w with
              phase := .backoff
              k := w.k + 1
              watchDue := none
              confirmDue := none
              backoffDue := some (s.now + w.profile.backoffBase * 2 ^ min w.k w.profile.backoffCap) } } })) ∧
        (w.k + 1 = w.profile.attemptLimit →
          ∃ t, exec (.bstaFrame src p) s = .next t ∧ t.syu.busy k = false ∧
            (t.event (evSyncFail w.req.berth)).raw = true ∧
            (ModulesListed s → (∀ e, RaisesAlone e s) → FailedAt k s t))) ∧
    (∀ b, k = outlet b → x = .openPos → (s.berth b).state.carrying = true →
      ∃ t, exec (.bstaFrame src p) s = .next t ∧ TrippedFrom b .externalOpen s t ∧
        (t.event (evBreakerExtOpen b)).raw = true) ∧
    (∀ b r, k = outlet b → x = .openPos → (s.berth b).state = .opening → (s.berth b).openNoted < s.now →
      s.slot b = .openSlot r →
      ∃ t, exec (.bstaFrame src p) s = .next t ∧
        ((t.berth b).state = .releasing ∨ (t.berth b).state = .dead ∨ (t.berth b).state = .tripped) ∧
        t.slot b = .free ∧ ∃ y ∈ t.blg.log, ClosedAs r y .normal s.clock) ∧
    ∀ m b, k = contactor m → x = .openPos → ModulesListed s → m ∈ s.list b →
      let o := s.modu m
      let noted (g : ModuleRec → ModuleRec) : State := { s with
        syu := { s.syu with
          breakers := upd s.syu.breakers k fun e => { e with lastPosition := some .openPos }
          closeHeld := upd s.syu.closeHeld k fun _ => false }
        mpm := { s.mpm with recs := upd s.mpm.recs m g } }
      (o.state = .online → ∃ t, exec (.bstaFrame src p) s = .next t ∧ (t.event (evModuleFault m)).raw = true ∧
        (t.modu m).state = .stopping ∧ (t.modu m).stopDue = some (s.now + s.mpm.table[m].stopLimit * 1000) ∧
        (t.modu m).offSeen = false ∧ (t.modu m).openSeen = false ∧ (t.modu m).openNoted = s.now ∧
        ((∀ e, RaisesAlone e s) → t.mpm.lists = s.mpm.lists ∧
          (EgressWorks s → s.own ≠ none →
            CommandGiven ⟨src.toNat, .openCmd, k, (s.breaker k).margin + 100⟩ t))) ∧
      (o.state = .stopping → s.now ≤ o.openNoted → exec (.bstaFrame src p) s = .next (noted id)) ∧
      (o.state = .stopping → o.openNoted < s.now → o.offSeen = false →
        exec (.bstaFrame src p) s = .next (noted fun r => { r with openSeen := true })) ∧
      (o.state = .stopping → o.openNoted < s.now → o.offSeen = true → (∀ e, RaisesAlone e s) →
        ∃ t, exec (.bstaFrame src p) s = .next t ∧
          (t.modu m).state = (if o.blockPending then .blocked else .standby) ∧
          (t.modu m).blockPending = false ∧ (t.modu m).startIssued = false ∧ (t.modu m).stopDue = none ∧
          (∀ c, m ∉ t.list c) ∧
          ((s.berth b).state = .releasing → s.list b = [m] → (t.berth b).state = .dead))

/-! ### Ship messages and the berth sequence -/

/-- R96, R97, R105, R108, R110: the five ship messages of berth `b`'s gateway, in the states in which they act and in
those in which they do not. The hold time that a HOLD or GEN_OFF accumulates is capped at the hold limit (log 30), and the
generators byte of a STATE is stored whole (log 40). -/
def Obligations.ShipMessages : Prop :=
  ∀ (src : Byte) (b : Berth) (s : State), Quiet s → reaches s src.toNat = true →
    gatewayBerth s src.toNat = some b →
    (∀ fl g load id, exec (.shipState src fl g load id) s = .next { s with
      bsq := { s.bsq with
        ships := upd s.bsq.ships b fun _ =>
          some ⟨fl.getLsbD 0, fl.getLsbD 1, g.toNat, load.toNat, if id = 0 then none else some id, s.now⟩ } }) ∧
    (∀ kw, exec (.shedAck src kw) s = .next { s with
      bsq := { s.bsq with recs := upd s.bsq.recs b fun r => { r with shedAck := kw.toNat } } }) ∧
    (∀ q, ((s.berth b).state ≠ .rampUp ∧ (s.berth b).state ≠ .rampDown) ∨ (s.berth b).holdMark = true →
      exec (.hold src q) s = .next s) ∧
    (∀ q : BitVec 16, (s.berth b).state = .rampUp ∨ (s.berth b).state = .rampDown → (s.berth b).holdMark = false →
      q = 0 → exec (.hold src q) s = .next { s with
        bsq := { s.bsq with recs := upd s.bsq.recs b (BerthRec.holdEnded s.now (heldTime s b)) } }) ∧
    (∀ q : BitVec 16, (s.berth b).state = .rampUp ∨ (s.berth b).state = .rampDown → (s.berth b).holdMark = false →
      q ≠ 0 → exec (.hold src q) s = .next { s with
        bsq := { s.bsq with recs := upd s.bsq.recs b fun r => { r with
          holdEnd := some (s.now + q.toNat * 100)
          holdFrom := s.now
          holdAcc := heldTime s b
          rampTimer :=
            match r.rampTimer with
            | .running due => .paused (due - s.now)
            | x => x } } }) ∧
    ((s.berth b).state ≠ .rampUp → exec (.genOff src) s = .next s) ∧
    ((s.berth b).state = .rampUp → EgressWorks s → exec (.genOff src) s = .next { s with
      bsq := { s.bsq with recs := upd s.bsq.recs b fun r => { r with
        state := .shore
        holdEnd := none
        holdFrom := s.now
        holdAcc := heldTime s b
        rampDue := none
        rampTimer := .stopped
        capacityCond := false } }
      lpu := (giveShpn (s.entry b).gateway (.berth b 7) s).lpu }) ∧
    ((s.berth b).state ≠ .awaitGenerators → exec (.genOn src) s = .next s) ∧
    (∀ start : BerthRef → Nat,
      (∀ r, (s.point (shPoint b)).state = .stale →
        start r = min r.pB (min (s.entry b).contract (s.berth b).summary.capacity)) →
      (∀ r, (s.point (shPoint b)).state ≠ .stale → (start r : Int) =
        max 0 (min ((min (s.entry b).contract (s.berth b).summary.capacity : Nat) : Int)
          (roundHalfAway (s.point (shPoint b)).pCal 1000))) →
      (s.berth b).state = .awaitGenerators → EgressWorks s → exec (.genOn src) s = .next { s with
      bsq := { s.bsq with recs := upd s.bsq.recs b fun r =>
        { BerthRec.rampBegun s.now ((s.entry b).rampTimeout * 1000) r with state := .rampDown, genDue := none } }
      rfg := { s.rfg with berths := upd s.rfg.berths b (Option.map fun r => { r with pSet := start r }) }
      lpu := (giveShpn (s.entry b).gateway (.berth b 9) s).lpu })

/-- R104, R105, R106, R111: a ramp period: P_set in RAMP_UP and in RAMP_DOWN, RAMP_DONE and its notice, the capacity
condition with its event and its LIMIT notice, and the opening of the outlet with its BCMD OPEN, its BERTH notice and its
timer. Instants are device time, and the next period follows 20 ms after the previous one's instant (log 5). -/
def Obligations.RampPeriods : Prop :=
  ∀ (b : Berth) (s : State), Quiet s →
    ((s.berth b).rampDue = none → exec (.rampPeriod b) s = .next s) ∧
    (∀ due r, (s.berth b).rampDue = some due → s.berthRef b = some r → (s.berth b).state = .rampUp →
      EgressWorks s → RaisesAlone (evCapacityLimit b) s →
      let k := targetKw s b
      let load := match s.bsq.ships[b] with | none => 0 | some x => x.load
      let held := (s.berth b).holdEnd.isSome || (s.berth b).eventHold
      let pSet := if held then min r.pSet k else min (r.pSet + (s.entry b).rampRate / 50) k
      let short := k < load ∧ pSet = k
      let moved : State := { s with now := max s.now due }
      let doneNoted : State := if pSet = load ∧ (s.berth b).rampDone = false then
        giveShpn (s.entry b).gateway (.rampDone b) moved else moved
      let limitNoted : State := if short ∧ ¬ ((s.berth b).capacityCond = true ∧ (s.berth b).lastLimit = k) then
        giveShpn (s.entry b).gateway (.limit b k) doneNoted else doneNoted
      exec (.rampPeriod b) s = .next { s with
        now := max s.now due
        lpu := limitNoted.lpu
        rfg := { s.rfg with berths := upd s.rfg.berths b fun _ => some { r with pSet := pSet } }
        bsq := { s.bsq with recs := upd s.bsq.recs b fun x => { x with
          rampDue := some (due + 20)
          rampDone := x.rampDone || decide (pSet = load)
          capacityCond := decide short
          lastLimit := if short then k else x.lastLimit } }
        evr := if short then (raised (evCapacityLimit b) s).evr else s.evr }) ∧
    (∀ due r, (s.berth b).rampDue = some due → s.berthRef b = some r → (s.berth b).state = .rampDown →
      EgressWorks s →
      let held := (s.berth b).holdEnd.isSome || (s.berth b).eventHold
      let pSet := min (if held then r.pSet else r.pSet - (s.entry b).rampRate / 50) (s.berth b).summary.capacity
      let low := (s.point (shPoint b)).state ≠ .stale ∧
        (roundHalfAway (s.point (shPoint b)).pCal 1000).natAbs ≤ (s.entry b).openThreshold
      (pSet ≠ 0 ∨ held = true ∨ ¬ low → exec (.rampPeriod b) s = .next { s with
        now := max s.now due
        rfg := { s.rfg with berths := upd s.rfg.berths b fun _ => some { r with pSet := pSet } }
        bsq := { s.bsq with recs := upd s.bsq.recs b fun x => { x with rampDue := some (due + 20) } } }) ∧
      (pSet = 0 → held = false → low → exec (.rampPeriod b) s = .next { s with
        now := max s.now due
        lpu := (giveShpn (s.entry b).gateway (.berth b 10)
          (command .openCmd (outlet b) { s with now := max s.now due })).lpu
        rfg := { s.rfg with berths := upd s.rfg.berths b fun _ => some { r with pSet := 0 } }
        bsq := { s.bsq with recs := upd s.bsq.recs b fun x => { x with
          state := .opening
          holdFrom := max s.now due
          rampDue := none
          rampTimer := .stopped
          capacityCond := false
          openDue := some (max s.now due + ((s.breaker (outlet b)).margin + 100))
          openNoted := max s.now due } } })) ∧
    (∀ due, (s.berth b).rampDue = some due → (s.berth b).state ≠ .rampUp → (s.berth b).state ≠ .rampDown →
      exec (.rampPeriod b) s = .next { s with
        now := max s.now due
        bsq := { s.bsq with recs := upd s.bsq.recs b fun x => { x with rampDue := some (due + 20) } } })

/-- R67, R105, R107, R109, R112: the other timers of a berth: overload, the ship hold's end, the hold limit, the ramp
timeout, the generator wait and the opening timer. Instants are device time (log 5). A ship hold that has ended at the
very instant at which the limit is reached leaves the limit to be taken (log 30). -/
def Obligations.BerthTimers : Prop :=
  ∀ (b : Berth) (s : State), Quiet s →
    ((∀ r due, s.berthRef b = some r → r.overloadDue ≠ some due) → exec (.overloadTimerExpiry b) s = .next s) ∧
    (∀ r due, s.berthRef b = some r → r.overloadDue = some due → RaisesAlone (evOverload b) s →
      exec (.overloadTimerExpiry b) s = .next (raised (evOverload b) { s with
        now := max s.now due
        rfg := { s.rfg with berths := upd s.rfg.berths b fun _ => some { r with overloadDue := none } } })) ∧
    ((s.berth b).holdEnd = none → exec (.shipHoldEnd b) s = .next s) ∧
    (¬ LimitPending b s → exec (.holdLimitReached b) s = .next s) ∧
    (∀ due, (s.berth b).holdEnd = some due →
      exec (.shipHoldEnd b) s = .next { s with
        now := max s.now due
        bsq := { s.bsq with recs := upd s.bsq.recs b (BerthRec.holdEnded (max s.now due)
          (min ((s.berth b).holdAcc + (max s.now due - (s.berth b).holdFrom)) ((s.entry b).holdLimit * 1000))) } }) ∧
    (LimitPending b s → (s.berth b).holdAcc ≤ (s.entry b).holdLimit * 1000 → RaisesAlone (evHoldLimit b) s →
      let now := max s.now ((s.berth b).holdFrom + ((s.entry b).holdLimit * 1000 - (s.berth b).holdAcc))
      exec (.holdLimitReached b) s = .next (raised (evHoldLimit b) { s with
        now := now
        bsq := { s.bsq with recs := upd s.bsq.recs b fun r =>
          { r.holdEnded now ((s.entry b).holdLimit * 1000) with holdMark := true } } })) ∧
    ((∀ due, (s.berth b).rampTimer ≠ .running due) → exec (.rampTimeoutExpiry b) s = .next s) ∧
    (∀ due, (s.berth b).rampTimer = .running due → RaisesAlone (evRampTimeout b) s →
      exec (.rampTimeoutExpiry b) s = .next (raised (evRampTimeout b) { s with
        now := max s.now due
        bsq := { s.bsq with recs := upd s.bsq.recs b fun r => { r with rampTimer := .stopped } } })) ∧
    ((s.berth b).genDue = none → exec (.generatorWaitExpiry b) s = .next s) ∧
    (∀ due, (s.berth b).genDue = some due → RaisesAlone (evRampTimeout b) s →
      exec (.generatorWaitExpiry b) s = .next (raised (evRampTimeout b) { s with
        now := max s.now due
        bsq := { s.bsq with recs := upd s.bsq.recs b fun r => { r with genDue := none } } })) ∧
    ((s.berth b).openDue = none → exec (.openingTimerExpiry b) s = .next s) ∧
    (∀ due, (s.berth b).openDue = some due → EgressWorks s → TripOutputs s → RaisesAlone (evBreakerNoConfirm b) s →
      exec (.openingTimerExpiry b) s = .next (raised (evBreakerNoConfirm b) { s with
        now := max s.now due
        lpu := (command .trip (outlet b) s).lpu
        bsq := { s.bsq with recs := upd s.bsq.recs b fun r => { r with
          demand := true
          fromOpening := true
          openDue := some (max s.now due + ((s.breaker (outlet b)).margin + 100))
          openNoted := max s.now due } }
        evr := { s.evr with outputs := upd s.evr.outputs b fun _ => true } })) ∧
    (∀ c e, (c = .rampTimeoutExpiry b ∧ (∃ due, (s.berth b).rampTimer = .running due) ∧ e = evRampTimeout b) ∨
        (c = .generatorWaitExpiry b ∧ (s.berth b).genDue ≠ none ∧ e = evRampTimeout b) ∨
        (c = .holdLimitReached b ∧ LimitPending b s ∧ e = evHoldLimit b) ∨
        (c = .openingTimerExpiry b ∧ (s.berth b).openDue ≠ none ∧ e = evBreakerNoConfirm b) ∨
        (c = .overloadTimerExpiry b ∧ (∃ r, s.berthRef b = some r ∧ r.overloadDue ≠ none) ∧ e = evOverload b) →
      ∃ t, exec c s = .next t ∧ (t.event e).raw = true)

/-! ### The Event Router -/

/-- R159, R160, R162, R163, R164, R165: the raise of an enabled entry whose raw status is clear: its notices, the event
hold, and the protective actions SHED, TRIP_BERTH, TRIP_ALL and BLOCK_MODULE; and what the LPU does with a notice. A shed
amount below 0 is sent as 0 (log 37). -/
def Obligations.EnabledRaises : Prop :=
  (∀ (dest : Nat) (e : EventIx) (count day second : Nat) (s : State),
    let f : ReplyFrame := .note dest e count day second
    let free := s.own ≠ none ∧ s.lpu.ordinary + s.lpu.reservations < 15
    f.parts = (dest, 11, be 1 e.val ++ be 1 count ++ be 2 day ++ be 4 second) ∧
    (¬ free → giveNote f s = { s with
      lpu := { s.lpu with counters := { s.lpu.counters with
        noteLost := min (s.lpu.counters.noteLost + 1) Config.u32Max } } }) ∧
    (free → EgressWorks s → giveNote f s = { s with lpu := s.lpu.replied f })) ∧
  ∀ (e : EventIx) (s : State), (s.event e).raw = false → (s.event e).enabled = true →
    let x := s.event e
    let gate (b : Berth) : List Nat := if (s.entry b).configured then [(s.entry b).gateway] else []
    let ships : List Nat :=
      if e.val < 56 then ((List.finRange 4).filter fun b => b.val = e.val / 14).flatMap gate
      else if e.val < 88 then
        match (List.finRange 4).find? fun b => (s.list b).any fun m => m.val = (e.val - 56) / 4 with
        | none => []
        | some b => gate b
      else (List.finRange 4).flatMap gate
    let dests := ((if x.notifyOperator then [s.mgu.opn.toNat] else []) ++
      (if x.notifyBilling then [s.mgu.bln.toNat] else []) ++ if x.notifyShip then ships else []).filter
        fun n => n ≠ 0 ∧ n ≠ 63 ∧ s.own ≠ some n
    let note (n : Nat) : ReplyFrame := .note n e 0 s.mtr.day s.mtr.second
    let noted : State := dests.foldl (fun u n => giveNote (note n) u) (raised e s)
    let holdOf (r : BerthRec) : BerthRec :=
      if r.eventHold then r
      else { r with
        eventHold := true
        rampTimer :=
          match r.rampTimer with
          | .running due => .paused (due - s.now)
          | t => t }
    (HoldsCurrent s →
      (x.action = .none → raiseEntry e s = noted) ∧
      (∀ b k, e = berthEvent b k → x.action = .hold → raiseEntry e s = { noted with
        evr := { noted.evr with holds := upd noted.evr.holds b fun _ => true }
        bsq := { noted.bsq with recs := upd noted.bsq.recs b holdOf } }) ∧
      (x.action = .holdAll → raiseEntry e s = { noted with
        evr := { noted.evr with holds := Vector.replicate 4 true }
        bsq := { noted.bsq with recs := noted.bsq.recs.map holdOf } }) ∧
      (∀ b k, e = berthEvent b k → x.action = .shed →
        let sum := (((s.list b).filter fun m => (s.modu m).state = .online).map fun m => (s.modu m).capacity.getD 0).sum
        let power := roundHalfAway (s.point (cbPoint b)).pCal 1000
        let amount : Nat :=
          match s.berthRef b with
          | none => 0
          | some r =>
            if r.overload = false then 0
            else if (s.point (cbPoint b)).state = .stale then r.lastShed
            else (max 0 (min 65535 (power - (sum : Int) + (s.rfg.inForce.shedMargin : Int)))).toNat
        let kept (r : BerthRef) : BerthRef := if amount = 0 then r else { r with lastShed := amount }
        let u : State := { noted with
          rfg := { noted.rfg with berths := upd noted.rfg.berths b (Option.map kept) } }
        raiseEntry e s = if (s.entry b).configured = true ∧ (s.entry b).gateway ≠ 0 ∧ (s.entry b).gateway ≠ 63 ∧
          s.own ≠ some (s.entry b).gateway then giveShpn (s.entry b).gateway (.shed b amount) u else u)) ∧
    ∀ (src : Byte) (tag : BitVec 16), Quiet s → EgressWorks s → Served s src → fromStation s src →
      let inUse (b : Berth) : Prop := (s.berth b).state ∉ [.unused, .dead, .tripped]
      ∃ t, exec (.eventSet src tag (BitVec.ofNat 8 e.val)) s = .next t ∧ ReplyGiven (reply src tag 6 .done []) t ∧
        (t.event e).raw = true ∧ (t.event e).clock = some s.clock ∧
        (s.lpu.ordinary + s.lpu.reservations + dests.length < 15 → ∀ n ∈ dests, ReplyGiven (note n) t) ∧
        (∀ b k, e = berthEvent b k → x.action = .tripBerth →
          (inUse b → TrippedFrom b .event s t) ∧ (¬ inUse b → (t.berth b).state = (s.berth b).state)) ∧
        (∀ b m k, e = moduleEvent m k → x.action = .tripBerth → s.berthOfModule m = some b → inUse b →
          TrippedFrom b .event s t) ∧
        (∀ b, x.action = .tripAll →
          (inUse b → TrippedFrom b .event s t) ∧ (¬ inUse b → (t.berth b).state = (s.berth b).state)) ∧
        ∀ m k, e = moduleEvent m k → x.action = .blockModule →
          ((s.modu m).state ∈ [.standby, .lost] → (t.modu m).state = .blocked) ∧
          ((s.modu m).state ∈ [.starting, .syncing, .online, .stopping] →
            (t.modu m).state = .stopping ∧ (t.modu m).blockPending = true) ∧
          ((s.modu m).state ∈ [.blocked, .absent] → t.modu m = s.modu m)

/-! ### The terminal clock -/

/-- R132, R134, R135: a tick moves the clock on by one second, wrapping at midnight, and an interval end at every berth
hands the demand to the open session and starts the next interval. That the end is a command of its own, taken after
its tick, is the model's choice (log 8), and so are the device time and the next tick's instant (log 5). -/
def Obligations.ClockAndInterval : Prop :=
  ∀ s : State, Quiet s →
    (∃ t, exec .clockTick s = .next t ∧ t = { s with now := max s.now s.mtr.tickDue, mtr := t.mtr, blg := t.blg } ∧
      t.mtr.second = (s.mtr.second + 1) % 86400 ∧
      t.mtr.day = (s.mtr.day + (s.mtr.second + 1) / 86400) % 65536 ∧
      t.mtr.tickDue = s.mtr.tickDue + 1000 ∧
      (t.mtr.endDue = true ↔ (s.mtr.second + 1) % 86400 % s.mtr.demandS = 0) ∧
      t.mtr.demandS = s.mtr.demandS ∧ t.mtr.gapLimit = s.mtr.gapLimit ∧ t.mtr.unbilled = s.mtr.unbilled ∧
      (s.mtr.endDue = false → t.blg = s.blg ∧ t.mtr.recs = s.mtr.recs)) ∧
    (s.mtr.endDue = false → exec .demandIntervalEnd s = .next s) ∧
    (s.mtr.endDue = true → ∃ t, exec .demandIntervalEnd s = .next t ∧ t = { s with mtr := t.mtr, blg := t.blg } ∧
      t.mtr.endDue = false ∧ t.mtr.day = s.mtr.day ∧ t.mtr.second = s.mtr.second ∧
      t.mtr.intervalStart = s.mtr.second / s.mtr.demandS * s.mtr.demandS ∧
      t.mtr.intervalEnd = (s.mtr.second / s.mtr.demandS * s.mtr.demandS + s.mtr.demandS) % 86400 ∧
      t.blg.sets = s.blg.sets ∧ t.blg.log = s.blg.log ∧ t.blg.counter = s.blg.counter ∧
      (∀ b r, s.slot b = .openSlot r →
        t.slot b = .openSlot { r with
          peak := max r.peak (min (s.mtr.recs[b].demandAcc * 3600 / s.mtr.demandS) Config.u32Max) } ∧
        t.mtr.recs[b] = { s.mtr.recs[b] with demandAcc := 0 }) ∧
      (∀ b, s.sessionOpen b = false → t.slot b = s.slot b ∧ t.mtr.recs[b] = s.mtr.recs[b]))

/-! ### Management requests: arrival, checks and replies -/

/-- R6, R171, R172, R178: a request is accepted, answered BUSY in the refusal place, or dropped; and the next part of a
reply. That a request command is the arrival of its bytes, and that one from a source that does not reach consumption
changes nothing, is what the rows stand for (log 2). -/
def Obligations.RequestArrivals : Prop :=
  (∀ (c : Instr) (src : Byte) (tag : BitVec 16) (kind : Nat) (params : List Byte) (s : State),
    c.request? = some (src, tag, kind, params) →
    exec c s = exec (.mreqArrival src (be 2 tag.toNat ++ be 1 kind ++ params)) s) ∧
  (∀ (src : Byte) (p : List Byte) (s : State), Quiet s →
    let q : MguReq := ⟨src.toNat, BitVec.ofNat 16 (fieldAt p 0 2), BitVec.ofNat 8 (byteAt p 2), p.drop 3⟩
    let busy : ReplyFrame := .mrep src.toNat q.tag q.kind .busy []
    let full := 8 ≤ s.mgu.queue.length ∨ 15 ≤ s.lpu.ordinary + s.lpu.reservations
    (reaches s src.toNat = false → exec (.mreqArrival src p) s = .next s) ∧
    (reaches s src.toNat = true → 3 ≤ p.length → s.mgu.queue ≠ [] → ¬ full →
      exec (.mreqArrival src p) s = .next { s with
        lpu := { s.lpu with reservations := s.lpu.reservations + 1 }
        mgu := { s.mgu with queue := s.mgu.queue ++ [q] } }) ∧
    (reaches s src.toNat = true → 3 ≤ p.length → full → (∃ x ∈ s.lpu.reply, x.refusal = true) →
      exec (.mreqArrival src p) s = .next { s with
        mgu := { s.mgu with dropped := min (s.mgu.dropped + 1) Config.u32Max } }) ∧
    (∀ f, reaches s src.toNat = true → 3 ≤ p.length → full → (∀ x ∈ s.lpu.reply, x.refusal = false) →
      s.lpu.sending = some f →
      exec (.mreqArrival src p) s = .next { s with
        lpu := { s.lpu with reply := s.lpu.reply ++ [⟨busy, true⟩] } }) ∧
    (reaches s src.toNat = true → 3 ≤ p.length → full → (∀ x ∈ s.lpu.reply, x.refusal = false) →
      EgressWorks s → s.lpu.sending = none →
      exec (.mreqArrival src p) s = .next { s with
        lpu := s.lpu.begun busy.parts.1 busy.parts.2.1 2 busy.parts.2.2 })) ∧
  ∀ s : State, Quiet s →
    (s.mgu.parts = [] ∨ s.mgu.queue = [] ∨ 15 ≤ s.lpu.ordinary + s.lpu.reservations →
      exec .nextReplyPart s = .next s) ∧
    (∀ q d, s.mgu.queue = [q] → s.mgu.parts = [d] → s.lpu.ordinary + s.lpu.reservations < 15 → EgressWorks s →
      exec .nextReplyPart s = .next { s with
        lpu := s.lpu.replied (.mrep q.source q.tag q.kind .done d)
        mgu := { s.mgu with queue := [], parts := [] } })

/-- R173, R174, R175, R180: the form check, which leaves the prepare flags as they are, the authority check and the
range check, each with its answer. -/
def Obligations.RequestChecks : Prop :=
  ∀ (src : Byte) (tag : BitVec 16) (s : State), Quiet s → EgressWorks s → Served s src →
    (∀ (kind : Nat) (params : List Byte), kind < 256 →
      (kind = 0 ∨ 20 < kind ∨
        (kind, params.length) ∉ [(3, 2), (4, 2), (5, 1), (6, 1), (7, 1), (8, 1), (9, 6), (10, 0), (11, 4), (12, 1),
          (13, 17), (14, 0), (15, 18), (15, 19), (15, 35), (16, 16), (17, 0), (18, 0), (19, 17), (20, 0)] ∧
          2 < kind ∨
        kind = 1 ∧ (params.length ≠ 3 ∨ byteAt params 0 = 0 ∨ 12 < byteAt params 0 ∨ byteAt params 2 = 0) ∨
        kind = 2 ∧ (params.length < 3 ∨ byteAt params 0 = 0 ∨ 12 < byteAt params 0 ∨ byteAt params 2 = 0) ∨
        kind = 2 ∧ (∃ t, tableOf? (byteAt params 0) = some t ∧
          takeEntries t.form (byteAt params 2) (params.drop 3) = none) ∨
        (kind = 13 ∨ kind = 15 ∨ kind = 19) ∧ byteAt params 0 ≠ 1 ∧ byteAt params 0 ≠ 2) →
      exec (.mreqArrival src (be 2 tag.toNat ++ be 1 kind ++ params)) s =
        .next { s with lpu := s.lpu.replied (reply src tag kind .malformed []) }) ∧
    (∀ (c : Instr) (kind : Nat) (params : List Byte), c.request? = some (src, tag, kind, params) →
      (kind ∈ [3, 4, 20] ∧ isOperator s src.toNat = false ∨ kind ∈ [9, 11] ∧ isBilling s src.toNat = false ∨
        kind ∈ [5, 6, 7, 8, 10, 12, 14, 15, 16, 17, 18] ∧ ¬ fromStation s src) →
      exec c s = .next (answered src tag kind .notAuthorised [] s)) ∧
    (∀ (table first count : Byte), 1 ≤ table.toNat → table.toNat ≤ 12 → count ≠ 0 →
      let size := [24, 17, 1, 8, 1, 12, 2, 4, 1, 4, 1, 100].getD (table.toNat - 1) 0
      (¬ fromStation s src →
        exec (.readTable src tag table first count) s = .next (answered src tag 1 .notAuthorised [] s)) ∧
      (fromStation s src → size < first.toNat + count.toNat →
        (s.mgu.capture ≠ none →
          exec (.readTable src tag table first count) s = .next (answered src tag 1 .outOfRange [] s)) ∧
        (s.mgu.capture = none → RaisesAlone evMgmtOutOfRange s →
          exec (.readTable src tag table first count) s = .next (answered src tag 1 .outOfRange []
            (raised evMgmtOutOfRange { s with mgu := { s.mgu with
              capture := some ⟨src.toNat, 1, table.toNat, first.toNat, count.toNat⟩ } })))) ∧
      (∀ (t : Table) (bytes : List Byte) (es : List (List Nat)), tableOf? table.toNat = some t →
        takeEntries t.form count.toNat bytes = some es →
        let payload := be 2 tag.toNat ++ be 1 2 ++ [table, first, count] ++ bytes
        let sender := if table.toNat ∈ [2, 9, 10, 11] then isBilling s src.toNat else isOperator s src.toNat
        (sender = false →
          exec (.mreqArrival src payload) s = .next (answered src tag 2 .notAuthorised [] s)) ∧
        (sender = true → size < first.toNat + count.toNat → s.mgu.capture ≠ none →
          exec (.mreqArrival src payload) s = .next (answered src tag 2 .outOfRange [] s)) ∧
        (sender = true → size < first.toNat + count.toNat → s.mgu.capture = none → RaisesAlone evMgmtOutOfRange s →
          exec (.mreqArrival src payload) s = .next (answered src tag 2 .outOfRange []
            (raised evMgmtOutOfRange { s with mgu := { s.mgu with
              capture := some ⟨src.toNat, 2, table.toNat, first.toNat, count.toNat⟩ } })))))

/-- R153, R178, R179: a READ_TABLE, a STATUS_READ of each of the nine views, and the oldest record of the log, answered
with the bytes of the state as it then stands, all parts in the same event where they find room (log 26); building the
CAPTURE view empties the capture record. What the bytes carry is in `ViewsOfPlant`, `ViewsOfBilling` and
`TableRoundTrip`. -/
def Obligations.ReadsAnswered : Prop :=
  ∀ (src : Byte) (tag : BitVec 16) (s : State), Quiet s → EgressWorks s → Served s src → fromStation s src →
    let read (c : Instr) (kind : Nat) (params : List Byte) (view : State → List Byte) (after : State) : Prop :=
      let body := view (setPrepared src.toNat false (accepted ⟨src.toNat, tag, BitVec.ofNat 8 kind, params⟩ s))
      s.lpu.ordinary + s.lpu.reservations + (partsOf body).length ≤ 15 →
        exec c s = .next (answeredWith src tag kind body after)
    (∀ (t : Table) (table first count : Byte), tableOf? table.toNat = some t → count ≠ 0 →
      first.toNat + count.toNat ≤ t.size →
      read (.readTable src tag table first count) 1 [table, first, count]
        (fun x => encTable x t first.toNat count.toNat) s) ∧
    read (.statusReadPoints src tag) 12 [1] viewPoints s ∧
    read (.statusReadModules src tag) 12 [2] viewModules s ∧
    read (.statusReadBerths src tag) 12 [3] viewBerths s ∧
    read (.statusReadSync src tag) 12 [4] viewSync s ∧
    read (.statusReadSessions src tag) 12 [5] viewSessions s ∧
    read (.statusReadUnbilled src tag) 12 [6] viewUnbilled s ∧
    read (.statusReadLock src tag) 12 [7] viewLock s ∧
    read (.statusReadLink src tag) 12 [8] viewLink s ∧
    read (.statusReadCapture src tag) 12 [9] viewCapture { s with mgu := { s.mgu with capture := none } } ∧
    (s.blg.log = [] → exec (.logReadOldest src tag) s = .next (answered src tag 10 .logEmpty [] s)) ∧
    ∀ r rest, s.blg.log = r :: rest →
      exec (.logReadOldest src tag) s = .next (answeredWith src tag 10 (encSession r) s)

/-- R31, R54, R69, R93, R123: what the views POINTS, MODULES, BERTHS and SYNC carry, field by field with each field's
width. The layout of an optional group, the number of a trip reason and that of a SETP mode are the model's (log 29), and
so are the all-ONLINE flag of an empty list, which BSQ's summary holds (log 18), the cap of the ship hold time at the hold
limit (log 30) and the generators byte, kept whole (log 40). -/
def Obligations.ViewsOfPlant : Prop :=
  ∀ s : State,
    let age (since : Nat) : Nat := min (s.now - since) 65535
    let left : Option Nat → Option Nat := Option.map fun due => due - s.now
    let pairFields (p : Nat × Nat) := [(4, p.1), (2, p.2)]
    let modeOf : SetpMode → Nat
      | .start => 1
      | .form => 2
      | .follow => 3
      | .stop => 4
    let pointFields (p : Point) :=
      let r := s.point p
      let index := (List.finRange 24).find? fun i => s.scl.streams[i].valid && s.scl.streams[i].point = p.val
      [(1, p.val), (1, match r.state with | .fresh => 0 | .held => 1 | .stale => 2), flagField r.neverReceived] ++
        optField 1 (index.map fun i => i.val) ++ optField 2 r.lastSeq ++
        [(4, r.timestamp), (2, r.voltage), (2, r.angle), (4, r.freq), signedField 8 r.pCal, signedField 8 r.qCal,
          (2, if r.neverReceived then 65535 else age r.arrival), (2, r.missed), (2, r.discarded), flagField r.vOut,
          flagField r.fOut]
    let moduleFields (m : Module) :=
      let r := s.modu m
      let berth := (List.finRange 4).find? fun b => (s.list b).contains m
      [(1, m.val), (1, match r.state with
          | .absent => 0 | .standby => 1 | .starting => 2 | .syncing => 3 | .online => 4 | .stopping => 5
          | .lost => 6 | .blocked => 7)] ++
        optField 1 (berth.map fun b => b.val) ++
        [flagField r.first, flagField r.startIssued, flagField r.deferred, flagField r.blockPending, (1, r.missCount),
          flagField r.answered] ++
        optField 1 (r.reported.map fun x => match x with | .off => 0 | .running => 1 | .fault => 2) ++
        optField 2 r.capacity ++ [flagField r.derateFlag, flagField r.derateCond] ++
        optField 2 (left (match r.startDue with | some due => some due | none => r.stopDue)) ++
        [flagField r.offSeen, flagField r.openSeen]
    let berthFields (b : Berth) :=
      let r := s.berth b
      [(1, b.val), (1, match r.state with
          | .unused => 0 | .dead => 1 | .allocating => 2 | .energising => 3 | .syncing => 4 | .deadClose => 5
          | .rampUp => 6 | .shore => 7 | .awaitGenerators => 8 | .rampDown => 9 | .opening => 10 | .releasing => 11
          | .tripped => 12), flagField s.pins.pilot[b], flagField r.demand, flagField r.fromOpening,
          flagField s.evr.outputs[b]] ++
        optField 1 (r.reason.map fun x => match x with
          | .operator => 0 | .event => 1 | .pilot => 2 | .estop => 3 | .externalOpen => 4 | .noSource => 5) ++
        [flagField r.deadShip, flagField r.energised] ++
        optFields [1, 1, 1, 2, 8, 2] (fun x : ShipRec =>
          [flagField x.ready, flagField x.deadBus, (1, x.generators), (2, x.load),
            (8, match x.ident with | none => 0 | some v => v.toNat), (2, age x.received)]) s.bsq.ships[b] ++
        [(2, r.shedAck)] ++ optField 4 (left r.holdEnd) ++
        [flagField r.eventHold, (4, if r.holdEnd = none then r.holdAcc else
          min (r.holdAcc + (s.now - r.holdFrom)) ((s.entry b).holdLimit * 1000)), flagField r.holdMark] ++
        optField 4 (match r.rampTimer with
          | .stopped => none | .running due => some (due - s.now) | .paused k => some k) ++
        optField 4 (left r.genDue) ++ optField 2 (left r.openDue) ++
        [flagField r.capacityCond, flagField r.rampDone, (2, r.lastLimit), (1, r.summary.listed), (1, r.summary.online),
          flagField r.summary.allOnline, (2, r.summary.capacity)] ++
        optFields [1, 4, 2, 1, 1, 1, 4, 2, 2, 2, 1, 1, 2, 2] (fun x : BerthRef =>
          [flagField x.follow, (4, x.fRef), (2, x.vRef),
            (1, match x.progress with | .waiting => 0 | .rising => 1 | .complete => 2), flagField x.pair.isSome] ++
            optFields [4, 2] pairFields x.pair ++ [(2, x.pSet), (2, x.pB), flagField x.overload] ++
            optField 2 (left x.overloadDue) ++ [(2, x.lastShed)]) (s.berthRef b) ++
        listFields (fun m : Module =>
          let x := s.rfg.modules[m]
          [(1, m.val), flagField x.startSent] ++ optFields [4, 2] pairFields x.own ++
            optFields [4, 2, 1] (fun y : Nat × Nat × SetpMode => [(4, y.1), (2, y.2.1), (1, modeOf y.2.2)]) x.lastSent ++
            optFields [1, 4, 2, 2, 2] (fun y : BuiltSetp =>
              [(1, modeOf y.mode), (4, y.f), (2, y.v), (2, y.pRef), (2, y.pLimit)]) x.built) (s.list b)
    let requester : Requester → Nat
      | .bsq => 0
      | .mpm => 1
    let queuedFields (r : SyncReq) :=
      [(1, r.target.val), (1, r.berth.val), (1, requester r.requester), (1, if r.target.val < 4 then 0 else 1),
        (1, r.refPoint.val), (1, r.matchPoint.val), (4, r.waitDue - s.now)]
    let signedOpt (k : Nat) : Option Int → List (Nat × Nat) := optFields [k] fun i => [signedField k i]
    let chanFields : Option ChanWork → List (Nat × Nat)
      | none => [(1, 0)] ++ optField 1 none ++ [(1, 0), (1, 0), (1, 0), (1, 0), (1, 0)] ++ optField 4 none ++
          optField 2 none ++ optField 2 none ++ optField 2 none ++ [(1, 0), (8, 0), (2, 0)] ++ signedOpt 2 none ++
          signedOpt 8 none ++ signedOpt 2 none ++ signedOpt 2 none ++ [(1, 0), (1, 0), (1, 0)]
      | some w =>
        let e := w.eval.getD ⟨none, none, none, none, false, false, false⟩
        [(1, match w.phase with | .adjusting => 1 | .watching => 2 | .closing => 3 | .backoff => 4)] ++
          optField 1 (some w.req.target.val) ++
          [(1, 1), (1, w.req.berth.val), (1, requester w.req.requester), (1, w.k), (1, w.settle)] ++
          optField 4 (left w.watchDue) ++ optField 2 (left w.confirmDue) ++ optField 2 (left w.backoffDue) ++
          optField 2 (if w.phase = .closing then w.commandTime.map fun t => s.now - t else none) ++
          optFields [8, 2] (fun p : Int × Nat => [signedField 8 p.1, (2, p.2)]) w.pair ++
          signedOpt 2 e.phi ++ signedOpt 8 e.slip ++ signedOpt 2 e.delta ++ signedOpt 2 e.phiP ++
          [flagField e.vOk, flagField e.sOk, flagField e.aOk]
    Carries (((List.finRange 17).map pointFields).flatten ++ [(4, s.scl.unmatched)]) (viewPoints s) ∧
    Carries (((List.finRange 8).map moduleFields).flatten ++
      ((List.finRange 4).map fun b => listFields (fun m : Module => [(1, m.val)]) (s.list b)).flatten ++
      [(1, s.mpm.pollCounter), (4, s.mpm.ignored)]) (viewModules s) ∧
    Carries (((List.finRange 4).map berthFields).flatten ++ [(2, s.rfg.periodCounter), flagField s.pins.estop])
      (viewBerths s) ∧
    Carries ([flagField s.pins.estop] ++ listFields queuedFields s.syu.queue ++ chanFields s.syu.chans[0] ++
      chanFields s.syu.chans[1] ++
      listFields (fun d : DeadClose => [(1, d.target.val), (1, d.berth.val), (1, requester d.requester),
        (2, d.confirmDue - s.now)]) s.syu.deadBus ++
      (List.finRange 12).map fun k => flagField s.syu.closeHeld[k]) (viewSync s)

/-- R16, R139, R147, R156, R179, R190: what a session record and the views SESSIONS, UNBILLED, LOCK, LINK and CAPTURE
carry, field by field with each field's width. That energies past 2^64 are carried modulo 2^64 is the model's (log 20),
and so is the layout of an optional group (log 29). -/
def Obligations.ViewsOfBilling : Prop :=
  let clockFields := optFields [2, 4] fun c : Nat × Nat => [(2, c.1), (4, c.2)]
  let sessionFields (r : Session) : List (Nat × Nat) :=
    optField 4 r.number ++ [(1, r.berth.val), (8, match r.ident with | none => 0 | some v => v.toNat), (1, r.set.val),
      (2, r.startClock.1), (4, r.startClock.2)] ++ clockFields r.endClock ++
      optField 1 (r.reason.map fun x => match x with
        | .normal => 0 | .tripOperator => 1 | .tripEvent => 2 | .pilot => 3 | .estop => 4 | .externalOpen => 5
        | .noSource => 6 | .supply => 7) ++
      [(8, r.bands[0]), (8, r.bands[1]), (8, r.bands[2]), (8, r.bands[3]), (8, r.importWh), (8, r.returnedWh),
        (4, r.peak), (4, r.unmeteredMs)] ++
      optField 8 r.energyCharge ++ optField 8 r.demandCharge ++ optField 8 r.totalCharge
  (∀ r : Session, Carries (sessionFields r) (encSession r)) ∧
  ∀ s : State,
    let l := s.lpu
    let n := s.lpu.counters
    let slotFields (b : Berth) : List (Nat × Nat) :=
      match s.slot b with
      | .free => [(1, b.val), (1, 0), (1, 0), (113, 0)]
      | .reserved => [(1, b.val), (1, 1), (1, 0), (113, 0)]
      | .openSlot r => [(1, b.val), (1, 2), (1, 1)] ++ sessionFields r
    let meterFields (b : Berth) :=
      let m := s.mtr.recs[b]
      let u := s.mtr.unbilled[b]
      [(1, b.val), (8, u.importWh), (8, u.returnedWh), (8, u.unmeteredMs)] ++ optField 4 m.baseline ++
        optField 2 (m.lastArrival.map fun a => min (s.now - a) 65535) ++
        [(4, m.importResidue), (4, m.returnedResidue), (2, m.unmeteredRem), flagField (s.sessionOpen b),
          (8, m.demandAcc), (2, m.gapCount), (2, m.backwardCount), (2, m.restartCount)]
    Carries (((List.finRange 4).map slotFields).flatten ++
      [(1, match s.blg.current with | none => 4 | some i => i.val)] ++
      ((List.finRange 4).map fun i => (1, s.blg.sets[i].bound)) ++ [(1, s.blg.log.length)] ++
      optField 4 (s.blg.log.head?.bind fun r => r.number) ++ optField 4 (s.blg.log.getLast?.bind fun r => r.number) ++
      [(8, s.blg.counter), flagField s.blg.logFull]) (viewSessions s) ∧
    Carries (((List.finRange 4).map meterFields).flatten ++ [(2, s.mtr.day), (4, s.mtr.second), (2, s.mtr.demandS),
      (4, s.mtr.intervalStart), (4, s.mtr.intervalEnd)]) (viewUnbilled s) ∧
    Carries [(1, match s.mlk.lock with | .unprotected => 0 | .locked => 1 | .unlocked => 2), flagField s.mlk.strict,
      flagField s.mlk.operatorCode.isSome, flagField s.mlk.metrologyCode.isSome, (2, s.mlk.revision),
      flagField s.mlk.frozen, (1, s.mlk.attempts), flagField s.mlk.exhausted] (viewLock s) ∧
    Carries [flagField (s.own = none), flagField l.lossIndicator, (1, l.forward.length), (1, l.protect.length),
      (1, l.commandList.length), (1, l.control.length), (1, (l.reply.filter fun p => !p.refusal).length),
      (1, l.reservations), flagField (l.reply.any fun p => p.refusal), (4, n.good), (4, n.rejected), (4, n.overlong),
      (4, n.stripped), (4, n.sourceIgnored), (4, n.formDiscards), (4, n.forwardDrops), (4, n.promoted),
      (4, n.pollSkipped), (4, n.shpnLost), (4, n.noteLost), (4, n.sent)] (viewLink s) ∧
    Carries (optFields [1, 1, 1, 1, 1] (fun c : Capture =>
        [(1, c.source), (1, c.kind), (1, c.table), (1, c.first), (1, c.count)]) s.mgu.capture ++
      [(1, s.mgu.queue.length), flagField s.mgu.prepOperator, flagField s.mgu.prepBilling, (4, s.mgu.dropped)])
      (viewCapture s)

/-! ### Management requests: table writes -/

/-- R24, R28, R56, R73, R177: a write of the calibration gains (protected), the grid settings, the reference settings
or the sync profiles: taken whole with every value in its range, refused whole otherwise. -/
def Obligations.SettingsWritten : Prop :=
  ∀ (src : Byte) (tag : BitVec 16) (s : State), Quiet s → EgressWorks s → Served s src →
    (isBilling s src.toNat = true → LockOpen s →
      ∀ (first : Byte) (gs : List Nat), gs ≠ [] → first.toNat + gs.length ≤ 17 → (∀ g ∈ gs, g < 4294967296) →
        exec (.writeCalibrationGains src tag first (BitVec.ofNat 8 gs.length) (gs.map (be 4)).flatten) s = .next
          (if ∀ g ∈ gs, 49152 ≤ g ∧ g ≤ 81920 then
            answered src tag 2 .done [] { s with scl := { s.scl with gains := written s.scl.gains first.toNat gs } }
          else answered src tag 2 .badValue [] s)) ∧
    (isOperator s src.toNat = true →
      (∀ g : GridSettings, g.nominalF < 65536 → g.nominalV < 65536 → g.vBand < 256 → g.fBand < 65536 →
        exec (.writeGridSettings src tag 0 1 (encGrid g)) s = .next
          (if (g.nominalF = 50000 ∨ g.nominalF = 60000) ∧ 400 ≤ g.nominalV ∧ g.nominalV ≤ 60000 ∧ 10 ≤ g.vBand ∧
              g.vBand ≤ 200 ∧ 50 ≤ g.fBand ∧ g.fBand ≤ 3000 then
            answered src tag 2 .done [] { s with scl := { s.scl with grid := g } }
          else answered src tag 2 .badValue [] s)) ∧
      (∀ r : RefSettings, r.fLimit < 256 → r.vLimit < 256 → r.softFraction < 256 → r.softIncrement < 256 →
        r.shedMargin < 65536 →
        exec (.writeReferenceSettings src tag 0 1 (encRefSettings r)) s = .next
          (if 1 ≤ r.fLimit ∧ r.fLimit ≤ 200 ∧ 1 ≤ r.vLimit ∧ r.vLimit ≤ 200 ∧ 10 ≤ r.softFraction ∧
              r.softFraction ≤ 50 ∧ 1 ≤ r.softIncrement ∧ r.softIncrement ≤ 10 ∧ r.shedMargin ≤ 2000 then
            answered src tag 2 .done [] { s with rfg := { s.rfg with settings := r } }
          else answered src tag 2 .badValue [] s)) ∧
      ∀ (first : Byte) (ps : List Profile), ps ≠ [] → first.toNat + ps.length ≤ 2 →
        (∀ p ∈ ps, p.vWindow < 65536 ∧ -32768 ≤ p.slipLow ∧ p.slipLow < 32768 ∧ -32768 ≤ p.slipHigh ∧
          p.slipHigh < 32768 ∧ -32768 ≤ p.slipTarget ∧ p.slipTarget < 32768 ∧ p.angleWindow < 65536 ∧
          p.settleCount < 256 ∧ p.watchLimit < 256 ∧ p.attemptLimit < 256 ∧ p.backoffBase < 65536 ∧
          p.backoffCap < 256 ∧ p.waitLimit < 65536 ∧ p.deadThreshold < 256) →
        exec (.writeSyncProfiles src tag first (BitVec.ofNat 8 ps.length) (ps.map encProfile).flatten) s = .next
          (if ∀ p ∈ ps, (10 ≤ p.vWindow ∧ p.vWindow ≤ 1000 ∧ -500 ≤ p.slipLow ∧ p.slipHigh ≤ 500 ∧
              p.slipLow < p.slipHigh ∧ p.slipLow ≤ p.slipTarget ∧ p.slipTarget ≤ p.slipHigh ∧ 91 ≤ p.angleWindow ∧
              p.angleWindow ≤ 1820) ∧ 1 ≤ p.settleCount ∧ p.settleCount ≤ 20 ∧ 5 ≤ p.watchLimit ∧
              p.watchLimit ≤ 120 ∧ 1 ≤ p.attemptLimit ∧ p.attemptLimit ≤ 5 ∧ 100 ≤ p.backoffBase ∧
              p.backoffBase ≤ 5000 ∧ p.backoffCap ≤ 4 ∧ 10 ≤ p.waitLimit ∧ p.waitLimit ≤ 600 ∧
              5 ≤ p.deadThreshold ∧ p.deadThreshold ≤ 20 then
            answered src tag 2 .done [] { s with
              syu := { s.syu with profiles := written s.syu.profiles first.toNat ps } }
          else answered src tag 2 .badValue [] s))

/-- R137, R138, R141, R143, R177: a protected write of the metering settings, of tariff sets or of the current-set
index. A changed demand interval ends the running interval at every berth. -/
def Obligations.TariffsWritten : Prop :=
  ∀ (src : Byte) (tag : BitVec 16) (s : State), Quiet s → EgressWorks s → Served s src →
    isBilling s src.toNat = true → LockOpen s →
    (∀ gap code : Nat, gap < 4294967296 → code < 256 →
      let d := [300, 600, 900, 1800, 3600].getD code 0
      let write : Instr := .writeMeteringSettings src tag 0 1 (be 4 gap ++ be 1 code)
      (¬ (20000 ≤ gap ∧ gap ≤ 1000000 ∧ code ≤ 4) → exec write s = .next (answered src tag 2 .badValue [] s)) ∧
      (20000 ≤ gap → gap ≤ 1000000 → code ≤ 4 → d = s.mtr.demandS →
        exec write s = .next (answered src tag 2 .done [] { s with mtr := { s.mtr with gapLimit := gap } })) ∧
      (20000 ≤ gap → gap ≤ 1000000 → code ≤ 4 → d ≠ s.mtr.demandS → ∃ u : State,
        exec write s = .next (answered src tag 2 .done [] u) ∧ u = { s with mtr := u.mtr, blg := u.blg } ∧
        u.mtr.gapLimit = gap ∧ u.mtr.demandS = d ∧ u.mtr.day = s.mtr.day ∧ u.mtr.second = s.mtr.second ∧
        u.mtr.intervalStart = s.mtr.second / d * d ∧ u.mtr.intervalEnd = (s.mtr.second / d * d + d) % 86400 ∧
        u.blg.log = s.blg.log ∧ u.blg.sets = s.blg.sets ∧
        (∀ b r, s.slot b = .openSlot r →
          u.slot b = .openSlot { r with
            peak := max r.peak (min (s.mtr.recs[b].demandAcc * 3600 / s.mtr.demandS) Config.u32Max) } ∧
          u.mtr.recs[b] = { s.mtr.recs[b] with demandAcc := 0 }) ∧
        ∀ b, s.sessionOpen b = false → u.slot b = s.slot b ∧ u.mtr.recs[b] = s.mtr.recs[b])) ∧
    (∀ (first : Byte) (ts : List (TariffSet × Nat)), ts ≠ [] → first.toNat + ts.length ≤ 4 →
      (∀ x ∈ ts, x.1.schedule.length < 256 ∧ (∀ e ∈ x.1.schedule, e.1 < 4294967296 ∧ e.2 < 256) ∧
        (∀ i : Fin 4, x.1.rates[i] < 4294967296) ∧ x.1.demandRate < 4294967296 ∧ x.2 < 256) →
      let write : Instr := .writeTariffSets src tag first (BitVec.ofNat 8 ts.length)
        (ts.map fun x => encTariff x.1 x.2).flatten
      let v : Vector TariffSet 4 := Vector.ofFn fun i =>
        if first.toNat ≤ i.val then
          match ts[i.val - first.toNat]? with
          | none => s.blg.sets[i]
          | some x =>
            if x.1.loaded then { x.1 with bound := s.blg.sets[i].bound }
            else ⟨false, [], Vector.replicate 4 0, 0, s.blg.sets[i].bound⟩
        else s.blg.sets[i]
      let fit : Prop :=
        (∀ x ∈ ts, x.1.loaded = true → 1 ≤ x.1.schedule.length ∧ x.1.schedule.length ≤ 8 ∧
          (x.1.schedule.map Prod.fst).head? = some 0 ∧ (x.1.schedule.map Prod.fst).Pairwise (· < ·) ∧
          (∀ e ∈ x.1.schedule, e.1 ≤ 86399 ∧ e.2 ≤ 3) ∧ (∀ i : Fin 4, x.1.rates[i] ≤ 10000000) ∧
          x.1.demandRate ≤ 100000000) ∧ ∀ i : Fin 4, s.blg.current = some i → v[i].loaded = true
      ((∃ i : Fin 4, addressedBy first.toNat ts.length i ∧ 0 < s.blg.sets[i].bound) →
        exec write s = .next (answered src tag 2 .inUse [] s)) ∧
      ((∀ i : Fin 4, addressedBy first.toNat ts.length i → s.blg.sets[i].bound = 0) →
        (fit → exec write s = .next (answered src tag 2 .done [] { s with blg := { s.blg with sets := v } })) ∧
        (¬ fit → exec write s = .next (answered src tag 2 .badValue [] s)))) ∧
    (∀ i : Fin 4, exec (.writeCurrentSetIndex src tag 0 1 [BitVec.ofNat 8 i.val]) s = .next
      (if s.blg.sets[i].loaded then answered src tag 2 .done [] { s with blg := { s.blg with current := some i } }
      else answered src tag 2 .badValue [] s)) ∧
    ((∃ b, s.slot b = .reserved) →
      exec (.writeCurrentSetIndex src tag 0 1 [4]) s = .next (answered src tag 2 .inUse [] s)) ∧
    ((∀ b, s.slot b ≠ .reserved) → exec (.writeCurrentSetIndex src tag 0 1 [4]) s =
      .next (answered src tag 2 .done [] { s with blg := { s.blg with current := none } })) ∧
    ∀ c : Byte, 4 < c.toNat →
      exec (.writeCurrentSetIndex src tag 0 1 [c]) s = .next (answered src tag 2 .badValue [] s)

/-- R18, R19, R29, R33, R37, R64, R71, R177: the operator node's write of streams, modules or breakers, with the staleness
conditions that a stream write begins at watched berths, and what RFG clears of a module newly installed. Entries not
valid or not installed are stored as given (log 25); a module no longer installed keeps its poll record (log 24), and a
cleared one has its derate flag clear (log 35). -/
def Obligations.PlantWritten : Prop :=
  ∀ (src : Byte) (tag : BitVec 16) (first : Byte) (s : State), Quiet s → EgressWorks s → Served s src →
    isOperator s src.toNat = true →
    (∀ es : List StreamEntry, es ≠ [] → first.toNat + es.length ≤ 24 →
      (∀ e ∈ es, e.node < 256 ∧ e.channel < 256 ∧ e.point < 256 ∧ e.interval < 65536 ∧ e.staleLimit < 4294967296) →
      let watched (b : Berth) : Bool := decide
        ((s.berth b).state ∈ [.syncing, .deadClose, .rampUp, .shore, .awaitGenerators, .rampDown, .opening])
      (∀ b, watched b = true → RaisesAlone (evShipBusStale b) s ∧ RaisesAlone (evCbStale b) s) →
      let v := written s.scl.streams first.toNat es
      let begins (old : Option Nat) (b : Berth) := if watched b then some (s.now + 100) else old
      let told (i : EventIx) : EventEntry :=
        if (List.finRange 4).any (fun b => watched b && (i = evShipBusStale b || i = evCbStale b)) then
          EventEntry.raised s.clock s.evr.entries[i]
        else s.evr.entries[i]
      let valid := v.toList.filter fun e => e.valid
      let seen := fun w : ChanWork => if w.phase = .adjusting ∨ w.phase = .watching then
        { w with phase := .adjusting, settle := 0 } else w
      exec (.writeStreamTable src tag first (BitVec.ofNat 8 es.length) (es.map encStream).flatten) s = .next
        (if (∀ e ∈ es, e.valid = true → 1 ≤ e.node ∧ e.node ≤ 62 ∧ s.own ≠ some e.node ∧ e.channel ≤ 7 ∧
            e.point ≤ 16 ∧ 5000 ≤ e.interval ∧ e.interval ≤ 50000 ∧ 2 * e.interval ≤ e.staleLimit ∧
            e.staleLimit ≤ 1000000) ∧ (valid.map fun e => (e.node, e.channel)).Nodup ∧
            (valid.map fun e => e.point).Nodup then
          answered src tag 2 .done [] { s with
            scl := { s.scl with
              streams := v
              points := Vector.ofFn fun p => PointRec.cold (pointLimits v p)
              shipStale := Vector.ofFn fun b => begins s.scl.shipStale[b] b
              convStale := Vector.ofFn fun b => begins s.scl.convStale[b] b }
            syu := { s.syu with chans := s.syu.chans.map (Option.map seen) }
            evr := { s.evr with entries := Vector.ofFn told } }
        else answered src tag 2 .badValue [] s)) ∧
    (∀ es : List (ModuleEntry × Byte), es ≠ [] → first.toNat + es.length ≤ 8 →
      (∀ e ∈ es, e.1.rating < 65536 ∧ e.1.node < 256 ∧ e.1.startLimit < 256 ∧ e.1.stopLimit < 256) →
      let write : Instr := .writeModuleTable src tag first (BitVec.ofNat 8 es.length)
        (es.map fun e => encFlag e.1.installed ++ be 2 e.1.rating ++ be 1 e.1.node ++ [e.2] ++
          be 1 e.1.startLimit ++ be 1 e.1.stopLimit).flatten
      let v := written s.mpm.table first.toNat (es.map Prod.fst)
      let fit := (∀ e ∈ es, e.1.installed = true → 250 ≤ e.1.rating ∧ e.1.rating ≤ 4000 ∧ 1 ≤ e.1.node ∧
          e.1.node ≤ 62 ∧ s.own ≠ some e.1.node ∧ 5 ≤ e.1.startLimit ∧ e.1.startLimit ≤ 60 ∧ 5 ≤ e.1.stopLimit ∧
          e.1.stopLimit ≤ 60) ∧ ((v.toList.filter fun e => e.installed).map fun e => e.node).Nodup
      let refs (m : Module) : ModuleRef :=
        if first.toNat ≤ m.val ∧ m.val < first.toNat + es.length ∧ s.mpm.table[m].installed = false ∧
          v[m].installed = true then { s.rfg.modules[m] with lastSent := none, startSent := false, own := none }
        else s.rfg.modules[m]
      ((∃ m : Module, addressedBy first.toNat es.length m ∧
          (s.modu m).state ∈ [.starting, .syncing, .online, .stopping]) →
        exec write s = .next (answered src tag 2 .inUse [] s)) ∧
      ((∀ m : Module, addressedBy first.toNat es.length m →
          (s.modu m).state ∉ [.starting, .syncing, .online, .stopping]) →
        (¬ fit → exec write s = .next (answered src tag 2 .badValue [] s)) ∧
        (fit → ∃ u : State, exec write s = .next (answered src tag 2 .done [] u) ∧
          u = { s with
            mpm := { s.mpm with table := v, recs := u.mpm.recs, poll := u.mpm.poll }
            rfg := { s.rfg with modules := Vector.ofFn refs } } ∧
          (u.mpm.poll = s.mpm.poll ∨ u.mpm.poll = none) ∧
          ∀ m : Module,
            (¬ addressedBy first.toNat es.length m → u.modu m = s.modu m) ∧
            (addressedBy first.toNat es.length m →
              (s.mpm.table[m].installed = false → v[m].installed = true → u.modu m = .cleared .standby) ∧
              (s.mpm.table[m].installed = false → v[m].installed = false → u.modu m = s.modu m) ∧
              (s.mpm.table[m].installed = true → v[m].installed = false →
                u.modu m = { s.modu m with state := .absent } ∧ ∀ p, u.mpm.poll = some p → p.module ≠ m) ∧
              (s.mpm.table[m].installed = true → v[m].installed = true → v[m].node ≠ s.mpm.table[m].node →
                u.modu m = { s.modu m with
                  missCount := 0, answered := false, reported := none, derateFlag := false, capacity := none } ∧
                ∀ p, u.mpm.poll = some p → p.module ≠ m) ∧
              (s.mpm.table[m].installed = true → v[m].installed = true → v[m].node = s.mpm.table[m].node →
                u.modu m = s.modu m))))) ∧
    ∀ es : List BreakerEntry, es ≠ [] → first.toNat + es.length ≤ 12 →
      (∀ e ∈ es, e.node < 256 ∧ e.tc < 65536 ∧ e.margin < 65536 ∧ ∀ n, e.lastMeasured = some n → n < 65536) →
      let write : Instr := .writeBreakerTable src tag first (BitVec.ofNat 8 es.length) (es.map encBreaker).flatten
      ((∃ k : Target, addressedBy first.toNat es.length k ∧ s.syu.busy k = true) →
        exec write s = .next (answered src tag 2 .inUse [] s)) ∧
      ((∀ k : Target, addressedBy first.toNat es.length k → s.syu.busy k = false) →
        exec write s = .next
          (if ∀ e ∈ es, e.node ≤ 62 ∧ s.own ≠ some e.node ∧ 20 ≤ e.tc ∧ e.tc ≤ 300 ∧ 20 ≤ e.margin ∧ e.margin ≤ 500 then
            answered src tag 2 .done [] { s with syu := { s.syu with
              breakers := Vector.ofFn fun k =>
                let old := s.syu.breakers[k]
                match (if first.toNat ≤ k.val then es[k.val - first.toNat]? else none) with
                | none => old
                | some e => { old with
                    node := e.node
                    tc := e.tc
                    margin := e.margin
                    learn := e.learn
                    lastPosition := if e.node = old.node then old.lastPosition else none }
              closeHeld := Vector.ofFn fun k =>
                match (if first.toNat ≤ k.val then es[k.val - first.toNat]? else none) with
                | none => s.syu.closeHeld[k]
                | some e => s.syu.closeHeld[k] && decide (e.node = s.syu.breakers[k].node) } }
          else answered src tag 2 .badValue [] s))

/-- R95, R158, R161, R177: the operator node's write of berths or of the event table. -/
def Obligations.BerthsAndEventsWritten : Prop :=
  ∀ (src : Byte) (tag : BitVec 16) (first : Byte) (s : State), Quiet s → EgressWorks s → Served s src →
    isOperator s src.toNat = true →
    (∀ es : List BerthEntry, es ≠ [] → first.toNat + es.length ≤ 4 →
      (∀ e ∈ es, (e.nominalF < 65536 ∧ e.nominalV < 65536 ∧ e.contract < 65536 ∧ e.gateway < 256 ∧
        e.rampRate < 65536 ∧ e.holdLimit < 65536 ∧ e.rampTimeout < 65536) ∧ e.genWait < 65536 ∧
        e.openThreshold < 65536 ∧ e.overloadTime < 256 ∧ e.vBand < 256 ∧ e.fBand < 65536 ∧ e.replacement < 256) →
      let write : Instr := .writeBerthTable src tag first (BitVec.ofNat 8 es.length) (es.map encBerthEntry).flatten
      let v := written s.bsq.table first.toNat es
      let fit := (∀ e ∈ es, e.configured = true →
          ((e.nominalF = 50000 ∨ e.nominalF = 60000) ∧ 440 ≤ e.nominalV ∧ e.nominalV ≤ 15000 ∧ 100 ≤ e.contract ∧
            e.contract ≤ 16000 ∧ 1 ≤ e.gateway ∧ e.gateway ≤ 62 ∧ s.own ≠ some e.gateway ∧ 50 ≤ e.rampRate ∧
            e.rampRate ≤ 5000 ∧ 50 ∣ e.rampRate) ∧ 10 ≤ e.holdLimit ∧ e.holdLimit ≤ 3600 ∧ 30 ≤ e.rampTimeout ∧
            e.rampTimeout ≤ 1800 ∧ 30 ≤ e.genWait ∧ e.genWait ≤ 1800 ∧ 10 ≤ e.openThreshold ∧
            e.openThreshold ≤ 1000 ∧ 1 ≤ e.overloadTime ∧ e.overloadTime ≤ 60 ∧ 10 ≤ e.vBand ∧ e.vBand ≤ 200 ∧
            50 ≤ e.fBand ∧ e.fBand ≤ 3000 ∧ e.replacement ≤ 1) ∧
        ((v.toList.filter fun e => e.configured).map fun e => e.gateway).Nodup
      ((∃ b : Berth, addressedBy first.toNat es.length b ∧ (s.berth b).state ∉ [.unused, .dead]) →
        exec write s = .next (answered src tag 2 .inUse [] s)) ∧
      ((∀ b : Berth, addressedBy first.toNat es.length b → (s.berth b).state ∈ [.unused, .dead]) →
        (¬ fit → exec write s = .next (answered src tag 2 .badValue [] s)) ∧
        (fit → exec write s = .next (answered src tag 2 .done [] { s with bsq := { s.bsq with
          table := v
          recs := Vector.ofFn fun b => { s.bsq.recs[b] with
            state :=
              if s.bsq.table[b].configured = v[b].configured then s.bsq.recs[b].state
              else if v[b].configured then .dead else .unused }
          ships := Vector.ofFn fun b =>
            if s.bsq.table[b].configured ∧ (v[b].configured = false ∨ v[b].gateway ≠ s.bsq.table[b].gateway) then none
            else s.bsq.ships[b] } })))) ∧
    ∀ es : List EventEntry, es ≠ [] → first.toNat + es.length ≤ 100 →
      (∀ e ∈ es, e.count < 256 ∧ ∀ c, e.clock = some c → c.1 < 65536 ∧ c.2 < 4294967296) →
      let write : Instr := .writeEventTable src tag first (BitVec.ofNat 8 es.length) (es.map encEvent).flatten
      let v : Vector EventEntry 100 := Vector.ofFn fun i =>
        match (if first.toNat ≤ i.val then es[i.val - first.toNat]? else none) with
        | none => s.evr.entries[i]
        | some e => { s.evr.entries[i] with
            enabled := e.enabled
            notifyOperator := e.notifyOperator
            notifyBilling := e.notifyBilling
            notifyShip := e.notifyShip
            action := e.action }
      let allowed (i : Nat) : List Action :=
        if i < 56 then if i % 14 = 9 then [.tripBerth] else [.none, .hold, .shed, .tripBerth, .tripAll]
        else if i < 88 then [.none, .blockModule, .tripBerth, .tripAll]
        else if i < 94 then [.none, .holdAll, .tripAll]
        else if i < 99 then [.none] else [.tripAll]
      ((∃ i : EventIx, addressedBy first.toNat es.length i ∧ v[i].action ∉ allowed i.val) →
        exec write s = .next (answered src tag 2 .badValue [] s)) ∧
      ((∀ i : EventIx, addressedBy first.toNat es.length i → v[i].action ∈ allowed i.val) →
        (∃ t, exec write s = .next t ∧
          ReplyGiven (reply src tag 2 .done []) t ∧ t.evr.entries = v ∧ t.evr.outputs = s.evr.outputs ∧ t.mlk = s.mlk ∧
          t.mgu.queue = [] ∧ t.now = s.now ∧ t.scl = s.scl ∧ t.mpm = s.mpm ∧ t.rfg = s.rfg ∧ t.syu = s.syu ∧
          t.mtr = s.mtr ∧ t.blg = s.blg ∧ (HoldsCurrent s → HoldsCurrent t) ∧
          ∀ b, (t.berth b).state = (s.berth b).state ∧ (t.berth b).rampDue = (s.berth b).rampDue) ∧
        ((∀ i : EventIx, s.evr.entries[i].raw = false) → HoldsCurrent s →
          exec write s = .next (answered src tag 2 .done [] { s with evr := { s.evr with entries := v } })))

/-! ### Management requests: berths, modules and events -/

/-- R40, R41, R99, R100, R145, R146: CONNECT and CONNECT_DEAD_SHIP: every refusal in its order, and an acceptance, whose
first module's dead-bus close SYU takes or refuses at once; by the refusal the berth's modules stop, and a free egress
begins the OPEN for the first contactor before any other frame of the command. That a rating written since a module's
last reply counts is the model's choice (log 42). -/
def Obligations.ConnectionAsked : Prop :=
  ∀ (src : Byte) (tag : BitVec 16) (b : Berth) (dead : Bool) (s : State), Quiet s → EgressWorks s → Served s src →
    isOperator s src.toNat = true →
    let c : Instr :=
      if dead then .connectDeadShip src tag (BitVec.ofNat 8 b.val) else .connect src tag (BitVec.ofNat 8 b.val)
    let taken := (s.berth b).state = .dead ∧ s.pins.estop = false
    let ready := ∃ r, s.bsq.ships[b] = some r ∧ r.ready = true ∧ s.now - r.received ≤ 2000
    let tariff := ∃ i, s.blg.current = some i ∧ s.blg.sets[i].loaded = true
    let standby := (List.finRange 8).filter fun m => (s.modu m).state = .standby
    let rating := fun m : Module => s.mpm.table[m].rating
    let enough := (s.entry b).contract ≤ (standby.map rating).sum
    (¬ taken → exec c s = .next (answered src tag 3 .busy [] s)) ∧
    (taken → s.pins.pilot[b] = false → exec c s = .next (answered src tag 3 .pilotOpen [] s)) ∧
    (taken → s.pins.pilot[b] = true → ¬ ready → exec c s = .next (answered src tag 3 .notReady [] s)) ∧
    (taken → s.pins.pilot[b] = true → ready → ¬ tariff → RaisesAlone evTariffNotSet s →
      exec c s = .next (answered src tag 3 .noTariff [] (raised evTariffNotSet s))) ∧
    (taken → s.pins.pilot[b] = true → ready → tariff → s.blg.sum = 32 → RaisesAlone evLogFull s →
      exec c s = .next (answered src tag 3 .noSlot []
        (raised evLogFull { s with blg := { s.blg with logFull := true } }))) ∧
    (taken → s.pins.pilot[b] = true → ready → tariff → s.blg.sum < 32 →
      s.blg.counter + s.blg.taken ≥ Config.u32Max + 1 →
      exec c s = .next (answered src tag 3 .noSlot [] { s with blg := { s.blg with logFull := false } })) ∧
    (taken → s.pins.pilot[b] = true → ready → tariff → s.blg.sum < 32 →
      s.blg.counter + s.blg.taken < Config.u32Max + 1 → ¬ enough →
      exec c s = .next (answered src tag 3 .noCapacity [] { s with blg := { s.blg with logFull := false } })) ∧
    (∀ m rest, taken → s.pins.pilot[b] = true → ready → tariff → s.blg.sum < 32 →
      s.blg.counter + s.blg.taken < Config.u32Max + 1 → enough → s.slot b = .free → s.list b = [] →
      0 < (s.entry b).contract → RaisesAlone evLogFull s → standby = m :: rest → s.syu.busy (contactor m) = false →
      (s.breaker (contactor m)).node ≠ 0 → (s.point (cbPoint b)).state ≠ .stale →
      (s.point (cbPoint b)).voltage * 100 < (s.entry b).nominalV * s.syu.profiles[1].deadThreshold →
      ∃ t, exec c s = .next t ∧
        ReplyGiven (reply src tag 3 .done []) t ∧ (t.berth b).state = .allocating ∧ (t.berth b).deadShip = dead ∧
        (t.berth b).reason = none ∧ (t.berth b).energised = false ∧ (t.berth b).rampDone = false ∧
        (t.berth b).holdEnd = none ∧ (t.berth b).lastLimit = 0 ∧ t.slot b = .reserved ∧
        t.syu.deadPending (contactor m) = true ∧
        t.berthRef b = some (newBerthRef s.rfg.inForce (s.entry b).nominalF (s.entry b).nominalV) ∧
        (∃ picked, t.list b = m :: picked ∧ picked <+: rest ∧
          (s.entry b).contract ≤ ((m :: picked).map rating).sum ∧
          (∀ k, k ≤ picked.length → (((m :: picked).take k).map rating).sum < (s.entry b).contract) ∧
          (∀ x ∈ m :: picked, (t.modu x).state = .starting ∧ ((t.modu x).first = true ↔ x = m) ∧
            (t.modu x).startDue = some (s.now + s.mpm.table[x].startLimit * 1000)) ∧
          (t.berth b).summary.listed = (m :: picked).length) ∧
        (∀ a, a ≠ b → t.berth a = s.berth a ∧ t.slot a = s.slot a ∧ t.list a = s.list a) ∧
        t.blg.log = s.blg.log ∧ t.blg.counter = s.blg.counter ∧ t.mtr = s.mtr ∧ t.mlk = s.mlk ∧ t.scl = s.scl ∧
        t.evr.outputs = s.evr.outputs ∧ t.now = s.now) ∧
    ∀ m rest, taken → s.pins.pilot[b] = true → ready → tariff → s.blg.sum < 32 →
      s.blg.counter + s.blg.taken < Config.u32Max + 1 → enough → s.slot b = .free → s.list b = [] → ModulesListed s →
      0 < (s.entry b).contract → RaisesAlone evLogFull s → RaisesAlone (evCapacityLimit b) s →
      standby = m :: rest → s.syu.busy (contactor m) = false →
      ((s.breaker (contactor m)).node = 0 ∨ (s.point (cbPoint b)).state = .stale ∨
        (s.entry b).nominalV * s.syu.profiles[1].deadThreshold ≤ (s.point (cbPoint b)).voltage * 100) →
      let opening : Bcmd :=
        ⟨(s.breaker (contactor m)).node, .openCmd, contactor m, (s.breaker (contactor m)).margin + 100⟩
      ∃ t, exec c s = .next t ∧ ReplyGiven (reply src tag 3 .done []) t ∧ (t.berth b).state = .releasing ∧
        (t.event (evCapacityLimit b)).raw = true ∧ t.slot b = .free ∧ t.syu.deadPending (contactor m) = false ∧
        CommandGiven opening t ∧
        (s.lpu.sending = none →
          t.lpu.sending = some (frameBytes opening.dest ((s.own).getD 0) 5 0 s.lpu.seq opening.payload)) ∧
        (∃ picked, t.list b = m :: picked ∧ picked <+: rest ∧ ∀ x ∈ m :: picked, (t.modu x).state = .stopping ∧
          (t.modu x).stopDue = some (s.now + s.mpm.table[x].stopLimit * 1000)) ∧
        t.blg.log = s.blg.log ∧ t.blg.counter = s.blg.counter ∧ t.mtr = s.mtr ∧ t.mlk = s.mlk ∧ t.scl = s.scl ∧
        t.evr.outputs = s.evr.outputs ∧ t.now = s.now

/-- R109, R114, R116, R121: DEPART, ABORT, TRIP and RESET_TRIP in the states in which each is taken, refused BUSY in
the others, and any command to a berth that does not exist. -/
def Obligations.BerthCommands : Prop :=
  ∀ (src : Byte) (tag : BitVec 16) (b : Berth) (s : State), Quiet s → EgressWorks s → Served s src →
    isOperator s src.toNat = true →
    let n : Byte := BitVec.ofNat 8 b.val
    let st := (s.berth b).state
    let busy := answered src tag 3 .busy [] s
    (∀ k : Byte, 4 ≤ k.toNat → ∀ c ∈ [Instr.connect src tag k, .connectDeadShip src tag k, .depart src tag k,
      .abort src tag k, .trip src tag k, .resetTrip src tag k],
      exec c s = .next (answered src tag 3 .badValue [] s)) ∧
    (st ≠ .shore → exec (.depart src tag n) s = .next busy) ∧
    (st = .shore → exec (.depart src tag n) s = .next (answered src tag 3 .done [] { s with
      lpu := (giveShpn (s.entry b).gateway (.berth b 8) s).lpu
      scl := { s.scl with points := upd s.scl.points (shPoint b) fun r => { r with vOut := false, fOut := false } }
      bsq := { s.bsq with recs := upd s.bsq.recs b fun r => { r with
        state := .awaitGenerators
        genDue := some (s.now + (s.entry b).genWait * 1000) } } })) ∧
    (st ∉ [.allocating, .energising, .syncing, .deadClose, .rampUp] → exec (.abort src tag n) s = .next busy) ∧
    (st = .rampUp → exec (.abort src tag n) s = .next (answered src tag 3 .done [] { s with
      lpu := (giveShpn (s.entry b).gateway (.berth b 9) s).lpu
      bsq := { s.bsq with recs := upd s.bsq.recs b fun r =>
        { BerthRec.rampBegun s.now ((s.entry b).rampTimeout * 1000) r with state := .rampDown } } })) ∧
    (st ∈ [.allocating, .energising, .syncing, .deadClose] → BillingRoom s → ModulesListed s → ∃ t,
      exec (.abort src tag n) s = .next t ∧ ReplyGiven (reply src tag 3 .done []) t ∧
      (t.berth b).state = (if s.list b = [] then .dead else .releasing) ∧ t.slot b ≠ .reserved ∧
      t.list b = s.list b ∧ (∀ m ∈ s.list b, (t.modu m).state ∉ [.starting, .syncing, .online]) ∧
      (SyncOnce s → t.syu.busy (outlet b) = false) ∧
      (s.lpu.control.length + 2 ≤ 24 → NoticeGiven (s.entry b).gateway (.berth b 11) t ∧
        (s.list b = [] → NoticeGiven (s.entry b).gateway (.berth b 1) t)) ∧
      t.blg.log = s.blg.log ∧ t.mlk = s.mlk ∧ t.evr.entries = s.evr.entries ∧ t.now = s.now) ∧
    (st ∈ [.unused, .dead] → exec (.trip src tag n) s = .next busy) ∧
    (st = .tripped → exec (.trip src tag n) s = .next (answered src tag 3 .done [] s)) ∧
    (st ∉ [.unused, .dead, .tripped] → ∃ t, exec (.trip src tag n) s = .next t ∧
      ReplyGiven (reply src tag 3 .done []) t ∧ TrippedFrom b .operator s t) ∧
    (let resets := st = .tripped ∧ (s.breaker (outlet b)).lastPosition = some .openPos ∧ s.pins.estop = false ∧
        s.list b = [];
      (¬ resets → exec (.resetTrip src tag n) s = .next busy) ∧
      (resets → TripOutputs s → exec (.resetTrip src tag n) s = .next (answered src tag 3 .done [] { s with
        lpu := (giveShpn (s.entry b).gateway (.berth b 1) s).lpu
        rfg := { s.rfg with berths := upd s.rfg.berths b fun _ => none }
        bsq := { s.bsq with recs := upd s.bsq.recs b fun r => { r with
          state := .dead
          demand := false
          fromOpening := false
          reason := none
          deadShip := false
          energised := false } }
        evr := { s.evr with outputs := upd s.evr.outputs b fun _ => false } })))

/-- R46, R49, R50, R51, R100, R103, R120: BLOCK, UNBLOCK and READMIT in every state of the module, with what the block
of a module in service brings its contactor and its berth. That a module which leaves the berths' lists has its
start-issued flag and its deferred flag cleared is the model's choice (log 36). -/
def Obligations.ModuleCommands : Prop :=
  ∀ (src : Byte) (tag : BitVec 16) (m : Module) (s : State), Quiet s → EgressWorks s → Served s src →
    isOperator s src.toNat = true →
    let n : Byte := BitVec.ofNat 8 m.val
    let st := (s.modu m).state
    let busy := answered src tag 4 .busy [] s
    let left (after : ModuleState) := answered src tag 4 .done [] { s with
      mpm := { s.mpm with
        lists := s.mpm.lists.map fun l => l.filter fun x => x ≠ m
        recs := upd s.mpm.recs m fun r => { r with
          state := after
          first := false
          startIssued := false
          deferred := false
          blockPending := false
          startDue := none
          stopDue := none } }
      rfg := { s.rfg with modules := upd s.rfg.modules m fun r =>
        { r with lastSent := none, startSent := false, own := none } } }
    let mark (v : Bool) := answered src tag 4 .done [] { s with
      mpm := { s.mpm with recs := upd s.mpm.recs m fun r => { r with blockPending := v } } }
    (∀ k : Byte, 8 ≤ k.toNat → ∀ c ∈ [Instr.block src tag k, .unblock src tag k, .readmit src tag k],
      exec c s = .next (answered src tag 4 .badValue [] s)) ∧
    (st = .absent → ∀ c ∈ [Instr.block src tag n, .unblock src tag n, .readmit src tag n],
      exec c s = .next (answered src tag 4 .badValue [] s)) ∧
    (st ∈ [.standby, .lost] → exec (.block src tag n) s = .next (left .blocked)) ∧
    (st = .blocked → exec (.block src tag n) s = .next (answered src tag 4 .done [] s)) ∧
    (st = .stopping → exec (.block src tag n) s = .next (mark true)) ∧
    (st ∈ [.starting, .syncing, .online] → ∃ t, exec (.block src tag n) s = .next t ∧
      ReplyGiven (reply src tag 4 .done []) t ∧
      (t.modu m).state = .stopping ∧ (t.modu m).blockPending = true ∧ (t.modu m).startDue = none ∧
      (t.modu m).stopDue = some (s.now + s.mpm.table[m].stopLimit * 1000) ∧
      (t.modu m).missCount = (s.modu m).missCount ∧ t.mpm.table = s.mpm.table ∧ t.mlk = s.mlk ∧ t.now = s.now ∧
      ∀ b, m ∈ s.list b → ModulesListed s → SyncOnce s → (∀ e, RaisesAlone e s) →
        StoppedFrom m s t ∧ LeftService b m (s.list b) s t) ∧
    (st = .blocked → exec (.unblock src tag n) s = .next (left .standby)) ∧
    (st = .stopping → (s.modu m).blockPending = true → exec (.unblock src tag n) s = .next (mark false)) ∧
    (st ∈ [.standby, .starting, .syncing, .online, .lost] ∨ st = .stopping ∧ (s.modu m).blockPending = false →
      exec (.unblock src tag n) s = .next busy) ∧
    (st = .lost → (s.modu m).answered = true → exec (.readmit src tag n) s = .next (left .standby)) ∧
    (st ≠ .absent → st ≠ .lost ∨ (s.modu m).answered = false → exec (.readmit src tag n) s = .next busy)

/-- R161, R166, R167: EVENT_CLEAR, EVENT_SET, EVENT_ENABLE and EVENT_DISABLE. R166's condition of each owner is
written out over its block's state. -/
def Obligations.EventRequests : Prop :=
  ∀ (src : Byte) (tag : BitVec 16) (e : EventIx) (s : State), Quiet s → EgressWorks s → Served s src →
    fromStation s src →
    let n : Byte := BitVec.ofNat 8 e.val
    let with' (kind : Nat) (g : EventEntry → EventEntry) :=
      answered src tag kind .done [] { s with evr := { s.evr with entries := upd s.evr.entries e g } }
    let at14 (k : Nat) (p : Berth → Prop) : Prop := ∃ b : Berth, e.val = 14 * b.val + k ∧ p b
    let condition : Prop :=
      at14 0 (fun b => s.scl.shipStale[b] ≠ none) ∨ at14 1 (fun b => s.scl.convStale[b] ≠ none) ∨
      at14 6 (fun b => ∃ r, s.berthRef b = some r ∧ r.overload = true ∧ r.overloadDue = none) ∨
      at14 11 (fun b => (s.berth b).capacityCond = true) ∨ at14 12 (fun b => (s.point (shPoint b)).vOut = true) ∨
      at14 13 (fun b => (s.point (shPoint b)).fOut = true) ∨
      (∃ m : Module, e.val = 56 + 4 * m.val + 2 ∧ (s.modu m).derateCond = true) ∨
      (e.val = 88 ∧ s.lpu.lossIndicator = true) ∨ (e.val = 92 ∧ (s.point 0).vOut = true) ∨
      (e.val = 93 ∧ (s.point 0).fOut = true) ∨ (e.val = 94 ∧ s.blg.logFull = true) ∨
      (e.val = 97 ∧ s.mlk.exhausted = true) ∨ (e.val = 99 ∧ s.pins.estop = true)
    let holding := (s.event e).action = .hold ∨ (s.event e).action = .holdAll
    (∀ k : Byte, 100 ≤ k.toNat →
      exec (.eventClear src tag k) s = .next (answered src tag 5 .badValue [] s) ∧
      exec (.eventSet src tag k) s = .next (answered src tag 6 .badValue [] s) ∧
      exec (.eventEnable src tag k) s = .next (answered src tag 7 .badValue [] s) ∧
      exec (.eventDisable src tag k) s = .next (answered src tag 8 .badValue [] s)) ∧
    (RaisesAlone e s → exec (.eventSet src tag n) s = .next (answered src tag 6 .done [] (raised e s))) ∧
    (∃ t, exec (.eventSet src tag n) s = .next t ∧ ReplyGiven (reply src tag 6 .done []) t ∧ (t.event e).raw = true ∧
      (t.event e).enabled = (s.event e).enabled ∧ t.mlk = s.mlk ∧ t.now = s.now) ∧
    (HoldsCurrent s → ¬ holding ∨ (s.event e).raw = false → ¬ condition →
      exec (.eventClear src tag n) s =
        .next (with' 5 fun x => { x with raw := false, count := 0, clock := none })) ∧
    (¬ condition → ∃ t, exec (.eventClear src tag n) s = .next t ∧
      ReplyGiven (reply src tag 5 .done []) t ∧ (t.event e).raw = false ∧
      (t.event e).count = 0 ∧ (t.event e).clock = none ∧ (HoldsCurrent s → HoldsCurrent t) ∧
      (∀ x, x ≠ e → t.event x = s.event x) ∧ t.evr.outputs = s.evr.outputs ∧ t.mlk = s.mlk ∧ t.now = s.now) ∧
    (condition → ∃ t, exec (.eventClear src tag n) s = .next t ∧
      ReplyGiven (reply src tag 5 .done []) t ∧ (t.event e).raw = true ∧
      ((s.event e).action = .none ∨ e ≠ evLogFull →
        t.event e = { s.event e with raw := true, count := 0, clock := some s.clock }) ∧
      t.mlk = s.mlk ∧ t.now = s.now) ∧
    (HoldsCurrent s → condition → (s.event e).enabled = false →
      exec (.eventClear src tag n) s =
        .next (with' 5 fun x => { x with raw := true, count := 0, clock := some s.clock })) ∧
    ((s.event e).enabled = true → exec (.eventEnable src tag n) s = .next (answered src tag 7 .done [] s)) ∧
    ((s.event e).enabled = false → (s.event e).raw = false →
      exec (.eventEnable src tag n) s = .next (with' 7 fun x => { x with enabled := true })) ∧
    ((s.event e).enabled = false → (s.event e).raw = true → ∃ t, exec (.eventEnable src tag n) s = .next t ∧
    ReplyGiven (reply src tag 7 .done []) t ∧
      t.event e = { s.event e with enabled := true } ∧ (∀ x, x ≠ e → t.event x = s.event x) ∧
      (HoldsCurrent s → HoldsCurrent t) ∧ t.evr.outputs = s.evr.outputs ∧ t.mlk = s.mlk ∧ t.mpm = s.mpm ∧
      ∀ b, (t.berth b).state = (s.berth b).state) ∧
    (HoldsCurrent s → ¬ holding ∨ (s.event e).raw = false ∨ (s.event e).enabled = false →
      exec (.eventDisable src tag n) s = .next (with' 8 fun x => { x with enabled := false })) ∧
    ∃ t, exec (.eventDisable src tag n) s = .next t ∧
      ReplyGiven (reply src tag 8 .done []) t ∧ t.event e = { s.event e with enabled := false } ∧
      (∀ x, x ≠ e → t.event x = s.event x) ∧ (HoldsCurrent s → HoldsCurrent t) ∧ t.mlk = s.mlk ∧ t.mpm = s.mpm ∧
      ∀ b, (t.berth b).state = (s.berth b).state

/-! ### Management requests: the clock, the log and the lock -/

/-- R133, R154, R184: CLOCK_SET, LOG_REMOVE_OLDEST, and the lock step of a protected request. That CLOCK_SET leaves no
interval end due, whatever a tick has made due, is the model's choice (log 8). -/
def Obligations.ClockAndLogRequests : Prop :=
  ∀ (src : Byte) (tag : BitVec 16) (s : State), Quiet s → EgressWorks s → Served s src →
    isBilling s src.toNat = true →
    (∀ (table first count : Byte) (t : Table) (bytes : List Byte) (es : List (List Nat)),
      table.toNat ∈ [2, 9, 10, 11] → count ≠ 0 → tableOf? table.toNat = some t →
      first.toNat + count.toNat ≤ t.size → takeEntries t.form count.toNat bytes = some es →
      let write : Instr := .mreqArrival src (be 2 tag.toNat ++ be 1 2 ++ [table, first, count] ++ bytes)
      (s.mlk.attempts ≠ 0 → s.mlk.lock = .locked → exec write s = .next (answered src tag 2 .locked [] s)) ∧
      (s.mlk.attempts = 0 → RaisesAlone evLockExhausted s →
        exec write s = .next (answered src tag 2 .lockExhausted [] (raised evLockExhausted s)))) ∧
    (∀ (day : BitVec 16) (second : BitVec 32),
      (s.mlk.attempts ≠ 0 → s.mlk.lock = .locked →
        exec (.clockSet src tag day second) s = .next (answered src tag 9 .locked [] s)) ∧
      (s.mlk.attempts = 0 → RaisesAlone evLockExhausted s →
        exec (.clockSet src tag day second) s =
          .next (answered src tag 9 .lockExhausted [] (raised evLockExhausted s))) ∧
      (LockOpen s → 86399 < second.toNat →
        exec (.clockSet src tag day second) s = .next (answered src tag 9 .badValue [] s)) ∧
      (LockOpen s → second.toNat ≤ 86399 → ∃ u : State,
        exec (.clockSet src tag day second) s = .next (answered src tag 9 .done [] u) ∧
        u = { s with mtr := u.mtr, blg := u.blg } ∧
        u.mtr.day = day.toNat ∧ u.mtr.second = second.toNat ∧ u.mtr.tickDue = s.mtr.tickDue ∧
        u.mtr.demandS = s.mtr.demandS ∧
        u.mtr.gapLimit = s.mtr.gapLimit ∧ u.mtr.unbilled = s.mtr.unbilled ∧ u.mtr.endDue = false ∧
        u.mtr.intervalStart = second.toNat / s.mtr.demandS * s.mtr.demandS ∧
        u.mtr.intervalEnd = (second.toNat / s.mtr.demandS * s.mtr.demandS + s.mtr.demandS) % 86400 ∧
        u.blg.log = s.blg.log ∧ u.blg.sets = s.blg.sets ∧ u.blg.counter = s.blg.counter ∧
        (∀ b r, s.slot b = .openSlot r →
          u.slot b = .openSlot { r with
            peak := max r.peak (min (s.mtr.recs[b].demandAcc * 3600 / s.mtr.demandS) Config.u32Max) } ∧
          u.mtr.recs[b] = { s.mtr.recs[b] with demandAcc := 0 }) ∧
        ∀ b, s.sessionOpen b = false → u.slot b = s.slot b ∧ u.mtr.recs[b] = s.mtr.recs[b])) ∧
    ∀ number : BitVec 32,
      (s.blg.log = [] →
        exec (.logRemoveOldest src tag number) s = .next (answered src tag 11 .logEmpty [] s)) ∧
      (∀ r rest, s.blg.log = r :: rest → r.number ≠ some number.toNat →
        exec (.logRemoveOldest src tag number) s = .next (answered src tag 11 .badValue [] s)) ∧
      (∀ r rest, s.blg.log = r :: rest → r.number = some number.toNat → s.blg.sum ≤ 32 →
        exec (.logRemoveOldest src tag number) s = .next (answered src tag 11 .done (be 4 number.toNat) { s with
          blg := { s.blg with log := rest, logFull := false } }))

/-- R185, R186, R187, R188, R189: the lock requests and BILLING_CLEAR, each with every condition under which it is
taken or refused but the code mismatch. -/
def Obligations.LockRequests : Prop :=
  ∀ (src : Byte) (tag : BitVec 16) (s : State), Quiet s → EgressWorks s → Served s src → fromStation s src →
    let k := s.mlk
    let set (kind : Nat) (k' : Mlk) := answered src tag kind .done [] { s with mlk := k' }
    let no (kind : Nat) (r : Result) := answered src tag kind r [] s
    let bare : Mlk := { k with operatorCode := none, strict := false, lock := .unprotected }
    (k.attempts = 0 → RaisesAlone evLockExhausted s → ∀ (c : Instr) (kind : Nat) (params : List Byte),
      c.request? = some (src, tag, kind, params) →
      kind ∈ [14, 15, 16, 17, 18] ∨ kind ∈ [13, 19] ∧ (byteAt params 0 = 1 ∨ byteAt params 0 = 2) →
      exec c s = .next (answered src tag kind .lockExhausted [] (raised evLockExhausted s))) ∧
    (k.attempts ≠ 0 → k.frozen = true → ∀ (c : Instr) (kind : Nat) (params : List Byte),
      c.request? = some (src, tag, kind, params) →
      kind ∈ [15, 16, 18] ∨ kind ∈ [13, 19] ∧ (byteAt params 0 = 1 ∨ byteAt params 0 = 2) →
      exec c s = .next (no kind .frozen)) ∧
    (k.attempts ≠ 0 →
      (k.lock = .unprotected → exec (.relock src tag) s = .next (no 14 .busy)) ∧
      (k.lock ≠ .unprotected → exec (.relock src tag) s = .next (set 14 { k with lock := .locked })) ∧
      (k.lock = .locked → exec (.freeze src tag) s = .next (no 17 .locked)) ∧
      (k.lock ≠ .locked → exec (.freeze src tag) s = .next (set 17 { k with frozen := true }))) ∧
    (k.attempts ≠ 0 → k.frozen = false →
      (∀ code, (k.lock = .unprotected → exec (.unlock src tag 1 code) s = .next (no 13 .busy)) ∧
        (k.lock = .unprotected → exec (.unlock src tag 2 code) s = .next (no 13 .busy)) ∧
        (k.lock ≠ .unprotected → k.operatorCode = some code →
          exec (.unlock src tag 1 code) s = .next (set 13 { k with lock := .unlocked })) ∧
        (k.lock ≠ .unprotected → k.strict = true → exec (.unlock src tag 2 code) s = .next (no 13 .levelStrict)) ∧
        (k.lock ≠ .unprotected → k.strict = false → k.metrologyCode = none →
          exec (.unlock src tag 2 code) s = .next (no 13 .badValue)) ∧
        (k.lock ≠ .unprotected → k.strict = false → k.metrologyCode = some code →
          exec (.unlock src tag 2 code) s = .next (set 13 { k with lock := .unlocked }))) ∧
      (∀ (code : Code) (level : Byte),
        (k.lock = .locked → exec (.setCodeOperator src tag code level) s = .next (no 15 .locked)) ∧
        (k.lock ≠ .locked → 1 < level.toNat →
          exec (.setCodeOperator src tag code level) s = .next (no 15 .badValue)) ∧
        (k.lock ≠ .locked → level.toNat ≤ 1 → exec (.setCodeOperator src tag code level) s = .next (set 15
          { k with operatorCode := some code, strict := decide (level.toNat = 1), lock := .locked }))) ∧
      (∀ (code : Code) (rev : BitVec 16) (current : Option Code),
        (current.isSome ≠ k.metrologyCode.isSome ∨ 65533 < rev.toNat →
          exec (.setCodeMetrology src tag code rev current) s = .next (no 15 .badValue)) ∧
        (current = k.metrologyCode → rev.toNat ≤ 65533 → exec (.setCodeMetrology src tag code rev current) s = .next
          (set 15 { k with metrologyCode := some code, revision := rev.toNat }))) ∧
      (∀ code, (k.lock = .unprotected → exec (.removeCode src tag code) s = .next (no 16 .busy)) ∧
        (k.lock = .locked → exec (.removeCode src tag code) s = .next (no 16 .locked)) ∧
        (k.lock = .unlocked → k.operatorCode = some code →
          exec (.removeCode src tag code) s = .next (set 16 bare))) ∧
      exec (.clearPrepare src tag) s = .next (setPrepared src.toNat true (no 18 .done)) ∧
      (∀ code, (prepared s src.toNat = false →
          exec (.billingClear src tag 1 code) s = .next (no 19 .noPrepare) ∧
          exec (.billingClear src tag 2 code) s = .next (no 19 .noPrepare)) ∧
        (prepared s src.toNat = true → s.blg.taken ≠ 0 →
          exec (.billingClear src tag 1 code) s = .next (no 19 .inUse) ∧
          exec (.billingClear src tag 2 code) s = .next (no 19 .inUse)) ∧
        (prepared s src.toNat = true → s.blg.taken = 0 → k.strict = true →
          exec (.billingClear src tag 1 code) s = .next (no 19 .levelStrict)) ∧
        (prepared s src.toNat = true → s.blg.taken = 0 → k.strict = false → k.operatorCode = none →
          exec (.billingClear src tag 1 code) s = .next (no 19 .badValue)) ∧
        (prepared s src.toNat = true → s.blg.taken = 0 → k.metrologyCode = none →
          exec (.billingClear src tag 2 code) s = .next (no 19 .badValue)) ∧
        (∀ ident : Byte, prepared s src.toNat = true → s.blg.taken = 0 →
          ident = 1 ∧ k.strict = false ∧ k.operatorCode = some code ∨ ident = 2 ∧ k.metrologyCode = some code →
          exec (.billingClear src tag ident code) s = .next (answered src tag 19 .done [] { s with
            blg := { s.blg with log := [], logFull := false }
            mtr := { s.mtr with unbilled := Vector.replicate 4 ⟨0, 0, 0⟩ }
            mlk := bare }))))

/-- R185: a code mismatch of UNLOCK, SET_CODE METROLOGY, REMOVE_CODE or BILLING_CLEAR: the attempt counter falls, and
with the last attempt the lock is exhausted and an open lock locked. -/
def Obligations.CodeMismatches : Prop :=
  ∀ (src : Byte) (tag : BitVec 16) (s : State) (c : Instr) (kind : Nat), Quiet s → EgressWorks s → Served s src →
    fromStation s src → s.mlk.attempts ≠ 0 → s.mlk.frozen = false → RaisesAlone evLockMismatch s →
    RaisesAlone evLockExhausted s →
    let k := s.mlk
    ((∃ code, c = .unlock src tag 1 code ∧ kind = 13 ∧ k.lock ≠ .unprotected ∧ k.operatorCode ≠ some code) ∨
      (∃ code, c = .unlock src tag 2 code ∧ kind = 13 ∧ k.lock ≠ .unprotected ∧ k.strict = false ∧
        k.metrologyCode ≠ none ∧ k.metrologyCode ≠ some code) ∨
      (∃ code rev held, c = .setCodeMetrology src tag code rev (some held) ∧ kind = 15 ∧ rev.toNat ≤ 65533 ∧
        k.metrologyCode ≠ none ∧ k.metrologyCode ≠ some held) ∨
      (∃ code, c = .removeCode src tag code ∧ kind = 16 ∧ k.lock = .unlocked ∧ k.operatorCode ≠ some code) ∨
      (∃ code, c = .billingClear src tag 1 code ∧ kind = 19 ∧ prepared s src.toNat = true ∧ s.blg.taken = 0 ∧
        k.strict = false ∧ k.operatorCode ≠ none ∧ k.operatorCode ≠ some code) ∨
      ∃ code, c = .billingClear src tag 2 code ∧ kind = 19 ∧ prepared s src.toNat = true ∧ s.blg.taken = 0 ∧
        k.metrologyCode ≠ none ∧ k.metrologyCode ≠ some code) →
    (k.attempts ≠ 1 → exec c s = .next (answered src tag kind .lockMismatch [] (raised evLockMismatch { s with
      mlk := { k with attempts := k.attempts - 1 } }))) ∧
    (k.attempts = 1 → exec c s = .next (answered src tag kind .lockMismatch [] (raised evLockExhausted
      (raised evLockMismatch { s with
        mlk := { k with
          attempts := 0
          exhausted := true
          lock := if k.lock = .unlocked then .locked else k.lock } }))))

/-- R17, R32, R55, R70, R94, R124, R140, R157, R170, R181, R182, R185, R191: RESTART, refused while a berth is in use;
taken, every block but MLK begins again as a warm reset leaves it (`ResetKept`: what each block keeps and clears),
with device time and the terminal clock as they are, and the reply given (its place: log 14). The order at the end
(log 13), fields that nothing has set at 0 (log 12), the summary of an empty list (log 18) and the retained reference
settings in force at once (log 38) are the model's choices. -/
def Obligations.RestartRequest : Prop :=
  ∀ (src : Byte) (tag : BitVec 16) (s : State), Quiet s → EgressWorks s → Served s src →
    isOperator s src.toNat = true →
    ((∃ b, (s.berth b).state ≠ if (s.entry b).configured then .dead else .unused) →
      exec (.restart src tag) s = .next (answered src tag 20 .busy [] s)) ∧
    ((∀ b, (s.berth b).state = if (s.entry b).configured then .dead else .unused) →
      ∃ t, exec (.restart src tag) s = .next t ∧
        ReplyGiven (reply src tag 20 .done []) t ∧ ResetKept s.clock s t ∧
        t.mlk = s.mlk ∧ t.pins = s.pins ∧ t.now = s.now ∧ t.lpu.nid = s.lpu.nid ∧
        t.mgu = Mgu.cold s.mgu.opn s.mgu.bln ∧ t.mtr.day = s.mtr.day ∧ t.mtr.second = s.mtr.second ∧ t.mtr.tickDue = s.mtr.tickDue ∧
        ((t.event evLockExhausted).raw = true ↔ s.mlk.attempts = 0))
end

