-- ==== Sys2Proof/Laws/State.lean ====
section
/-! SUPPORT. What each update of the state leaves in each of its fields: one lemma per field per update, true by
definition, so that no later proof unfolds a record update. -/

namespace Sys2Proof.Machine

/-! ### Banks -/

/-- What an updated bank holds. -/
theorem upd_get {α : Type} {n : Nat} (v : Vector α n) (i : Fin n) (f : α → α) (k : Nat) (h : k < n) :
    (upd v i f)[k] = if i.val = k then f v[k] else v[k] := by
  unfold upd
  by_cases e : i.val = k
  · subst e; simp
  · simp [e]

/-- The element an update names. -/
@[simp] theorem upd_self {α : Type} {n : Nat} (v : Vector α n) (i : Fin n) (f : α → α) :
    (upd v i f)[i.val] = f v[i.val] := by
  simp [upd]

/-- Another element of an updated bank. -/
theorem upd_other {α : Type} {n : Nat} (v : Vector α n) {i j : Fin n} (f : α → α) (h : i ≠ j) :
    (upd v i f)[j.val] = v[j.val] := by
  rw [upd_get, if_neg (fun e => h (Fin.ext e))]


/-! ### Changes of one block -/

section

variable (s : State)


@[simp] theorem State.modPins_pins (g : Pins → Pins) : (s.modPins g).pins = g s.pins := rfl
@[simp] theorem State.modPins_lpu (g : Pins → Pins) : (s.modPins g).lpu = s.lpu := rfl
@[simp] theorem State.modPins_scl (g : Pins → Pins) : (s.modPins g).scl = s.scl := rfl
@[simp] theorem State.modPins_mpm (g : Pins → Pins) : (s.modPins g).mpm = s.mpm := rfl
@[simp] theorem State.modPins_rfg (g : Pins → Pins) : (s.modPins g).rfg = s.rfg := rfl
@[simp] theorem State.modPins_syu (g : Pins → Pins) : (s.modPins g).syu = s.syu := rfl
@[simp] theorem State.modPins_bsq (g : Pins → Pins) : (s.modPins g).bsq = s.bsq := rfl
@[simp] theorem State.modPins_mtr (g : Pins → Pins) : (s.modPins g).mtr = s.mtr := rfl
@[simp] theorem State.modPins_blg (g : Pins → Pins) : (s.modPins g).blg = s.blg := rfl
@[simp] theorem State.modPins_evr (g : Pins → Pins) : (s.modPins g).evr = s.evr := rfl
@[simp] theorem State.modPins_mgu (g : Pins → Pins) : (s.modPins g).mgu = s.mgu := rfl
@[simp] theorem State.modPins_mlk (g : Pins → Pins) : (s.modPins g).mlk = s.mlk := rfl
@[simp] theorem State.modPins_now (g : Pins → Pins) : (s.modPins g).now = s.now := rfl
@[simp] theorem State.modPins_handoffs (g : Pins → Pins) : (s.modPins g).handoffs = s.handoffs := rfl
@[simp] theorem State.modPins_overrun (g : Pins → Pins) : (s.modPins g).overrun = s.overrun := rfl
@[simp] theorem State.modPins_pending (g : Pins → Pins) : (s.modPins g).pending = s.pending := rfl

@[simp] theorem State.modLpu_pins (g : Lpu → Lpu) : (s.modLpu g).pins = s.pins := rfl
@[simp] theorem State.modLpu_lpu (g : Lpu → Lpu) : (s.modLpu g).lpu = g s.lpu := rfl
@[simp] theorem State.modLpu_scl (g : Lpu → Lpu) : (s.modLpu g).scl = s.scl := rfl
@[simp] theorem State.modLpu_mpm (g : Lpu → Lpu) : (s.modLpu g).mpm = s.mpm := rfl
@[simp] theorem State.modLpu_rfg (g : Lpu → Lpu) : (s.modLpu g).rfg = s.rfg := rfl
@[simp] theorem State.modLpu_syu (g : Lpu → Lpu) : (s.modLpu g).syu = s.syu := rfl
@[simp] theorem State.modLpu_bsq (g : Lpu → Lpu) : (s.modLpu g).bsq = s.bsq := rfl
@[simp] theorem State.modLpu_mtr (g : Lpu → Lpu) : (s.modLpu g).mtr = s.mtr := rfl
@[simp] theorem State.modLpu_blg (g : Lpu → Lpu) : (s.modLpu g).blg = s.blg := rfl
@[simp] theorem State.modLpu_evr (g : Lpu → Lpu) : (s.modLpu g).evr = s.evr := rfl
@[simp] theorem State.modLpu_mgu (g : Lpu → Lpu) : (s.modLpu g).mgu = s.mgu := rfl
@[simp] theorem State.modLpu_mlk (g : Lpu → Lpu) : (s.modLpu g).mlk = s.mlk := rfl
@[simp] theorem State.modLpu_now (g : Lpu → Lpu) : (s.modLpu g).now = s.now := rfl
@[simp] theorem State.modLpu_handoffs (g : Lpu → Lpu) : (s.modLpu g).handoffs = s.handoffs := rfl
@[simp] theorem State.modLpu_overrun (g : Lpu → Lpu) : (s.modLpu g).overrun = s.overrun := rfl
@[simp] theorem State.modLpu_pending (g : Lpu → Lpu) : (s.modLpu g).pending = s.pending := rfl

@[simp] theorem State.modScl_pins (g : Scl → Scl) : (s.modScl g).pins = s.pins := rfl
@[simp] theorem State.modScl_lpu (g : Scl → Scl) : (s.modScl g).lpu = s.lpu := rfl
@[simp] theorem State.modScl_scl (g : Scl → Scl) : (s.modScl g).scl = g s.scl := rfl
@[simp] theorem State.modScl_mpm (g : Scl → Scl) : (s.modScl g).mpm = s.mpm := rfl
@[simp] theorem State.modScl_rfg (g : Scl → Scl) : (s.modScl g).rfg = s.rfg := rfl
@[simp] theorem State.modScl_syu (g : Scl → Scl) : (s.modScl g).syu = s.syu := rfl
@[simp] theorem State.modScl_bsq (g : Scl → Scl) : (s.modScl g).bsq = s.bsq := rfl
@[simp] theorem State.modScl_mtr (g : Scl → Scl) : (s.modScl g).mtr = s.mtr := rfl
@[simp] theorem State.modScl_blg (g : Scl → Scl) : (s.modScl g).blg = s.blg := rfl
@[simp] theorem State.modScl_evr (g : Scl → Scl) : (s.modScl g).evr = s.evr := rfl
@[simp] theorem State.modScl_mgu (g : Scl → Scl) : (s.modScl g).mgu = s.mgu := rfl
@[simp] theorem State.modScl_mlk (g : Scl → Scl) : (s.modScl g).mlk = s.mlk := rfl
@[simp] theorem State.modScl_now (g : Scl → Scl) : (s.modScl g).now = s.now := rfl
@[simp] theorem State.modScl_handoffs (g : Scl → Scl) : (s.modScl g).handoffs = s.handoffs := rfl
@[simp] theorem State.modScl_overrun (g : Scl → Scl) : (s.modScl g).overrun = s.overrun := rfl
@[simp] theorem State.modScl_pending (g : Scl → Scl) : (s.modScl g).pending = s.pending := rfl

@[simp] theorem State.modMpm_pins (g : Mpm → Mpm) : (s.modMpm g).pins = s.pins := rfl
@[simp] theorem State.modMpm_lpu (g : Mpm → Mpm) : (s.modMpm g).lpu = s.lpu := rfl
@[simp] theorem State.modMpm_scl (g : Mpm → Mpm) : (s.modMpm g).scl = s.scl := rfl
@[simp] theorem State.modMpm_mpm (g : Mpm → Mpm) : (s.modMpm g).mpm = g s.mpm := rfl
@[simp] theorem State.modMpm_rfg (g : Mpm → Mpm) : (s.modMpm g).rfg = s.rfg := rfl
@[simp] theorem State.modMpm_syu (g : Mpm → Mpm) : (s.modMpm g).syu = s.syu := rfl
@[simp] theorem State.modMpm_bsq (g : Mpm → Mpm) : (s.modMpm g).bsq = s.bsq := rfl
@[simp] theorem State.modMpm_mtr (g : Mpm → Mpm) : (s.modMpm g).mtr = s.mtr := rfl
@[simp] theorem State.modMpm_blg (g : Mpm → Mpm) : (s.modMpm g).blg = s.blg := rfl
@[simp] theorem State.modMpm_evr (g : Mpm → Mpm) : (s.modMpm g).evr = s.evr := rfl
@[simp] theorem State.modMpm_mgu (g : Mpm → Mpm) : (s.modMpm g).mgu = s.mgu := rfl
@[simp] theorem State.modMpm_mlk (g : Mpm → Mpm) : (s.modMpm g).mlk = s.mlk := rfl
@[simp] theorem State.modMpm_now (g : Mpm → Mpm) : (s.modMpm g).now = s.now := rfl
@[simp] theorem State.modMpm_handoffs (g : Mpm → Mpm) : (s.modMpm g).handoffs = s.handoffs := rfl
@[simp] theorem State.modMpm_overrun (g : Mpm → Mpm) : (s.modMpm g).overrun = s.overrun := rfl
@[simp] theorem State.modMpm_pending (g : Mpm → Mpm) : (s.modMpm g).pending = s.pending := rfl

@[simp] theorem State.modRfg_pins (g : Rfg → Rfg) : (s.modRfg g).pins = s.pins := rfl
@[simp] theorem State.modRfg_lpu (g : Rfg → Rfg) : (s.modRfg g).lpu = s.lpu := rfl
@[simp] theorem State.modRfg_scl (g : Rfg → Rfg) : (s.modRfg g).scl = s.scl := rfl
@[simp] theorem State.modRfg_mpm (g : Rfg → Rfg) : (s.modRfg g).mpm = s.mpm := rfl
@[simp] theorem State.modRfg_rfg (g : Rfg → Rfg) : (s.modRfg g).rfg = g s.rfg := rfl
@[simp] theorem State.modRfg_syu (g : Rfg → Rfg) : (s.modRfg g).syu = s.syu := rfl
@[simp] theorem State.modRfg_bsq (g : Rfg → Rfg) : (s.modRfg g).bsq = s.bsq := rfl
@[simp] theorem State.modRfg_mtr (g : Rfg → Rfg) : (s.modRfg g).mtr = s.mtr := rfl
@[simp] theorem State.modRfg_blg (g : Rfg → Rfg) : (s.modRfg g).blg = s.blg := rfl
@[simp] theorem State.modRfg_evr (g : Rfg → Rfg) : (s.modRfg g).evr = s.evr := rfl
@[simp] theorem State.modRfg_mgu (g : Rfg → Rfg) : (s.modRfg g).mgu = s.mgu := rfl
@[simp] theorem State.modRfg_mlk (g : Rfg → Rfg) : (s.modRfg g).mlk = s.mlk := rfl
@[simp] theorem State.modRfg_now (g : Rfg → Rfg) : (s.modRfg g).now = s.now := rfl
@[simp] theorem State.modRfg_handoffs (g : Rfg → Rfg) : (s.modRfg g).handoffs = s.handoffs := rfl
@[simp] theorem State.modRfg_overrun (g : Rfg → Rfg) : (s.modRfg g).overrun = s.overrun := rfl
@[simp] theorem State.modRfg_pending (g : Rfg → Rfg) : (s.modRfg g).pending = s.pending := rfl

@[simp] theorem State.modSyu_pins (g : Syu → Syu) : (s.modSyu g).pins = s.pins := rfl
@[simp] theorem State.modSyu_lpu (g : Syu → Syu) : (s.modSyu g).lpu = s.lpu := rfl
@[simp] theorem State.modSyu_scl (g : Syu → Syu) : (s.modSyu g).scl = s.scl := rfl
@[simp] theorem State.modSyu_mpm (g : Syu → Syu) : (s.modSyu g).mpm = s.mpm := rfl
@[simp] theorem State.modSyu_rfg (g : Syu → Syu) : (s.modSyu g).rfg = s.rfg := rfl
@[simp] theorem State.modSyu_syu (g : Syu → Syu) : (s.modSyu g).syu = g s.syu := rfl
@[simp] theorem State.modSyu_bsq (g : Syu → Syu) : (s.modSyu g).bsq = s.bsq := rfl
@[simp] theorem State.modSyu_mtr (g : Syu → Syu) : (s.modSyu g).mtr = s.mtr := rfl
@[simp] theorem State.modSyu_blg (g : Syu → Syu) : (s.modSyu g).blg = s.blg := rfl
@[simp] theorem State.modSyu_evr (g : Syu → Syu) : (s.modSyu g).evr = s.evr := rfl
@[simp] theorem State.modSyu_mgu (g : Syu → Syu) : (s.modSyu g).mgu = s.mgu := rfl
@[simp] theorem State.modSyu_mlk (g : Syu → Syu) : (s.modSyu g).mlk = s.mlk := rfl
@[simp] theorem State.modSyu_now (g : Syu → Syu) : (s.modSyu g).now = s.now := rfl
@[simp] theorem State.modSyu_handoffs (g : Syu → Syu) : (s.modSyu g).handoffs = s.handoffs := rfl
@[simp] theorem State.modSyu_overrun (g : Syu → Syu) : (s.modSyu g).overrun = s.overrun := rfl
@[simp] theorem State.modSyu_pending (g : Syu → Syu) : (s.modSyu g).pending = s.pending := rfl

@[simp] theorem State.modBsq_pins (g : Bsq → Bsq) : (s.modBsq g).pins = s.pins := rfl
@[simp] theorem State.modBsq_lpu (g : Bsq → Bsq) : (s.modBsq g).lpu = s.lpu := rfl
@[simp] theorem State.modBsq_scl (g : Bsq → Bsq) : (s.modBsq g).scl = s.scl := rfl
@[simp] theorem State.modBsq_mpm (g : Bsq → Bsq) : (s.modBsq g).mpm = s.mpm := rfl
@[simp] theorem State.modBsq_rfg (g : Bsq → Bsq) : (s.modBsq g).rfg = s.rfg := rfl
@[simp] theorem State.modBsq_syu (g : Bsq → Bsq) : (s.modBsq g).syu = s.syu := rfl
@[simp] theorem State.modBsq_bsq (g : Bsq → Bsq) : (s.modBsq g).bsq = g s.bsq := rfl
@[simp] theorem State.modBsq_mtr (g : Bsq → Bsq) : (s.modBsq g).mtr = s.mtr := rfl
@[simp] theorem State.modBsq_blg (g : Bsq → Bsq) : (s.modBsq g).blg = s.blg := rfl
@[simp] theorem State.modBsq_evr (g : Bsq → Bsq) : (s.modBsq g).evr = s.evr := rfl
@[simp] theorem State.modBsq_mgu (g : Bsq → Bsq) : (s.modBsq g).mgu = s.mgu := rfl
@[simp] theorem State.modBsq_mlk (g : Bsq → Bsq) : (s.modBsq g).mlk = s.mlk := rfl
@[simp] theorem State.modBsq_now (g : Bsq → Bsq) : (s.modBsq g).now = s.now := rfl
@[simp] theorem State.modBsq_handoffs (g : Bsq → Bsq) : (s.modBsq g).handoffs = s.handoffs := rfl
@[simp] theorem State.modBsq_overrun (g : Bsq → Bsq) : (s.modBsq g).overrun = s.overrun := rfl
@[simp] theorem State.modBsq_pending (g : Bsq → Bsq) : (s.modBsq g).pending = s.pending := rfl

@[simp] theorem State.modMtr_pins (g : Mtr → Mtr) : (s.modMtr g).pins = s.pins := rfl
@[simp] theorem State.modMtr_lpu (g : Mtr → Mtr) : (s.modMtr g).lpu = s.lpu := rfl
@[simp] theorem State.modMtr_scl (g : Mtr → Mtr) : (s.modMtr g).scl = s.scl := rfl
@[simp] theorem State.modMtr_mpm (g : Mtr → Mtr) : (s.modMtr g).mpm = s.mpm := rfl
@[simp] theorem State.modMtr_rfg (g : Mtr → Mtr) : (s.modMtr g).rfg = s.rfg := rfl
@[simp] theorem State.modMtr_syu (g : Mtr → Mtr) : (s.modMtr g).syu = s.syu := rfl
@[simp] theorem State.modMtr_bsq (g : Mtr → Mtr) : (s.modMtr g).bsq = s.bsq := rfl
@[simp] theorem State.modMtr_mtr (g : Mtr → Mtr) : (s.modMtr g).mtr = g s.mtr := rfl
@[simp] theorem State.modMtr_blg (g : Mtr → Mtr) : (s.modMtr g).blg = s.blg := rfl
@[simp] theorem State.modMtr_evr (g : Mtr → Mtr) : (s.modMtr g).evr = s.evr := rfl
@[simp] theorem State.modMtr_mgu (g : Mtr → Mtr) : (s.modMtr g).mgu = s.mgu := rfl
@[simp] theorem State.modMtr_mlk (g : Mtr → Mtr) : (s.modMtr g).mlk = s.mlk := rfl
@[simp] theorem State.modMtr_now (g : Mtr → Mtr) : (s.modMtr g).now = s.now := rfl
@[simp] theorem State.modMtr_handoffs (g : Mtr → Mtr) : (s.modMtr g).handoffs = s.handoffs := rfl
@[simp] theorem State.modMtr_overrun (g : Mtr → Mtr) : (s.modMtr g).overrun = s.overrun := rfl
@[simp] theorem State.modMtr_pending (g : Mtr → Mtr) : (s.modMtr g).pending = s.pending := rfl

@[simp] theorem State.modBlg_pins (g : Blg → Blg) : (s.modBlg g).pins = s.pins := rfl
@[simp] theorem State.modBlg_lpu (g : Blg → Blg) : (s.modBlg g).lpu = s.lpu := rfl
@[simp] theorem State.modBlg_scl (g : Blg → Blg) : (s.modBlg g).scl = s.scl := rfl
@[simp] theorem State.modBlg_mpm (g : Blg → Blg) : (s.modBlg g).mpm = s.mpm := rfl
@[simp] theorem State.modBlg_rfg (g : Blg → Blg) : (s.modBlg g).rfg = s.rfg := rfl
@[simp] theorem State.modBlg_syu (g : Blg → Blg) : (s.modBlg g).syu = s.syu := rfl
@[simp] theorem State.modBlg_bsq (g : Blg → Blg) : (s.modBlg g).bsq = s.bsq := rfl
@[simp] theorem State.modBlg_mtr (g : Blg → Blg) : (s.modBlg g).mtr = s.mtr := rfl
@[simp] theorem State.modBlg_blg (g : Blg → Blg) : (s.modBlg g).blg = g s.blg := rfl
@[simp] theorem State.modBlg_evr (g : Blg → Blg) : (s.modBlg g).evr = s.evr := rfl
@[simp] theorem State.modBlg_mgu (g : Blg → Blg) : (s.modBlg g).mgu = s.mgu := rfl
@[simp] theorem State.modBlg_mlk (g : Blg → Blg) : (s.modBlg g).mlk = s.mlk := rfl
@[simp] theorem State.modBlg_now (g : Blg → Blg) : (s.modBlg g).now = s.now := rfl
@[simp] theorem State.modBlg_handoffs (g : Blg → Blg) : (s.modBlg g).handoffs = s.handoffs := rfl
@[simp] theorem State.modBlg_overrun (g : Blg → Blg) : (s.modBlg g).overrun = s.overrun := rfl
@[simp] theorem State.modBlg_pending (g : Blg → Blg) : (s.modBlg g).pending = s.pending := rfl

@[simp] theorem State.modEvr_pins (g : Evr → Evr) : (s.modEvr g).pins = s.pins := rfl
@[simp] theorem State.modEvr_lpu (g : Evr → Evr) : (s.modEvr g).lpu = s.lpu := rfl
@[simp] theorem State.modEvr_scl (g : Evr → Evr) : (s.modEvr g).scl = s.scl := rfl
@[simp] theorem State.modEvr_mpm (g : Evr → Evr) : (s.modEvr g).mpm = s.mpm := rfl
@[simp] theorem State.modEvr_rfg (g : Evr → Evr) : (s.modEvr g).rfg = s.rfg := rfl
@[simp] theorem State.modEvr_syu (g : Evr → Evr) : (s.modEvr g).syu = s.syu := rfl
@[simp] theorem State.modEvr_bsq (g : Evr → Evr) : (s.modEvr g).bsq = s.bsq := rfl
@[simp] theorem State.modEvr_mtr (g : Evr → Evr) : (s.modEvr g).mtr = s.mtr := rfl
@[simp] theorem State.modEvr_blg (g : Evr → Evr) : (s.modEvr g).blg = s.blg := rfl
@[simp] theorem State.modEvr_evr (g : Evr → Evr) : (s.modEvr g).evr = g s.evr := rfl
@[simp] theorem State.modEvr_mgu (g : Evr → Evr) : (s.modEvr g).mgu = s.mgu := rfl
@[simp] theorem State.modEvr_mlk (g : Evr → Evr) : (s.modEvr g).mlk = s.mlk := rfl
@[simp] theorem State.modEvr_now (g : Evr → Evr) : (s.modEvr g).now = s.now := rfl
@[simp] theorem State.modEvr_handoffs (g : Evr → Evr) : (s.modEvr g).handoffs = s.handoffs := rfl
@[simp] theorem State.modEvr_overrun (g : Evr → Evr) : (s.modEvr g).overrun = s.overrun := rfl
@[simp] theorem State.modEvr_pending (g : Evr → Evr) : (s.modEvr g).pending = s.pending := rfl

@[simp] theorem State.modMgu_pins (g : Mgu → Mgu) : (s.modMgu g).pins = s.pins := rfl
@[simp] theorem State.modMgu_lpu (g : Mgu → Mgu) : (s.modMgu g).lpu = s.lpu := rfl
@[simp] theorem State.modMgu_scl (g : Mgu → Mgu) : (s.modMgu g).scl = s.scl := rfl
@[simp] theorem State.modMgu_mpm (g : Mgu → Mgu) : (s.modMgu g).mpm = s.mpm := rfl
@[simp] theorem State.modMgu_rfg (g : Mgu → Mgu) : (s.modMgu g).rfg = s.rfg := rfl
@[simp] theorem State.modMgu_syu (g : Mgu → Mgu) : (s.modMgu g).syu = s.syu := rfl
@[simp] theorem State.modMgu_bsq (g : Mgu → Mgu) : (s.modMgu g).bsq = s.bsq := rfl
@[simp] theorem State.modMgu_mtr (g : Mgu → Mgu) : (s.modMgu g).mtr = s.mtr := rfl
@[simp] theorem State.modMgu_blg (g : Mgu → Mgu) : (s.modMgu g).blg = s.blg := rfl
@[simp] theorem State.modMgu_evr (g : Mgu → Mgu) : (s.modMgu g).evr = s.evr := rfl
@[simp] theorem State.modMgu_mgu (g : Mgu → Mgu) : (s.modMgu g).mgu = g s.mgu := rfl
@[simp] theorem State.modMgu_mlk (g : Mgu → Mgu) : (s.modMgu g).mlk = s.mlk := rfl
@[simp] theorem State.modMgu_now (g : Mgu → Mgu) : (s.modMgu g).now = s.now := rfl
@[simp] theorem State.modMgu_handoffs (g : Mgu → Mgu) : (s.modMgu g).handoffs = s.handoffs := rfl
@[simp] theorem State.modMgu_overrun (g : Mgu → Mgu) : (s.modMgu g).overrun = s.overrun := rfl
@[simp] theorem State.modMgu_pending (g : Mgu → Mgu) : (s.modMgu g).pending = s.pending := rfl

@[simp] theorem State.modMlk_pins (g : Mlk → Mlk) : (s.modMlk g).pins = s.pins := rfl
@[simp] theorem State.modMlk_lpu (g : Mlk → Mlk) : (s.modMlk g).lpu = s.lpu := rfl
@[simp] theorem State.modMlk_scl (g : Mlk → Mlk) : (s.modMlk g).scl = s.scl := rfl
@[simp] theorem State.modMlk_mpm (g : Mlk → Mlk) : (s.modMlk g).mpm = s.mpm := rfl
@[simp] theorem State.modMlk_rfg (g : Mlk → Mlk) : (s.modMlk g).rfg = s.rfg := rfl
@[simp] theorem State.modMlk_syu (g : Mlk → Mlk) : (s.modMlk g).syu = s.syu := rfl
@[simp] theorem State.modMlk_bsq (g : Mlk → Mlk) : (s.modMlk g).bsq = s.bsq := rfl
@[simp] theorem State.modMlk_mtr (g : Mlk → Mlk) : (s.modMlk g).mtr = s.mtr := rfl
@[simp] theorem State.modMlk_blg (g : Mlk → Mlk) : (s.modMlk g).blg = s.blg := rfl
@[simp] theorem State.modMlk_evr (g : Mlk → Mlk) : (s.modMlk g).evr = s.evr := rfl
@[simp] theorem State.modMlk_mgu (g : Mlk → Mlk) : (s.modMlk g).mgu = s.mgu := rfl
@[simp] theorem State.modMlk_mlk (g : Mlk → Mlk) : (s.modMlk g).mlk = g s.mlk := rfl
@[simp] theorem State.modMlk_now (g : Mlk → Mlk) : (s.modMlk g).now = s.now := rfl
@[simp] theorem State.modMlk_handoffs (g : Mlk → Mlk) : (s.modMlk g).handoffs = s.handoffs := rfl
@[simp] theorem State.modMlk_overrun (g : Mlk → Mlk) : (s.modMlk g).overrun = s.overrun := rfl
@[simp] theorem State.modMlk_pending (g : Mlk → Mlk) : (s.modMlk g).pending = s.pending := rfl

/-! ### Hand-offs and device time -/

@[simp] theorem State.post_pins (h : Handoff) : (s.post h).pins = s.pins := rfl
@[simp] theorem State.post_lpu (h : Handoff) : (s.post h).lpu = s.lpu := rfl
@[simp] theorem State.post_scl (h : Handoff) : (s.post h).scl = s.scl := rfl
@[simp] theorem State.post_mpm (h : Handoff) : (s.post h).mpm = s.mpm := rfl
@[simp] theorem State.post_rfg (h : Handoff) : (s.post h).rfg = s.rfg := rfl
@[simp] theorem State.post_syu (h : Handoff) : (s.post h).syu = s.syu := rfl
@[simp] theorem State.post_bsq (h : Handoff) : (s.post h).bsq = s.bsq := rfl
@[simp] theorem State.post_mtr (h : Handoff) : (s.post h).mtr = s.mtr := rfl
@[simp] theorem State.post_blg (h : Handoff) : (s.post h).blg = s.blg := rfl
@[simp] theorem State.post_evr (h : Handoff) : (s.post h).evr = s.evr := rfl
@[simp] theorem State.post_mgu (h : Handoff) : (s.post h).mgu = s.mgu := rfl
@[simp] theorem State.post_mlk (h : Handoff) : (s.post h).mlk = s.mlk := rfl
@[simp] theorem State.post_now (h : Handoff) : (s.post h).now = s.now := rfl
@[simp] theorem State.post_handoffs (h : Handoff) : (s.post h).handoffs = s.handoffs ++ [h] := rfl
@[simp] theorem State.post_overrun (h : Handoff) : (s.post h).overrun = s.overrun := rfl
@[simp] theorem State.post_pending (h : Handoff) : (s.post h).pending = s.pending := rfl

@[simp] theorem State.advanceTo_pins (t : Nat) : (s.advanceTo t).pins = s.pins := rfl
@[simp] theorem State.advanceTo_lpu (t : Nat) : (s.advanceTo t).lpu = s.lpu := rfl
@[simp] theorem State.advanceTo_scl (t : Nat) : (s.advanceTo t).scl = s.scl := rfl
@[simp] theorem State.advanceTo_mpm (t : Nat) : (s.advanceTo t).mpm = s.mpm := rfl
@[simp] theorem State.advanceTo_rfg (t : Nat) : (s.advanceTo t).rfg = s.rfg := rfl
@[simp] theorem State.advanceTo_syu (t : Nat) : (s.advanceTo t).syu = s.syu := rfl
@[simp] theorem State.advanceTo_bsq (t : Nat) : (s.advanceTo t).bsq = s.bsq := rfl
@[simp] theorem State.advanceTo_mtr (t : Nat) : (s.advanceTo t).mtr = s.mtr := rfl
@[simp] theorem State.advanceTo_blg (t : Nat) : (s.advanceTo t).blg = s.blg := rfl
@[simp] theorem State.advanceTo_evr (t : Nat) : (s.advanceTo t).evr = s.evr := rfl
@[simp] theorem State.advanceTo_mgu (t : Nat) : (s.advanceTo t).mgu = s.mgu := rfl
@[simp] theorem State.advanceTo_mlk (t : Nat) : (s.advanceTo t).mlk = s.mlk := rfl
@[simp] theorem State.advanceTo_now (t : Nat) : (s.advanceTo t).now = max s.now t := rfl
@[simp] theorem State.advanceTo_handoffs (t : Nat) : (s.advanceTo t).handoffs = s.handoffs := rfl
@[simp] theorem State.advanceTo_overrun (t : Nat) : (s.advanceTo t).overrun = s.overrun := rfl
@[simp] theorem State.advanceTo_pending (t : Nat) : (s.advanceTo t).pending = s.pending := rfl

/-! ### Changes of one record -/

@[simp] theorem State.modPoint_pins (p : Point) (g : PointRec → PointRec) : (s.modPoint p g).pins = s.pins := rfl
@[simp] theorem State.modPoint_lpu (p : Point) (g : PointRec → PointRec) : (s.modPoint p g).lpu = s.lpu := rfl
@[simp] theorem State.modPoint_scl (p : Point) (g : PointRec → PointRec) :
    (s.modPoint p g).scl = { s.scl with points := upd s.scl.points p g } := rfl
@[simp] theorem State.modPoint_mpm (p : Point) (g : PointRec → PointRec) : (s.modPoint p g).mpm = s.mpm := rfl
@[simp] theorem State.modPoint_rfg (p : Point) (g : PointRec → PointRec) : (s.modPoint p g).rfg = s.rfg := rfl
@[simp] theorem State.modPoint_syu (p : Point) (g : PointRec → PointRec) : (s.modPoint p g).syu = s.syu := rfl
@[simp] theorem State.modPoint_bsq (p : Point) (g : PointRec → PointRec) : (s.modPoint p g).bsq = s.bsq := rfl
@[simp] theorem State.modPoint_mtr (p : Point) (g : PointRec → PointRec) : (s.modPoint p g).mtr = s.mtr := rfl
@[simp] theorem State.modPoint_blg (p : Point) (g : PointRec → PointRec) : (s.modPoint p g).blg = s.blg := rfl
@[simp] theorem State.modPoint_evr (p : Point) (g : PointRec → PointRec) : (s.modPoint p g).evr = s.evr := rfl
@[simp] theorem State.modPoint_mgu (p : Point) (g : PointRec → PointRec) : (s.modPoint p g).mgu = s.mgu := rfl
@[simp] theorem State.modPoint_mlk (p : Point) (g : PointRec → PointRec) : (s.modPoint p g).mlk = s.mlk := rfl
@[simp] theorem State.modPoint_now (p : Point) (g : PointRec → PointRec) : (s.modPoint p g).now = s.now := rfl
@[simp] theorem State.modPoint_handoffs (p : Point) (g : PointRec → PointRec) :
    (s.modPoint p g).handoffs = s.handoffs := rfl
@[simp] theorem State.modPoint_overrun (p : Point) (g : PointRec → PointRec) :
    (s.modPoint p g).overrun = s.overrun := rfl
@[simp] theorem State.modPoint_pending (p : Point) (g : PointRec → PointRec) :
    (s.modPoint p g).pending = s.pending := rfl

@[simp] theorem State.modModule_pins (m : Module) (g : ModuleRec → ModuleRec) : (s.modModule m g).pins = s.pins := rfl
@[simp] theorem State.modModule_lpu (m : Module) (g : ModuleRec → ModuleRec) : (s.modModule m g).lpu = s.lpu := rfl
@[simp] theorem State.modModule_scl (m : Module) (g : ModuleRec → ModuleRec) : (s.modModule m g).scl = s.scl := rfl
@[simp] theorem State.modModule_mpm (m : Module) (g : ModuleRec → ModuleRec) :
    (s.modModule m g).mpm = { s.mpm with recs := upd s.mpm.recs m g } := rfl
@[simp] theorem State.modModule_rfg (m : Module) (g : ModuleRec → ModuleRec) : (s.modModule m g).rfg = s.rfg := rfl
@[simp] theorem State.modModule_syu (m : Module) (g : ModuleRec → ModuleRec) : (s.modModule m g).syu = s.syu := rfl
@[simp] theorem State.modModule_bsq (m : Module) (g : ModuleRec → ModuleRec) : (s.modModule m g).bsq = s.bsq := rfl
@[simp] theorem State.modModule_mtr (m : Module) (g : ModuleRec → ModuleRec) : (s.modModule m g).mtr = s.mtr := rfl
@[simp] theorem State.modModule_blg (m : Module) (g : ModuleRec → ModuleRec) : (s.modModule m g).blg = s.blg := rfl
@[simp] theorem State.modModule_evr (m : Module) (g : ModuleRec → ModuleRec) : (s.modModule m g).evr = s.evr := rfl
@[simp] theorem State.modModule_mgu (m : Module) (g : ModuleRec → ModuleRec) : (s.modModule m g).mgu = s.mgu := rfl
@[simp] theorem State.modModule_mlk (m : Module) (g : ModuleRec → ModuleRec) : (s.modModule m g).mlk = s.mlk := rfl
@[simp] theorem State.modModule_now (m : Module) (g : ModuleRec → ModuleRec) : (s.modModule m g).now = s.now := rfl
@[simp] theorem State.modModule_handoffs (m : Module) (g : ModuleRec → ModuleRec) :
    (s.modModule m g).handoffs = s.handoffs := rfl
@[simp] theorem State.modModule_overrun (m : Module) (g : ModuleRec → ModuleRec) :
    (s.modModule m g).overrun = s.overrun := rfl
@[simp] theorem State.modModule_pending (m : Module) (g : ModuleRec → ModuleRec) :
    (s.modModule m g).pending = s.pending := rfl

@[simp] theorem State.modModuleRef_pins (m : Module) (g : ModuleRef → ModuleRef) :
    (s.modModuleRef m g).pins = s.pins := rfl
@[simp] theorem State.modModuleRef_lpu (m : Module) (g : ModuleRef → ModuleRef) :
    (s.modModuleRef m g).lpu = s.lpu := rfl
@[simp] theorem State.modModuleRef_scl (m : Module) (g : ModuleRef → ModuleRef) :
    (s.modModuleRef m g).scl = s.scl := rfl
@[simp] theorem State.modModuleRef_mpm (m : Module) (g : ModuleRef → ModuleRef) :
    (s.modModuleRef m g).mpm = s.mpm := rfl
@[simp] theorem State.modModuleRef_rfg (m : Module) (g : ModuleRef → ModuleRef) :
    (s.modModuleRef m g).rfg = { s.rfg with modules := upd s.rfg.modules m g } := rfl
@[simp] theorem State.modModuleRef_syu (m : Module) (g : ModuleRef → ModuleRef) :
    (s.modModuleRef m g).syu = s.syu := rfl
@[simp] theorem State.modModuleRef_bsq (m : Module) (g : ModuleRef → ModuleRef) :
    (s.modModuleRef m g).bsq = s.bsq := rfl
@[simp] theorem State.modModuleRef_mtr (m : Module) (g : ModuleRef → ModuleRef) :
    (s.modModuleRef m g).mtr = s.mtr := rfl
@[simp] theorem State.modModuleRef_blg (m : Module) (g : ModuleRef → ModuleRef) :
    (s.modModuleRef m g).blg = s.blg := rfl
@[simp] theorem State.modModuleRef_evr (m : Module) (g : ModuleRef → ModuleRef) :
    (s.modModuleRef m g).evr = s.evr := rfl
@[simp] theorem State.modModuleRef_mgu (m : Module) (g : ModuleRef → ModuleRef) :
    (s.modModuleRef m g).mgu = s.mgu := rfl
@[simp] theorem State.modModuleRef_mlk (m : Module) (g : ModuleRef → ModuleRef) :
    (s.modModuleRef m g).mlk = s.mlk := rfl
@[simp] theorem State.modModuleRef_now (m : Module) (g : ModuleRef → ModuleRef) :
    (s.modModuleRef m g).now = s.now := rfl
@[simp] theorem State.modModuleRef_handoffs (m : Module) (g : ModuleRef → ModuleRef) :
    (s.modModuleRef m g).handoffs = s.handoffs := rfl
@[simp] theorem State.modModuleRef_overrun (m : Module) (g : ModuleRef → ModuleRef) :
    (s.modModuleRef m g).overrun = s.overrun := rfl
@[simp] theorem State.modModuleRef_pending (m : Module) (g : ModuleRef → ModuleRef) :
    (s.modModuleRef m g).pending = s.pending := rfl

@[simp] theorem State.modBerthRef_pins (b : Berth) (g : BerthRef → BerthRef) :
    (s.modBerthRef b g).pins = s.pins := rfl
@[simp] theorem State.modBerthRef_lpu (b : Berth) (g : BerthRef → BerthRef) : (s.modBerthRef b g).lpu = s.lpu := rfl
@[simp] theorem State.modBerthRef_scl (b : Berth) (g : BerthRef → BerthRef) : (s.modBerthRef b g).scl = s.scl := rfl
@[simp] theorem State.modBerthRef_mpm (b : Berth) (g : BerthRef → BerthRef) : (s.modBerthRef b g).mpm = s.mpm := rfl
@[simp] theorem State.modBerthRef_rfg (b : Berth) (g : BerthRef → BerthRef) :
    (s.modBerthRef b g).rfg = { s.rfg with berths := upd s.rfg.berths b (Option.map g) } := rfl
@[simp] theorem State.modBerthRef_syu (b : Berth) (g : BerthRef → BerthRef) : (s.modBerthRef b g).syu = s.syu := rfl
@[simp] theorem State.modBerthRef_bsq (b : Berth) (g : BerthRef → BerthRef) : (s.modBerthRef b g).bsq = s.bsq := rfl
@[simp] theorem State.modBerthRef_mtr (b : Berth) (g : BerthRef → BerthRef) : (s.modBerthRef b g).mtr = s.mtr := rfl
@[simp] theorem State.modBerthRef_blg (b : Berth) (g : BerthRef → BerthRef) : (s.modBerthRef b g).blg = s.blg := rfl
@[simp] theorem State.modBerthRef_evr (b : Berth) (g : BerthRef → BerthRef) : (s.modBerthRef b g).evr = s.evr := rfl
@[simp] theorem State.modBerthRef_mgu (b : Berth) (g : BerthRef → BerthRef) : (s.modBerthRef b g).mgu = s.mgu := rfl
@[simp] theorem State.modBerthRef_mlk (b : Berth) (g : BerthRef → BerthRef) : (s.modBerthRef b g).mlk = s.mlk := rfl
@[simp] theorem State.modBerthRef_now (b : Berth) (g : BerthRef → BerthRef) : (s.modBerthRef b g).now = s.now := rfl
@[simp] theorem State.modBerthRef_handoffs (b : Berth) (g : BerthRef → BerthRef) :
    (s.modBerthRef b g).handoffs = s.handoffs := rfl
@[simp] theorem State.modBerthRef_overrun (b : Berth) (g : BerthRef → BerthRef) :
    (s.modBerthRef b g).overrun = s.overrun := rfl
@[simp] theorem State.modBerthRef_pending (b : Berth) (g : BerthRef → BerthRef) :
    (s.modBerthRef b g).pending = s.pending := rfl

@[simp] theorem State.modBreaker_pins (t : Target) (g : BreakerEntry → BreakerEntry) :
    (s.modBreaker t g).pins = s.pins := rfl
@[simp] theorem State.modBreaker_lpu (t : Target) (g : BreakerEntry → BreakerEntry) :
    (s.modBreaker t g).lpu = s.lpu := rfl
@[simp] theorem State.modBreaker_scl (t : Target) (g : BreakerEntry → BreakerEntry) :
    (s.modBreaker t g).scl = s.scl := rfl
@[simp] theorem State.modBreaker_mpm (t : Target) (g : BreakerEntry → BreakerEntry) :
    (s.modBreaker t g).mpm = s.mpm := rfl
@[simp] theorem State.modBreaker_rfg (t : Target) (g : BreakerEntry → BreakerEntry) :
    (s.modBreaker t g).rfg = s.rfg := rfl
@[simp] theorem State.modBreaker_syu (t : Target) (g : BreakerEntry → BreakerEntry) :
    (s.modBreaker t g).syu = { s.syu with breakers := upd s.syu.breakers t g } := rfl
@[simp] theorem State.modBreaker_bsq (t : Target) (g : BreakerEntry → BreakerEntry) :
    (s.modBreaker t g).bsq = s.bsq := rfl
@[simp] theorem State.modBreaker_mtr (t : Target) (g : BreakerEntry → BreakerEntry) :
    (s.modBreaker t g).mtr = s.mtr := rfl
@[simp] theorem State.modBreaker_blg (t : Target) (g : BreakerEntry → BreakerEntry) :
    (s.modBreaker t g).blg = s.blg := rfl
@[simp] theorem State.modBreaker_evr (t : Target) (g : BreakerEntry → BreakerEntry) :
    (s.modBreaker t g).evr = s.evr := rfl
@[simp] theorem State.modBreaker_mgu (t : Target) (g : BreakerEntry → BreakerEntry) :
    (s.modBreaker t g).mgu = s.mgu := rfl
@[simp] theorem State.modBreaker_mlk (t : Target) (g : BreakerEntry → BreakerEntry) :
    (s.modBreaker t g).mlk = s.mlk := rfl
@[simp] theorem State.modBreaker_now (t : Target) (g : BreakerEntry → BreakerEntry) :
    (s.modBreaker t g).now = s.now := rfl
@[simp] theorem State.modBreaker_handoffs (t : Target) (g : BreakerEntry → BreakerEntry) :
    (s.modBreaker t g).handoffs = s.handoffs := rfl
@[simp] theorem State.modBreaker_overrun (t : Target) (g : BreakerEntry → BreakerEntry) :
    (s.modBreaker t g).overrun = s.overrun := rfl
@[simp] theorem State.modBreaker_pending (t : Target) (g : BreakerEntry → BreakerEntry) :
    (s.modBreaker t g).pending = s.pending := rfl

@[simp] theorem State.modChan_pins (c : Chan) (g : Option ChanWork → Option ChanWork) :
    (s.modChan c g).pins = s.pins := rfl
@[simp] theorem State.modChan_lpu (c : Chan) (g : Option ChanWork → Option ChanWork) :
    (s.modChan c g).lpu = s.lpu := rfl
@[simp] theorem State.modChan_scl (c : Chan) (g : Option ChanWork → Option ChanWork) :
    (s.modChan c g).scl = s.scl := rfl
@[simp] theorem State.modChan_mpm (c : Chan) (g : Option ChanWork → Option ChanWork) :
    (s.modChan c g).mpm = s.mpm := rfl
@[simp] theorem State.modChan_rfg (c : Chan) (g : Option ChanWork → Option ChanWork) :
    (s.modChan c g).rfg = s.rfg := rfl
@[simp] theorem State.modChan_syu (c : Chan) (g : Option ChanWork → Option ChanWork) :
    (s.modChan c g).syu = { s.syu with chans := upd s.syu.chans c g } := rfl
@[simp] theorem State.modChan_bsq (c : Chan) (g : Option ChanWork → Option ChanWork) :
    (s.modChan c g).bsq = s.bsq := rfl
@[simp] theorem State.modChan_mtr (c : Chan) (g : Option ChanWork → Option ChanWork) :
    (s.modChan c g).mtr = s.mtr := rfl
@[simp] theorem State.modChan_blg (c : Chan) (g : Option ChanWork → Option ChanWork) :
    (s.modChan c g).blg = s.blg := rfl
@[simp] theorem State.modChan_evr (c : Chan) (g : Option ChanWork → Option ChanWork) :
    (s.modChan c g).evr = s.evr := rfl
@[simp] theorem State.modChan_mgu (c : Chan) (g : Option ChanWork → Option ChanWork) :
    (s.modChan c g).mgu = s.mgu := rfl
@[simp] theorem State.modChan_mlk (c : Chan) (g : Option ChanWork → Option ChanWork) :
    (s.modChan c g).mlk = s.mlk := rfl
@[simp] theorem State.modChan_now (c : Chan) (g : Option ChanWork → Option ChanWork) :
    (s.modChan c g).now = s.now := rfl
@[simp] theorem State.modChan_handoffs (c : Chan) (g : Option ChanWork → Option ChanWork) :
    (s.modChan c g).handoffs = s.handoffs := rfl
@[simp] theorem State.modChan_overrun (c : Chan) (g : Option ChanWork → Option ChanWork) :
    (s.modChan c g).overrun = s.overrun := rfl
@[simp] theorem State.modChan_pending (c : Chan) (g : Option ChanWork → Option ChanWork) :
    (s.modChan c g).pending = s.pending := rfl

@[simp] theorem State.setCloseHeld_pins (t : Target) (v : Bool) : (s.setCloseHeld t v).pins = s.pins := rfl
@[simp] theorem State.setCloseHeld_lpu (t : Target) (v : Bool) : (s.setCloseHeld t v).lpu = s.lpu := rfl
@[simp] theorem State.setCloseHeld_scl (t : Target) (v : Bool) : (s.setCloseHeld t v).scl = s.scl := rfl
@[simp] theorem State.setCloseHeld_mpm (t : Target) (v : Bool) : (s.setCloseHeld t v).mpm = s.mpm := rfl
@[simp] theorem State.setCloseHeld_rfg (t : Target) (v : Bool) : (s.setCloseHeld t v).rfg = s.rfg := rfl
@[simp] theorem State.setCloseHeld_syu (t : Target) (v : Bool) :
    (s.setCloseHeld t v).syu = { s.syu with closeHeld := upd s.syu.closeHeld t fun _ => v } := rfl
@[simp] theorem State.setCloseHeld_bsq (t : Target) (v : Bool) : (s.setCloseHeld t v).bsq = s.bsq := rfl
@[simp] theorem State.setCloseHeld_mtr (t : Target) (v : Bool) : (s.setCloseHeld t v).mtr = s.mtr := rfl
@[simp] theorem State.setCloseHeld_blg (t : Target) (v : Bool) : (s.setCloseHeld t v).blg = s.blg := rfl
@[simp] theorem State.setCloseHeld_evr (t : Target) (v : Bool) : (s.setCloseHeld t v).evr = s.evr := rfl
@[simp] theorem State.setCloseHeld_mgu (t : Target) (v : Bool) : (s.setCloseHeld t v).mgu = s.mgu := rfl
@[simp] theorem State.setCloseHeld_mlk (t : Target) (v : Bool) : (s.setCloseHeld t v).mlk = s.mlk := rfl
@[simp] theorem State.setCloseHeld_now (t : Target) (v : Bool) : (s.setCloseHeld t v).now = s.now := rfl
@[simp] theorem State.setCloseHeld_handoffs (t : Target) (v : Bool) :
    (s.setCloseHeld t v).handoffs = s.handoffs := rfl
@[simp] theorem State.setCloseHeld_overrun (t : Target) (v : Bool) : (s.setCloseHeld t v).overrun = s.overrun := rfl
@[simp] theorem State.setCloseHeld_pending (t : Target) (v : Bool) : (s.setCloseHeld t v).pending = s.pending := rfl

@[simp] theorem State.modBerth_pins (b : Berth) (g : BerthRec → BerthRec) : (s.modBerth b g).pins = s.pins := rfl
@[simp] theorem State.modBerth_lpu (b : Berth) (g : BerthRec → BerthRec) : (s.modBerth b g).lpu = s.lpu := rfl
@[simp] theorem State.modBerth_scl (b : Berth) (g : BerthRec → BerthRec) : (s.modBerth b g).scl = s.scl := rfl
@[simp] theorem State.modBerth_mpm (b : Berth) (g : BerthRec → BerthRec) : (s.modBerth b g).mpm = s.mpm := rfl
@[simp] theorem State.modBerth_rfg (b : Berth) (g : BerthRec → BerthRec) : (s.modBerth b g).rfg = s.rfg := rfl
@[simp] theorem State.modBerth_syu (b : Berth) (g : BerthRec → BerthRec) : (s.modBerth b g).syu = s.syu := rfl
@[simp] theorem State.modBerth_bsq (b : Berth) (g : BerthRec → BerthRec) :
    (s.modBerth b g).bsq = { s.bsq with recs := upd s.bsq.recs b g } := rfl
@[simp] theorem State.modBerth_mtr (b : Berth) (g : BerthRec → BerthRec) : (s.modBerth b g).mtr = s.mtr := rfl
@[simp] theorem State.modBerth_blg (b : Berth) (g : BerthRec → BerthRec) : (s.modBerth b g).blg = s.blg := rfl
@[simp] theorem State.modBerth_evr (b : Berth) (g : BerthRec → BerthRec) : (s.modBerth b g).evr = s.evr := rfl
@[simp] theorem State.modBerth_mgu (b : Berth) (g : BerthRec → BerthRec) : (s.modBerth b g).mgu = s.mgu := rfl
@[simp] theorem State.modBerth_mlk (b : Berth) (g : BerthRec → BerthRec) : (s.modBerth b g).mlk = s.mlk := rfl
@[simp] theorem State.modBerth_now (b : Berth) (g : BerthRec → BerthRec) : (s.modBerth b g).now = s.now := rfl
@[simp] theorem State.modBerth_handoffs (b : Berth) (g : BerthRec → BerthRec) :
    (s.modBerth b g).handoffs = s.handoffs := rfl
@[simp] theorem State.modBerth_overrun (b : Berth) (g : BerthRec → BerthRec) :
    (s.modBerth b g).overrun = s.overrun := rfl
@[simp] theorem State.modBerth_pending (b : Berth) (g : BerthRec → BerthRec) :
    (s.modBerth b g).pending = s.pending := rfl

@[simp] theorem State.setShip_pins (b : Berth) (r : Option ShipRec) : (s.setShip b r).pins = s.pins := rfl
@[simp] theorem State.setShip_lpu (b : Berth) (r : Option ShipRec) : (s.setShip b r).lpu = s.lpu := rfl
@[simp] theorem State.setShip_scl (b : Berth) (r : Option ShipRec) : (s.setShip b r).scl = s.scl := rfl
@[simp] theorem State.setShip_mpm (b : Berth) (r : Option ShipRec) : (s.setShip b r).mpm = s.mpm := rfl
@[simp] theorem State.setShip_rfg (b : Berth) (r : Option ShipRec) : (s.setShip b r).rfg = s.rfg := rfl
@[simp] theorem State.setShip_syu (b : Berth) (r : Option ShipRec) : (s.setShip b r).syu = s.syu := rfl
@[simp] theorem State.setShip_bsq (b : Berth) (r : Option ShipRec) :
    (s.setShip b r).bsq = { s.bsq with ships := upd s.bsq.ships b fun _ => r } := rfl
@[simp] theorem State.setShip_mtr (b : Berth) (r : Option ShipRec) : (s.setShip b r).mtr = s.mtr := rfl
@[simp] theorem State.setShip_blg (b : Berth) (r : Option ShipRec) : (s.setShip b r).blg = s.blg := rfl
@[simp] theorem State.setShip_evr (b : Berth) (r : Option ShipRec) : (s.setShip b r).evr = s.evr := rfl
@[simp] theorem State.setShip_mgu (b : Berth) (r : Option ShipRec) : (s.setShip b r).mgu = s.mgu := rfl
@[simp] theorem State.setShip_mlk (b : Berth) (r : Option ShipRec) : (s.setShip b r).mlk = s.mlk := rfl
@[simp] theorem State.setShip_now (b : Berth) (r : Option ShipRec) : (s.setShip b r).now = s.now := rfl
@[simp] theorem State.setShip_handoffs (b : Berth) (r : Option ShipRec) : (s.setShip b r).handoffs = s.handoffs := rfl
@[simp] theorem State.setShip_overrun (b : Berth) (r : Option ShipRec) : (s.setShip b r).overrun = s.overrun := rfl
@[simp] theorem State.setShip_pending (b : Berth) (r : Option ShipRec) : (s.setShip b r).pending = s.pending := rfl

@[simp] theorem State.modMeter_pins (b : Berth) (g : MeterRec → MeterRec) : (s.modMeter b g).pins = s.pins := rfl
@[simp] theorem State.modMeter_lpu (b : Berth) (g : MeterRec → MeterRec) : (s.modMeter b g).lpu = s.lpu := rfl
@[simp] theorem State.modMeter_scl (b : Berth) (g : MeterRec → MeterRec) : (s.modMeter b g).scl = s.scl := rfl
@[simp] theorem State.modMeter_mpm (b : Berth) (g : MeterRec → MeterRec) : (s.modMeter b g).mpm = s.mpm := rfl
@[simp] theorem State.modMeter_rfg (b : Berth) (g : MeterRec → MeterRec) : (s.modMeter b g).rfg = s.rfg := rfl
@[simp] theorem State.modMeter_syu (b : Berth) (g : MeterRec → MeterRec) : (s.modMeter b g).syu = s.syu := rfl
@[simp] theorem State.modMeter_bsq (b : Berth) (g : MeterRec → MeterRec) : (s.modMeter b g).bsq = s.bsq := rfl
@[simp] theorem State.modMeter_mtr (b : Berth) (g : MeterRec → MeterRec) :
    (s.modMeter b g).mtr = { s.mtr with recs := upd s.mtr.recs b g } := rfl
@[simp] theorem State.modMeter_blg (b : Berth) (g : MeterRec → MeterRec) : (s.modMeter b g).blg = s.blg := rfl
@[simp] theorem State.modMeter_evr (b : Berth) (g : MeterRec → MeterRec) : (s.modMeter b g).evr = s.evr := rfl
@[simp] theorem State.modMeter_mgu (b : Berth) (g : MeterRec → MeterRec) : (s.modMeter b g).mgu = s.mgu := rfl
@[simp] theorem State.modMeter_mlk (b : Berth) (g : MeterRec → MeterRec) : (s.modMeter b g).mlk = s.mlk := rfl
@[simp] theorem State.modMeter_now (b : Berth) (g : MeterRec → MeterRec) : (s.modMeter b g).now = s.now := rfl
@[simp] theorem State.modMeter_handoffs (b : Berth) (g : MeterRec → MeterRec) :
    (s.modMeter b g).handoffs = s.handoffs := rfl
@[simp] theorem State.modMeter_overrun (b : Berth) (g : MeterRec → MeterRec) :
    (s.modMeter b g).overrun = s.overrun := rfl
@[simp] theorem State.modMeter_pending (b : Berth) (g : MeterRec → MeterRec) :
    (s.modMeter b g).pending = s.pending := rfl

@[simp] theorem State.modUnbilled_pins (b : Berth) (g : Unbilled → Unbilled) :
    (s.modUnbilled b g).pins = s.pins := rfl
@[simp] theorem State.modUnbilled_lpu (b : Berth) (g : Unbilled → Unbilled) : (s.modUnbilled b g).lpu = s.lpu := rfl
@[simp] theorem State.modUnbilled_scl (b : Berth) (g : Unbilled → Unbilled) : (s.modUnbilled b g).scl = s.scl := rfl
@[simp] theorem State.modUnbilled_mpm (b : Berth) (g : Unbilled → Unbilled) : (s.modUnbilled b g).mpm = s.mpm := rfl
@[simp] theorem State.modUnbilled_rfg (b : Berth) (g : Unbilled → Unbilled) : (s.modUnbilled b g).rfg = s.rfg := rfl
@[simp] theorem State.modUnbilled_syu (b : Berth) (g : Unbilled → Unbilled) : (s.modUnbilled b g).syu = s.syu := rfl
@[simp] theorem State.modUnbilled_bsq (b : Berth) (g : Unbilled → Unbilled) : (s.modUnbilled b g).bsq = s.bsq := rfl
@[simp] theorem State.modUnbilled_mtr (b : Berth) (g : Unbilled → Unbilled) :
    (s.modUnbilled b g).mtr = { s.mtr with unbilled := upd s.mtr.unbilled b g } := rfl
@[simp] theorem State.modUnbilled_blg (b : Berth) (g : Unbilled → Unbilled) : (s.modUnbilled b g).blg = s.blg := rfl
@[simp] theorem State.modUnbilled_evr (b : Berth) (g : Unbilled → Unbilled) : (s.modUnbilled b g).evr = s.evr := rfl
@[simp] theorem State.modUnbilled_mgu (b : Berth) (g : Unbilled → Unbilled) : (s.modUnbilled b g).mgu = s.mgu := rfl
@[simp] theorem State.modUnbilled_mlk (b : Berth) (g : Unbilled → Unbilled) : (s.modUnbilled b g).mlk = s.mlk := rfl
@[simp] theorem State.modUnbilled_now (b : Berth) (g : Unbilled → Unbilled) : (s.modUnbilled b g).now = s.now := rfl
@[simp] theorem State.modUnbilled_handoffs (b : Berth) (g : Unbilled → Unbilled) :
    (s.modUnbilled b g).handoffs = s.handoffs := rfl
@[simp] theorem State.modUnbilled_overrun (b : Berth) (g : Unbilled → Unbilled) :
    (s.modUnbilled b g).overrun = s.overrun := rfl
@[simp] theorem State.modUnbilled_pending (b : Berth) (g : Unbilled → Unbilled) :
    (s.modUnbilled b g).pending = s.pending := rfl

@[simp] theorem State.modSlot_pins (b : Berth) (g : Slot → Slot) : (s.modSlot b g).pins = s.pins := rfl
@[simp] theorem State.modSlot_lpu (b : Berth) (g : Slot → Slot) : (s.modSlot b g).lpu = s.lpu := rfl
@[simp] theorem State.modSlot_scl (b : Berth) (g : Slot → Slot) : (s.modSlot b g).scl = s.scl := rfl
@[simp] theorem State.modSlot_mpm (b : Berth) (g : Slot → Slot) : (s.modSlot b g).mpm = s.mpm := rfl
@[simp] theorem State.modSlot_rfg (b : Berth) (g : Slot → Slot) : (s.modSlot b g).rfg = s.rfg := rfl
@[simp] theorem State.modSlot_syu (b : Berth) (g : Slot → Slot) : (s.modSlot b g).syu = s.syu := rfl
@[simp] theorem State.modSlot_bsq (b : Berth) (g : Slot → Slot) : (s.modSlot b g).bsq = s.bsq := rfl
@[simp] theorem State.modSlot_mtr (b : Berth) (g : Slot → Slot) : (s.modSlot b g).mtr = s.mtr := rfl
@[simp] theorem State.modSlot_blg (b : Berth) (g : Slot → Slot) :
    (s.modSlot b g).blg = { s.blg with slots := upd s.blg.slots b g } := rfl
@[simp] theorem State.modSlot_evr (b : Berth) (g : Slot → Slot) : (s.modSlot b g).evr = s.evr := rfl
@[simp] theorem State.modSlot_mgu (b : Berth) (g : Slot → Slot) : (s.modSlot b g).mgu = s.mgu := rfl
@[simp] theorem State.modSlot_mlk (b : Berth) (g : Slot → Slot) : (s.modSlot b g).mlk = s.mlk := rfl
@[simp] theorem State.modSlot_now (b : Berth) (g : Slot → Slot) : (s.modSlot b g).now = s.now := rfl
@[simp] theorem State.modSlot_handoffs (b : Berth) (g : Slot → Slot) : (s.modSlot b g).handoffs = s.handoffs := rfl
@[simp] theorem State.modSlot_overrun (b : Berth) (g : Slot → Slot) : (s.modSlot b g).overrun = s.overrun := rfl
@[simp] theorem State.modSlot_pending (b : Berth) (g : Slot → Slot) : (s.modSlot b g).pending = s.pending := rfl

@[simp] theorem State.modEntry_pins (e : EventIx) (g : EventEntry → EventEntry) :
    (s.modEntry e g).pins = s.pins := rfl
@[simp] theorem State.modEntry_lpu (e : EventIx) (g : EventEntry → EventEntry) : (s.modEntry e g).lpu = s.lpu := rfl
@[simp] theorem State.modEntry_scl (e : EventIx) (g : EventEntry → EventEntry) : (s.modEntry e g).scl = s.scl := rfl
@[simp] theorem State.modEntry_mpm (e : EventIx) (g : EventEntry → EventEntry) : (s.modEntry e g).mpm = s.mpm := rfl
@[simp] theorem State.modEntry_rfg (e : EventIx) (g : EventEntry → EventEntry) : (s.modEntry e g).rfg = s.rfg := rfl
@[simp] theorem State.modEntry_syu (e : EventIx) (g : EventEntry → EventEntry) : (s.modEntry e g).syu = s.syu := rfl
@[simp] theorem State.modEntry_bsq (e : EventIx) (g : EventEntry → EventEntry) : (s.modEntry e g).bsq = s.bsq := rfl
@[simp] theorem State.modEntry_mtr (e : EventIx) (g : EventEntry → EventEntry) : (s.modEntry e g).mtr = s.mtr := rfl
@[simp] theorem State.modEntry_blg (e : EventIx) (g : EventEntry → EventEntry) : (s.modEntry e g).blg = s.blg := rfl
@[simp] theorem State.modEntry_evr (e : EventIx) (g : EventEntry → EventEntry) :
    (s.modEntry e g).evr = { s.evr with entries := upd s.evr.entries e g } := rfl
@[simp] theorem State.modEntry_mgu (e : EventIx) (g : EventEntry → EventEntry) : (s.modEntry e g).mgu = s.mgu := rfl
@[simp] theorem State.modEntry_mlk (e : EventIx) (g : EventEntry → EventEntry) : (s.modEntry e g).mlk = s.mlk := rfl
@[simp] theorem State.modEntry_now (e : EventIx) (g : EventEntry → EventEntry) : (s.modEntry e g).now = s.now := rfl
@[simp] theorem State.modEntry_handoffs (e : EventIx) (g : EventEntry → EventEntry) :
    (s.modEntry e g).handoffs = s.handoffs := rfl
@[simp] theorem State.modEntry_overrun (e : EventIx) (g : EventEntry → EventEntry) :
    (s.modEntry e g).overrun = s.overrun := rfl
@[simp] theorem State.modEntry_pending (e : EventIx) (g : EventEntry → EventEntry) :
    (s.modEntry e g).pending = s.pending := rfl

@[simp] theorem State.count_pins (g : LinkCounters → LinkCounters) : (s.count g).pins = s.pins := rfl
@[simp] theorem State.count_lpu (g : LinkCounters → LinkCounters) :
    (s.count g).lpu = { s.lpu with counters := g s.lpu.counters } := rfl
@[simp] theorem State.count_scl (g : LinkCounters → LinkCounters) : (s.count g).scl = s.scl := rfl
@[simp] theorem State.count_mpm (g : LinkCounters → LinkCounters) : (s.count g).mpm = s.mpm := rfl
@[simp] theorem State.count_rfg (g : LinkCounters → LinkCounters) : (s.count g).rfg = s.rfg := rfl
@[simp] theorem State.count_syu (g : LinkCounters → LinkCounters) : (s.count g).syu = s.syu := rfl
@[simp] theorem State.count_bsq (g : LinkCounters → LinkCounters) : (s.count g).bsq = s.bsq := rfl
@[simp] theorem State.count_mtr (g : LinkCounters → LinkCounters) : (s.count g).mtr = s.mtr := rfl
@[simp] theorem State.count_blg (g : LinkCounters → LinkCounters) : (s.count g).blg = s.blg := rfl
@[simp] theorem State.count_evr (g : LinkCounters → LinkCounters) : (s.count g).evr = s.evr := rfl
@[simp] theorem State.count_mgu (g : LinkCounters → LinkCounters) : (s.count g).mgu = s.mgu := rfl
@[simp] theorem State.count_mlk (g : LinkCounters → LinkCounters) : (s.count g).mlk = s.mlk := rfl
@[simp] theorem State.count_now (g : LinkCounters → LinkCounters) : (s.count g).now = s.now := rfl
@[simp] theorem State.count_handoffs (g : LinkCounters → LinkCounters) : (s.count g).handoffs = s.handoffs := rfl
@[simp] theorem State.count_overrun (g : LinkCounters → LinkCounters) : (s.count g).overrun = s.overrun := rfl
@[simp] theorem State.count_pending (g : LinkCounters → LinkCounters) : (s.count g).pending = s.pending := rfl

end

end Sys2Proof.Machine
end

