-- ==== Sys2Proof/Laws/Frame.lean ====
section
/-! SUPPORT. Which blocks each shared operation leaves alone: one lemma per operation. -/

namespace Sys2Proof.Machine


/-! ### Folds -/

section

variable {α : Type} {f : State → α → State}

@[simp] theorem foldl_pins (h : ∀ s x, (f s x).pins = s.pins) (xs : List α) (s : State) :
    (xs.foldl f s).pins = s.pins := by
  induction xs generalizing s with
  | nil => rfl
  | cons a as ih => simp [ih, h]

@[simp] theorem foldl_lpu (h : ∀ s x, (f s x).lpu = s.lpu) (xs : List α) (s : State) :
    (xs.foldl f s).lpu = s.lpu := by
  induction xs generalizing s with
  | nil => rfl
  | cons a as ih => simp [ih, h]

@[simp] theorem foldl_scl (h : ∀ s x, (f s x).scl = s.scl) (xs : List α) (s : State) :
    (xs.foldl f s).scl = s.scl := by
  induction xs generalizing s with
  | nil => rfl
  | cons a as ih => simp [ih, h]

@[simp] theorem foldl_mpm (h : ∀ s x, (f s x).mpm = s.mpm) (xs : List α) (s : State) :
    (xs.foldl f s).mpm = s.mpm := by
  induction xs generalizing s with
  | nil => rfl
  | cons a as ih => simp [ih, h]

@[simp] theorem foldl_rfg (h : ∀ s x, (f s x).rfg = s.rfg) (xs : List α) (s : State) :
    (xs.foldl f s).rfg = s.rfg := by
  induction xs generalizing s with
  | nil => rfl
  | cons a as ih => simp [ih, h]

@[simp] theorem foldl_syu (h : ∀ s x, (f s x).syu = s.syu) (xs : List α) (s : State) :
    (xs.foldl f s).syu = s.syu := by
  induction xs generalizing s with
  | nil => rfl
  | cons a as ih => simp [ih, h]

@[simp] theorem foldl_bsq (h : ∀ s x, (f s x).bsq = s.bsq) (xs : List α) (s : State) :
    (xs.foldl f s).bsq = s.bsq := by
  induction xs generalizing s with
  | nil => rfl
  | cons a as ih => simp [ih, h]

@[simp] theorem foldl_mtr (h : ∀ s x, (f s x).mtr = s.mtr) (xs : List α) (s : State) :
    (xs.foldl f s).mtr = s.mtr := by
  induction xs generalizing s with
  | nil => rfl
  | cons a as ih => simp [ih, h]

@[simp] theorem foldl_blg (h : ∀ s x, (f s x).blg = s.blg) (xs : List α) (s : State) :
    (xs.foldl f s).blg = s.blg := by
  induction xs generalizing s with
  | nil => rfl
  | cons a as ih => simp [ih, h]

@[simp] theorem foldl_evr (h : ∀ s x, (f s x).evr = s.evr) (xs : List α) (s : State) :
    (xs.foldl f s).evr = s.evr := by
  induction xs generalizing s with
  | nil => rfl
  | cons a as ih => simp [ih, h]

@[simp] theorem foldl_mgu (h : ∀ s x, (f s x).mgu = s.mgu) (xs : List α) (s : State) :
    (xs.foldl f s).mgu = s.mgu := by
  induction xs generalizing s with
  | nil => rfl
  | cons a as ih => simp [ih, h]

@[simp] theorem foldl_mlk (h : ∀ s x, (f s x).mlk = s.mlk) (xs : List α) (s : State) :
    (xs.foldl f s).mlk = s.mlk := by
  induction xs generalizing s with
  | nil => rfl
  | cons a as ih => simp [ih, h]

@[simp] theorem foldl_now (h : ∀ s x, (f s x).now = s.now) (xs : List α) (s : State) :
    (xs.foldl f s).now = s.now := by
  induction xs generalizing s with
  | nil => rfl
  | cons a as ih => simp [ih, h]

@[simp] theorem foldl_handoffs (h : ∀ s x, (f s x).handoffs = s.handoffs) (xs : List α) (s : State) :
    (xs.foldl f s).handoffs = s.handoffs := by
  induction xs generalizing s with
  | nil => rfl
  | cons a as ih => simp [ih, h]

@[simp] theorem foldl_overrun (h : ∀ s x, (f s x).overrun = s.overrun) (xs : List α) (s : State) :
    (xs.foldl f s).overrun = s.overrun := by
  induction xs generalizing s with
  | nil => rfl
  | cons a as ih => simp [ih, h]

@[simp] theorem foldl_pending (h : ∀ s x, (f s x).pending = s.pending) (xs : List α) (s : State) :
    (xs.foldl f s).pending = s.pending := by
  induction xs generalizing s with
  | nil => rfl
  | cons a as ih => simp [ih, h]

end


/-! ### The operations -/

@[simp] theorem sendOwn_frame (dest kind flags : Nat) (payload : List Byte) (s : State) :
    (sendOwn dest kind flags payload s).pins = s.pins ∧ (sendOwn dest kind flags payload s).scl = s.scl ∧
    (sendOwn dest kind flags payload s).mpm = s.mpm ∧ (sendOwn dest kind flags payload s).rfg = s.rfg ∧
    (sendOwn dest kind flags payload s).syu = s.syu ∧ (sendOwn dest kind flags payload s).bsq = s.bsq ∧
    (sendOwn dest kind flags payload s).mtr = s.mtr ∧ (sendOwn dest kind flags payload s).blg = s.blg ∧
    (sendOwn dest kind flags payload s).evr = s.evr ∧ (sendOwn dest kind flags payload s).mgu = s.mgu ∧
    (sendOwn dest kind flags payload s).mlk = s.mlk ∧ (sendOwn dest kind flags payload s).now = s.now ∧
    (sendOwn dest kind flags payload s).handoffs = s.handoffs ∧
    (sendOwn dest kind flags payload s).overrun = s.overrun ∧
    (sendOwn dest kind flags payload s).pending = s.pending := by
  simp [sendOwn]

@[simp] theorem onPollSent_frame (m : Module) (number : Nat) (s : State) :
    (onPollSent m number s).pins = s.pins ∧ (onPollSent m number s).lpu = s.lpu ∧
    (onPollSent m number s).scl = s.scl ∧ (onPollSent m number s).rfg = s.rfg ∧
    (onPollSent m number s).syu = s.syu ∧ (onPollSent m number s).bsq = s.bsq ∧
    (onPollSent m number s).mtr = s.mtr ∧ (onPollSent m number s).blg = s.blg ∧
    (onPollSent m number s).evr = s.evr ∧ (onPollSent m number s).mgu = s.mgu ∧
    (onPollSent m number s).mlk = s.mlk ∧ (onPollSent m number s).now = s.now ∧
    (onPollSent m number s).handoffs = s.handoffs ∧ (onPollSent m number s).overrun = s.overrun ∧
    (onPollSent m number s).pending = s.pending := by
  simp [onPollSent]

@[simp] theorem onSetpSent_frame (f : Setp) (s : State) :
    (onSetpSent f s).pins = s.pins ∧ (onSetpSent f s).lpu = s.lpu ∧ (onSetpSent f s).scl = s.scl ∧
    (onSetpSent f s).mpm = s.mpm ∧ (onSetpSent f s).syu = s.syu ∧ (onSetpSent f s).bsq = s.bsq ∧
    (onSetpSent f s).mtr = s.mtr ∧ (onSetpSent f s).blg = s.blg ∧ (onSetpSent f s).evr = s.evr ∧
    (onSetpSent f s).mgu = s.mgu ∧ (onSetpSent f s).mlk = s.mlk ∧ (onSetpSent f s).now = s.now ∧
    (onSetpSent f s).handoffs = s.handoffs ∧ (onSetpSent f s).overrun = s.overrun ∧
    (onSetpSent f s).pending = s.pending := by
  simp [onSetpSent]

@[simp] theorem onControlSent_frame (f : ControlFrame) (s : State) :
    (onControlSent f s).pins = s.pins ∧ (onControlSent f s).lpu = s.lpu ∧ (onControlSent f s).scl = s.scl ∧
    (onControlSent f s).syu = s.syu ∧ (onControlSent f s).bsq = s.bsq ∧ (onControlSent f s).mtr = s.mtr ∧
    (onControlSent f s).blg = s.blg ∧ (onControlSent f s).evr = s.evr ∧ (onControlSent f s).mgu = s.mgu ∧
    (onControlSent f s).mlk = s.mlk ∧ (onControlSent f s).now = s.now ∧ (onControlSent f s).handoffs = s.handoffs ∧
    (onControlSent f s).overrun = s.overrun ∧ (onControlSent f s).pending = s.pending := by
  cases f <;> simp [onControlSent]

@[simp] theorem sendProtect_frame (c : Bcmd) (rest : List Bcmd) (s : State) :
    (sendProtect c rest s).pins = s.pins ∧ (sendProtect c rest s).scl = s.scl ∧
    (sendProtect c rest s).mpm = s.mpm ∧ (sendProtect c rest s).rfg = s.rfg ∧ (sendProtect c rest s).syu = s.syu ∧
    (sendProtect c rest s).bsq = s.bsq ∧ (sendProtect c rest s).mtr = s.mtr ∧ (sendProtect c rest s).blg = s.blg ∧
    (sendProtect c rest s).evr = s.evr ∧ (sendProtect c rest s).mgu = s.mgu ∧ (sendProtect c rest s).mlk = s.mlk ∧
    (sendProtect c rest s).now = s.now ∧ (sendProtect c rest s).handoffs = s.handoffs ∧
    (sendProtect c rest s).overrun = s.overrun ∧ (sendProtect c rest s).pending = s.pending := by
  simp [sendProtect]

@[simp] theorem sendControl_frame (p : ControlPlace) (rest : List ControlPlace) (s : State) :
    (sendControl p rest s).pins = s.pins ∧ (sendControl p rest s).scl = s.scl ∧
    (sendControl p rest s).syu = s.syu ∧ (sendControl p rest s).bsq = s.bsq ∧ (sendControl p rest s).mtr = s.mtr ∧
    (sendControl p rest s).blg = s.blg ∧ (sendControl p rest s).evr = s.evr ∧ (sendControl p rest s).mgu = s.mgu ∧
    (sendControl p rest s).mlk = s.mlk ∧ (sendControl p rest s).now = s.now ∧
    (sendControl p rest s).handoffs = s.handoffs ∧ (sendControl p rest s).overrun = s.overrun ∧
    (sendControl p rest s).pending = s.pending := by
  simp [sendControl]

@[simp] theorem sendForward_frame (f : List Byte) (rest : List (List Byte)) (s : State) :
    (sendForward f rest s).pins = s.pins ∧ (sendForward f rest s).scl = s.scl ∧
    (sendForward f rest s).mpm = s.mpm ∧ (sendForward f rest s).rfg = s.rfg ∧ (sendForward f rest s).syu = s.syu ∧
    (sendForward f rest s).bsq = s.bsq ∧ (sendForward f rest s).mtr = s.mtr ∧ (sendForward f rest s).blg = s.blg ∧
    (sendForward f rest s).evr = s.evr ∧ (sendForward f rest s).mgu = s.mgu ∧ (sendForward f rest s).mlk = s.mlk ∧
    (sendForward f rest s).now = s.now ∧ (sendForward f rest s).handoffs = s.handoffs ∧
    (sendForward f rest s).overrun = s.overrun ∧ (sendForward f rest s).pending = s.pending := by
  simp [sendForward]

@[simp] theorem sendReply_frame (p : ReplyPlace) (rest : List ReplyPlace) (s : State) :
    (sendReply p rest s).pins = s.pins ∧ (sendReply p rest s).scl = s.scl ∧ (sendReply p rest s).mpm = s.mpm ∧
    (sendReply p rest s).rfg = s.rfg ∧ (sendReply p rest s).syu = s.syu ∧ (sendReply p rest s).bsq = s.bsq ∧
    (sendReply p rest s).mtr = s.mtr ∧ (sendReply p rest s).blg = s.blg ∧ (sendReply p rest s).evr = s.evr ∧
    (sendReply p rest s).mgu = s.mgu ∧ (sendReply p rest s).mlk = s.mlk ∧ (sendReply p rest s).now = s.now ∧
    (sendReply p rest s).handoffs = s.handoffs ∧ (sendReply p rest s).overrun = s.overrun ∧
    (sendReply p rest s).pending = s.pending := by
  simp [sendReply]

@[simp] theorem beginNext_frame (s : State) :
    (beginNext s).pins = s.pins ∧ (beginNext s).scl = s.scl ∧ (beginNext s).syu = s.syu ∧
    (beginNext s).bsq = s.bsq ∧ (beginNext s).mtr = s.mtr ∧ (beginNext s).blg = s.blg ∧ (beginNext s).evr = s.evr ∧
    (beginNext s).mgu = s.mgu ∧ (beginNext s).mlk = s.mlk ∧ (beginNext s).now = s.now ∧
    (beginNext s).handoffs = s.handoffs ∧ (beginNext s).overrun = s.overrun ∧ (beginNext s).pending = s.pending := by
  unfold beginNext
  (repeat' split) <;> simp

@[simp] theorem kick_frame (s : State) :
    (kick s).pins = s.pins ∧ (kick s).scl = s.scl ∧ (kick s).syu = s.syu ∧ (kick s).bsq = s.bsq ∧
    (kick s).mtr = s.mtr ∧ (kick s).blg = s.blg ∧ (kick s).evr = s.evr ∧ (kick s).mgu = s.mgu ∧
    (kick s).mlk = s.mlk ∧ (kick s).now = s.now ∧ (kick s).handoffs = s.handoffs ∧ (kick s).overrun = s.overrun ∧
    (kick s).pending = s.pending := by
  unfold kick
  split <;> simp

@[simp] theorem egressFreed_frame (s : State) :
    (egressFreed s).pins = s.pins ∧ (egressFreed s).scl = s.scl ∧ (egressFreed s).syu = s.syu ∧
    (egressFreed s).bsq = s.bsq ∧ (egressFreed s).mtr = s.mtr ∧ (egressFreed s).blg = s.blg ∧
    (egressFreed s).evr = s.evr ∧ (egressFreed s).mgu = s.mgu ∧ (egressFreed s).mlk = s.mlk ∧
    (egressFreed s).now = s.now ∧ (egressFreed s).handoffs = s.handoffs ∧ (egressFreed s).overrun = s.overrun ∧
    (egressFreed s).pending = s.pending := by
  simp [egressFreed]

@[simp] theorem giveBcmd_frame (c : Bcmd) (s : State) :
    (giveBcmd c s).pins = s.pins ∧ (giveBcmd c s).scl = s.scl ∧ (giveBcmd c s).syu = s.syu ∧
    (giveBcmd c s).bsq = s.bsq ∧ (giveBcmd c s).mtr = s.mtr ∧ (giveBcmd c s).blg = s.blg ∧
    (giveBcmd c s).evr = s.evr ∧ (giveBcmd c s).mgu = s.mgu ∧ (giveBcmd c s).mlk = s.mlk ∧
    (giveBcmd c s).now = s.now ∧ (giveBcmd c s).handoffs = s.handoffs ∧ (giveBcmd c s).overrun = s.overrun ∧
    (giveBcmd c s).pending = s.pending := by
  unfold giveBcmd
  split <;> simp

@[simp] theorem command_frame (cmd : BreakerCmd) (t : Target) (s : State) :
    (command cmd t s).pins = s.pins ∧ (command cmd t s).scl = s.scl ∧ (command cmd t s).syu = s.syu ∧
    (command cmd t s).bsq = s.bsq ∧ (command cmd t s).mtr = s.mtr ∧ (command cmd t s).blg = s.blg ∧
    (command cmd t s).evr = s.evr ∧ (command cmd t s).mgu = s.mgu ∧ (command cmd t s).mlk = s.mlk ∧
    (command cmd t s).now = s.now ∧ (command cmd t s).handoffs = s.handoffs ∧
    (command cmd t s).overrun = s.overrun ∧ (command cmd t s).pending = s.pending := by
  simp [command]

@[simp] theorem shpnLost_frame (s : State) :
    (shpnLost s).pins = s.pins ∧ (shpnLost s).scl = s.scl ∧ (shpnLost s).mpm = s.mpm ∧ (shpnLost s).rfg = s.rfg ∧
    (shpnLost s).syu = s.syu ∧ (shpnLost s).bsq = s.bsq ∧ (shpnLost s).mtr = s.mtr ∧ (shpnLost s).blg = s.blg ∧
    (shpnLost s).evr = s.evr ∧ (shpnLost s).mgu = s.mgu ∧ (shpnLost s).mlk = s.mlk ∧ (shpnLost s).now = s.now ∧
    (shpnLost s).handoffs = s.handoffs ∧ (shpnLost s).overrun = s.overrun ∧ (shpnLost s).pending = s.pending := by
  simp [shpnLost]

@[simp] theorem pollSkipped_frame (m : Module) (n : Nat) (s : State) :
    (pollSkipped m n s).pins = s.pins ∧ (pollSkipped m n s).scl = s.scl ∧ (pollSkipped m n s).mpm = s.mpm ∧
    (pollSkipped m n s).rfg = s.rfg ∧ (pollSkipped m n s).syu = s.syu ∧ (pollSkipped m n s).bsq = s.bsq ∧
    (pollSkipped m n s).mtr = s.mtr ∧ (pollSkipped m n s).blg = s.blg ∧ (pollSkipped m n s).evr = s.evr ∧
    (pollSkipped m n s).mgu = s.mgu ∧ (pollSkipped m n s).mlk = s.mlk ∧ (pollSkipped m n s).now = s.now ∧
    (pollSkipped m n s).overrun = s.overrun ∧ (pollSkipped m n s).pending = s.pending := by
  simp [pollSkipped]

@[simp] theorem enterControl_frame (f : ControlFrame) (s : State) :
    (enterControl f s).pins = s.pins ∧ (enterControl f s).scl = s.scl ∧ (enterControl f s).mpm = s.mpm ∧
    (enterControl f s).rfg = s.rfg ∧ (enterControl f s).syu = s.syu ∧ (enterControl f s).bsq = s.bsq ∧
    (enterControl f s).mtr = s.mtr ∧ (enterControl f s).blg = s.blg ∧ (enterControl f s).evr = s.evr ∧
    (enterControl f s).mgu = s.mgu ∧ (enterControl f s).mlk = s.mlk ∧ (enterControl f s).now = s.now ∧
    (enterControl f s).handoffs = s.handoffs ∧ (enterControl f s).overrun = s.overrun ∧
    (enterControl f s).pending = s.pending := by
  simp [enterControl]

@[simp] theorem displaceShpn_frame (s : State) :
    (displaceShpn s).pins = s.pins ∧ (displaceShpn s).scl = s.scl ∧ (displaceShpn s).mpm = s.mpm ∧
    (displaceShpn s).rfg = s.rfg ∧ (displaceShpn s).syu = s.syu ∧ (displaceShpn s).bsq = s.bsq ∧
    (displaceShpn s).mtr = s.mtr ∧ (displaceShpn s).blg = s.blg ∧ (displaceShpn s).evr = s.evr ∧
    (displaceShpn s).mgu = s.mgu ∧ (displaceShpn s).mlk = s.mlk ∧ (displaceShpn s).now = s.now ∧
    (displaceShpn s).handoffs = s.handoffs ∧ (displaceShpn s).overrun = s.overrun ∧
    (displaceShpn s).pending = s.pending := by
  simp [displaceShpn]

@[simp] theorem displacePoll_frame (s : State) :
    (displacePoll s).pins = s.pins ∧ (displacePoll s).scl = s.scl ∧ (displacePoll s).mpm = s.mpm ∧
    (displacePoll s).rfg = s.rfg ∧ (displacePoll s).syu = s.syu ∧ (displacePoll s).bsq = s.bsq ∧
    (displacePoll s).mtr = s.mtr ∧ (displacePoll s).blg = s.blg ∧ (displacePoll s).evr = s.evr ∧
    (displacePoll s).mgu = s.mgu ∧ (displacePoll s).mlk = s.mlk ∧ (displacePoll s).now = s.now ∧
    (displacePoll s).overrun = s.overrun ∧ (displacePoll s).pending = s.pending := by
  unfold displacePoll
  split <;> simp

@[simp] theorem givePoll_frame (dest : Nat) (m : Module) (n : Nat) (s : State) :
    (givePoll dest m n s).pins = s.pins ∧ (givePoll dest m n s).scl = s.scl ∧ (givePoll dest m n s).syu = s.syu ∧
    (givePoll dest m n s).bsq = s.bsq ∧ (givePoll dest m n s).mtr = s.mtr ∧ (givePoll dest m n s).blg = s.blg ∧
    (givePoll dest m n s).evr = s.evr ∧ (givePoll dest m n s).mgu = s.mgu ∧ (givePoll dest m n s).mlk = s.mlk ∧
    (givePoll dest m n s).now = s.now ∧ (givePoll dest m n s).overrun = s.overrun ∧
    (givePoll dest m n s).pending = s.pending := by
  unfold givePoll
  (repeat' split) <;> simp

@[simp] theorem giveShpn_frame (dest : Nat) (body : Notice) (s : State) :
    (giveShpn dest body s).pins = s.pins ∧ (giveShpn dest body s).scl = s.scl ∧
    (giveShpn dest body s).syu = s.syu ∧ (giveShpn dest body s).bsq = s.bsq ∧ (giveShpn dest body s).mtr = s.mtr ∧
    (giveShpn dest body s).blg = s.blg ∧ (giveShpn dest body s).evr = s.evr ∧ (giveShpn dest body s).mgu = s.mgu ∧
    (giveShpn dest body s).mlk = s.mlk ∧ (giveShpn dest body s).now = s.now ∧
    (giveShpn dest body s).handoffs = s.handoffs ∧ (giveShpn dest body s).overrun = s.overrun ∧
    (giveShpn dest body s).pending = s.pending := by
  unfold giveShpn
  (repeat' split) <;> simp

@[simp] theorem giveSetp_frame (f : Setp) (s : State) :
    (giveSetp f s).pins = s.pins ∧ (giveSetp f s).scl = s.scl ∧ (giveSetp f s).syu = s.syu ∧
    (giveSetp f s).bsq = s.bsq ∧ (giveSetp f s).mtr = s.mtr ∧ (giveSetp f s).blg = s.blg ∧
    (giveSetp f s).evr = s.evr ∧ (giveSetp f s).mgu = s.mgu ∧ (giveSetp f s).mlk = s.mlk ∧
    (giveSetp f s).now = s.now ∧ (giveSetp f s).overrun = s.overrun ∧ (giveSetp f s).pending = s.pending := by
  unfold giveSetp
  (repeat' split) <;> simp

@[simp] theorem reservePlace_frame (s : State) :
    (reservePlace s).pins = s.pins ∧ (reservePlace s).scl = s.scl ∧ (reservePlace s).mpm = s.mpm ∧
    (reservePlace s).rfg = s.rfg ∧ (reservePlace s).syu = s.syu ∧ (reservePlace s).bsq = s.bsq ∧
    (reservePlace s).mtr = s.mtr ∧ (reservePlace s).blg = s.blg ∧ (reservePlace s).evr = s.evr ∧
    (reservePlace s).mgu = s.mgu ∧ (reservePlace s).mlk = s.mlk ∧ (reservePlace s).now = s.now ∧
    (reservePlace s).handoffs = s.handoffs ∧ (reservePlace s).overrun = s.overrun ∧
    (reservePlace s).pending = s.pending := by
  simp [reservePlace]

@[simp] theorem enterReply_frame (f : ReplyFrame) (refusal : Bool) (s : State) :
    (enterReply f refusal s).pins = s.pins ∧ (enterReply f refusal s).scl = s.scl ∧
    (enterReply f refusal s).syu = s.syu ∧ (enterReply f refusal s).bsq = s.bsq ∧
    (enterReply f refusal s).mtr = s.mtr ∧ (enterReply f refusal s).blg = s.blg ∧
    (enterReply f refusal s).evr = s.evr ∧ (enterReply f refusal s).mgu = s.mgu ∧
    (enterReply f refusal s).mlk = s.mlk ∧ (enterReply f refusal s).now = s.now ∧
    (enterReply f refusal s).handoffs = s.handoffs ∧ (enterReply f refusal s).overrun = s.overrun ∧
    (enterReply f refusal s).pending = s.pending := by
  simp [enterReply]

@[simp] theorem enterReserved_frame (f : ReplyFrame) (s : State) :
    (enterReserved f s).pins = s.pins ∧ (enterReserved f s).scl = s.scl ∧ (enterReserved f s).syu = s.syu ∧
    (enterReserved f s).bsq = s.bsq ∧ (enterReserved f s).mtr = s.mtr ∧ (enterReserved f s).blg = s.blg ∧
    (enterReserved f s).evr = s.evr ∧ (enterReserved f s).mgu = s.mgu ∧ (enterReserved f s).mlk = s.mlk ∧
    (enterReserved f s).now = s.now ∧ (enterReserved f s).handoffs = s.handoffs ∧
    (enterReserved f s).overrun = s.overrun ∧ (enterReserved f s).pending = s.pending := by
  simp [enterReserved]

@[simp] theorem giveNote_frame (f : ReplyFrame) (s : State) :
    (giveNote f s).pins = s.pins ∧ (giveNote f s).scl = s.scl ∧ (giveNote f s).syu = s.syu ∧
    (giveNote f s).bsq = s.bsq ∧ (giveNote f s).mtr = s.mtr ∧ (giveNote f s).blg = s.blg ∧
    (giveNote f s).evr = s.evr ∧ (giveNote f s).mgu = s.mgu ∧ (giveNote f s).mlk = s.mlk ∧
    (giveNote f s).now = s.now ∧ (giveNote f s).handoffs = s.handoffs ∧ (giveNote f s).overrun = s.overrun ∧
    (giveNote f s).pending = s.pending := by
  unfold giveNote
  split <;> simp

@[simp] theorem cutOverlong_frame (s : State) :
    (cutOverlong s).pins = s.pins ∧ (cutOverlong s).scl = s.scl ∧ (cutOverlong s).mpm = s.mpm ∧
    (cutOverlong s).rfg = s.rfg ∧ (cutOverlong s).syu = s.syu ∧ (cutOverlong s).bsq = s.bsq ∧
    (cutOverlong s).mtr = s.mtr ∧ (cutOverlong s).blg = s.blg ∧ (cutOverlong s).evr = s.evr ∧
    (cutOverlong s).mgu = s.mgu ∧ (cutOverlong s).mlk = s.mlk ∧ (cutOverlong s).now = s.now ∧
    (cutOverlong s).overrun = s.overrun ∧ (cutOverlong s).pending = s.pending := by
  simp [cutOverlong]

@[simp] theorem goodFrame_frame (s : State) :
    (goodFrame s).pins = s.pins ∧ (goodFrame s).scl = s.scl ∧ (goodFrame s).mpm = s.mpm ∧
    (goodFrame s).rfg = s.rfg ∧ (goodFrame s).syu = s.syu ∧ (goodFrame s).bsq = s.bsq ∧ (goodFrame s).mtr = s.mtr ∧
    (goodFrame s).blg = s.blg ∧ (goodFrame s).evr = s.evr ∧ (goodFrame s).mgu = s.mgu ∧ (goodFrame s).mlk = s.mlk ∧
    (goodFrame s).now = s.now ∧ (goodFrame s).handoffs = s.handoffs ∧ (goodFrame s).overrun = s.overrun ∧
    (goodFrame s).pending = s.pending := by
  simp [goodFrame]

@[simp] theorem forwardFrame_frame (bytes : List Byte) (s : State) :
    (forwardFrame bytes s).pins = s.pins ∧ (forwardFrame bytes s).scl = s.scl ∧
    (forwardFrame bytes s).syu = s.syu ∧ (forwardFrame bytes s).bsq = s.bsq ∧ (forwardFrame bytes s).mtr = s.mtr ∧
    (forwardFrame bytes s).blg = s.blg ∧ (forwardFrame bytes s).evr = s.evr ∧ (forwardFrame bytes s).mgu = s.mgu ∧
    (forwardFrame bytes s).mlk = s.mlk ∧ (forwardFrame bytes s).now = s.now ∧
    (forwardFrame bytes s).overrun = s.overrun ∧ (forwardFrame bytes s).pending = s.pending := by
  unfold forwardFrame
  split <;> simp

@[simp] theorem ingressLoss_frame (s : State) :
    (ingressLoss s).pins = s.pins ∧ (ingressLoss s).scl = s.scl ∧ (ingressLoss s).mpm = s.mpm ∧
    (ingressLoss s).rfg = s.rfg ∧ (ingressLoss s).syu = s.syu ∧ (ingressLoss s).bsq = s.bsq ∧
    (ingressLoss s).mtr = s.mtr ∧ (ingressLoss s).blg = s.blg ∧ (ingressLoss s).evr = s.evr ∧
    (ingressLoss s).mgu = s.mgu ∧ (ingressLoss s).mlk = s.mlk ∧ (ingressLoss s).overrun = s.overrun ∧
    (ingressLoss s).pending = s.pending := by
  simp [ingressLoss]

@[simp] theorem promote_frame (s : State) :
    (promote s).pins = s.pins ∧ (promote s).scl = s.scl ∧ (promote s).mpm = s.mpm ∧ (promote s).rfg = s.rfg ∧
    (promote s).syu = s.syu ∧ (promote s).bsq = s.bsq ∧ (promote s).mtr = s.mtr ∧ (promote s).blg = s.blg ∧
    (promote s).evr = s.evr ∧ (promote s).mgu = s.mgu ∧ (promote s).mlk = s.mlk ∧ (promote s).overrun = s.overrun ∧
    (promote s).pending = s.pending := by
  unfold promote
  split <;> simp

@[simp] theorem setStaleCond_frame (b : Berth) (side : Side) (v : Option Nat) (s : State) :
    (setStaleCond b side v s).pins = s.pins ∧ (setStaleCond b side v s).lpu = s.lpu ∧
    (setStaleCond b side v s).mpm = s.mpm ∧ (setStaleCond b side v s).rfg = s.rfg ∧
    (setStaleCond b side v s).syu = s.syu ∧ (setStaleCond b side v s).bsq = s.bsq ∧
    (setStaleCond b side v s).mtr = s.mtr ∧ (setStaleCond b side v s).blg = s.blg ∧
    (setStaleCond b side v s).evr = s.evr ∧ (setStaleCond b side v s).mgu = s.mgu ∧
    (setStaleCond b side v s).mlk = s.mlk ∧ (setStaleCond b side v s).now = s.now ∧
    (setStaleCond b side v s).handoffs = s.handoffs ∧ (setStaleCond b side v s).overrun = s.overrun ∧
    (setStaleCond b side v s).pending = s.pending := by
  unfold setStaleCond
  split <;> simp

@[simp] theorem beginStale_frame (b : Berth) (side : Side) (s : State) :
    (beginStale b side s).pins = s.pins ∧ (beginStale b side s).lpu = s.lpu ∧ (beginStale b side s).mpm = s.mpm ∧
    (beginStale b side s).rfg = s.rfg ∧ (beginStale b side s).syu = s.syu ∧ (beginStale b side s).bsq = s.bsq ∧
    (beginStale b side s).mtr = s.mtr ∧ (beginStale b side s).blg = s.blg ∧ (beginStale b side s).evr = s.evr ∧
    (beginStale b side s).mgu = s.mgu ∧ (beginStale b side s).mlk = s.mlk ∧ (beginStale b side s).now = s.now ∧
    (beginStale b side s).overrun = s.overrun ∧ (beginStale b side s).pending = s.pending := by
  simp [beginStale]

@[simp] theorem watchBegin_frame (b : Berth) (side : Side) (s : State) :
    (watchBegin b side s).pins = s.pins ∧ (watchBegin b side s).lpu = s.lpu ∧ (watchBegin b side s).mpm = s.mpm ∧
    (watchBegin b side s).rfg = s.rfg ∧ (watchBegin b side s).syu = s.syu ∧ (watchBegin b side s).bsq = s.bsq ∧
    (watchBegin b side s).mtr = s.mtr ∧ (watchBegin b side s).blg = s.blg ∧ (watchBegin b side s).evr = s.evr ∧
    (watchBegin b side s).mgu = s.mgu ∧ (watchBegin b side s).mlk = s.mlk ∧ (watchBegin b side s).now = s.now ∧
    (watchBegin b side s).overrun = s.overrun ∧ (watchBegin b side s).pending = s.pending := by
  unfold watchBegin
  split <;> simp

@[simp] theorem watchBegins_frame (b : Berth) (s : State) :
    (watchBegins b s).pins = s.pins ∧ (watchBegins b s).lpu = s.lpu ∧ (watchBegins b s).mpm = s.mpm ∧
    (watchBegins b s).rfg = s.rfg ∧ (watchBegins b s).syu = s.syu ∧ (watchBegins b s).bsq = s.bsq ∧
    (watchBegins b s).mtr = s.mtr ∧ (watchBegins b s).blg = s.blg ∧ (watchBegins b s).evr = s.evr ∧
    (watchBegins b s).mgu = s.mgu ∧ (watchBegins b s).mlk = s.mlk ∧ (watchBegins b s).now = s.now ∧
    (watchBegins b s).overrun = s.overrun ∧ (watchBegins b s).pending = s.pending := by
  simp [watchBegins]

@[simp] theorem watchEnds_frame (b : Berth) (s : State) :
    (watchEnds b s).pins = s.pins ∧ (watchEnds b s).lpu = s.lpu ∧ (watchEnds b s).mpm = s.mpm ∧
    (watchEnds b s).rfg = s.rfg ∧ (watchEnds b s).syu = s.syu ∧ (watchEnds b s).bsq = s.bsq ∧
    (watchEnds b s).mtr = s.mtr ∧ (watchEnds b s).blg = s.blg ∧ (watchEnds b s).evr = s.evr ∧
    (watchEnds b s).mgu = s.mgu ∧ (watchEnds b s).mlk = s.mlk ∧ (watchEnds b s).now = s.now ∧
    (watchEnds b s).handoffs = s.handoffs ∧ (watchEnds b s).overrun = s.overrun ∧
    (watchEnds b s).pending = s.pending := by
  simp [watchEnds]

@[simp] theorem staleRepeat_frame (b : Berth) (side : Side) (s : State) :
    (staleRepeat b side s).pins = s.pins ∧ (staleRepeat b side s).lpu = s.lpu ∧
    (staleRepeat b side s).mpm = s.mpm ∧ (staleRepeat b side s).rfg = s.rfg ∧ (staleRepeat b side s).syu = s.syu ∧
    (staleRepeat b side s).bsq = s.bsq ∧ (staleRepeat b side s).mtr = s.mtr ∧ (staleRepeat b side s).blg = s.blg ∧
    (staleRepeat b side s).evr = s.evr ∧ (staleRepeat b side s).mgu = s.mgu ∧ (staleRepeat b side s).mlk = s.mlk ∧
    (staleRepeat b side s).overrun = s.overrun ∧ (staleRepeat b side s).pending = s.pending := by
  unfold staleRepeat
  split <;> simp

@[simp] theorem channelsSeeStale_frame (p : Point) (s : State) :
    (channelsSeeStale p s).pins = s.pins ∧ (channelsSeeStale p s).lpu = s.lpu ∧
    (channelsSeeStale p s).scl = s.scl ∧ (channelsSeeStale p s).mpm = s.mpm ∧ (channelsSeeStale p s).rfg = s.rfg ∧
    (channelsSeeStale p s).bsq = s.bsq ∧ (channelsSeeStale p s).mtr = s.mtr ∧ (channelsSeeStale p s).blg = s.blg ∧
    (channelsSeeStale p s).evr = s.evr ∧ (channelsSeeStale p s).mgu = s.mgu ∧ (channelsSeeStale p s).mlk = s.mlk ∧
    (channelsSeeStale p s).now = s.now ∧ (channelsSeeStale p s).handoffs = s.handoffs ∧
    (channelsSeeStale p s).overrun = s.overrun ∧ (channelsSeeStale p s).pending = s.pending := by
  simp [channelsSeeStale]

@[simp] theorem staleTest_frame (p : Point) (s : State) :
    (staleTest p s).pins = s.pins ∧ (staleTest p s).lpu = s.lpu ∧ (staleTest p s).mpm = s.mpm ∧
    (staleTest p s).rfg = s.rfg ∧ (staleTest p s).syu = s.syu ∧ (staleTest p s).bsq = s.bsq ∧
    (staleTest p s).mtr = s.mtr ∧ (staleTest p s).blg = s.blg ∧ (staleTest p s).evr = s.evr ∧
    (staleTest p s).mgu = s.mgu ∧ (staleTest p s).mlk = s.mlk ∧ (staleTest p s).now = s.now ∧
    (staleTest p s).overrun = s.overrun ∧ (staleTest p s).pending = s.pending := by
  unfold staleTest
  (repeat' split) <;> simp

@[simp] theorem enterStale_frame (p : Point) (s : State) :
    (enterStale p s).pins = s.pins ∧ (enterStale p s).lpu = s.lpu ∧ (enterStale p s).mpm = s.mpm ∧
    (enterStale p s).rfg = s.rfg ∧ (enterStale p s).bsq = s.bsq ∧ (enterStale p s).mtr = s.mtr ∧
    (enterStale p s).blg = s.blg ∧ (enterStale p s).evr = s.evr ∧ (enterStale p s).mgu = s.mgu ∧
    (enterStale p s).mlk = s.mlk ∧ (enterStale p s).now = s.now ∧ (enterStale p s).overrun = s.overrun ∧
    (enterStale p s).pending = s.pending := by
  simp [enterStale]

@[simp] theorem heldExpiry_frame (p : Point) (s : State) :
    (heldExpiry p s).pins = s.pins ∧ (heldExpiry p s).lpu = s.lpu ∧ (heldExpiry p s).mpm = s.mpm ∧
    (heldExpiry p s).rfg = s.rfg ∧ (heldExpiry p s).syu = s.syu ∧ (heldExpiry p s).bsq = s.bsq ∧
    (heldExpiry p s).mtr = s.mtr ∧ (heldExpiry p s).blg = s.blg ∧ (heldExpiry p s).evr = s.evr ∧
    (heldExpiry p s).mgu = s.mgu ∧ (heldExpiry p s).mlk = s.mlk ∧ (heldExpiry p s).handoffs = s.handoffs ∧
    (heldExpiry p s).overrun = s.overrun ∧ (heldExpiry p s).pending = s.pending := by
  unfold heldExpiry
  (repeat' split) <;> simp

@[simp] theorem staleExpiry_frame (p : Point) (s : State) :
    (staleExpiry p s).pins = s.pins ∧ (staleExpiry p s).lpu = s.lpu ∧ (staleExpiry p s).mpm = s.mpm ∧
    (staleExpiry p s).rfg = s.rfg ∧ (staleExpiry p s).bsq = s.bsq ∧ (staleExpiry p s).mtr = s.mtr ∧
    (staleExpiry p s).blg = s.blg ∧ (staleExpiry p s).evr = s.evr ∧ (staleExpiry p s).mgu = s.mgu ∧
    (staleExpiry p s).mlk = s.mlk ∧ (staleExpiry p s).overrun = s.overrun ∧ (staleExpiry p s).pending = s.pending := by
  unfold staleExpiry
  (repeat' split) <;> simp

@[simp] theorem resetPoints_frame (s : State) :
    (resetPoints s).pins = s.pins ∧ (resetPoints s).lpu = s.lpu ∧ (resetPoints s).mpm = s.mpm ∧
    (resetPoints s).rfg = s.rfg ∧ (resetPoints s).syu = s.syu ∧ (resetPoints s).bsq = s.bsq ∧
    (resetPoints s).mtr = s.mtr ∧ (resetPoints s).blg = s.blg ∧ (resetPoints s).evr = s.evr ∧
    (resetPoints s).mgu = s.mgu ∧ (resetPoints s).mlk = s.mlk ∧ (resetPoints s).now = s.now ∧
    (resetPoints s).handoffs = s.handoffs ∧ (resetPoints s).overrun = s.overrun ∧
    (resetPoints s).pending = s.pending := by
  simp [resetPoints]

@[simp] theorem pointStoreReset_frame (s : State) :
    (pointStoreReset s).pins = s.pins ∧ (pointStoreReset s).lpu = s.lpu ∧ (pointStoreReset s).mpm = s.mpm ∧
    (pointStoreReset s).rfg = s.rfg ∧ (pointStoreReset s).bsq = s.bsq ∧ (pointStoreReset s).mtr = s.mtr ∧
    (pointStoreReset s).blg = s.blg ∧ (pointStoreReset s).evr = s.evr ∧ (pointStoreReset s).mgu = s.mgu ∧
    (pointStoreReset s).mlk = s.mlk ∧ (pointStoreReset s).now = s.now ∧ (pointStoreReset s).overrun = s.overrun ∧
    (pointStoreReset s).pending = s.pending := by
  simp [pointStoreReset]

@[simp] theorem staleEnds_frame (p : Point) (s : State) :
    (staleEnds p s).pins = s.pins ∧ (staleEnds p s).lpu = s.lpu ∧ (staleEnds p s).mpm = s.mpm ∧
    (staleEnds p s).rfg = s.rfg ∧ (staleEnds p s).syu = s.syu ∧ (staleEnds p s).bsq = s.bsq ∧
    (staleEnds p s).mtr = s.mtr ∧ (staleEnds p s).blg = s.blg ∧ (staleEnds p s).evr = s.evr ∧
    (staleEnds p s).mgu = s.mgu ∧ (staleEnds p s).mlk = s.mlk ∧ (staleEnds p s).now = s.now ∧
    (staleEnds p s).handoffs = s.handoffs ∧ (staleEnds p s).overrun = s.overrun ∧
    (staleEnds p s).pending = s.pending := by
  unfold staleEnds
  split <;> simp

@[simp] theorem clearBands_frame (b : Berth) (s : State) :
    (clearBands b s).pins = s.pins ∧ (clearBands b s).lpu = s.lpu ∧ (clearBands b s).mpm = s.mpm ∧
    (clearBands b s).rfg = s.rfg ∧ (clearBands b s).syu = s.syu ∧ (clearBands b s).bsq = s.bsq ∧
    (clearBands b s).mtr = s.mtr ∧ (clearBands b s).blg = s.blg ∧ (clearBands b s).evr = s.evr ∧
    (clearBands b s).mgu = s.mgu ∧ (clearBands b s).mlk = s.mlk ∧ (clearBands b s).now = s.now ∧
    (clearBands b s).handoffs = s.handoffs ∧ (clearBands b s).overrun = s.overrun ∧
    (clearBands b s).pending = s.pending := by
  simp [clearBands]

@[simp] theorem createRef_frame (b : Berth) (s : State) :
    (createRef b s).pins = s.pins ∧ (createRef b s).lpu = s.lpu ∧ (createRef b s).scl = s.scl ∧
    (createRef b s).mpm = s.mpm ∧ (createRef b s).syu = s.syu ∧ (createRef b s).bsq = s.bsq ∧
    (createRef b s).mtr = s.mtr ∧ (createRef b s).blg = s.blg ∧ (createRef b s).evr = s.evr ∧
    (createRef b s).mgu = s.mgu ∧ (createRef b s).mlk = s.mlk ∧ (createRef b s).now = s.now ∧
    (createRef b s).handoffs = s.handoffs ∧ (createRef b s).overrun = s.overrun ∧
    (createRef b s).pending = s.pending := by
  simp [createRef]

@[simp] theorem discardRef_frame (b : Berth) (s : State) :
    (discardRef b s).pins = s.pins ∧ (discardRef b s).lpu = s.lpu ∧ (discardRef b s).scl = s.scl ∧
    (discardRef b s).mpm = s.mpm ∧ (discardRef b s).syu = s.syu ∧ (discardRef b s).bsq = s.bsq ∧
    (discardRef b s).mtr = s.mtr ∧ (discardRef b s).blg = s.blg ∧ (discardRef b s).evr = s.evr ∧
    (discardRef b s).mgu = s.mgu ∧ (discardRef b s).mlk = s.mlk ∧ (discardRef b s).now = s.now ∧
    (discardRef b s).handoffs = s.handoffs ∧ (discardRef b s).overrun = s.overrun ∧
    (discardRef b s).pending = s.pending := by
  simp [discardRef]

@[simp] theorem setPSet_frame (b : Berth) (p : Nat) (s : State) :
    (setPSet b p s).pins = s.pins ∧ (setPSet b p s).lpu = s.lpu ∧ (setPSet b p s).scl = s.scl ∧
    (setPSet b p s).mpm = s.mpm ∧ (setPSet b p s).syu = s.syu ∧ (setPSet b p s).bsq = s.bsq ∧
    (setPSet b p s).mtr = s.mtr ∧ (setPSet b p s).blg = s.blg ∧ (setPSet b p s).evr = s.evr ∧
    (setPSet b p s).mgu = s.mgu ∧ (setPSet b p s).mlk = s.mlk ∧ (setPSet b p s).now = s.now ∧
    (setPSet b p s).handoffs = s.handoffs ∧ (setPSet b p s).overrun = s.overrun ∧
    (setPSet b p s).pending = s.pending := by
  simp [setPSet]

@[simp] theorem takeBerthPair_frame (b : Berth) (f : Int) (v : Nat) (s : State) :
    (takeBerthPair b f v s).pins = s.pins ∧ (takeBerthPair b f v s).lpu = s.lpu ∧
    (takeBerthPair b f v s).scl = s.scl ∧ (takeBerthPair b f v s).mpm = s.mpm ∧
    (takeBerthPair b f v s).syu = s.syu ∧ (takeBerthPair b f v s).bsq = s.bsq ∧
    (takeBerthPair b f v s).mtr = s.mtr ∧ (takeBerthPair b f v s).blg = s.blg ∧
    (takeBerthPair b f v s).evr = s.evr ∧ (takeBerthPair b f v s).mgu = s.mgu ∧
    (takeBerthPair b f v s).mlk = s.mlk ∧ (takeBerthPair b f v s).now = s.now ∧
    (takeBerthPair b f v s).handoffs = s.handoffs ∧ (takeBerthPair b f v s).overrun = s.overrun ∧
    (takeBerthPair b f v s).pending = s.pending := by
  unfold takeBerthPair
  split <;> simp

@[simp] theorem takeModulePair_frame (m : Module) (f : Int) (v : Nat) (s : State) :
    (takeModulePair m f v s).pins = s.pins ∧ (takeModulePair m f v s).lpu = s.lpu ∧
    (takeModulePair m f v s).scl = s.scl ∧ (takeModulePair m f v s).mpm = s.mpm ∧
    (takeModulePair m f v s).syu = s.syu ∧ (takeModulePair m f v s).bsq = s.bsq ∧
    (takeModulePair m f v s).mtr = s.mtr ∧ (takeModulePair m f v s).blg = s.blg ∧
    (takeModulePair m f v s).evr = s.evr ∧ (takeModulePair m f v s).mgu = s.mgu ∧
    (takeModulePair m f v s).mlk = s.mlk ∧ (takeModulePair m f v s).now = s.now ∧
    (takeModulePair m f v s).handoffs = s.handoffs ∧ (takeModulePair m f v s).overrun = s.overrun ∧
    (takeModulePair m f v s).pending = s.pending := by
  unfold takeModulePair
  split <;> simp

@[simp] theorem dropBerthPair_frame (b : Berth) (s : State) :
    (dropBerthPair b s).pins = s.pins ∧ (dropBerthPair b s).lpu = s.lpu ∧ (dropBerthPair b s).scl = s.scl ∧
    (dropBerthPair b s).mpm = s.mpm ∧ (dropBerthPair b s).syu = s.syu ∧ (dropBerthPair b s).bsq = s.bsq ∧
    (dropBerthPair b s).mtr = s.mtr ∧ (dropBerthPair b s).blg = s.blg ∧ (dropBerthPair b s).evr = s.evr ∧
    (dropBerthPair b s).mgu = s.mgu ∧ (dropBerthPair b s).mlk = s.mlk ∧ (dropBerthPair b s).now = s.now ∧
    (dropBerthPair b s).handoffs = s.handoffs ∧ (dropBerthPair b s).overrun = s.overrun ∧
    (dropBerthPair b s).pending = s.pending := by
  simp [dropBerthPair]

@[simp] theorem dropModulePair_frame (m : Module) (s : State) :
    (dropModulePair m s).pins = s.pins ∧ (dropModulePair m s).lpu = s.lpu ∧ (dropModulePair m s).scl = s.scl ∧
    (dropModulePair m s).mpm = s.mpm ∧ (dropModulePair m s).syu = s.syu ∧ (dropModulePair m s).bsq = s.bsq ∧
    (dropModulePair m s).mtr = s.mtr ∧ (dropModulePair m s).blg = s.blg ∧ (dropModulePair m s).evr = s.evr ∧
    (dropModulePair m s).mgu = s.mgu ∧ (dropModulePair m s).mlk = s.mlk ∧ (dropModulePair m s).now = s.now ∧
    (dropModulePair m s).handoffs = s.handoffs ∧ (dropModulePair m s).overrun = s.overrun ∧
    (dropModulePair m s).pending = s.pending := by
  simp [dropModulePair]

@[simp] theorem clearModuleRef_frame (m : Module) (s : State) :
    (clearModuleRef m s).pins = s.pins ∧ (clearModuleRef m s).lpu = s.lpu ∧ (clearModuleRef m s).scl = s.scl ∧
    (clearModuleRef m s).mpm = s.mpm ∧ (clearModuleRef m s).syu = s.syu ∧ (clearModuleRef m s).bsq = s.bsq ∧
    (clearModuleRef m s).mtr = s.mtr ∧ (clearModuleRef m s).blg = s.blg ∧ (clearModuleRef m s).evr = s.evr ∧
    (clearModuleRef m s).mgu = s.mgu ∧ (clearModuleRef m s).mlk = s.mlk ∧ (clearModuleRef m s).now = s.now ∧
    (clearModuleRef m s).handoffs = s.handoffs ∧ (clearModuleRef m s).overrun = s.overrun ∧
    (clearModuleRef m s).pending = s.pending := by
  simp [clearModuleRef]

@[simp] theorem shedAction_frame (b : Berth) (s : State) :
    (shedAction b s).pins = s.pins ∧ (shedAction b s).scl = s.scl ∧ (shedAction b s).syu = s.syu ∧
    (shedAction b s).bsq = s.bsq ∧ (shedAction b s).mtr = s.mtr ∧ (shedAction b s).blg = s.blg ∧
    (shedAction b s).evr = s.evr ∧ (shedAction b s).mgu = s.mgu ∧ (shedAction b s).mlk = s.mlk ∧
    (shedAction b s).now = s.now ∧ (shedAction b s).handoffs = s.handoffs ∧ (shedAction b s).overrun = s.overrun ∧
    (shedAction b s).pending = s.pending := by
  unfold shedAction
  dsimp only
  (repeat' split) <;> simp

@[simp] theorem periodMove_frame (b : Berth) (s : State) :
    (periodMove b s).pins = s.pins ∧ (periodMove b s).lpu = s.lpu ∧ (periodMove b s).scl = s.scl ∧
    (periodMove b s).mpm = s.mpm ∧ (periodMove b s).syu = s.syu ∧ (periodMove b s).bsq = s.bsq ∧
    (periodMove b s).mtr = s.mtr ∧ (periodMove b s).blg = s.blg ∧ (periodMove b s).evr = s.evr ∧
    (periodMove b s).mgu = s.mgu ∧ (periodMove b s).mlk = s.mlk ∧ (periodMove b s).now = s.now ∧
    (periodMove b s).overrun = s.overrun ∧ (periodMove b s).pending = s.pending := by
  unfold periodMove
  dsimp only
  (repeat' split) <;> simp

@[simp] theorem periodPower_frame (b : Berth) (s : State) :
    (periodPower b s).pins = s.pins ∧ (periodPower b s).lpu = s.lpu ∧ (periodPower b s).scl = s.scl ∧
    (periodPower b s).mpm = s.mpm ∧ (periodPower b s).syu = s.syu ∧ (periodPower b s).bsq = s.bsq ∧
    (periodPower b s).mtr = s.mtr ∧ (periodPower b s).blg = s.blg ∧ (periodPower b s).evr = s.evr ∧
    (periodPower b s).mgu = s.mgu ∧ (periodPower b s).mlk = s.mlk ∧ (periodPower b s).now = s.now ∧
    (periodPower b s).handoffs = s.handoffs ∧ (periodPower b s).overrun = s.overrun ∧
    (periodPower b s).pending = s.pending := by
  simp [periodPower]

@[simp] theorem periodOverload_frame (b : Berth) (s : State) :
    (periodOverload b s).pins = s.pins ∧ (periodOverload b s).scl = s.scl ∧ (periodOverload b s).syu = s.syu ∧
    (periodOverload b s).bsq = s.bsq ∧ (periodOverload b s).mtr = s.mtr ∧ (periodOverload b s).blg = s.blg ∧
    (periodOverload b s).evr = s.evr ∧ (periodOverload b s).mgu = s.mgu ∧ (periodOverload b s).mlk = s.mlk ∧
    (periodOverload b s).now = s.now ∧ (periodOverload b s).overrun = s.overrun ∧
    (periodOverload b s).pending = s.pending := by
  unfold periodOverload
  (repeat' split) <;> simp

@[simp] theorem overloadExpiry_frame (b : Berth) (s : State) :
    (overloadExpiry b s).pins = s.pins ∧ (overloadExpiry b s).lpu = s.lpu ∧ (overloadExpiry b s).scl = s.scl ∧
    (overloadExpiry b s).mpm = s.mpm ∧ (overloadExpiry b s).syu = s.syu ∧ (overloadExpiry b s).bsq = s.bsq ∧
    (overloadExpiry b s).mtr = s.mtr ∧ (overloadExpiry b s).blg = s.blg ∧ (overloadExpiry b s).evr = s.evr ∧
    (overloadExpiry b s).mgu = s.mgu ∧ (overloadExpiry b s).mlk = s.mlk ∧
    (overloadExpiry b s).overrun = s.overrun ∧ (overloadExpiry b s).pending = s.pending := by
  unfold overloadExpiry
  (repeat' split) <;> simp

@[simp] theorem periodSetp_frame (b : Berth) (m : Module) (s : State) :
    (periodSetp b m s).pins = s.pins ∧ (periodSetp b m s).scl = s.scl ∧ (periodSetp b m s).syu = s.syu ∧
    (periodSetp b m s).bsq = s.bsq ∧ (periodSetp b m s).mtr = s.mtr ∧ (periodSetp b m s).blg = s.blg ∧
    (periodSetp b m s).evr = s.evr ∧ (periodSetp b m s).mgu = s.mgu ∧ (periodSetp b m s).mlk = s.mlk ∧
    (periodSetp b m s).now = s.now ∧ (periodSetp b m s).overrun = s.overrun ∧
    (periodSetp b m s).pending = s.pending := by
  unfold periodSetp
  split <;> simp

@[simp] theorem periodSetps_frame (b : Berth) (s : State) :
    (periodSetps b s).pins = s.pins ∧ (periodSetps b s).scl = s.scl ∧ (periodSetps b s).syu = s.syu ∧
    (periodSetps b s).bsq = s.bsq ∧ (periodSetps b s).mtr = s.mtr ∧ (periodSetps b s).blg = s.blg ∧
    (periodSetps b s).evr = s.evr ∧ (periodSetps b s).mgu = s.mgu ∧ (periodSetps b s).mlk = s.mlk ∧
    (periodSetps b s).now = s.now ∧ (periodSetps b s).overrun = s.overrun ∧ (periodSetps b s).pending = s.pending := by
  simp [periodSetps]

@[simp] theorem takeSettings_frame (s : State) :
    (takeSettings s).pins = s.pins ∧ (takeSettings s).lpu = s.lpu ∧ (takeSettings s).scl = s.scl ∧
    (takeSettings s).mpm = s.mpm ∧ (takeSettings s).syu = s.syu ∧ (takeSettings s).bsq = s.bsq ∧
    (takeSettings s).mtr = s.mtr ∧ (takeSettings s).blg = s.blg ∧ (takeSettings s).evr = s.evr ∧
    (takeSettings s).mgu = s.mgu ∧ (takeSettings s).mlk = s.mlk ∧ (takeSettings s).now = s.now ∧
    (takeSettings s).handoffs = s.handoffs ∧ (takeSettings s).overrun = s.overrun ∧
    (takeSettings s).pending = s.pending := by
  simp [takeSettings]

/-- R56: all that a period's start does to RFG. -/
@[simp] theorem takeSettings_rfg (s : State) : (takeSettings s).rfg = { s.rfg with inForce := s.rfg.settings } := rfl

@[simp] theorem periodBerth_frame (b : Berth) (s : State) :
    (periodBerth b s).pins = s.pins ∧ (periodBerth b s).scl = s.scl ∧ (periodBerth b s).syu = s.syu ∧
    (periodBerth b s).bsq = s.bsq ∧ (periodBerth b s).mtr = s.mtr ∧ (periodBerth b s).blg = s.blg ∧
    (periodBerth b s).evr = s.evr ∧ (periodBerth b s).mgu = s.mgu ∧ (periodBerth b s).mlk = s.mlk ∧
    (periodBerth b s).now = s.now ∧ (periodBerth b s).overrun = s.overrun ∧ (periodBerth b s).pending = s.pending := by
  simp [periodBerth]

@[simp] theorem period_frame (s : State) :
    (period s).pins = s.pins ∧ (period s).scl = s.scl ∧ (period s).syu = s.syu ∧ (period s).bsq = s.bsq ∧
    (period s).mtr = s.mtr ∧ (period s).blg = s.blg ∧ (period s).evr = s.evr ∧ (period s).mgu = s.mgu ∧
    (period s).mlk = s.mlk ∧ (period s).overrun = s.overrun ∧ (period s).pending = s.pending := by
  simp [period]

@[simp] theorem releasePair_frame (t : Target) (s : State) :
    (releasePair t s).pins = s.pins ∧ (releasePair t s).lpu = s.lpu ∧ (releasePair t s).scl = s.scl ∧
    (releasePair t s).mpm = s.mpm ∧ (releasePair t s).syu = s.syu ∧ (releasePair t s).bsq = s.bsq ∧
    (releasePair t s).mtr = s.mtr ∧ (releasePair t s).blg = s.blg ∧ (releasePair t s).evr = s.evr ∧
    (releasePair t s).mgu = s.mgu ∧ (releasePair t s).mlk = s.mlk ∧ (releasePair t s).now = s.now ∧
    (releasePair t s).handoffs = s.handoffs ∧ (releasePair t s).overrun = s.overrun ∧
    (releasePair t s).pending = s.pending := by
  unfold releasePair
  split <;> simp

@[simp] theorem giveResult_frame (t : Target) (r : SyncResult) (s : State) :
    (giveResult t r s).pins = s.pins ∧ (giveResult t r s).lpu = s.lpu ∧ (giveResult t r s).scl = s.scl ∧
    (giveResult t r s).mpm = s.mpm ∧ (giveResult t r s).rfg = s.rfg ∧ (giveResult t r s).syu = s.syu ∧
    (giveResult t r s).bsq = s.bsq ∧ (giveResult t r s).mtr = s.mtr ∧ (giveResult t r s).blg = s.blg ∧
    (giveResult t r s).evr = s.evr ∧ (giveResult t r s).mgu = s.mgu ∧ (giveResult t r s).mlk = s.mlk ∧
    (giveResult t r s).now = s.now ∧ (giveResult t r s).overrun = s.overrun ∧
    (giveResult t r s).pending = s.pending := by
  unfold giveResult
  split <;> simp

@[simp] theorem giveOutcome_frame (t : Target) (b : Berth) (o : DeadOutcome) (s : State) :
    (giveOutcome t b o s).pins = s.pins ∧ (giveOutcome t b o s).lpu = s.lpu ∧ (giveOutcome t b o s).scl = s.scl ∧
    (giveOutcome t b o s).mpm = s.mpm ∧ (giveOutcome t b o s).rfg = s.rfg ∧ (giveOutcome t b o s).syu = s.syu ∧
    (giveOutcome t b o s).bsq = s.bsq ∧ (giveOutcome t b o s).mtr = s.mtr ∧ (giveOutcome t b o s).blg = s.blg ∧
    (giveOutcome t b o s).evr = s.evr ∧ (giveOutcome t b o s).mgu = s.mgu ∧ (giveOutcome t b o s).mlk = s.mlk ∧
    (giveOutcome t b o s).now = s.now ∧ (giveOutcome t b o s).overrun = s.overrun ∧
    (giveOutcome t b o s).pending = s.pending := by
  unfold giveOutcome
  split <;> simp

@[simp] theorem endRequest_frame (req : SyncReq) (r : SyncResult) (s : State) :
    (endRequest req r s).pins = s.pins ∧ (endRequest req r s).lpu = s.lpu ∧ (endRequest req r s).scl = s.scl ∧
    (endRequest req r s).mpm = s.mpm ∧ (endRequest req r s).syu = s.syu ∧ (endRequest req r s).bsq = s.bsq ∧
    (endRequest req r s).mtr = s.mtr ∧ (endRequest req r s).blg = s.blg ∧ (endRequest req r s).evr = s.evr ∧
    (endRequest req r s).mgu = s.mgu ∧ (endRequest req r s).mlk = s.mlk ∧ (endRequest req r s).now = s.now ∧
    (endRequest req r s).overrun = s.overrun ∧ (endRequest req r s).pending = s.pending := by
  simp [endRequest]

@[simp] theorem failRequest_frame (req : SyncReq) (r : SyncResult) (s : State) :
    (failRequest req r s).pins = s.pins ∧ (failRequest req r s).lpu = s.lpu ∧ (failRequest req r s).scl = s.scl ∧
    (failRequest req r s).mpm = s.mpm ∧ (failRequest req r s).syu = s.syu ∧ (failRequest req r s).bsq = s.bsq ∧
    (failRequest req r s).mtr = s.mtr ∧ (failRequest req r s).blg = s.blg ∧ (failRequest req r s).evr = s.evr ∧
    (failRequest req r s).mgu = s.mgu ∧ (failRequest req r s).mlk = s.mlk ∧ (failRequest req r s).now = s.now ∧
    (failRequest req r s).overrun = s.overrun ∧ (failRequest req r s).pending = s.pending := by
  simp [failRequest]

@[simp] theorem fillChannel_frame (c : Chan) (s : State) :
    (fillChannel c s).pins = s.pins ∧ (fillChannel c s).lpu = s.lpu ∧ (fillChannel c s).scl = s.scl ∧
    (fillChannel c s).mpm = s.mpm ∧ (fillChannel c s).rfg = s.rfg ∧ (fillChannel c s).bsq = s.bsq ∧
    (fillChannel c s).mtr = s.mtr ∧ (fillChannel c s).blg = s.blg ∧ (fillChannel c s).evr = s.evr ∧
    (fillChannel c s).mgu = s.mgu ∧ (fillChannel c s).mlk = s.mlk ∧ (fillChannel c s).now = s.now ∧
    (fillChannel c s).handoffs = s.handoffs ∧ (fillChannel c s).overrun = s.overrun ∧
    (fillChannel c s).pending = s.pending := by
  unfold fillChannel
  split <;> simp

@[simp] theorem fillChannels_frame (s : State) :
    (fillChannels s).pins = s.pins ∧ (fillChannels s).lpu = s.lpu ∧ (fillChannels s).scl = s.scl ∧
    (fillChannels s).mpm = s.mpm ∧ (fillChannels s).rfg = s.rfg ∧ (fillChannels s).bsq = s.bsq ∧
    (fillChannels s).mtr = s.mtr ∧ (fillChannels s).blg = s.blg ∧ (fillChannels s).evr = s.evr ∧
    (fillChannels s).mgu = s.mgu ∧ (fillChannels s).mlk = s.mlk ∧ (fillChannels s).now = s.now ∧
    (fillChannels s).handoffs = s.handoffs ∧ (fillChannels s).overrun = s.overrun ∧
    (fillChannels s).pending = s.pending := by
  simp [fillChannels]

@[simp] theorem serveChannelsTaken_frame (s : State) :
    (serveChannelsTaken s).pins = s.pins ∧ (serveChannelsTaken s).lpu = s.lpu ∧
    (serveChannelsTaken s).scl = s.scl ∧ (serveChannelsTaken s).mpm = s.mpm ∧ (serveChannelsTaken s).rfg = s.rfg ∧
    (serveChannelsTaken s).bsq = s.bsq ∧ (serveChannelsTaken s).mtr = s.mtr ∧ (serveChannelsTaken s).blg = s.blg ∧
    (serveChannelsTaken s).evr = s.evr ∧ (serveChannelsTaken s).mgu = s.mgu ∧ (serveChannelsTaken s).mlk = s.mlk ∧
    (serveChannelsTaken s).now = s.now ∧ (serveChannelsTaken s).overrun = s.overrun ∧
    (serveChannelsTaken s).pending = s.pending := by
  unfold serveChannelsTaken
  (repeat' split) <;> simp

@[simp] theorem idleChannel_frame (c : Chan) (s : State) :
    (idleChannel c s).pins = s.pins ∧ (idleChannel c s).lpu = s.lpu ∧ (idleChannel c s).scl = s.scl ∧
    (idleChannel c s).mpm = s.mpm ∧ (idleChannel c s).rfg = s.rfg ∧ (idleChannel c s).bsq = s.bsq ∧
    (idleChannel c s).mtr = s.mtr ∧ (idleChannel c s).blg = s.blg ∧ (idleChannel c s).evr = s.evr ∧
    (idleChannel c s).mgu = s.mgu ∧ (idleChannel c s).mlk = s.mlk ∧ (idleChannel c s).now = s.now ∧
    (idleChannel c s).overrun = s.overrun ∧ (idleChannel c s).pending = s.pending := by
  simp [idleChannel]

@[simp] theorem requestSync_frame (t : Target) (b : Berth) (q : Requester) (s : State) :
    (requestSync t b q s).pins = s.pins ∧ (requestSync t b q s).lpu = s.lpu ∧ (requestSync t b q s).scl = s.scl ∧
    (requestSync t b q s).mpm = s.mpm ∧ (requestSync t b q s).bsq = s.bsq ∧ (requestSync t b q s).mtr = s.mtr ∧
    (requestSync t b q s).blg = s.blg ∧ (requestSync t b q s).evr = s.evr ∧ (requestSync t b q s).mgu = s.mgu ∧
    (requestSync t b q s).mlk = s.mlk ∧ (requestSync t b q s).now = s.now ∧
    (requestSync t b q s).overrun = s.overrun ∧ (requestSync t b q s).pending = s.pending := by
  unfold requestSync
  (repeat' split) <;> simp

@[simp] theorem failAttempt_frame (c : Chan) (s : State) :
    (failAttempt c s).pins = s.pins ∧ (failAttempt c s).lpu = s.lpu ∧ (failAttempt c s).scl = s.scl ∧
    (failAttempt c s).mpm = s.mpm ∧ (failAttempt c s).bsq = s.bsq ∧ (failAttempt c s).mtr = s.mtr ∧
    (failAttempt c s).blg = s.blg ∧ (failAttempt c s).evr = s.evr ∧ (failAttempt c s).mgu = s.mgu ∧
    (failAttempt c s).mlk = s.mlk ∧ (failAttempt c s).now = s.now ∧ (failAttempt c s).overrun = s.overrun ∧
    (failAttempt c s).pending = s.pending := by
  unfold failAttempt
  (repeat' split) <;> simp

@[simp] theorem syncWaitExpiry_frame (t : Target) (s : State) :
    (syncWaitExpiry t s).pins = s.pins ∧ (syncWaitExpiry t s).lpu = s.lpu ∧ (syncWaitExpiry t s).scl = s.scl ∧
    (syncWaitExpiry t s).mpm = s.mpm ∧ (syncWaitExpiry t s).bsq = s.bsq ∧ (syncWaitExpiry t s).mtr = s.mtr ∧
    (syncWaitExpiry t s).blg = s.blg ∧ (syncWaitExpiry t s).evr = s.evr ∧ (syncWaitExpiry t s).mgu = s.mgu ∧
    (syncWaitExpiry t s).mlk = s.mlk ∧ (syncWaitExpiry t s).overrun = s.overrun ∧
    (syncWaitExpiry t s).pending = s.pending := by
  unfold syncWaitExpiry
  split <;> simp

@[simp] theorem watchExpiry_frame (c : Chan) (s : State) :
    (watchExpiry c s).pins = s.pins ∧ (watchExpiry c s).lpu = s.lpu ∧ (watchExpiry c s).scl = s.scl ∧
    (watchExpiry c s).mpm = s.mpm ∧ (watchExpiry c s).bsq = s.bsq ∧ (watchExpiry c s).mtr = s.mtr ∧
    (watchExpiry c s).blg = s.blg ∧ (watchExpiry c s).evr = s.evr ∧ (watchExpiry c s).mgu = s.mgu ∧
    (watchExpiry c s).mlk = s.mlk ∧ (watchExpiry c s).overrun = s.overrun ∧ (watchExpiry c s).pending = s.pending := by
  unfold watchExpiry
  split <;> simp

@[simp] theorem backoffExpiry_frame (c : Chan) (s : State) :
    (backoffExpiry c s).pins = s.pins ∧ (backoffExpiry c s).lpu = s.lpu ∧ (backoffExpiry c s).scl = s.scl ∧
    (backoffExpiry c s).mpm = s.mpm ∧ (backoffExpiry c s).rfg = s.rfg ∧ (backoffExpiry c s).bsq = s.bsq ∧
    (backoffExpiry c s).mtr = s.mtr ∧ (backoffExpiry c s).blg = s.blg ∧ (backoffExpiry c s).evr = s.evr ∧
    (backoffExpiry c s).mgu = s.mgu ∧ (backoffExpiry c s).mlk = s.mlk ∧ (backoffExpiry c s).handoffs = s.handoffs ∧
    (backoffExpiry c s).overrun = s.overrun ∧ (backoffExpiry c s).pending = s.pending := by
  unfold backoffExpiry
  split <;> simp

@[simp] theorem enterClosing_frame (c : Chan) (s : State) :
    (enterClosing c s).pins = s.pins ∧ (enterClosing c s).scl = s.scl ∧ (enterClosing c s).bsq = s.bsq ∧
    (enterClosing c s).mtr = s.mtr ∧ (enterClosing c s).blg = s.blg ∧ (enterClosing c s).evr = s.evr ∧
    (enterClosing c s).mgu = s.mgu ∧ (enterClosing c s).mlk = s.mlk ∧ (enterClosing c s).now = s.now ∧
    (enterClosing c s).handoffs = s.handoffs ∧ (enterClosing c s).overrun = s.overrun ∧
    (enterClosing c s).pending = s.pending := by
  unfold enterClosing
  split <;> simp

@[simp] theorem closeFailed_frame (c : Chan) (s : State) :
    (closeFailed c s).pins = s.pins ∧ (closeFailed c s).scl = s.scl ∧ (closeFailed c s).bsq = s.bsq ∧
    (closeFailed c s).mtr = s.mtr ∧ (closeFailed c s).blg = s.blg ∧ (closeFailed c s).evr = s.evr ∧
    (closeFailed c s).mgu = s.mgu ∧ (closeFailed c s).mlk = s.mlk ∧ (closeFailed c s).now = s.now ∧
    (closeFailed c s).overrun = s.overrun ∧ (closeFailed c s).pending = s.pending := by
  unfold closeFailed
  split <;> simp

@[simp] theorem confirmExpiry_frame (c : Chan) (s : State) :
    (confirmExpiry c s).pins = s.pins ∧ (confirmExpiry c s).scl = s.scl ∧ (confirmExpiry c s).bsq = s.bsq ∧
    (confirmExpiry c s).mtr = s.mtr ∧ (confirmExpiry c s).blg = s.blg ∧ (confirmExpiry c s).evr = s.evr ∧
    (confirmExpiry c s).mgu = s.mgu ∧ (confirmExpiry c s).mlk = s.mlk ∧ (confirmExpiry c s).overrun = s.overrun ∧
    (confirmExpiry c s).pending = s.pending := by
  unfold confirmExpiry
  split <;> simp

@[simp] theorem measureClose_frame (t : Target) (commandTime : Nat) (s : State) :
    (measureClose t commandTime s).pins = s.pins ∧ (measureClose t commandTime s).lpu = s.lpu ∧
    (measureClose t commandTime s).scl = s.scl ∧ (measureClose t commandTime s).mpm = s.mpm ∧
    (measureClose t commandTime s).rfg = s.rfg ∧ (measureClose t commandTime s).bsq = s.bsq ∧
    (measureClose t commandTime s).mtr = s.mtr ∧ (measureClose t commandTime s).blg = s.blg ∧
    (measureClose t commandTime s).evr = s.evr ∧ (measureClose t commandTime s).mgu = s.mgu ∧
    (measureClose t commandTime s).mlk = s.mlk ∧ (measureClose t commandTime s).now = s.now ∧
    (measureClose t commandTime s).handoffs = s.handoffs ∧ (measureClose t commandTime s).overrun = s.overrun ∧
    (measureClose t commandTime s).pending = s.pending := by
  simp [measureClose]

@[simp] theorem confirmEnd_frame (c : Chan) (req : SyncReq) (s : State) :
    (confirmEnd c req s).pins = s.pins ∧ (confirmEnd c req s).lpu = s.lpu ∧ (confirmEnd c req s).scl = s.scl ∧
    (confirmEnd c req s).mpm = s.mpm ∧ (confirmEnd c req s).bsq = s.bsq ∧ (confirmEnd c req s).mtr = s.mtr ∧
    (confirmEnd c req s).blg = s.blg ∧ (confirmEnd c req s).evr = s.evr ∧ (confirmEnd c req s).mgu = s.mgu ∧
    (confirmEnd c req s).mlk = s.mlk ∧ (confirmEnd c req s).now = s.now ∧
    (confirmEnd c req s).overrun = s.overrun ∧ (confirmEnd c req s).pending = s.pending := by
  simp [confirmEnd]

@[simp] theorem handPair_frame (t : Target) (f : Int) (v : Nat) (s : State) :
    (handPair t f v s).pins = s.pins ∧ (handPair t f v s).lpu = s.lpu ∧ (handPair t f v s).scl = s.scl ∧
    (handPair t f v s).mpm = s.mpm ∧ (handPair t f v s).syu = s.syu ∧ (handPair t f v s).bsq = s.bsq ∧
    (handPair t f v s).mtr = s.mtr ∧ (handPair t f v s).blg = s.blg ∧ (handPair t f v s).evr = s.evr ∧
    (handPair t f v s).mgu = s.mgu ∧ (handPair t f v s).mlk = s.mlk ∧ (handPair t f v s).now = s.now ∧
    (handPair t f v s).handoffs = s.handoffs ∧ (handPair t f v s).overrun = s.overrun ∧
    (handPair t f v s).pending = s.pending := by
  unfold handPair
  split <;> simp

@[simp] theorem steer_frame (c : Chan) (s : State) :
    (steer c s).pins = s.pins ∧ (steer c s).lpu = s.lpu ∧ (steer c s).scl = s.scl ∧ (steer c s).mpm = s.mpm ∧
    (steer c s).bsq = s.bsq ∧ (steer c s).mtr = s.mtr ∧ (steer c s).blg = s.blg ∧ (steer c s).evr = s.evr ∧
    (steer c s).mgu = s.mgu ∧ (steer c s).mlk = s.mlk ∧ (steer c s).now = s.now ∧
    (steer c s).handoffs = s.handoffs ∧ (steer c s).overrun = s.overrun ∧ (steer c s).pending = s.pending := by
  unfold steer
  split <;> simp

@[simp] theorem judgeWatching_frame (c : Chan) (e : Evaluation) (w : ChanWork) (s : State) :
    (judgeWatching c e w s).pins = s.pins ∧ (judgeWatching c e w s).scl = s.scl ∧
    (judgeWatching c e w s).bsq = s.bsq ∧ (judgeWatching c e w s).mtr = s.mtr ∧
    (judgeWatching c e w s).blg = s.blg ∧ (judgeWatching c e w s).evr = s.evr ∧
    (judgeWatching c e w s).mgu = s.mgu ∧ (judgeWatching c e w s).mlk = s.mlk ∧
    (judgeWatching c e w s).now = s.now ∧ (judgeWatching c e w s).handoffs = s.handoffs ∧
    (judgeWatching c e w s).overrun = s.overrun ∧ (judgeWatching c e w s).pending = s.pending := by
  unfold judgeWatching
  (repeat' split) <;> simp

@[simp] theorem evaluateChannel_frame (c : Chan) (s : State) :
    (evaluateChannel c s).pins = s.pins ∧ (evaluateChannel c s).scl = s.scl ∧ (evaluateChannel c s).bsq = s.bsq ∧
    (evaluateChannel c s).mtr = s.mtr ∧ (evaluateChannel c s).blg = s.blg ∧ (evaluateChannel c s).evr = s.evr ∧
    (evaluateChannel c s).mgu = s.mgu ∧ (evaluateChannel c s).mlk = s.mlk ∧ (evaluateChannel c s).now = s.now ∧
    (evaluateChannel c s).handoffs = s.handoffs ∧ (evaluateChannel c s).overrun = s.overrun ∧
    (evaluateChannel c s).pending = s.pending := by
  unfold evaluateChannel
  (repeat' split) <;> simp

@[simp] theorem channelRecord_frame (p : Point) (c : Chan) (s : State) :
    (channelRecord p c s).pins = s.pins ∧ (channelRecord p c s).scl = s.scl ∧ (channelRecord p c s).bsq = s.bsq ∧
    (channelRecord p c s).mtr = s.mtr ∧ (channelRecord p c s).blg = s.blg ∧ (channelRecord p c s).evr = s.evr ∧
    (channelRecord p c s).mgu = s.mgu ∧ (channelRecord p c s).mlk = s.mlk ∧ (channelRecord p c s).now = s.now ∧
    (channelRecord p c s).handoffs = s.handoffs ∧ (channelRecord p c s).overrun = s.overrun ∧
    (channelRecord p c s).pending = s.pending := by
  unfold channelRecord
  (repeat' split) <;> simp

@[simp] theorem syuRecord_frame (p : Point) (s : State) :
    (syuRecord p s).pins = s.pins ∧ (syuRecord p s).scl = s.scl ∧ (syuRecord p s).bsq = s.bsq ∧
    (syuRecord p s).mtr = s.mtr ∧ (syuRecord p s).blg = s.blg ∧ (syuRecord p s).evr = s.evr ∧
    (syuRecord p s).mgu = s.mgu ∧ (syuRecord p s).mlk = s.mlk ∧ (syuRecord p s).now = s.now ∧
    (syuRecord p s).handoffs = s.handoffs ∧ (syuRecord p s).overrun = s.overrun ∧
    (syuRecord p s).pending = s.pending := by
  simp [syuRecord]

@[simp] theorem requestDeadBus_frame (t : Target) (b : Berth) (q : Requester) (s : State) :
    (requestDeadBus t b q s).pins = s.pins ∧ (requestDeadBus t b q s).scl = s.scl ∧
    (requestDeadBus t b q s).bsq = s.bsq ∧ (requestDeadBus t b q s).mtr = s.mtr ∧
    (requestDeadBus t b q s).blg = s.blg ∧ (requestDeadBus t b q s).evr = s.evr ∧
    (requestDeadBus t b q s).mgu = s.mgu ∧ (requestDeadBus t b q s).mlk = s.mlk ∧
    (requestDeadBus t b q s).now = s.now ∧ (requestDeadBus t b q s).overrun = s.overrun ∧
    (requestDeadBus t b q s).pending = s.pending := by
  unfold requestDeadBus
  split <;> simp

@[simp] theorem dropDeadClose_frame (t : Target) (s : State) :
    (dropDeadClose t s).pins = s.pins ∧ (dropDeadClose t s).lpu = s.lpu ∧ (dropDeadClose t s).scl = s.scl ∧
    (dropDeadClose t s).mpm = s.mpm ∧ (dropDeadClose t s).rfg = s.rfg ∧ (dropDeadClose t s).bsq = s.bsq ∧
    (dropDeadClose t s).mtr = s.mtr ∧ (dropDeadClose t s).blg = s.blg ∧ (dropDeadClose t s).evr = s.evr ∧
    (dropDeadClose t s).mgu = s.mgu ∧ (dropDeadClose t s).mlk = s.mlk ∧ (dropDeadClose t s).now = s.now ∧
    (dropDeadClose t s).handoffs = s.handoffs ∧ (dropDeadClose t s).overrun = s.overrun ∧
    (dropDeadClose t s).pending = s.pending := by
  simp [dropDeadClose]

@[simp] theorem deadCloseFailed_frame (d : DeadClose) (s : State) :
    (deadCloseFailed d s).pins = s.pins ∧ (deadCloseFailed d s).scl = s.scl ∧ (deadCloseFailed d s).bsq = s.bsq ∧
    (deadCloseFailed d s).mtr = s.mtr ∧ (deadCloseFailed d s).blg = s.blg ∧ (deadCloseFailed d s).evr = s.evr ∧
    (deadCloseFailed d s).mgu = s.mgu ∧ (deadCloseFailed d s).mlk = s.mlk ∧ (deadCloseFailed d s).now = s.now ∧
    (deadCloseFailed d s).overrun = s.overrun ∧ (deadCloseFailed d s).pending = s.pending := by
  simp [deadCloseFailed]

@[simp] theorem deadBusConfirmExpiry_frame (t : Target) (s : State) :
    (deadBusConfirmExpiry t s).pins = s.pins ∧ (deadBusConfirmExpiry t s).scl = s.scl ∧
    (deadBusConfirmExpiry t s).bsq = s.bsq ∧ (deadBusConfirmExpiry t s).mtr = s.mtr ∧
    (deadBusConfirmExpiry t s).blg = s.blg ∧ (deadBusConfirmExpiry t s).evr = s.evr ∧
    (deadBusConfirmExpiry t s).mgu = s.mgu ∧ (deadBusConfirmExpiry t s).mlk = s.mlk ∧
    (deadBusConfirmExpiry t s).overrun = s.overrun ∧ (deadBusConfirmExpiry t s).pending = s.pending := by
  unfold deadBusConfirmExpiry
  split <;> simp

@[simp] theorem cancelChannel_frame (t : Target) (c : Chan) (s : State) :
    (cancelChannel t c s).pins = s.pins ∧ (cancelChannel t c s).scl = s.scl ∧ (cancelChannel t c s).bsq = s.bsq ∧
    (cancelChannel t c s).mtr = s.mtr ∧ (cancelChannel t c s).blg = s.blg ∧ (cancelChannel t c s).evr = s.evr ∧
    (cancelChannel t c s).mgu = s.mgu ∧ (cancelChannel t c s).mlk = s.mlk ∧ (cancelChannel t c s).now = s.now ∧
    (cancelChannel t c s).overrun = s.overrun ∧ (cancelChannel t c s).pending = s.pending := by
  unfold cancelChannel
  (repeat' split) <;> simp

@[simp] theorem cancelQueued_frame (t : Target) (s : State) :
    (cancelQueued t s).pins = s.pins ∧ (cancelQueued t s).lpu = s.lpu ∧ (cancelQueued t s).scl = s.scl ∧
    (cancelQueued t s).mpm = s.mpm ∧ (cancelQueued t s).bsq = s.bsq ∧ (cancelQueued t s).mtr = s.mtr ∧
    (cancelQueued t s).blg = s.blg ∧ (cancelQueued t s).evr = s.evr ∧ (cancelQueued t s).mgu = s.mgu ∧
    (cancelQueued t s).mlk = s.mlk ∧ (cancelQueued t s).now = s.now ∧ (cancelQueued t s).overrun = s.overrun ∧
    (cancelQueued t s).pending = s.pending := by
  unfold cancelQueued
  split <;> simp

@[simp] theorem cancelDeadClose_frame (t : Target) (s : State) :
    (cancelDeadClose t s).pins = s.pins ∧ (cancelDeadClose t s).scl = s.scl ∧ (cancelDeadClose t s).bsq = s.bsq ∧
    (cancelDeadClose t s).mtr = s.mtr ∧ (cancelDeadClose t s).blg = s.blg ∧ (cancelDeadClose t s).evr = s.evr ∧
    (cancelDeadClose t s).mgu = s.mgu ∧ (cancelDeadClose t s).mlk = s.mlk ∧ (cancelDeadClose t s).now = s.now ∧
    (cancelDeadClose t s).handoffs = s.handoffs ∧ (cancelDeadClose t s).overrun = s.overrun ∧
    (cancelDeadClose t s).pending = s.pending := by
  unfold cancelDeadClose
  split <;> simp

@[simp] theorem cancelSync_frame (t : Target) (s : State) :
    (cancelSync t s).pins = s.pins ∧ (cancelSync t s).scl = s.scl ∧ (cancelSync t s).bsq = s.bsq ∧
    (cancelSync t s).mtr = s.mtr ∧ (cancelSync t s).blg = s.blg ∧ (cancelSync t s).evr = s.evr ∧
    (cancelSync t s).mgu = s.mgu ∧ (cancelSync t s).mlk = s.mlk ∧ (cancelSync t s).now = s.now ∧
    (cancelSync t s).overrun = s.overrun ∧ (cancelSync t s).pending = s.pending := by
  simp [cancelSync]

@[simp] theorem estopChannel_frame (c : Chan) (s : State) :
    (estopChannel c s).pins = s.pins ∧ (estopChannel c s).scl = s.scl ∧ (estopChannel c s).bsq = s.bsq ∧
    (estopChannel c s).mtr = s.mtr ∧ (estopChannel c s).blg = s.blg ∧ (estopChannel c s).evr = s.evr ∧
    (estopChannel c s).mgu = s.mgu ∧ (estopChannel c s).mlk = s.mlk ∧ (estopChannel c s).now = s.now ∧
    (estopChannel c s).overrun = s.overrun ∧ (estopChannel c s).pending = s.pending := by
  unfold estopChannel
  (repeat' split) <;> simp

@[simp] theorem estopDeadClose_frame (d : DeadClose) (s : State) :
    (estopDeadClose d s).pins = s.pins ∧ (estopDeadClose d s).scl = s.scl ∧ (estopDeadClose d s).bsq = s.bsq ∧
    (estopDeadClose d s).mtr = s.mtr ∧ (estopDeadClose d s).blg = s.blg ∧ (estopDeadClose d s).evr = s.evr ∧
    (estopDeadClose d s).mgu = s.mgu ∧ (estopDeadClose d s).mlk = s.mlk ∧ (estopDeadClose d s).now = s.now ∧
    (estopDeadClose d s).overrun = s.overrun ∧ (estopDeadClose d s).pending = s.pending := by
  simp [estopDeadClose]

@[simp] theorem syuEstop_frame (s : State) :
    (syuEstop s).pins = s.pins ∧ (syuEstop s).scl = s.scl ∧ (syuEstop s).bsq = s.bsq ∧ (syuEstop s).mtr = s.mtr ∧
    (syuEstop s).blg = s.blg ∧ (syuEstop s).evr = s.evr ∧ (syuEstop s).mgu = s.mgu ∧ (syuEstop s).mlk = s.mlk ∧
    (syuEstop s).now = s.now ∧ (syuEstop s).overrun = s.overrun ∧ (syuEstop s).pending = s.pending := by
  simp [syuEstop]

@[simp] theorem tellSummary_frame (b : Berth) (s : State) :
    (tellSummary b s).pins = s.pins ∧ (tellSummary b s).lpu = s.lpu ∧ (tellSummary b s).scl = s.scl ∧
    (tellSummary b s).mpm = s.mpm ∧ (tellSummary b s).rfg = s.rfg ∧ (tellSummary b s).syu = s.syu ∧
    (tellSummary b s).bsq = s.bsq ∧ (tellSummary b s).mtr = s.mtr ∧ (tellSummary b s).blg = s.blg ∧
    (tellSummary b s).evr = s.evr ∧ (tellSummary b s).mgu = s.mgu ∧ (tellSummary b s).mlk = s.mlk ∧
    (tellSummary b s).now = s.now ∧ (tellSummary b s).overrun = s.overrun ∧ (tellSummary b s).pending = s.pending := by
  simp [tellSummary]

@[simp] theorem tellLeft_frame (b : Option Berth) (s : State) :
    (tellLeft b s).pins = s.pins ∧ (tellLeft b s).lpu = s.lpu ∧ (tellLeft b s).scl = s.scl ∧
    (tellLeft b s).mpm = s.mpm ∧ (tellLeft b s).rfg = s.rfg ∧ (tellLeft b s).syu = s.syu ∧
    (tellLeft b s).bsq = s.bsq ∧ (tellLeft b s).mtr = s.mtr ∧ (tellLeft b s).blg = s.blg ∧
    (tellLeft b s).evr = s.evr ∧ (tellLeft b s).mgu = s.mgu ∧ (tellLeft b s).mlk = s.mlk ∧
    (tellLeft b s).now = s.now ∧ (tellLeft b s).overrun = s.overrun ∧ (tellLeft b s).pending = s.pending := by
  unfold tellLeft
  (repeat' split) <;> simp

@[simp] theorem tellFailure_frame (v : Bool) (b : Option Berth) (s : State) :
    (tellFailure v b s).pins = s.pins ∧ (tellFailure v b s).lpu = s.lpu ∧ (tellFailure v b s).scl = s.scl ∧
    (tellFailure v b s).mpm = s.mpm ∧ (tellFailure v b s).rfg = s.rfg ∧ (tellFailure v b s).syu = s.syu ∧
    (tellFailure v b s).bsq = s.bsq ∧ (tellFailure v b s).mtr = s.mtr ∧ (tellFailure v b s).blg = s.blg ∧
    (tellFailure v b s).evr = s.evr ∧ (tellFailure v b s).mgu = s.mgu ∧ (tellFailure v b s).mlk = s.mlk ∧
    (tellFailure v b s).now = s.now ∧ (tellFailure v b s).overrun = s.overrun ∧
    (tellFailure v b s).pending = s.pending := by
  unfold tellFailure
  (repeat' split) <;> simp

@[simp] theorem leaveList_frame (m : Module) (st : ModuleState) (s : State) :
    (leaveList m st s).pins = s.pins ∧ (leaveList m st s).lpu = s.lpu ∧ (leaveList m st s).scl = s.scl ∧
    (leaveList m st s).syu = s.syu ∧ (leaveList m st s).bsq = s.bsq ∧ (leaveList m st s).mtr = s.mtr ∧
    (leaveList m st s).blg = s.blg ∧ (leaveList m st s).evr = s.evr ∧ (leaveList m st s).mgu = s.mgu ∧
    (leaveList m st s).mlk = s.mlk ∧ (leaveList m st s).now = s.now ∧ (leaveList m st s).handoffs = s.handoffs ∧
    (leaveList m st s).overrun = s.overrun ∧ (leaveList m st s).pending = s.pending := by
  simp [leaveList]

@[simp] theorem takeModule_frame (b : Berth) (first : Bool) (m : Module) (s : State) :
    (takeModule b first m s).pins = s.pins ∧ (takeModule b first m s).lpu = s.lpu ∧
    (takeModule b first m s).scl = s.scl ∧ (takeModule b first m s).syu = s.syu ∧
    (takeModule b first m s).bsq = s.bsq ∧ (takeModule b first m s).mtr = s.mtr ∧
    (takeModule b first m s).blg = s.blg ∧ (takeModule b first m s).evr = s.evr ∧
    (takeModule b first m s).mgu = s.mgu ∧ (takeModule b first m s).mlk = s.mlk ∧
    (takeModule b first m s).now = s.now ∧ (takeModule b first m s).handoffs = s.handoffs ∧
    (takeModule b first m s).overrun = s.overrun ∧ (takeModule b first m s).pending = s.pending := by
  simp [takeModule]

@[simp] theorem release_frame (m : Module) (s : State) :
    (release m s).pins = s.pins ∧ (release m s).scl = s.scl ∧ (release m s).bsq = s.bsq ∧
    (release m s).mtr = s.mtr ∧ (release m s).blg = s.blg ∧ (release m s).evr = s.evr ∧ (release m s).mgu = s.mgu ∧
    (release m s).mlk = s.mlk ∧ (release m s).now = s.now ∧ (release m s).overrun = s.overrun ∧
    (release m s).pending = s.pending := by
  unfold release
  (repeat' split) <;> simp

@[simp] theorem releaseBerth_frame (b : Berth) (s : State) :
    (releaseBerth b s).pins = s.pins ∧ (releaseBerth b s).scl = s.scl ∧ (releaseBerth b s).bsq = s.bsq ∧
    (releaseBerth b s).mtr = s.mtr ∧ (releaseBerth b s).blg = s.blg ∧ (releaseBerth b s).evr = s.evr ∧
    (releaseBerth b s).mgu = s.mgu ∧ (releaseBerth b s).mlk = s.mlk ∧ (releaseBerth b s).now = s.now ∧
    (releaseBerth b s).overrun = s.overrun ∧ (releaseBerth b s).pending = s.pending := by
  simp [releaseBerth]

@[simp] theorem replaceModule_frame (b : Berth) (s : State) :
    (replaceModule b s).pins = s.pins ∧ (replaceModule b s).lpu = s.lpu ∧ (replaceModule b s).scl = s.scl ∧
    (replaceModule b s).syu = s.syu ∧ (replaceModule b s).bsq = s.bsq ∧ (replaceModule b s).mtr = s.mtr ∧
    (replaceModule b s).blg = s.blg ∧ (replaceModule b s).evr = s.evr ∧ (replaceModule b s).mgu = s.mgu ∧
    (replaceModule b s).mlk = s.mlk ∧ (replaceModule b s).now = s.now ∧ (replaceModule b s).handoffs = s.handoffs ∧
    (replaceModule b s).overrun = s.overrun ∧ (replaceModule b s).pending = s.pending := by
  unfold replaceModule
  (repeat' split) <;> simp

@[simp] theorem replaceAfter_frame (wasOnline : Bool) (b : Option Berth) (s : State) :
    (replaceAfter wasOnline b s).pins = s.pins ∧ (replaceAfter wasOnline b s).lpu = s.lpu ∧
    (replaceAfter wasOnline b s).scl = s.scl ∧ (replaceAfter wasOnline b s).syu = s.syu ∧
    (replaceAfter wasOnline b s).bsq = s.bsq ∧ (replaceAfter wasOnline b s).mtr = s.mtr ∧
    (replaceAfter wasOnline b s).blg = s.blg ∧ (replaceAfter wasOnline b s).evr = s.evr ∧
    (replaceAfter wasOnline b s).mgu = s.mgu ∧ (replaceAfter wasOnline b s).mlk = s.mlk ∧
    (replaceAfter wasOnline b s).now = s.now ∧ (replaceAfter wasOnline b s).handoffs = s.handoffs ∧
    (replaceAfter wasOnline b s).overrun = s.overrun ∧ (replaceAfter wasOnline b s).pending = s.pending := by
  unfold replaceAfter
  (repeat' split) <;> simp

@[simp] theorem lose_frame (m : Module) (s : State) :
    (lose m s).pins = s.pins ∧ (lose m s).scl = s.scl ∧ (lose m s).bsq = s.bsq ∧ (lose m s).mtr = s.mtr ∧
    (lose m s).blg = s.blg ∧ (lose m s).evr = s.evr ∧ (lose m s).mgu = s.mgu ∧ (lose m s).mlk = s.mlk ∧
    (lose m s).now = s.now ∧ (lose m s).overrun = s.overrun ∧ (lose m s).pending = s.pending := by
  unfold lose
  dsimp only
  (repeat' split) <;> simp

@[simp] theorem miss_frame (m : Module) (s : State) :
    (miss m s).pins = s.pins ∧ (miss m s).scl = s.scl ∧ (miss m s).bsq = s.bsq ∧ (miss m s).mtr = s.mtr ∧
    (miss m s).blg = s.blg ∧ (miss m s).evr = s.evr ∧ (miss m s).mgu = s.mgu ∧ (miss m s).mlk = s.mlk ∧
    (miss m s).now = s.now ∧ (miss m s).overrun = s.overrun ∧ (miss m s).pending = s.pending := by
  unfold miss
  dsimp only
  (repeat' split) <;> simp

@[simp] theorem pollSkippedTaken_frame (m : Module) (number : Nat) (s : State) :
    (pollSkippedTaken m number s).pins = s.pins ∧ (pollSkippedTaken m number s).scl = s.scl ∧
    (pollSkippedTaken m number s).bsq = s.bsq ∧ (pollSkippedTaken m number s).mtr = s.mtr ∧
    (pollSkippedTaken m number s).blg = s.blg ∧ (pollSkippedTaken m number s).evr = s.evr ∧
    (pollSkippedTaken m number s).mgu = s.mgu ∧ (pollSkippedTaken m number s).mlk = s.mlk ∧
    (pollSkippedTaken m number s).now = s.now ∧ (pollSkippedTaken m number s).overrun = s.overrun ∧
    (pollSkippedTaken m number s).pending = s.pending := by
  unfold pollSkippedTaken
  (repeat' split) <;> simp

@[simp] theorem pollReplyExpiry_frame (s : State) :
    (pollReplyExpiry s).pins = s.pins ∧ (pollReplyExpiry s).scl = s.scl ∧ (pollReplyExpiry s).bsq = s.bsq ∧
    (pollReplyExpiry s).mtr = s.mtr ∧ (pollReplyExpiry s).blg = s.blg ∧ (pollReplyExpiry s).evr = s.evr ∧
    (pollReplyExpiry s).mgu = s.mgu ∧ (pollReplyExpiry s).mlk = s.mlk ∧ (pollReplyExpiry s).overrun = s.overrun ∧
    (pollReplyExpiry s).pending = s.pending := by
  unfold pollReplyExpiry
  split <;> simp

@[simp] theorem startExpiry_frame (m : Module) (s : State) :
    (startExpiry m s).pins = s.pins ∧ (startExpiry m s).scl = s.scl ∧ (startExpiry m s).bsq = s.bsq ∧
    (startExpiry m s).mtr = s.mtr ∧ (startExpiry m s).blg = s.blg ∧ (startExpiry m s).evr = s.evr ∧
    (startExpiry m s).mgu = s.mgu ∧ (startExpiry m s).mlk = s.mlk ∧ (startExpiry m s).overrun = s.overrun ∧
    (startExpiry m s).pending = s.pending := by
  unfold startExpiry
  split <;> simp

@[simp] theorem stopCheck_frame (m : Module) (s : State) :
    (stopCheck m s).pins = s.pins ∧ (stopCheck m s).lpu = s.lpu ∧ (stopCheck m s).scl = s.scl ∧
    (stopCheck m s).syu = s.syu ∧ (stopCheck m s).bsq = s.bsq ∧ (stopCheck m s).mtr = s.mtr ∧
    (stopCheck m s).blg = s.blg ∧ (stopCheck m s).evr = s.evr ∧ (stopCheck m s).mgu = s.mgu ∧
    (stopCheck m s).mlk = s.mlk ∧ (stopCheck m s).now = s.now ∧ (stopCheck m s).overrun = s.overrun ∧
    (stopCheck m s).pending = s.pending := by
  unfold stopCheck
  dsimp only
  (repeat' split) <;> simp

@[simp] theorem stopExpiry_frame (m : Module) (s : State) :
    (stopExpiry m s).pins = s.pins ∧ (stopExpiry m s).scl = s.scl ∧ (stopExpiry m s).syu = s.syu ∧
    (stopExpiry m s).bsq = s.bsq ∧ (stopExpiry m s).mtr = s.mtr ∧ (stopExpiry m s).blg = s.blg ∧
    (stopExpiry m s).evr = s.evr ∧ (stopExpiry m s).mgu = s.mgu ∧ (stopExpiry m s).mlk = s.mlk ∧
    (stopExpiry m s).overrun = s.overrun ∧ (stopExpiry m s).pending = s.pending := by
  unfold stopExpiry
  split <;> simp

@[simp] theorem queueDeferred_frame (b : Berth) (m : Module) (s : State) :
    (queueDeferred b m s).pins = s.pins ∧ (queueDeferred b m s).lpu = s.lpu ∧ (queueDeferred b m s).scl = s.scl ∧
    (queueDeferred b m s).bsq = s.bsq ∧ (queueDeferred b m s).mtr = s.mtr ∧ (queueDeferred b m s).blg = s.blg ∧
    (queueDeferred b m s).evr = s.evr ∧ (queueDeferred b m s).mgu = s.mgu ∧ (queueDeferred b m s).mlk = s.mlk ∧
    (queueDeferred b m s).now = s.now ∧ (queueDeferred b m s).overrun = s.overrun ∧
    (queueDeferred b m s).pending = s.pending := by
  unfold queueDeferred
  split <;> simp

@[simp] theorem becomeOnline_frame (b : Berth) (m : Module) (s : State) :
    (becomeOnline b m s).pins = s.pins ∧ (becomeOnline b m s).lpu = s.lpu ∧ (becomeOnline b m s).scl = s.scl ∧
    (becomeOnline b m s).bsq = s.bsq ∧ (becomeOnline b m s).mtr = s.mtr ∧ (becomeOnline b m s).blg = s.blg ∧
    (becomeOnline b m s).evr = s.evr ∧ (becomeOnline b m s).mgu = s.mgu ∧ (becomeOnline b m s).mlk = s.mlk ∧
    (becomeOnline b m s).now = s.now ∧ (becomeOnline b m s).overrun = s.overrun ∧
    (becomeOnline b m s).pending = s.pending := by
  unfold becomeOnline
  split <;> simp

@[simp] theorem becomeSyncing_frame (b : Berth) (m : Module) (s : State) :
    (becomeSyncing b m s).pins = s.pins ∧ (becomeSyncing b m s).lpu = s.lpu ∧ (becomeSyncing b m s).scl = s.scl ∧
    (becomeSyncing b m s).bsq = s.bsq ∧ (becomeSyncing b m s).mtr = s.mtr ∧ (becomeSyncing b m s).blg = s.blg ∧
    (becomeSyncing b m s).evr = s.evr ∧ (becomeSyncing b m s).mgu = s.mgu ∧ (becomeSyncing b m s).mlk = s.mlk ∧
    (becomeSyncing b m s).now = s.now ∧ (becomeSyncing b m s).overrun = s.overrun ∧
    (becomeSyncing b m s).pending = s.pending := by
  unfold becomeSyncing
  split <;> simp

@[simp] theorem startCheck_frame (m : Module) (s : State) :
    (startCheck m s).pins = s.pins ∧ (startCheck m s).lpu = s.lpu ∧ (startCheck m s).scl = s.scl ∧
    (startCheck m s).bsq = s.bsq ∧ (startCheck m s).mtr = s.mtr ∧ (startCheck m s).blg = s.blg ∧
    (startCheck m s).evr = s.evr ∧ (startCheck m s).mgu = s.mgu ∧ (startCheck m s).mlk = s.mlk ∧
    (startCheck m s).now = s.now ∧ (startCheck m s).overrun = s.overrun ∧ (startCheck m s).pending = s.pending := by
  unfold startCheck
  dsimp only
  (repeat' split) <;> simp

@[simp] theorem contactorOutcome_frame (m : Module) (b : Berth) (o : DeadOutcome) (s : State) :
    (contactorOutcome m b o s).pins = s.pins ∧ (contactorOutcome m b o s).scl = s.scl ∧
    (contactorOutcome m b o s).bsq = s.bsq ∧ (contactorOutcome m b o s).mtr = s.mtr ∧
    (contactorOutcome m b o s).blg = s.blg ∧ (contactorOutcome m b o s).evr = s.evr ∧
    (contactorOutcome m b o s).mgu = s.mgu ∧ (contactorOutcome m b o s).mlk = s.mlk ∧
    (contactorOutcome m b o s).now = s.now ∧ (contactorOutcome m b o s).overrun = s.overrun ∧
    (contactorOutcome m b o s).pending = s.pending := by
  unfold contactorOutcome
  dsimp only
  (repeat' split) <;> simp

@[simp] theorem contactorResult_frame (m : Module) (res : SyncResult) (s : State) :
    (contactorResult m res s).pins = s.pins ∧ (contactorResult m res s).scl = s.scl ∧
    (contactorResult m res s).bsq = s.bsq ∧ (contactorResult m res s).mtr = s.mtr ∧
    (contactorResult m res s).blg = s.blg ∧ (contactorResult m res s).evr = s.evr ∧
    (contactorResult m res s).mgu = s.mgu ∧ (contactorResult m res s).mlk = s.mlk ∧
    (contactorResult m res s).now = s.now ∧ (contactorResult m res s).overrun = s.overrun ∧
    (contactorResult m res s).pending = s.pending := by
  unfold contactorResult
  (repeat' split) <;> simp

@[simp] theorem askFirstClose_frame (b : Berth) (m : Module) (s : State) :
    (askFirstClose b m s).pins = s.pins ∧ (askFirstClose b m s).scl = s.scl ∧ (askFirstClose b m s).bsq = s.bsq ∧
    (askFirstClose b m s).mtr = s.mtr ∧ (askFirstClose b m s).blg = s.blg ∧ (askFirstClose b m s).evr = s.evr ∧
    (askFirstClose b m s).mgu = s.mgu ∧ (askFirstClose b m s).mlk = s.mlk ∧ (askFirstClose b m s).now = s.now ∧
    (askFirstClose b m s).overrun = s.overrun ∧ (askFirstClose b m s).pending = s.pending := by
  unfold askFirstClose
  (repeat' split) <;> simp

@[simp] theorem allocate_frame (b : Berth) (s : State) :
    (allocate b s).pins = s.pins ∧ (allocate b s).scl = s.scl ∧ (allocate b s).bsq = s.bsq ∧
    (allocate b s).mtr = s.mtr ∧ (allocate b s).blg = s.blg ∧ (allocate b s).evr = s.evr ∧
    (allocate b s).mgu = s.mgu ∧ (allocate b s).mlk = s.mlk ∧ (allocate b s).now = s.now ∧
    (allocate b s).overrun = s.overrun ∧ (allocate b s).pending = s.pending := by
  unfold allocate
  split <;> simp

@[simp] theorem contactorPosition_frame (m : Module) (p : Position) (s : State) :
    (contactorPosition m p s).pins = s.pins ∧ (contactorPosition m p s).scl = s.scl ∧
    (contactorPosition m p s).bsq = s.bsq ∧ (contactorPosition m p s).mtr = s.mtr ∧
    (contactorPosition m p s).blg = s.blg ∧ (contactorPosition m p s).evr = s.evr ∧
    (contactorPosition m p s).mgu = s.mgu ∧ (contactorPosition m p s).mlk = s.mlk ∧
    (contactorPosition m p s).now = s.now ∧ (contactorPosition m p s).overrun = s.overrun ∧
    (contactorPosition m p s).pending = s.pending := by
  unfold contactorPosition
  (repeat' split) <;> simp

@[simp] theorem pollModule_frame (m : Module) (s : State) :
    (pollModule m s).pins = s.pins ∧ (pollModule m s).scl = s.scl ∧ (pollModule m s).syu = s.syu ∧
    (pollModule m s).bsq = s.bsq ∧ (pollModule m s).mtr = s.mtr ∧ (pollModule m s).blg = s.blg ∧
    (pollModule m s).evr = s.evr ∧ (pollModule m s).mgu = s.mgu ∧ (pollModule m s).mlk = s.mlk ∧
    (pollModule m s).now = s.now ∧ (pollModule m s).overrun = s.overrun ∧ (pollModule m s).pending = s.pending := by
  simp [pollModule]

@[simp] theorem scanSlot_frame (s : State) :
    (scanSlot s).pins = s.pins ∧ (scanSlot s).scl = s.scl ∧ (scanSlot s).syu = s.syu ∧ (scanSlot s).bsq = s.bsq ∧
    (scanSlot s).mtr = s.mtr ∧ (scanSlot s).blg = s.blg ∧ (scanSlot s).evr = s.evr ∧ (scanSlot s).mgu = s.mgu ∧
    (scanSlot s).mlk = s.mlk ∧ (scanSlot s).overrun = s.overrun ∧ (scanSlot s).pending = s.pending := by
  unfold scanSlot
  dsimp only
  (repeat' split) <;> simp

@[simp] theorem recordReply_frame (y : Reply) (s : State) :
    (recordReply y s).pins = s.pins ∧ (recordReply y s).lpu = s.lpu ∧ (recordReply y s).scl = s.scl ∧
    (recordReply y s).rfg = s.rfg ∧ (recordReply y s).syu = s.syu ∧ (recordReply y s).bsq = s.bsq ∧
    (recordReply y s).mtr = s.mtr ∧ (recordReply y s).blg = s.blg ∧ (recordReply y s).evr = s.evr ∧
    (recordReply y s).mgu = s.mgu ∧ (recordReply y s).mlk = s.mlk ∧ (recordReply y s).now = s.now ∧
    (recordReply y s).overrun = s.overrun ∧ (recordReply y s).pending = s.pending := by
  unfold recordReply
  dsimp only
  (repeat' split) <;> simp

@[simp] theorem replyRules_frame (y : Reply) (s : State) :
    (replyRules y s).pins = s.pins ∧ (replyRules y s).lpu = s.lpu ∧ (replyRules y s).scl = s.scl ∧
    (replyRules y s).bsq = s.bsq ∧ (replyRules y s).mtr = s.mtr ∧ (replyRules y s).blg = s.blg ∧
    (replyRules y s).evr = s.evr ∧ (replyRules y s).mgu = s.mgu ∧ (replyRules y s).mlk = s.mlk ∧
    (replyRules y s).now = s.now ∧ (replyRules y s).overrun = s.overrun ∧ (replyRules y s).pending = s.pending := by
  unfold replyRules
  dsimp only
  (repeat' split) <;> simp

@[simp] theorem replyTaken_frame (src : Nat) (y : Reply) (s : State) :
    (replyTaken src y s).pins = s.pins ∧ (replyTaken src y s).lpu = s.lpu ∧ (replyTaken src y s).scl = s.scl ∧
    (replyTaken src y s).bsq = s.bsq ∧ (replyTaken src y s).mtr = s.mtr ∧ (replyTaken src y s).blg = s.blg ∧
    (replyTaken src y s).evr = s.evr ∧ (replyTaken src y s).mgu = s.mgu ∧ (replyTaken src y s).mlk = s.mlk ∧
    (replyTaken src y s).now = s.now ∧ (replyTaken src y s).overrun = s.overrun ∧
    (replyTaken src y s).pending = s.pending := by
  unfold replyTaken
  split <;> simp

@[simp] theorem blockModule_frame (m : Module) (s : State) :
    (blockModule m s).pins = s.pins ∧ (blockModule m s).scl = s.scl ∧ (blockModule m s).bsq = s.bsq ∧
    (blockModule m s).mtr = s.mtr ∧ (blockModule m s).blg = s.blg ∧ (blockModule m s).evr = s.evr ∧
    (blockModule m s).mgu = s.mgu ∧ (blockModule m s).mlk = s.mlk ∧ (blockModule m s).now = s.now ∧
    (blockModule m s).overrun = s.overrun ∧ (blockModule m s).pending = s.pending := by
  unfold blockModule
  dsimp only
  (repeat' split) <;> simp

@[simp] theorem blockCmd_frame (m : Module) (s : State) :
    (blockCmd m s).2.pins = s.pins ∧ (blockCmd m s).2.scl = s.scl ∧ (blockCmd m s).2.bsq = s.bsq ∧
    (blockCmd m s).2.mtr = s.mtr ∧ (blockCmd m s).2.blg = s.blg ∧ (blockCmd m s).2.evr = s.evr ∧
    (blockCmd m s).2.mgu = s.mgu ∧ (blockCmd m s).2.mlk = s.mlk ∧ (blockCmd m s).2.now = s.now ∧
    (blockCmd m s).2.overrun = s.overrun ∧ (blockCmd m s).2.pending = s.pending := by
  unfold blockCmd
  split <;> simp

@[simp] theorem unblockCmd_frame (m : Module) (s : State) :
    (unblockCmd m s).2.pins = s.pins ∧ (unblockCmd m s).2.lpu = s.lpu ∧ (unblockCmd m s).2.scl = s.scl ∧
    (unblockCmd m s).2.syu = s.syu ∧ (unblockCmd m s).2.bsq = s.bsq ∧ (unblockCmd m s).2.mtr = s.mtr ∧
    (unblockCmd m s).2.blg = s.blg ∧ (unblockCmd m s).2.evr = s.evr ∧ (unblockCmd m s).2.mgu = s.mgu ∧
    (unblockCmd m s).2.mlk = s.mlk ∧ (unblockCmd m s).2.now = s.now ∧ (unblockCmd m s).2.handoffs = s.handoffs ∧
    (unblockCmd m s).2.overrun = s.overrun ∧ (unblockCmd m s).2.pending = s.pending := by
  unfold unblockCmd
  (repeat' split) <;> simp

@[simp] theorem readmitCmd_frame (m : Module) (s : State) :
    (readmitCmd m s).2.pins = s.pins ∧ (readmitCmd m s).2.lpu = s.lpu ∧ (readmitCmd m s).2.scl = s.scl ∧
    (readmitCmd m s).2.syu = s.syu ∧ (readmitCmd m s).2.bsq = s.bsq ∧ (readmitCmd m s).2.mtr = s.mtr ∧
    (readmitCmd m s).2.blg = s.blg ∧ (readmitCmd m s).2.evr = s.evr ∧ (readmitCmd m s).2.mgu = s.mgu ∧
    (readmitCmd m s).2.mlk = s.mlk ∧ (readmitCmd m s).2.now = s.now ∧ (readmitCmd m s).2.handoffs = s.handoffs ∧
    (readmitCmd m s).2.overrun = s.overrun ∧ (readmitCmd m s).2.pending = s.pending := by
  unfold readmitCmd
  (repeat' split) <;> simp

@[simp] theorem evalLogFull_frame (s : State) :
    (evalLogFull s).pins = s.pins ∧ (evalLogFull s).lpu = s.lpu ∧ (evalLogFull s).scl = s.scl ∧
    (evalLogFull s).mpm = s.mpm ∧ (evalLogFull s).rfg = s.rfg ∧ (evalLogFull s).syu = s.syu ∧
    (evalLogFull s).bsq = s.bsq ∧ (evalLogFull s).mtr = s.mtr ∧ (evalLogFull s).evr = s.evr ∧
    (evalLogFull s).mgu = s.mgu ∧ (evalLogFull s).mlk = s.mlk ∧ (evalLogFull s).now = s.now ∧
    (evalLogFull s).overrun = s.overrun ∧ (evalLogFull s).pending = s.pending := by
  unfold evalLogFull
  split <;> simp

@[simp] theorem reserveSlot_frame (b : Berth) (s : State) :
    (reserveSlot b s).pins = s.pins ∧ (reserveSlot b s).lpu = s.lpu ∧ (reserveSlot b s).scl = s.scl ∧
    (reserveSlot b s).mpm = s.mpm ∧ (reserveSlot b s).rfg = s.rfg ∧ (reserveSlot b s).syu = s.syu ∧
    (reserveSlot b s).bsq = s.bsq ∧ (reserveSlot b s).mtr = s.mtr ∧ (reserveSlot b s).evr = s.evr ∧
    (reserveSlot b s).mgu = s.mgu ∧ (reserveSlot b s).mlk = s.mlk ∧ (reserveSlot b s).now = s.now ∧
    (reserveSlot b s).overrun = s.overrun ∧ (reserveSlot b s).pending = s.pending := by
  unfold reserveSlot
  split <;> simp

@[simp] theorem freeSlot_frame (b : Berth) (s : State) :
    (freeSlot b s).pins = s.pins ∧ (freeSlot b s).lpu = s.lpu ∧ (freeSlot b s).scl = s.scl ∧
    (freeSlot b s).mpm = s.mpm ∧ (freeSlot b s).rfg = s.rfg ∧ (freeSlot b s).syu = s.syu ∧
    (freeSlot b s).bsq = s.bsq ∧ (freeSlot b s).mtr = s.mtr ∧ (freeSlot b s).evr = s.evr ∧
    (freeSlot b s).mgu = s.mgu ∧ (freeSlot b s).mlk = s.mlk ∧ (freeSlot b s).now = s.now ∧
    (freeSlot b s).overrun = s.overrun ∧ (freeSlot b s).pending = s.pending := by
  unfold freeSlot
  split <;> simp

@[simp] theorem modSession_frame (b : Berth) (g : Session → Session) (s : State) :
    (modSession b g s).pins = s.pins ∧ (modSession b g s).lpu = s.lpu ∧ (modSession b g s).scl = s.scl ∧
    (modSession b g s).mpm = s.mpm ∧ (modSession b g s).rfg = s.rfg ∧ (modSession b g s).syu = s.syu ∧
    (modSession b g s).bsq = s.bsq ∧ (modSession b g s).mtr = s.mtr ∧ (modSession b g s).evr = s.evr ∧
    (modSession b g s).mgu = s.mgu ∧ (modSession b g s).mlk = s.mlk ∧ (modSession b g s).now = s.now ∧
    (modSession b g s).handoffs = s.handoffs ∧ (modSession b g s).overrun = s.overrun ∧
    (modSession b g s).pending = s.pending := by
  simp [modSession]

@[simp] theorem bindSet_frame (set : Fin 4) (s : State) :
    (bindSet set s).pins = s.pins ∧ (bindSet set s).lpu = s.lpu ∧ (bindSet set s).scl = s.scl ∧
    (bindSet set s).mpm = s.mpm ∧ (bindSet set s).rfg = s.rfg ∧ (bindSet set s).syu = s.syu ∧
    (bindSet set s).bsq = s.bsq ∧ (bindSet set s).mtr = s.mtr ∧ (bindSet set s).evr = s.evr ∧
    (bindSet set s).mgu = s.mgu ∧ (bindSet set s).mlk = s.mlk ∧ (bindSet set s).now = s.now ∧
    (bindSet set s).handoffs = s.handoffs ∧ (bindSet set s).overrun = s.overrun ∧
    (bindSet set s).pending = s.pending := by
  simp [bindSet]

@[simp] theorem unbindSet_frame (set : Fin 4) (s : State) :
    (unbindSet set s).pins = s.pins ∧ (unbindSet set s).lpu = s.lpu ∧ (unbindSet set s).scl = s.scl ∧
    (unbindSet set s).mpm = s.mpm ∧ (unbindSet set s).rfg = s.rfg ∧ (unbindSet set s).syu = s.syu ∧
    (unbindSet set s).bsq = s.bsq ∧ (unbindSet set s).mtr = s.mtr ∧ (unbindSet set s).evr = s.evr ∧
    (unbindSet set s).mgu = s.mgu ∧ (unbindSet set s).mlk = s.mlk ∧ (unbindSet set s).now = s.now ∧
    (unbindSet set s).handoffs = s.handoffs ∧ (unbindSet set s).overrun = s.overrun ∧
    (unbindSet set s).pending = s.pending := by
  simp [unbindSet]

@[simp] theorem openSession_frame (b : Berth) (s : State) :
    (openSession b s).pins = s.pins ∧ (openSession b s).lpu = s.lpu ∧ (openSession b s).scl = s.scl ∧
    (openSession b s).mpm = s.mpm ∧ (openSession b s).rfg = s.rfg ∧ (openSession b s).syu = s.syu ∧
    (openSession b s).bsq = s.bsq ∧ (openSession b s).evr = s.evr ∧ (openSession b s).mgu = s.mgu ∧
    (openSession b s).mlk = s.mlk ∧ (openSession b s).now = s.now ∧ (openSession b s).handoffs = s.handoffs ∧
    (openSession b s).overrun = s.overrun ∧ (openSession b s).pending = s.pending := by
  unfold openSession
  split <;> simp

@[simp] theorem closeSession_frame (b : Berth) (reason : EndReason) (s : State) :
    (closeSession b reason s).pins = s.pins ∧ (closeSession b reason s).lpu = s.lpu ∧
    (closeSession b reason s).scl = s.scl ∧ (closeSession b reason s).mpm = s.mpm ∧
    (closeSession b reason s).rfg = s.rfg ∧ (closeSession b reason s).syu = s.syu ∧
    (closeSession b reason s).bsq = s.bsq ∧ (closeSession b reason s).evr = s.evr ∧
    (closeSession b reason s).mgu = s.mgu ∧ (closeSession b reason s).mlk = s.mlk ∧
    (closeSession b reason s).now = s.now ∧ (closeSession b reason s).overrun = s.overrun ∧
    (closeSession b reason s).pending = s.pending := by
  unfold closeSession
  split <;> simp

@[simp] theorem carryImport_frame (b : Berth) (wh : Nat) (s : State) :
    (carryImport b wh s).pins = s.pins ∧ (carryImport b wh s).lpu = s.lpu ∧ (carryImport b wh s).scl = s.scl ∧
    (carryImport b wh s).mpm = s.mpm ∧ (carryImport b wh s).rfg = s.rfg ∧ (carryImport b wh s).syu = s.syu ∧
    (carryImport b wh s).bsq = s.bsq ∧ (carryImport b wh s).evr = s.evr ∧ (carryImport b wh s).mgu = s.mgu ∧
    (carryImport b wh s).mlk = s.mlk ∧ (carryImport b wh s).now = s.now ∧
    (carryImport b wh s).handoffs = s.handoffs ∧ (carryImport b wh s).overrun = s.overrun ∧
    (carryImport b wh s).pending = s.pending := by
  unfold carryImport
  (repeat' split) <;> simp

@[simp] theorem carryReturned_frame (b : Berth) (wh : Nat) (s : State) :
    (carryReturned b wh s).pins = s.pins ∧ (carryReturned b wh s).lpu = s.lpu ∧
    (carryReturned b wh s).scl = s.scl ∧ (carryReturned b wh s).mpm = s.mpm ∧ (carryReturned b wh s).rfg = s.rfg ∧
    (carryReturned b wh s).syu = s.syu ∧ (carryReturned b wh s).bsq = s.bsq ∧ (carryReturned b wh s).evr = s.evr ∧
    (carryReturned b wh s).mgu = s.mgu ∧ (carryReturned b wh s).mlk = s.mlk ∧ (carryReturned b wh s).now = s.now ∧
    (carryReturned b wh s).handoffs = s.handoffs ∧ (carryReturned b wh s).overrun = s.overrun ∧
    (carryReturned b wh s).pending = s.pending := by
  unfold carryReturned
  split <;> simp

@[simp] theorem carryUnmetered_frame (b : Berth) (ms : Nat) (s : State) :
    (carryUnmetered b ms s).pins = s.pins ∧ (carryUnmetered b ms s).lpu = s.lpu ∧
    (carryUnmetered b ms s).scl = s.scl ∧ (carryUnmetered b ms s).mpm = s.mpm ∧
    (carryUnmetered b ms s).rfg = s.rfg ∧ (carryUnmetered b ms s).syu = s.syu ∧
    (carryUnmetered b ms s).bsq = s.bsq ∧ (carryUnmetered b ms s).evr = s.evr ∧
    (carryUnmetered b ms s).mgu = s.mgu ∧ (carryUnmetered b ms s).mlk = s.mlk ∧
    (carryUnmetered b ms s).now = s.now ∧ (carryUnmetered b ms s).handoffs = s.handoffs ∧
    (carryUnmetered b ms s).overrun = s.overrun ∧ (carryUnmetered b ms s).pending = s.pending := by
  unfold carryUnmetered
  split <;> simp

@[simp] theorem addUnmetered_frame (b : Berth) (us : Nat) (s : State) :
    (addUnmetered b us s).pins = s.pins ∧ (addUnmetered b us s).lpu = s.lpu ∧ (addUnmetered b us s).scl = s.scl ∧
    (addUnmetered b us s).mpm = s.mpm ∧ (addUnmetered b us s).rfg = s.rfg ∧ (addUnmetered b us s).syu = s.syu ∧
    (addUnmetered b us s).bsq = s.bsq ∧ (addUnmetered b us s).evr = s.evr ∧ (addUnmetered b us s).mgu = s.mgu ∧
    (addUnmetered b us s).mlk = s.mlk ∧ (addUnmetered b us s).now = s.now ∧
    (addUnmetered b us s).handoffs = s.handoffs ∧ (addUnmetered b us s).overrun = s.overrun ∧
    (addUnmetered b us s).pending = s.pending := by
  simp [addUnmetered]

@[simp] theorem integrate_frame (b : Berth) (inc : Int) (s : State) :
    (integrate b inc s).pins = s.pins ∧ (integrate b inc s).lpu = s.lpu ∧ (integrate b inc s).scl = s.scl ∧
    (integrate b inc s).mpm = s.mpm ∧ (integrate b inc s).rfg = s.rfg ∧ (integrate b inc s).syu = s.syu ∧
    (integrate b inc s).bsq = s.bsq ∧ (integrate b inc s).evr = s.evr ∧ (integrate b inc s).mgu = s.mgu ∧
    (integrate b inc s).mlk = s.mlk ∧ (integrate b inc s).now = s.now ∧ (integrate b inc s).handoffs = s.handoffs ∧
    (integrate b inc s).overrun = s.overrun ∧ (integrate b inc s).pending = s.pending := by
  simp [integrate]

@[simp] theorem meterWork_frame (b : Berth) (r : RevenueRecord) (c : MeterCase) (s : State) :
    (meterWork b r c s).pins = s.pins ∧ (meterWork b r c s).lpu = s.lpu ∧ (meterWork b r c s).scl = s.scl ∧
    (meterWork b r c s).mpm = s.mpm ∧ (meterWork b r c s).rfg = s.rfg ∧ (meterWork b r c s).syu = s.syu ∧
    (meterWork b r c s).bsq = s.bsq ∧ (meterWork b r c s).evr = s.evr ∧ (meterWork b r c s).mgu = s.mgu ∧
    (meterWork b r c s).mlk = s.mlk ∧ (meterWork b r c s).now = s.now ∧ (meterWork b r c s).overrun = s.overrun ∧
    (meterWork b r c s).pending = s.pending := by
  unfold meterWork
  (repeat' split) <;> simp

@[simp] theorem meterRecord_frame (b : Berth) (r : RevenueRecord) (s : State) :
    (meterRecord b r s).pins = s.pins ∧ (meterRecord b r s).lpu = s.lpu ∧ (meterRecord b r s).scl = s.scl ∧
    (meterRecord b r s).mpm = s.mpm ∧ (meterRecord b r s).rfg = s.rfg ∧ (meterRecord b r s).syu = s.syu ∧
    (meterRecord b r s).bsq = s.bsq ∧ (meterRecord b r s).evr = s.evr ∧ (meterRecord b r s).mgu = s.mgu ∧
    (meterRecord b r s).mlk = s.mlk ∧ (meterRecord b r s).now = s.now ∧ (meterRecord b r s).overrun = s.overrun ∧
    (meterRecord b r s).pending = s.pending := by
  simp [meterRecord]

@[simp] theorem intervalEndBerth_frame (b : Berth) (s : State) :
    (intervalEndBerth b s).pins = s.pins ∧ (intervalEndBerth b s).lpu = s.lpu ∧
    (intervalEndBerth b s).scl = s.scl ∧ (intervalEndBerth b s).mpm = s.mpm ∧ (intervalEndBerth b s).rfg = s.rfg ∧
    (intervalEndBerth b s).syu = s.syu ∧ (intervalEndBerth b s).bsq = s.bsq ∧ (intervalEndBerth b s).evr = s.evr ∧
    (intervalEndBerth b s).mgu = s.mgu ∧ (intervalEndBerth b s).mlk = s.mlk ∧ (intervalEndBerth b s).now = s.now ∧
    (intervalEndBerth b s).handoffs = s.handoffs ∧ (intervalEndBerth b s).overrun = s.overrun ∧
    (intervalEndBerth b s).pending = s.pending := by
  unfold intervalEndBerth
  split <;> simp

@[simp] theorem setInterval_frame (s : State) :
    (setInterval s).pins = s.pins ∧ (setInterval s).lpu = s.lpu ∧ (setInterval s).scl = s.scl ∧
    (setInterval s).mpm = s.mpm ∧ (setInterval s).rfg = s.rfg ∧ (setInterval s).syu = s.syu ∧
    (setInterval s).bsq = s.bsq ∧ (setInterval s).blg = s.blg ∧ (setInterval s).evr = s.evr ∧
    (setInterval s).mgu = s.mgu ∧ (setInterval s).mlk = s.mlk ∧ (setInterval s).now = s.now ∧
    (setInterval s).handoffs = s.handoffs ∧ (setInterval s).overrun = s.overrun ∧
    (setInterval s).pending = s.pending := by
  simp [setInterval]

@[simp] theorem handDemand_frame (s : State) :
    (handDemand s).pins = s.pins ∧ (handDemand s).lpu = s.lpu ∧ (handDemand s).scl = s.scl ∧
    (handDemand s).mpm = s.mpm ∧ (handDemand s).rfg = s.rfg ∧ (handDemand s).syu = s.syu ∧
    (handDemand s).bsq = s.bsq ∧ (handDemand s).evr = s.evr ∧ (handDemand s).mgu = s.mgu ∧
    (handDemand s).mlk = s.mlk ∧ (handDemand s).now = s.now ∧ (handDemand s).handoffs = s.handoffs ∧
    (handDemand s).overrun = s.overrun ∧ (handDemand s).pending = s.pending := by
  simp [handDemand]

@[simp] theorem intervalEndTaken_frame (s : State) :
    (intervalEndTaken s).pins = s.pins ∧ (intervalEndTaken s).lpu = s.lpu ∧ (intervalEndTaken s).scl = s.scl ∧
    (intervalEndTaken s).mpm = s.mpm ∧ (intervalEndTaken s).rfg = s.rfg ∧ (intervalEndTaken s).syu = s.syu ∧
    (intervalEndTaken s).bsq = s.bsq ∧ (intervalEndTaken s).evr = s.evr ∧ (intervalEndTaken s).mgu = s.mgu ∧
    (intervalEndTaken s).mlk = s.mlk ∧ (intervalEndTaken s).now = s.now ∧
    (intervalEndTaken s).handoffs = s.handoffs ∧ (intervalEndTaken s).overrun = s.overrun ∧
    (intervalEndTaken s).pending = s.pending := by
  unfold intervalEndTaken
  split <;> simp

@[simp] theorem tick_frame (s : State) :
    (tick s).pins = s.pins ∧ (tick s).lpu = s.lpu ∧ (tick s).scl = s.scl ∧ (tick s).mpm = s.mpm ∧
    (tick s).rfg = s.rfg ∧ (tick s).syu = s.syu ∧ (tick s).bsq = s.bsq ∧ (tick s).evr = s.evr ∧
    (tick s).mgu = s.mgu ∧ (tick s).mlk = s.mlk ∧ (tick s).handoffs = s.handoffs ∧ (tick s).overrun = s.overrun ∧
    (tick s).pending = s.pending := by
  simp [tick]

@[simp] theorem clockSetTaken_frame (day second : Nat) (s : State) :
    (clockSetTaken day second s).pins = s.pins ∧ (clockSetTaken day second s).lpu = s.lpu ∧
    (clockSetTaken day second s).scl = s.scl ∧ (clockSetTaken day second s).mpm = s.mpm ∧
    (clockSetTaken day second s).rfg = s.rfg ∧ (clockSetTaken day second s).syu = s.syu ∧
    (clockSetTaken day second s).bsq = s.bsq ∧ (clockSetTaken day second s).evr = s.evr ∧
    (clockSetTaken day second s).mgu = s.mgu ∧ (clockSetTaken day second s).mlk = s.mlk ∧
    (clockSetTaken day second s).now = s.now ∧ (clockSetTaken day second s).handoffs = s.handoffs ∧
    (clockSetTaken day second s).overrun = s.overrun ∧ (clockSetTaken day second s).pending = s.pending := by
  simp [clockSetTaken]

@[simp] theorem meteringTaken_frame (gapLimit demandS : Nat) (s : State) :
    (meteringTaken gapLimit demandS s).pins = s.pins ∧ (meteringTaken gapLimit demandS s).lpu = s.lpu ∧
    (meteringTaken gapLimit demandS s).scl = s.scl ∧ (meteringTaken gapLimit demandS s).mpm = s.mpm ∧
    (meteringTaken gapLimit demandS s).rfg = s.rfg ∧ (meteringTaken gapLimit demandS s).syu = s.syu ∧
    (meteringTaken gapLimit demandS s).bsq = s.bsq ∧ (meteringTaken gapLimit demandS s).evr = s.evr ∧
    (meteringTaken gapLimit demandS s).mgu = s.mgu ∧ (meteringTaken gapLimit demandS s).mlk = s.mlk ∧
    (meteringTaken gapLimit demandS s).now = s.now ∧ (meteringTaken gapLimit demandS s).handoffs = s.handoffs ∧
    (meteringTaken gapLimit demandS s).overrun = s.overrun ∧ (meteringTaken gapLimit demandS s).pending = s.pending := by
  unfold meteringTaken
  split <;> simp

@[simp] theorem driveOutputs_frame (s : State) :
    (driveOutputs s).pins = s.pins ∧ (driveOutputs s).lpu = s.lpu ∧ (driveOutputs s).scl = s.scl ∧
    (driveOutputs s).mpm = s.mpm ∧ (driveOutputs s).rfg = s.rfg ∧ (driveOutputs s).syu = s.syu ∧
    (driveOutputs s).bsq = s.bsq ∧ (driveOutputs s).mtr = s.mtr ∧ (driveOutputs s).blg = s.blg ∧
    (driveOutputs s).mgu = s.mgu ∧ (driveOutputs s).mlk = s.mlk ∧ (driveOutputs s).now = s.now ∧
    (driveOutputs s).handoffs = s.handoffs ∧ (driveOutputs s).overrun = s.overrun ∧
    (driveOutputs s).pending = s.pending := by
  simp [driveOutputs]

@[simp] theorem berthNotice_frame (b : Berth) (s : State) :
    (berthNotice b s).pins = s.pins ∧ (berthNotice b s).scl = s.scl ∧ (berthNotice b s).syu = s.syu ∧
    (berthNotice b s).bsq = s.bsq ∧ (berthNotice b s).mtr = s.mtr ∧ (berthNotice b s).blg = s.blg ∧
    (berthNotice b s).evr = s.evr ∧ (berthNotice b s).mgu = s.mgu ∧ (berthNotice b s).mlk = s.mlk ∧
    (berthNotice b s).now = s.now ∧ (berthNotice b s).handoffs = s.handoffs ∧
    (berthNotice b s).overrun = s.overrun ∧ (berthNotice b s).pending = s.pending := by
  simp [berthNotice]

@[simp] theorem watchChange_frame (b : Berth) (old new : BerthState) (s : State) :
    (watchChange b old new s).pins = s.pins ∧ (watchChange b old new s).lpu = s.lpu ∧
    (watchChange b old new s).mpm = s.mpm ∧ (watchChange b old new s).rfg = s.rfg ∧
    (watchChange b old new s).syu = s.syu ∧ (watchChange b old new s).bsq = s.bsq ∧
    (watchChange b old new s).mtr = s.mtr ∧ (watchChange b old new s).blg = s.blg ∧
    (watchChange b old new s).evr = s.evr ∧ (watchChange b old new s).mgu = s.mgu ∧
    (watchChange b old new s).mlk = s.mlk ∧ (watchChange b old new s).now = s.now ∧
    (watchChange b old new s).overrun = s.overrun ∧ (watchChange b old new s).pending = s.pending := by
  unfold watchChange
  (repeat' split) <;> simp

@[simp] theorem changeState_frame (b : Berth) (st : BerthState) (s : State) :
    (changeState b st s).pins = s.pins ∧ (changeState b st s).lpu = s.lpu ∧ (changeState b st s).mpm = s.mpm ∧
    (changeState b st s).syu = s.syu ∧ (changeState b st s).mtr = s.mtr ∧ (changeState b st s).blg = s.blg ∧
    (changeState b st s).evr = s.evr ∧ (changeState b st s).mgu = s.mgu ∧ (changeState b st s).mlk = s.mlk ∧
    (changeState b st s).now = s.now ∧ (changeState b st s).overrun = s.overrun ∧
    (changeState b st s).pending = s.pending := by
  unfold changeState
  dsimp only
  (repeat' split) <;> simp

@[simp] theorem enterState_frame (b : Berth) (st : BerthState) (s : State) :
    (enterState b st s).pins = s.pins ∧ (enterState b st s).syu = s.syu ∧ (enterState b st s).mtr = s.mtr ∧
    (enterState b st s).blg = s.blg ∧ (enterState b st s).evr = s.evr ∧ (enterState b st s).mgu = s.mgu ∧
    (enterState b st s).mlk = s.mlk ∧ (enterState b st s).now = s.now ∧ (enterState b st s).overrun = s.overrun ∧
    (enterState b st s).pending = s.pending := by
  simp [enterState]

@[simp] theorem setShipHold_frame (b : Berth) (v : Option Nat) (s : State) :
    (setShipHold b v s).pins = s.pins ∧ (setShipHold b v s).lpu = s.lpu ∧ (setShipHold b v s).scl = s.scl ∧
    (setShipHold b v s).mpm = s.mpm ∧ (setShipHold b v s).rfg = s.rfg ∧ (setShipHold b v s).syu = s.syu ∧
    (setShipHold b v s).mtr = s.mtr ∧ (setShipHold b v s).blg = s.blg ∧ (setShipHold b v s).evr = s.evr ∧
    (setShipHold b v s).mgu = s.mgu ∧ (setShipHold b v s).mlk = s.mlk ∧ (setShipHold b v s).now = s.now ∧
    (setShipHold b v s).handoffs = s.handoffs ∧ (setShipHold b v s).overrun = s.overrun ∧
    (setShipHold b v s).pending = s.pending := by
  simp [setShipHold]

@[simp] theorem setEventHold_frame (b : Berth) (v : Bool) (s : State) :
    (setEventHold b v s).pins = s.pins ∧ (setEventHold b v s).lpu = s.lpu ∧ (setEventHold b v s).scl = s.scl ∧
    (setEventHold b v s).mpm = s.mpm ∧ (setEventHold b v s).rfg = s.rfg ∧ (setEventHold b v s).syu = s.syu ∧
    (setEventHold b v s).mtr = s.mtr ∧ (setEventHold b v s).blg = s.blg ∧ (setEventHold b v s).evr = s.evr ∧
    (setEventHold b v s).mgu = s.mgu ∧ (setEventHold b v s).mlk = s.mlk ∧ (setEventHold b v s).now = s.now ∧
    (setEventHold b v s).handoffs = s.handoffs ∧ (setEventHold b v s).overrun = s.overrun ∧
    (setEventHold b v s).pending = s.pending := by
  simp [setEventHold]

@[simp] theorem startRamp_frame (b : Berth) (s : State) :
    (startRamp b s).pins = s.pins ∧ (startRamp b s).lpu = s.lpu ∧ (startRamp b s).scl = s.scl ∧
    (startRamp b s).mpm = s.mpm ∧ (startRamp b s).rfg = s.rfg ∧ (startRamp b s).syu = s.syu ∧
    (startRamp b s).mtr = s.mtr ∧ (startRamp b s).blg = s.blg ∧ (startRamp b s).evr = s.evr ∧
    (startRamp b s).mgu = s.mgu ∧ (startRamp b s).mlk = s.mlk ∧ (startRamp b s).now = s.now ∧
    (startRamp b s).handoffs = s.handoffs ∧ (startRamp b s).overrun = s.overrun ∧
    (startRamp b s).pending = s.pending := by
  simp [startRamp]

@[simp] theorem stopRamp_frame (b : Berth) (s : State) :
    (stopRamp b s).pins = s.pins ∧ (stopRamp b s).lpu = s.lpu ∧ (stopRamp b s).scl = s.scl ∧
    (stopRamp b s).mpm = s.mpm ∧ (stopRamp b s).rfg = s.rfg ∧ (stopRamp b s).syu = s.syu ∧
    (stopRamp b s).mtr = s.mtr ∧ (stopRamp b s).blg = s.blg ∧ (stopRamp b s).evr = s.evr ∧
    (stopRamp b s).mgu = s.mgu ∧ (stopRamp b s).mlk = s.mlk ∧ (stopRamp b s).now = s.now ∧
    (stopRamp b s).handoffs = s.handoffs ∧ (stopRamp b s).overrun = s.overrun ∧ (stopRamp b s).pending = s.pending := by
  simp [stopRamp]

@[simp] theorem enterRampUp_frame (b : Berth) (s : State) :
    (enterRampUp b s).pins = s.pins ∧ (enterRampUp b s).syu = s.syu ∧ (enterRampUp b s).mtr = s.mtr ∧
    (enterRampUp b s).blg = s.blg ∧ (enterRampUp b s).evr = s.evr ∧ (enterRampUp b s).mgu = s.mgu ∧
    (enterRampUp b s).mlk = s.mlk ∧ (enterRampUp b s).now = s.now ∧ (enterRampUp b s).overrun = s.overrun ∧
    (enterRampUp b s).pending = s.pending := by
  simp [enterRampUp]

@[simp] theorem enterRampDown_frame (b : Berth) (s : State) :
    (enterRampDown b s).pins = s.pins ∧ (enterRampDown b s).syu = s.syu ∧ (enterRampDown b s).mtr = s.mtr ∧
    (enterRampDown b s).blg = s.blg ∧ (enterRampDown b s).evr = s.evr ∧ (enterRampDown b s).mgu = s.mgu ∧
    (enterRampDown b s).mlk = s.mlk ∧ (enterRampDown b s).now = s.now ∧ (enterRampDown b s).overrun = s.overrun ∧
    (enterRampDown b s).pending = s.pending := by
  simp [enterRampDown]

@[simp] theorem clearCall_frame (b : Berth) (s : State) :
    (clearCall b s).pins = s.pins ∧ (clearCall b s).lpu = s.lpu ∧ (clearCall b s).scl = s.scl ∧
    (clearCall b s).mpm = s.mpm ∧ (clearCall b s).syu = s.syu ∧ (clearCall b s).mtr = s.mtr ∧
    (clearCall b s).blg = s.blg ∧ (clearCall b s).evr = s.evr ∧ (clearCall b s).mgu = s.mgu ∧
    (clearCall b s).mlk = s.mlk ∧ (clearCall b s).now = s.now ∧ (clearCall b s).handoffs = s.handoffs ∧
    (clearCall b s).overrun = s.overrun ∧ (clearCall b s).pending = s.pending := by
  simp [clearCall]

@[simp] theorem enterDead_frame (b : Berth) (s : State) :
    (enterDead b s).pins = s.pins ∧ (enterDead b s).syu = s.syu ∧ (enterDead b s).mtr = s.mtr ∧
    (enterDead b s).blg = s.blg ∧ (enterDead b s).mgu = s.mgu ∧ (enterDead b s).mlk = s.mlk ∧
    (enterDead b s).now = s.now ∧ (enterDead b s).overrun = s.overrun ∧ (enterDead b s).pending = s.pending := by
  simp [enterDead]

@[simp] theorem listEmptyTaken_frame (b : Berth) (s : State) :
    (listEmptyTaken b s).pins = s.pins ∧ (listEmptyTaken b s).syu = s.syu ∧ (listEmptyTaken b s).mtr = s.mtr ∧
    (listEmptyTaken b s).blg = s.blg ∧ (listEmptyTaken b s).mgu = s.mgu ∧ (listEmptyTaken b s).mlk = s.mlk ∧
    (listEmptyTaken b s).now = s.now ∧ (listEmptyTaken b s).overrun = s.overrun ∧
    (listEmptyTaken b s).pending = s.pending := by
  unfold listEmptyTaken
  split <;> simp

@[simp] theorem enterReleasing_frame (b : Berth) (s : State) :
    (enterReleasing b s).pins = s.pins ∧ (enterReleasing b s).mtr = s.mtr ∧ (enterReleasing b s).mgu = s.mgu ∧
    (enterReleasing b s).mlk = s.mlk ∧ (enterReleasing b s).now = s.now ∧
    (enterReleasing b s).overrun = s.overrun ∧ (enterReleasing b s).pending = s.pending := by
  simp [enterReleasing]

@[simp] theorem endBilling_frame (b : Berth) (reason : EndReason) (s : State) :
    (endBilling b reason s).pins = s.pins ∧ (endBilling b reason s).lpu = s.lpu ∧
    (endBilling b reason s).scl = s.scl ∧ (endBilling b reason s).mpm = s.mpm ∧
    (endBilling b reason s).rfg = s.rfg ∧ (endBilling b reason s).syu = s.syu ∧
    (endBilling b reason s).bsq = s.bsq ∧ (endBilling b reason s).evr = s.evr ∧
    (endBilling b reason s).mgu = s.mgu ∧ (endBilling b reason s).mlk = s.mlk ∧
    (endBilling b reason s).now = s.now ∧ (endBilling b reason s).overrun = s.overrun ∧
    (endBilling b reason s).pending = s.pending := by
  simp [endBilling]

@[simp] theorem stopTimers_frame (b : Berth) (s : State) :
    (stopTimers b s).pins = s.pins ∧ (stopTimers b s).lpu = s.lpu ∧ (stopTimers b s).scl = s.scl ∧
    (stopTimers b s).mpm = s.mpm ∧ (stopTimers b s).syu = s.syu ∧ (stopTimers b s).mtr = s.mtr ∧
    (stopTimers b s).blg = s.blg ∧ (stopTimers b s).evr = s.evr ∧ (stopTimers b s).mgu = s.mgu ∧
    (stopTimers b s).mlk = s.mlk ∧ (stopTimers b s).now = s.now ∧ (stopTimers b s).handoffs = s.handoffs ∧
    (stopTimers b s).overrun = s.overrun ∧ (stopTimers b s).pending = s.pending := by
  simp [stopTimers]

@[simp] theorem tripBerth_frame (b : Berth) (reason : TripReason) (s : State) :
    (tripBerth b reason s).pins = s.pins ∧ (tripBerth b reason s).mgu = s.mgu ∧
    (tripBerth b reason s).mlk = s.mlk ∧ (tripBerth b reason s).now = s.now ∧
    (tripBerth b reason s).overrun = s.overrun ∧ (tripBerth b reason s).pending = s.pending := by
  unfold tripBerth
  split <;> simp

@[simp] theorem prepareRecord_frame (b : Berth) (deadShip : Bool) (s : State) :
    (prepareRecord b deadShip s).pins = s.pins ∧ (prepareRecord b deadShip s).lpu = s.lpu ∧
    (prepareRecord b deadShip s).scl = s.scl ∧ (prepareRecord b deadShip s).mpm = s.mpm ∧
    (prepareRecord b deadShip s).rfg = s.rfg ∧ (prepareRecord b deadShip s).syu = s.syu ∧
    (prepareRecord b deadShip s).mtr = s.mtr ∧ (prepareRecord b deadShip s).blg = s.blg ∧
    (prepareRecord b deadShip s).evr = s.evr ∧ (prepareRecord b deadShip s).mgu = s.mgu ∧
    (prepareRecord b deadShip s).mlk = s.mlk ∧ (prepareRecord b deadShip s).now = s.now ∧
    (prepareRecord b deadShip s).handoffs = s.handoffs ∧ (prepareRecord b deadShip s).overrun = s.overrun ∧
    (prepareRecord b deadShip s).pending = s.pending := by
  simp [prepareRecord]

@[simp] theorem acceptConnect_frame (b : Berth) (deadShip : Bool) (s : State) :
    (acceptConnect b deadShip s).pins = s.pins ∧ (acceptConnect b deadShip s).mtr = s.mtr ∧
    (acceptConnect b deadShip s).evr = s.evr ∧ (acceptConnect b deadShip s).mgu = s.mgu ∧
    (acceptConnect b deadShip s).mlk = s.mlk ∧ (acceptConnect b deadShip s).now = s.now ∧
    (acceptConnect b deadShip s).overrun = s.overrun ∧ (acceptConnect b deadShip s).pending = s.pending := by
  simp [acceptConnect]

@[simp] theorem connectCmd_frame (b : Berth) (deadShip : Bool) (s : State) :
    (connectCmd b deadShip s).2.pins = s.pins ∧ (connectCmd b deadShip s).2.mtr = s.mtr ∧
    (connectCmd b deadShip s).2.evr = s.evr ∧ (connectCmd b deadShip s).2.mgu = s.mgu ∧
    (connectCmd b deadShip s).2.mlk = s.mlk ∧ (connectCmd b deadShip s).2.now = s.now ∧
    (connectCmd b deadShip s).2.overrun = s.overrun ∧ (connectCmd b deadShip s).2.pending = s.pending := by
  unfold connectCmd
  (repeat' split) <;> simp

@[simp] theorem energisedTest_frame (b : Berth) (s : State) :
    (energisedTest b s).pins = s.pins ∧ (energisedTest b s).mtr = s.mtr ∧ (energisedTest b s).blg = s.blg ∧
    (energisedTest b s).evr = s.evr ∧ (energisedTest b s).mgu = s.mgu ∧ (energisedTest b s).mlk = s.mlk ∧
    (energisedTest b s).now = s.now ∧ (energisedTest b s).overrun = s.overrun ∧
    (energisedTest b s).pending = s.pending := by
  unfold energisedTest
  dsimp only
  (repeat' split) <;> simp

@[simp] theorem energisedTaken_frame (b : Berth) (s : State) :
    (energisedTaken b s).pins = s.pins ∧ (energisedTaken b s).mtr = s.mtr ∧ (energisedTaken b s).blg = s.blg ∧
    (energisedTaken b s).evr = s.evr ∧ (energisedTaken b s).mgu = s.mgu ∧ (energisedTaken b s).mlk = s.mlk ∧
    (energisedTaken b s).now = s.now ∧ (energisedTaken b s).overrun = s.overrun ∧
    (energisedTaken b s).pending = s.pending := by
  unfold energisedTaken
  split <;> simp

@[simp] theorem loseSource_frame (b : Berth) (s : State) :
    (loseSource b s).pins = s.pins ∧ (loseSource b s).mtr = s.mtr ∧ (loseSource b s).mgu = s.mgu ∧
    (loseSource b s).mlk = s.mlk ∧ (loseSource b s).now = s.now ∧ (loseSource b s).overrun = s.overrun ∧
    (loseSource b s).pending = s.pending := by
  simp [loseSource]

@[simp] theorem actOnSummary_frame (b : Berth) (s : State) :
    (actOnSummary b s).pins = s.pins ∧ (actOnSummary b s).mgu = s.mgu ∧ (actOnSummary b s).mlk = s.mlk ∧
    (actOnSummary b s).now = s.now ∧ (actOnSummary b s).overrun = s.overrun ∧
    (actOnSummary b s).pending = s.pending := by
  unfold actOnSummary
  dsimp only
  (repeat' split) <;> simp

@[simp] theorem summaryTaken_frame (b : Berth) (s : State) :
    (summaryTaken b s).pins = s.pins ∧ (summaryTaken b s).mgu = s.mgu ∧ (summaryTaken b s).mlk = s.mlk ∧
    (summaryTaken b s).now = s.now ∧ (summaryTaken b s).overrun = s.overrun ∧
    (summaryTaken b s).pending = s.pending := by
  unfold summaryTaken
  split <;> simp

@[simp] theorem firstFailureTaken_frame (b : Berth) (s : State) :
    (firstFailureTaken b s).pins = s.pins ∧ (firstFailureTaken b s).mtr = s.mtr ∧
    (firstFailureTaken b s).mgu = s.mgu ∧ (firstFailureTaken b s).mlk = s.mlk ∧
    (firstFailureTaken b s).now = s.now ∧ (firstFailureTaken b s).overrun = s.overrun ∧
    (firstFailureTaken b s).pending = s.pending := by
  unfold firstFailureTaken
  split <;> simp

@[simp] theorem outletResultTaken_frame (b : Berth) (r : SyncResult) (s : State) :
    (outletResultTaken b r s).pins = s.pins ∧ (outletResultTaken b r s).mgu = s.mgu ∧
    (outletResultTaken b r s).mlk = s.mlk ∧ (outletResultTaken b r s).now = s.now ∧
    (outletResultTaken b r s).overrun = s.overrun ∧ (outletResultTaken b r s).pending = s.pending := by
  unfold outletResultTaken
  (repeat' split) <;> simp

@[simp] theorem outletOutcomeTaken_frame (b : Berth) (o : DeadOutcome) (s : State) :
    (outletOutcomeTaken b o s).pins = s.pins ∧ (outletOutcomeTaken b o s).mgu = s.mgu ∧
    (outletOutcomeTaken b o s).mlk = s.mlk ∧ (outletOutcomeTaken b o s).now = s.now ∧
    (outletOutcomeTaken b o s).overrun = s.overrun ∧ (outletOutcomeTaken b o s).pending = s.pending := by
  unfold outletOutcomeTaken
  (repeat' split) <;> simp

@[simp] theorem rampDoneTest_frame (b : Berth) (s : State) :
    (rampDoneTest b s).pins = s.pins ∧ (rampDoneTest b s).scl = s.scl ∧ (rampDoneTest b s).syu = s.syu ∧
    (rampDoneTest b s).mtr = s.mtr ∧ (rampDoneTest b s).blg = s.blg ∧ (rampDoneTest b s).evr = s.evr ∧
    (rampDoneTest b s).mgu = s.mgu ∧ (rampDoneTest b s).mlk = s.mlk ∧ (rampDoneTest b s).now = s.now ∧
    (rampDoneTest b s).handoffs = s.handoffs ∧ (rampDoneTest b s).overrun = s.overrun ∧
    (rampDoneTest b s).pending = s.pending := by
  unfold rampDoneTest
  split <;> simp

@[simp] theorem capacityTest_frame (b : Berth) (s : State) :
    (capacityTest b s).pins = s.pins ∧ (capacityTest b s).scl = s.scl ∧ (capacityTest b s).syu = s.syu ∧
    (capacityTest b s).mtr = s.mtr ∧ (capacityTest b s).blg = s.blg ∧ (capacityTest b s).evr = s.evr ∧
    (capacityTest b s).mgu = s.mgu ∧ (capacityTest b s).mlk = s.mlk ∧ (capacityTest b s).now = s.now ∧
    (capacityTest b s).overrun = s.overrun ∧ (capacityTest b s).pending = s.pending := by
  unfold capacityTest
  dsimp only
  (repeat' split) <;> simp

@[simp] theorem startOpening_frame (b : Berth) (s : State) :
    (startOpening b s).pins = s.pins ∧ (startOpening b s).lpu = s.lpu ∧ (startOpening b s).scl = s.scl ∧
    (startOpening b s).mpm = s.mpm ∧ (startOpening b s).rfg = s.rfg ∧ (startOpening b s).syu = s.syu ∧
    (startOpening b s).mtr = s.mtr ∧ (startOpening b s).blg = s.blg ∧ (startOpening b s).evr = s.evr ∧
    (startOpening b s).mgu = s.mgu ∧ (startOpening b s).mlk = s.mlk ∧ (startOpening b s).now = s.now ∧
    (startOpening b s).handoffs = s.handoffs ∧ (startOpening b s).overrun = s.overrun ∧
    (startOpening b s).pending = s.pending := by
  simp [startOpening]

@[simp] theorem openTest_frame (b : Berth) (s : State) :
    (openTest b s).pins = s.pins ∧ (openTest b s).syu = s.syu ∧ (openTest b s).mtr = s.mtr ∧
    (openTest b s).blg = s.blg ∧ (openTest b s).evr = s.evr ∧ (openTest b s).mgu = s.mgu ∧
    (openTest b s).mlk = s.mlk ∧ (openTest b s).now = s.now ∧ (openTest b s).overrun = s.overrun ∧
    (openTest b s).pending = s.pending := by
  unfold openTest
  split <;> simp

@[simp] theorem rampPeriodTaken_frame (b : Berth) (s : State) :
    (rampPeriodTaken b s).pins = s.pins ∧ (rampPeriodTaken b s).syu = s.syu ∧ (rampPeriodTaken b s).mtr = s.mtr ∧
    (rampPeriodTaken b s).blg = s.blg ∧ (rampPeriodTaken b s).evr = s.evr ∧ (rampPeriodTaken b s).mgu = s.mgu ∧
    (rampPeriodTaken b s).mlk = s.mlk ∧ (rampPeriodTaken b s).overrun = s.overrun ∧
    (rampPeriodTaken b s).pending = s.pending := by
  unfold rampPeriodTaken
  dsimp only
  (repeat' split) <;> simp

@[simp] theorem rampTimeoutTaken_frame (b : Berth) (s : State) :
    (rampTimeoutTaken b s).pins = s.pins ∧ (rampTimeoutTaken b s).lpu = s.lpu ∧
    (rampTimeoutTaken b s).scl = s.scl ∧ (rampTimeoutTaken b s).mpm = s.mpm ∧ (rampTimeoutTaken b s).rfg = s.rfg ∧
    (rampTimeoutTaken b s).syu = s.syu ∧ (rampTimeoutTaken b s).mtr = s.mtr ∧ (rampTimeoutTaken b s).blg = s.blg ∧
    (rampTimeoutTaken b s).evr = s.evr ∧ (rampTimeoutTaken b s).mgu = s.mgu ∧ (rampTimeoutTaken b s).mlk = s.mlk ∧
    (rampTimeoutTaken b s).overrun = s.overrun ∧ (rampTimeoutTaken b s).pending = s.pending := by
  unfold rampTimeoutTaken
  split <;> simp

@[simp] theorem shipHoldEndTaken_frame (b : Berth) (s : State) :
    (shipHoldEndTaken b s).pins = s.pins ∧ (shipHoldEndTaken b s).lpu = s.lpu ∧
    (shipHoldEndTaken b s).scl = s.scl ∧ (shipHoldEndTaken b s).mpm = s.mpm ∧ (shipHoldEndTaken b s).rfg = s.rfg ∧
    (shipHoldEndTaken b s).syu = s.syu ∧ (shipHoldEndTaken b s).mtr = s.mtr ∧ (shipHoldEndTaken b s).blg = s.blg ∧
    (shipHoldEndTaken b s).evr = s.evr ∧ (shipHoldEndTaken b s).mgu = s.mgu ∧ (shipHoldEndTaken b s).mlk = s.mlk ∧
    (shipHoldEndTaken b s).handoffs = s.handoffs ∧ (shipHoldEndTaken b s).overrun = s.overrun ∧
    (shipHoldEndTaken b s).pending = s.pending := by
  unfold shipHoldEndTaken
  split <;> simp

@[simp] theorem holdLimitTaken_frame (b : Berth) (s : State) :
    (holdLimitTaken b s).pins = s.pins ∧ (holdLimitTaken b s).lpu = s.lpu ∧ (holdLimitTaken b s).scl = s.scl ∧
    (holdLimitTaken b s).mpm = s.mpm ∧ (holdLimitTaken b s).rfg = s.rfg ∧ (holdLimitTaken b s).syu = s.syu ∧
    (holdLimitTaken b s).mtr = s.mtr ∧ (holdLimitTaken b s).blg = s.blg ∧ (holdLimitTaken b s).evr = s.evr ∧
    (holdLimitTaken b s).mgu = s.mgu ∧ (holdLimitTaken b s).mlk = s.mlk ∧
    (holdLimitTaken b s).overrun = s.overrun ∧ (holdLimitTaken b s).pending = s.pending := by
  unfold holdLimitTaken
  split <;> simp

@[simp] theorem generatorWaitTaken_frame (b : Berth) (s : State) :
    (generatorWaitTaken b s).pins = s.pins ∧ (generatorWaitTaken b s).lpu = s.lpu ∧
    (generatorWaitTaken b s).scl = s.scl ∧ (generatorWaitTaken b s).mpm = s.mpm ∧
    (generatorWaitTaken b s).rfg = s.rfg ∧ (generatorWaitTaken b s).syu = s.syu ∧
    (generatorWaitTaken b s).mtr = s.mtr ∧ (generatorWaitTaken b s).blg = s.blg ∧
    (generatorWaitTaken b s).evr = s.evr ∧ (generatorWaitTaken b s).mgu = s.mgu ∧
    (generatorWaitTaken b s).mlk = s.mlk ∧ (generatorWaitTaken b s).overrun = s.overrun ∧
    (generatorWaitTaken b s).pending = s.pending := by
  unfold generatorWaitTaken
  split <;> simp

@[simp] theorem openingTaken_frame (b : Berth) (s : State) :
    (openingTaken b s).pins = s.pins ∧ (openingTaken b s).scl = s.scl ∧ (openingTaken b s).syu = s.syu ∧
    (openingTaken b s).mtr = s.mtr ∧ (openingTaken b s).blg = s.blg ∧ (openingTaken b s).mgu = s.mgu ∧
    (openingTaken b s).mlk = s.mlk ∧ (openingTaken b s).overrun = s.overrun ∧
    (openingTaken b s).pending = s.pending := by
  unfold openingTaken
  split <;> simp

@[simp] theorem holdTaken_frame (b : Berth) (quanta : Nat) (s : State) :
    (holdTaken b quanta s).pins = s.pins ∧ (holdTaken b quanta s).lpu = s.lpu ∧
    (holdTaken b quanta s).scl = s.scl ∧ (holdTaken b quanta s).mpm = s.mpm ∧ (holdTaken b quanta s).rfg = s.rfg ∧
    (holdTaken b quanta s).syu = s.syu ∧ (holdTaken b quanta s).mtr = s.mtr ∧ (holdTaken b quanta s).blg = s.blg ∧
    (holdTaken b quanta s).evr = s.evr ∧ (holdTaken b quanta s).mgu = s.mgu ∧ (holdTaken b quanta s).mlk = s.mlk ∧
    (holdTaken b quanta s).now = s.now ∧ (holdTaken b quanta s).handoffs = s.handoffs ∧
    (holdTaken b quanta s).overrun = s.overrun ∧ (holdTaken b quanta s).pending = s.pending := by
  unfold holdTaken
  (repeat' split) <;> simp

@[simp] theorem genOffTaken_frame (b : Berth) (s : State) :
    (genOffTaken b s).pins = s.pins ∧ (genOffTaken b s).syu = s.syu ∧ (genOffTaken b s).mtr = s.mtr ∧
    (genOffTaken b s).blg = s.blg ∧ (genOffTaken b s).evr = s.evr ∧ (genOffTaken b s).mgu = s.mgu ∧
    (genOffTaken b s).mlk = s.mlk ∧ (genOffTaken b s).now = s.now ∧ (genOffTaken b s).overrun = s.overrun ∧
    (genOffTaken b s).pending = s.pending := by
  unfold genOffTaken
  split <;> simp

@[simp] theorem genOnTaken_frame (b : Berth) (s : State) :
    (genOnTaken b s).pins = s.pins ∧ (genOnTaken b s).syu = s.syu ∧ (genOnTaken b s).mtr = s.mtr ∧
    (genOnTaken b s).blg = s.blg ∧ (genOnTaken b s).evr = s.evr ∧ (genOnTaken b s).mgu = s.mgu ∧
    (genOnTaken b s).mlk = s.mlk ∧ (genOnTaken b s).now = s.now ∧ (genOnTaken b s).overrun = s.overrun ∧
    (genOnTaken b s).pending = s.pending := by
  unfold genOnTaken
  split <;> simp

@[simp] theorem shipMessage_frame (b : Berth) (m : ShipMsg) (s : State) :
    (shipMessage b m s).pins = s.pins ∧ (shipMessage b m s).syu = s.syu ∧ (shipMessage b m s).mtr = s.mtr ∧
    (shipMessage b m s).blg = s.blg ∧ (shipMessage b m s).evr = s.evr ∧ (shipMessage b m s).mgu = s.mgu ∧
    (shipMessage b m s).mlk = s.mlk ∧ (shipMessage b m s).now = s.now ∧ (shipMessage b m s).overrun = s.overrun ∧
    (shipMessage b m s).pending = s.pending := by
  unfold shipMessage
  split <;> simp

@[simp] theorem departCmd_frame (b : Berth) (s : State) :
    (departCmd b s).2.pins = s.pins ∧ (departCmd b s).2.syu = s.syu ∧ (departCmd b s).2.mtr = s.mtr ∧
    (departCmd b s).2.blg = s.blg ∧ (departCmd b s).2.evr = s.evr ∧ (departCmd b s).2.mgu = s.mgu ∧
    (departCmd b s).2.mlk = s.mlk ∧ (departCmd b s).2.now = s.now ∧ (departCmd b s).2.overrun = s.overrun ∧
    (departCmd b s).2.pending = s.pending := by
  unfold departCmd
  split <;> simp

@[simp] theorem abortCmd_frame (b : Berth) (s : State) :
    (abortCmd b s).2.pins = s.pins ∧ (abortCmd b s).2.mtr = s.mtr ∧ (abortCmd b s).2.mgu = s.mgu ∧
    (abortCmd b s).2.mlk = s.mlk ∧ (abortCmd b s).2.now = s.now ∧ (abortCmd b s).2.overrun = s.overrun ∧
    (abortCmd b s).2.pending = s.pending := by
  unfold abortCmd
  split <;> simp

@[simp] theorem tripCmd_frame (b : Berth) (s : State) :
    (tripCmd b s).2.pins = s.pins ∧ (tripCmd b s).2.mgu = s.mgu ∧ (tripCmd b s).2.mlk = s.mlk ∧
    (tripCmd b s).2.now = s.now ∧ (tripCmd b s).2.overrun = s.overrun ∧ (tripCmd b s).2.pending = s.pending := by
  unfold tripCmd
  split <;> simp

@[simp] theorem resetTripCmd_frame (b : Berth) (s : State) :
    (resetTripCmd b s).2.pins = s.pins ∧ (resetTripCmd b s).2.syu = s.syu ∧ (resetTripCmd b s).2.mtr = s.mtr ∧
    (resetTripCmd b s).2.blg = s.blg ∧ (resetTripCmd b s).2.mgu = s.mgu ∧ (resetTripCmd b s).2.mlk = s.mlk ∧
    (resetTripCmd b s).2.now = s.now ∧ (resetTripCmd b s).2.overrun = s.overrun ∧
    (resetTripCmd b s).2.pending = s.pending := by
  unfold resetTripCmd
  split <;> simp

@[simp] theorem outletPosition_frame (b : Berth) (p : Position) (s : State) :
    (outletPosition b p s).pins = s.pins ∧ (outletPosition b p s).mgu = s.mgu ∧
    (outletPosition b p s).mlk = s.mlk ∧ (outletPosition b p s).now = s.now ∧
    (outletPosition b p s).overrun = s.overrun ∧ (outletPosition b p s).pending = s.pending := by
  unfold outletPosition
  (repeat' split) <;> simp

@[simp] theorem pilotChange_frame (b : Berth) (asserted : Bool) (s : State) :
    (pilotChange b asserted s).mgu = s.mgu ∧ (pilotChange b asserted s).mlk = s.mlk ∧
    (pilotChange b asserted s).now = s.now ∧ (pilotChange b asserted s).overrun = s.overrun ∧
    (pilotChange b asserted s).pending = s.pending := by
  unfold pilotChange
  (repeat' split) <;> simp

@[simp] theorem estopTaken_frame (s : State) :
    (estopTaken s).mgu = s.mgu ∧ (estopTaken s).mlk = s.mlk ∧ (estopTaken s).now = s.now ∧
    (estopTaken s).overrun = s.overrun ∧ (estopTaken s).pending = s.pending := by
  simp [estopTaken]

@[simp] theorem estopAsserted_frame (s : State) :
    (estopAsserted s).mgu = s.mgu ∧ (estopAsserted s).mlk = s.mlk ∧ (estopAsserted s).now = s.now ∧
    (estopAsserted s).overrun = s.overrun ∧ (estopAsserted s).pending = s.pending := by
  unfold estopAsserted
  split <;> simp

@[simp] theorem estopReleased_frame (s : State) :
    (estopReleased s).lpu = s.lpu ∧ (estopReleased s).scl = s.scl ∧ (estopReleased s).mpm = s.mpm ∧
    (estopReleased s).rfg = s.rfg ∧ (estopReleased s).syu = s.syu ∧ (estopReleased s).mtr = s.mtr ∧
    (estopReleased s).blg = s.blg ∧ (estopReleased s).mgu = s.mgu ∧ (estopReleased s).mlk = s.mlk ∧
    (estopReleased s).now = s.now ∧ (estopReleased s).handoffs = s.handoffs ∧
    (estopReleased s).overrun = s.overrun ∧ (estopReleased s).pending = s.pending := by
  simp [estopReleased]

@[simp] theorem estopRepeatTaken_frame (s : State) :
    (estopRepeatTaken s).pins = s.pins ∧ (estopRepeatTaken s).lpu = s.lpu ∧ (estopRepeatTaken s).scl = s.scl ∧
    (estopRepeatTaken s).mpm = s.mpm ∧ (estopRepeatTaken s).rfg = s.rfg ∧ (estopRepeatTaken s).syu = s.syu ∧
    (estopRepeatTaken s).mtr = s.mtr ∧ (estopRepeatTaken s).blg = s.blg ∧ (estopRepeatTaken s).evr = s.evr ∧
    (estopRepeatTaken s).mgu = s.mgu ∧ (estopRepeatTaken s).mlk = s.mlk ∧
    (estopRepeatTaken s).overrun = s.overrun ∧ (estopRepeatTaken s).pending = s.pending := by
  unfold estopRepeatTaken
  split <;> simp

@[simp] theorem giveNotes_frame (e : EventIx) (s : State) :
    (giveNotes e s).pins = s.pins ∧ (giveNotes e s).scl = s.scl ∧ (giveNotes e s).syu = s.syu ∧
    (giveNotes e s).bsq = s.bsq ∧ (giveNotes e s).mtr = s.mtr ∧ (giveNotes e s).blg = s.blg ∧
    (giveNotes e s).evr = s.evr ∧ (giveNotes e s).mgu = s.mgu ∧ (giveNotes e s).mlk = s.mlk ∧
    (giveNotes e s).now = s.now ∧ (giveNotes e s).handoffs = s.handoffs ∧ (giveNotes e s).overrun = s.overrun ∧
    (giveNotes e s).pending = s.pending := by
  simp [giveNotes]

@[simp] theorem recomputeHold_frame (b : Berth) (s : State) :
    (recomputeHold b s).pins = s.pins ∧ (recomputeHold b s).lpu = s.lpu ∧ (recomputeHold b s).scl = s.scl ∧
    (recomputeHold b s).mpm = s.mpm ∧ (recomputeHold b s).rfg = s.rfg ∧ (recomputeHold b s).syu = s.syu ∧
    (recomputeHold b s).mtr = s.mtr ∧ (recomputeHold b s).blg = s.blg ∧ (recomputeHold b s).mgu = s.mgu ∧
    (recomputeHold b s).mlk = s.mlk ∧ (recomputeHold b s).now = s.now ∧ (recomputeHold b s).handoffs = s.handoffs ∧
    (recomputeHold b s).overrun = s.overrun ∧ (recomputeHold b s).pending = s.pending := by
  unfold recomputeHold
  dsimp only
  (repeat' split) <;> simp

@[simp] theorem recomputeHolds_frame (s : State) :
    (recomputeHolds s).pins = s.pins ∧ (recomputeHolds s).lpu = s.lpu ∧ (recomputeHolds s).scl = s.scl ∧
    (recomputeHolds s).mpm = s.mpm ∧ (recomputeHolds s).rfg = s.rfg ∧ (recomputeHolds s).syu = s.syu ∧
    (recomputeHolds s).mtr = s.mtr ∧ (recomputeHolds s).blg = s.blg ∧ (recomputeHolds s).mgu = s.mgu ∧
    (recomputeHolds s).mlk = s.mlk ∧ (recomputeHolds s).now = s.now ∧ (recomputeHolds s).handoffs = s.handoffs ∧
    (recomputeHolds s).overrun = s.overrun ∧ (recomputeHolds s).pending = s.pending := by
  simp [recomputeHolds]

@[simp] theorem tripEvent_frame (b : Berth) (s : State) :
    (tripEvent b s).pins = s.pins ∧ (tripEvent b s).mgu = s.mgu ∧ (tripEvent b s).mlk = s.mlk ∧
    (tripEvent b s).now = s.now ∧ (tripEvent b s).overrun = s.overrun ∧ (tripEvent b s).pending = s.pending := by
  simp [tripEvent]

@[simp] theorem applyAction_frame (e : EventIx) (s : State) :
    (applyAction e s).pins = s.pins ∧ (applyAction e s).mgu = s.mgu ∧ (applyAction e s).mlk = s.mlk ∧
    (applyAction e s).now = s.now ∧ (applyAction e s).overrun = s.overrun ∧ (applyAction e s).pending = s.pending := by
  unfold applyAction
  (repeat' split) <;> simp

@[simp] theorem raiseEntry_frame (e : EventIx) (s : State) :
    (raiseEntry e s).pins = s.pins ∧ (raiseEntry e s).mgu = s.mgu ∧ (raiseEntry e s).mlk = s.mlk ∧
    (raiseEntry e s).now = s.now ∧ (raiseEntry e s).overrun = s.overrun ∧ (raiseEntry e s).pending = s.pending := by
  unfold raiseEntry
  (repeat' split) <;> simp

@[simp] theorem enableEntry_frame (e : EventIx) (s : State) :
    (enableEntry e s).pins = s.pins ∧ (enableEntry e s).scl = s.scl ∧ (enableEntry e s).syu = s.syu ∧
    (enableEntry e s).mtr = s.mtr ∧ (enableEntry e s).blg = s.blg ∧ (enableEntry e s).mgu = s.mgu ∧
    (enableEntry e s).mlk = s.mlk ∧ (enableEntry e s).now = s.now ∧ (enableEntry e s).handoffs = s.handoffs ∧
    (enableEntry e s).overrun = s.overrun ∧ (enableEntry e s).pending = s.pending := by
  unfold enableEntry
  (repeat' split) <;> simp

@[simp] theorem disableEntry_frame (e : EventIx) (s : State) :
    (disableEntry e s).pins = s.pins ∧ (disableEntry e s).lpu = s.lpu ∧ (disableEntry e s).scl = s.scl ∧
    (disableEntry e s).mpm = s.mpm ∧ (disableEntry e s).rfg = s.rfg ∧ (disableEntry e s).syu = s.syu ∧
    (disableEntry e s).mtr = s.mtr ∧ (disableEntry e s).blg = s.blg ∧ (disableEntry e s).mgu = s.mgu ∧
    (disableEntry e s).mlk = s.mlk ∧ (disableEntry e s).now = s.now ∧ (disableEntry e s).handoffs = s.handoffs ∧
    (disableEntry e s).overrun = s.overrun ∧ (disableEntry e s).pending = s.pending := by
  simp [disableEntry]

@[simp] theorem clearEntry_frame (e : EventIx) (s : State) :
    (clearEntry e s).pins = s.pins ∧ (clearEntry e s).mgu = s.mgu ∧ (clearEntry e s).mlk = s.mlk ∧
    (clearEntry e s).now = s.now ∧ (clearEntry e s).overrun = s.overrun ∧ (clearEntry e s).pending = s.pending := by
  unfold clearEntry
  dsimp only
  (repeat' split) <;> simp

@[simp] theorem takeHandoff_frame (h : Handoff) (s : State) :
    (takeHandoff h s).pins = s.pins ∧ (takeHandoff h s).mgu = s.mgu ∧ (takeHandoff h s).mlk = s.mlk ∧
    (takeHandoff h s).now = s.now ∧ (takeHandoff h s).overrun = s.overrun ∧ (takeHandoff h s).pending = s.pending := by
  unfold takeHandoff
  split <;> simp

@[simp] theorem drain_frame (n : Nat) (s : State) :
    (drain n s).pins = s.pins ∧ (drain n s).mgu = s.mgu ∧ (drain n s).mlk = s.mlk ∧ (drain n s).now = s.now ∧
    (drain n s).overrun = s.overrun ∧ (drain n s).pending = s.pending := by
  induction n generalizing s with
  | zero => simp [drain]
  | succ n ih =>
    unfold drain
    split
    · simp
    · simp [ih]

@[simp] theorem settle_frame (s : State) :
    (settle s).pins = s.pins ∧ (settle s).mgu = s.mgu ∧ (settle s).mlk = s.mlk ∧ (settle s).now = s.now ∧
    (settle s).pending = s.pending := by
  simp [settle]

@[simp] theorem bandCheck_frame (p : Point) (vOut fOut : Bool) (evV evF : EventIx) (s : State) :
    (bandCheck p vOut fOut evV evF s).pins = s.pins ∧ (bandCheck p vOut fOut evV evF s).lpu = s.lpu ∧
    (bandCheck p vOut fOut evV evF s).mpm = s.mpm ∧ (bandCheck p vOut fOut evV evF s).rfg = s.rfg ∧
    (bandCheck p vOut fOut evV evF s).syu = s.syu ∧ (bandCheck p vOut fOut evV evF s).bsq = s.bsq ∧
    (bandCheck p vOut fOut evV evF s).mtr = s.mtr ∧ (bandCheck p vOut fOut evV evF s).blg = s.blg ∧
    (bandCheck p vOut fOut evV evF s).evr = s.evr ∧ (bandCheck p vOut fOut evV evF s).mgu = s.mgu ∧
    (bandCheck p vOut fOut evV evF s).mlk = s.mlk ∧ (bandCheck p vOut fOut evV evF s).now = s.now ∧
    (bandCheck p vOut fOut evV evF s).overrun = s.overrun ∧ (bandCheck p vOut fOut evV evF s).pending = s.pending := by
  unfold bandCheck
  (repeat' split) <;> simp

@[simp] theorem bandChecks_frame (p : Point) (s : State) :
    (bandChecks p s).pins = s.pins ∧ (bandChecks p s).lpu = s.lpu ∧ (bandChecks p s).mpm = s.mpm ∧
    (bandChecks p s).rfg = s.rfg ∧ (bandChecks p s).syu = s.syu ∧ (bandChecks p s).bsq = s.bsq ∧
    (bandChecks p s).mtr = s.mtr ∧ (bandChecks p s).blg = s.blg ∧ (bandChecks p s).evr = s.evr ∧
    (bandChecks p s).mgu = s.mgu ∧ (bandChecks p s).mlk = s.mlk ∧ (bandChecks p s).now = s.now ∧
    (bandChecks p s).overrun = s.overrun ∧ (bandChecks p s).pending = s.pending := by
  unfold bandChecks
  (repeat' split) <;> simp

@[simp] theorem meterHandOff_frame (p : Point) (nominal : Nat) (wasStale : Bool) (s : State) :
    (meterHandOff p nominal wasStale s).pins = s.pins ∧ (meterHandOff p nominal wasStale s).lpu = s.lpu ∧
    (meterHandOff p nominal wasStale s).scl = s.scl ∧ (meterHandOff p nominal wasStale s).mpm = s.mpm ∧
    (meterHandOff p nominal wasStale s).rfg = s.rfg ∧ (meterHandOff p nominal wasStale s).syu = s.syu ∧
    (meterHandOff p nominal wasStale s).bsq = s.bsq ∧ (meterHandOff p nominal wasStale s).evr = s.evr ∧
    (meterHandOff p nominal wasStale s).mgu = s.mgu ∧ (meterHandOff p nominal wasStale s).mlk = s.mlk ∧
    (meterHandOff p nominal wasStale s).now = s.now ∧ (meterHandOff p nominal wasStale s).overrun = s.overrun ∧
    (meterHandOff p nominal wasStale s).pending = s.pending := by
  unfold meterHandOff
  split <;> simp

@[simp] theorem validRecord_frame (p : Point) (e : StreamEntry) (x : MeasRecord) (s : State) :
    (validRecord p e x s).pins = s.pins ∧ (validRecord p e x s).bsq = s.bsq ∧ (validRecord p e x s).evr = s.evr ∧
    (validRecord p e x s).mgu = s.mgu ∧ (validRecord p e x s).mlk = s.mlk ∧ (validRecord p e x s).now = s.now ∧
    (validRecord p e x s).overrun = s.overrun ∧ (validRecord p e x s).pending = s.pending := by
  simp [validRecord]

@[simp] theorem matchedRecord_frame (p : Point) (e : StreamEntry) (x : MeasRecord) (s : State) :
    (matchedRecord p e x s).pins = s.pins ∧ (matchedRecord p e x s).bsq = s.bsq ∧
    (matchedRecord p e x s).evr = s.evr ∧ (matchedRecord p e x s).mgu = s.mgu ∧
    (matchedRecord p e x s).mlk = s.mlk ∧ (matchedRecord p e x s).now = s.now ∧
    (matchedRecord p e x s).overrun = s.overrun ∧ (matchedRecord p e x s).pending = s.pending := by
  unfold matchedRecord
  (repeat' split) <;> simp

@[simp] theorem takeRecord_frame (src : Nat) (x : MeasRecord) (s : State) :
    (takeRecord src x s).pins = s.pins ∧ (takeRecord src x s).bsq = s.bsq ∧ (takeRecord src x s).evr = s.evr ∧
    (takeRecord src x s).mgu = s.mgu ∧ (takeRecord src x s).mlk = s.mlk ∧ (takeRecord src x s).now = s.now ∧
    (takeRecord src x s).overrun = s.overrun ∧ (takeRecord src x s).pending = s.pending := by
  unfold takeRecord
  (repeat' split) <;> simp

@[simp] theorem measTaken_frame (src : Nat) (payload : List Byte) (s : State) :
    (measTaken src payload s).pins = s.pins ∧ (measTaken src payload s).bsq = s.bsq ∧
    (measTaken src payload s).evr = s.evr ∧ (measTaken src payload s).mgu = s.mgu ∧
    (measTaken src payload s).mlk = s.mlk ∧ (measTaken src payload s).now = s.now ∧
    (measTaken src payload s).overrun = s.overrun ∧ (measTaken src payload s).pending = s.pending := by
  simp [measTaken]

@[simp] theorem recordPosition_frame (t : Target) (p : Position) (s : State) :
    (recordPosition t p s).pins = s.pins ∧ (recordPosition t p s).lpu = s.lpu ∧
    (recordPosition t p s).scl = s.scl ∧ (recordPosition t p s).mpm = s.mpm ∧ (recordPosition t p s).rfg = s.rfg ∧
    (recordPosition t p s).bsq = s.bsq ∧ (recordPosition t p s).mtr = s.mtr ∧ (recordPosition t p s).blg = s.blg ∧
    (recordPosition t p s).evr = s.evr ∧ (recordPosition t p s).mgu = s.mgu ∧ (recordPosition t p s).mlk = s.mlk ∧
    (recordPosition t p s).now = s.now ∧ (recordPosition t p s).handoffs = s.handoffs ∧
    (recordPosition t p s).overrun = s.overrun ∧ (recordPosition t p s).pending = s.pending := by
  unfold recordPosition
  split <;> simp

@[simp] theorem deadCloseReport_frame (d : DeadClose) (p : Position) (s : State) :
    (deadCloseReport d p s).pins = s.pins ∧ (deadCloseReport d p s).scl = s.scl ∧
    (deadCloseReport d p s).bsq = s.bsq ∧ (deadCloseReport d p s).mtr = s.mtr ∧
    (deadCloseReport d p s).blg = s.blg ∧ (deadCloseReport d p s).evr = s.evr ∧
    (deadCloseReport d p s).mgu = s.mgu ∧ (deadCloseReport d p s).mlk = s.mlk ∧
    (deadCloseReport d p s).now = s.now ∧ (deadCloseReport d p s).overrun = s.overrun ∧
    (deadCloseReport d p s).pending = s.pending := by
  unfold deadCloseReport
  split <;> simp

@[simp] theorem closingReport_frame (c : Chan) (w : ChanWork) (p : Position) (s : State) :
    (closingReport c w p s).pins = s.pins ∧ (closingReport c w p s).scl = s.scl ∧
    (closingReport c w p s).bsq = s.bsq ∧ (closingReport c w p s).mtr = s.mtr ∧
    (closingReport c w p s).blg = s.blg ∧ (closingReport c w p s).evr = s.evr ∧
    (closingReport c w p s).mgu = s.mgu ∧ (closingReport c w p s).mlk = s.mlk ∧
    (closingReport c w p s).now = s.now ∧ (closingReport c w p s).overrun = s.overrun ∧
    (closingReport c w p s).pending = s.pending := by
  unfold closingReport
  split <;> simp

@[simp] theorem failUncommanded_frame (t : Target) (c : Chan) (s : State) :
    (failUncommanded t c s).pins = s.pins ∧ (failUncommanded t c s).lpu = s.lpu ∧
    (failUncommanded t c s).scl = s.scl ∧ (failUncommanded t c s).mpm = s.mpm ∧
    (failUncommanded t c s).bsq = s.bsq ∧ (failUncommanded t c s).mtr = s.mtr ∧
    (failUncommanded t c s).blg = s.blg ∧ (failUncommanded t c s).evr = s.evr ∧
    (failUncommanded t c s).mgu = s.mgu ∧ (failUncommanded t c s).mlk = s.mlk ∧
    (failUncommanded t c s).now = s.now ∧ (failUncommanded t c s).overrun = s.overrun ∧
    (failUncommanded t c s).pending = s.pending := by
  unfold failUncommanded
  (repeat' split) <;> simp

@[simp] theorem uncommandedClosure_frame (t : Target) (s : State) :
    (uncommandedClosure t s).pins = s.pins ∧ (uncommandedClosure t s).scl = s.scl ∧
    (uncommandedClosure t s).bsq = s.bsq ∧ (uncommandedClosure t s).mtr = s.mtr ∧
    (uncommandedClosure t s).blg = s.blg ∧ (uncommandedClosure t s).evr = s.evr ∧
    (uncommandedClosure t s).mgu = s.mgu ∧ (uncommandedClosure t s).mlk = s.mlk ∧
    (uncommandedClosure t s).now = s.now ∧ (uncommandedClosure t s).overrun = s.overrun ∧
    (uncommandedClosure t s).pending = s.pending := by
  simp [uncommandedClosure]

@[simp] theorem ownReport_frame (t : Target) (p : Position) (prev : Option Position) (s : State) :
    (ownReport t p prev s).pins = s.pins ∧ (ownReport t p prev s).scl = s.scl ∧
    (ownReport t p prev s).bsq = s.bsq ∧ (ownReport t p prev s).mtr = s.mtr ∧ (ownReport t p prev s).blg = s.blg ∧
    (ownReport t p prev s).evr = s.evr ∧ (ownReport t p prev s).mgu = s.mgu ∧ (ownReport t p prev s).mlk = s.mlk ∧
    (ownReport t p prev s).now = s.now ∧ (ownReport t p prev s).overrun = s.overrun ∧
    (ownReport t p prev s).pending = s.pending := by
  unfold ownReport
  (repeat' split) <;> simp

@[simp] theorem bstaTaken_frame (t : Target) (p : Position) (s : State) :
    (bstaTaken t p s).pins = s.pins ∧ (bstaTaken t p s).mgu = s.mgu ∧ (bstaTaken t p s).mlk = s.mlk ∧
    (bstaTaken t p s).now = s.now ∧ (bstaTaken t p s).overrun = s.overrun ∧ (bstaTaken t p s).pending = s.pending := by
  unfold bstaTaken
  split <;> simp

@[simp] theorem applyStreams_frame (first : Nat) (es : List (List Nat)) (s : State) :
    (applyStreams first es s).pins = s.pins ∧ (applyStreams first es s).lpu = s.lpu ∧
    (applyStreams first es s).mpm = s.mpm ∧ (applyStreams first es s).rfg = s.rfg ∧
    (applyStreams first es s).bsq = s.bsq ∧ (applyStreams first es s).mtr = s.mtr ∧
    (applyStreams first es s).blg = s.blg ∧ (applyStreams first es s).evr = s.evr ∧
    (applyStreams first es s).mgu = s.mgu ∧ (applyStreams first es s).mlk = s.mlk ∧
    (applyStreams first es s).now = s.now ∧ (applyStreams first es s).overrun = s.overrun ∧
    (applyStreams first es s).pending = s.pending := by
  simp [applyStreams]

@[simp] theorem abandonPoll_frame (m : Module) (s : State) :
    (abandonPoll m s).pins = s.pins ∧ (abandonPoll m s).lpu = s.lpu ∧ (abandonPoll m s).scl = s.scl ∧
    (abandonPoll m s).rfg = s.rfg ∧ (abandonPoll m s).syu = s.syu ∧ (abandonPoll m s).bsq = s.bsq ∧
    (abandonPoll m s).mtr = s.mtr ∧ (abandonPoll m s).blg = s.blg ∧ (abandonPoll m s).evr = s.evr ∧
    (abandonPoll m s).mgu = s.mgu ∧ (abandonPoll m s).mlk = s.mlk ∧ (abandonPoll m s).now = s.now ∧
    (abandonPoll m s).handoffs = s.handoffs ∧ (abandonPoll m s).overrun = s.overrun ∧
    (abandonPoll m s).pending = s.pending := by
  simp [abandonPoll]

@[simp] theorem moduleWritten_frame (old new : ModuleEntry) (m : Module) (s : State) :
    (moduleWritten old new m s).pins = s.pins ∧ (moduleWritten old new m s).lpu = s.lpu ∧
    (moduleWritten old new m s).scl = s.scl ∧ (moduleWritten old new m s).syu = s.syu ∧
    (moduleWritten old new m s).bsq = s.bsq ∧ (moduleWritten old new m s).mtr = s.mtr ∧
    (moduleWritten old new m s).blg = s.blg ∧ (moduleWritten old new m s).evr = s.evr ∧
    (moduleWritten old new m s).mgu = s.mgu ∧ (moduleWritten old new m s).mlk = s.mlk ∧
    (moduleWritten old new m s).now = s.now ∧ (moduleWritten old new m s).handoffs = s.handoffs ∧
    (moduleWritten old new m s).overrun = s.overrun ∧ (moduleWritten old new m s).pending = s.pending := by
  unfold moduleWritten
  (repeat' split) <;> simp

@[simp] theorem applyModules_frame (first : Nat) (es : List (List Nat)) (s : State) :
    (applyModules first es s).pins = s.pins ∧ (applyModules first es s).lpu = s.lpu ∧
    (applyModules first es s).scl = s.scl ∧ (applyModules first es s).syu = s.syu ∧
    (applyModules first es s).bsq = s.bsq ∧ (applyModules first es s).mtr = s.mtr ∧
    (applyModules first es s).blg = s.blg ∧ (applyModules first es s).evr = s.evr ∧
    (applyModules first es s).mgu = s.mgu ∧ (applyModules first es s).mlk = s.mlk ∧
    (applyModules first es s).now = s.now ∧ (applyModules first es s).handoffs = s.handoffs ∧
    (applyModules first es s).overrun = s.overrun ∧ (applyModules first es s).pending = s.pending := by
  simp [applyModules]

@[simp] theorem breakerWritten_frame (old new : BreakerEntry) (t : Target) (s : State) :
    (breakerWritten old new t s).pins = s.pins ∧ (breakerWritten old new t s).lpu = s.lpu ∧
    (breakerWritten old new t s).scl = s.scl ∧ (breakerWritten old new t s).mpm = s.mpm ∧
    (breakerWritten old new t s).rfg = s.rfg ∧ (breakerWritten old new t s).bsq = s.bsq ∧
    (breakerWritten old new t s).mtr = s.mtr ∧ (breakerWritten old new t s).blg = s.blg ∧
    (breakerWritten old new t s).evr = s.evr ∧ (breakerWritten old new t s).mgu = s.mgu ∧
    (breakerWritten old new t s).mlk = s.mlk ∧ (breakerWritten old new t s).now = s.now ∧
    (breakerWritten old new t s).handoffs = s.handoffs ∧ (breakerWritten old new t s).overrun = s.overrun ∧
    (breakerWritten old new t s).pending = s.pending := by
  unfold breakerWritten
  split <;> simp

@[simp] theorem applyBreakers_frame (first : Nat) (es : List (List Nat)) (s : State) :
    (applyBreakers first es s).pins = s.pins ∧ (applyBreakers first es s).lpu = s.lpu ∧
    (applyBreakers first es s).scl = s.scl ∧ (applyBreakers first es s).mpm = s.mpm ∧
    (applyBreakers first es s).rfg = s.rfg ∧ (applyBreakers first es s).bsq = s.bsq ∧
    (applyBreakers first es s).mtr = s.mtr ∧ (applyBreakers first es s).blg = s.blg ∧
    (applyBreakers first es s).evr = s.evr ∧ (applyBreakers first es s).mgu = s.mgu ∧
    (applyBreakers first es s).mlk = s.mlk ∧ (applyBreakers first es s).now = s.now ∧
    (applyBreakers first es s).handoffs = s.handoffs ∧ (applyBreakers first es s).overrun = s.overrun ∧
    (applyBreakers first es s).pending = s.pending := by
  simp [applyBreakers]

@[simp] theorem berthWritten_frame (old new : BerthEntry) (b : Berth) (s : State) :
    (berthWritten old new b s).pins = s.pins ∧ (berthWritten old new b s).lpu = s.lpu ∧
    (berthWritten old new b s).mpm = s.mpm ∧ (berthWritten old new b s).syu = s.syu ∧
    (berthWritten old new b s).mtr = s.mtr ∧ (berthWritten old new b s).blg = s.blg ∧
    (berthWritten old new b s).evr = s.evr ∧ (berthWritten old new b s).mgu = s.mgu ∧
    (berthWritten old new b s).mlk = s.mlk ∧ (berthWritten old new b s).now = s.now ∧
    (berthWritten old new b s).overrun = s.overrun ∧ (berthWritten old new b s).pending = s.pending := by
  unfold berthWritten
  (repeat' split) <;> simp

@[simp] theorem applyBerths_frame (first : Nat) (es : List (List Nat)) (s : State) :
    (applyBerths first es s).pins = s.pins ∧ (applyBerths first es s).lpu = s.lpu ∧
    (applyBerths first es s).mpm = s.mpm ∧ (applyBerths first es s).syu = s.syu ∧
    (applyBerths first es s).mtr = s.mtr ∧ (applyBerths first es s).blg = s.blg ∧
    (applyBerths first es s).evr = s.evr ∧ (applyBerths first es s).mgu = s.mgu ∧
    (applyBerths first es s).mlk = s.mlk ∧ (applyBerths first es s).now = s.now ∧
    (applyBerths first es s).overrun = s.overrun ∧ (applyBerths first es s).pending = s.pending := by
  simp [applyBerths]

@[simp] theorem eventWritten_frame (old : EventEntry) (e : EventIx) (s : State) :
    (eventWritten old e s).pins = s.pins ∧ (eventWritten old e s).scl = s.scl ∧
    (eventWritten old e s).syu = s.syu ∧ (eventWritten old e s).bsq = s.bsq ∧ (eventWritten old e s).mtr = s.mtr ∧
    (eventWritten old e s).blg = s.blg ∧ (eventWritten old e s).evr = s.evr ∧ (eventWritten old e s).mgu = s.mgu ∧
    (eventWritten old e s).mlk = s.mlk ∧ (eventWritten old e s).now = s.now ∧
    (eventWritten old e s).handoffs = s.handoffs ∧ (eventWritten old e s).overrun = s.overrun ∧
    (eventWritten old e s).pending = s.pending := by
  unfold eventWritten
  split <;> simp

@[simp] theorem applyEvents_frame (first : Nat) (es : List (List Nat)) (s : State) :
    (applyEvents first es s).pins = s.pins ∧ (applyEvents first es s).scl = s.scl ∧
    (applyEvents first es s).syu = s.syu ∧ (applyEvents first es s).mtr = s.mtr ∧
    (applyEvents first es s).blg = s.blg ∧ (applyEvents first es s).mgu = s.mgu ∧
    (applyEvents first es s).mlk = s.mlk ∧ (applyEvents first es s).now = s.now ∧
    (applyEvents first es s).handoffs = s.handoffs ∧ (applyEvents first es s).overrun = s.overrun ∧
    (applyEvents first es s).pending = s.pending := by
  simp [applyEvents]

@[simp] theorem applyWrite_frame (t : Table) (first : Nat) (es : List (List Nat)) (s : State) :
    (applyWrite t first es s).pins = s.pins ∧ (applyWrite t first es s).mgu = s.mgu ∧
    (applyWrite t first es s).mlk = s.mlk ∧ (applyWrite t first es s).now = s.now ∧
    (applyWrite t first es s).overrun = s.overrun ∧ (applyWrite t first es s).pending = s.pending := by
  unfold applyWrite
  split <;> simp

@[simp] theorem setPrepared_frame (src : Nat) (v : Bool) (s : State) :
    (setPrepared src v s).pins = s.pins ∧ (setPrepared src v s).lpu = s.lpu ∧ (setPrepared src v s).scl = s.scl ∧
    (setPrepared src v s).mpm = s.mpm ∧ (setPrepared src v s).rfg = s.rfg ∧ (setPrepared src v s).syu = s.syu ∧
    (setPrepared src v s).bsq = s.bsq ∧ (setPrepared src v s).mtr = s.mtr ∧ (setPrepared src v s).blg = s.blg ∧
    (setPrepared src v s).evr = s.evr ∧ (setPrepared src v s).mlk = s.mlk ∧ (setPrepared src v s).now = s.now ∧
    (setPrepared src v s).handoffs = s.handoffs ∧ (setPrepared src v s).overrun = s.overrun ∧
    (setPrepared src v s).pending = s.pending := by
  simp [setPrepared]

@[simp] theorem askLock_frame (s : State) :
    (askLock s).2.pins = s.pins ∧ (askLock s).2.lpu = s.lpu ∧ (askLock s).2.scl = s.scl ∧
    (askLock s).2.mpm = s.mpm ∧ (askLock s).2.rfg = s.rfg ∧ (askLock s).2.syu = s.syu ∧ (askLock s).2.bsq = s.bsq ∧
    (askLock s).2.mtr = s.mtr ∧ (askLock s).2.blg = s.blg ∧ (askLock s).2.evr = s.evr ∧ (askLock s).2.mgu = s.mgu ∧
    (askLock s).2.mlk = s.mlk ∧ (askLock s).2.now = s.now ∧ (askLock s).2.overrun = s.overrun ∧
    (askLock s).2.pending = s.pending := by
  unfold askLock
  (repeat' split) <;> simp

@[simp] theorem codeMismatch_frame (s : State) :
    (codeMismatch s).2.pins = s.pins ∧ (codeMismatch s).2.lpu = s.lpu ∧ (codeMismatch s).2.scl = s.scl ∧
    (codeMismatch s).2.mpm = s.mpm ∧ (codeMismatch s).2.rfg = s.rfg ∧ (codeMismatch s).2.syu = s.syu ∧
    (codeMismatch s).2.bsq = s.bsq ∧ (codeMismatch s).2.mtr = s.mtr ∧ (codeMismatch s).2.blg = s.blg ∧
    (codeMismatch s).2.evr = s.evr ∧ (codeMismatch s).2.mgu = s.mgu ∧ (codeMismatch s).2.now = s.now ∧
    (codeMismatch s).2.overrun = s.overrun ∧ (codeMismatch s).2.pending = s.pending := by
  unfold codeMismatch
  dsimp only
  (repeat' split) <;> simp

@[simp] theorem unlockOwn_frame (i : CodeId) (code : Code) (s : State) :
    (unlockOwn i code s).2.pins = s.pins ∧ (unlockOwn i code s).2.lpu = s.lpu ∧
    (unlockOwn i code s).2.scl = s.scl ∧ (unlockOwn i code s).2.mpm = s.mpm ∧ (unlockOwn i code s).2.rfg = s.rfg ∧
    (unlockOwn i code s).2.syu = s.syu ∧ (unlockOwn i code s).2.bsq = s.bsq ∧ (unlockOwn i code s).2.mtr = s.mtr ∧
    (unlockOwn i code s).2.blg = s.blg ∧ (unlockOwn i code s).2.evr = s.evr ∧ (unlockOwn i code s).2.mgu = s.mgu ∧
    (unlockOwn i code s).2.now = s.now ∧ (unlockOwn i code s).2.overrun = s.overrun ∧
    (unlockOwn i code s).2.pending = s.pending := by
  unfold unlockOwn
  (repeat' split) <;> simp

@[simp] theorem unlockReq_frame (i : CodeId) (code : Code) (s : State) :
    (unlockReq i code s).2.pins = s.pins ∧ (unlockReq i code s).2.lpu = s.lpu ∧
    (unlockReq i code s).2.scl = s.scl ∧ (unlockReq i code s).2.mpm = s.mpm ∧ (unlockReq i code s).2.rfg = s.rfg ∧
    (unlockReq i code s).2.syu = s.syu ∧ (unlockReq i code s).2.bsq = s.bsq ∧ (unlockReq i code s).2.mtr = s.mtr ∧
    (unlockReq i code s).2.blg = s.blg ∧ (unlockReq i code s).2.evr = s.evr ∧ (unlockReq i code s).2.mgu = s.mgu ∧
    (unlockReq i code s).2.now = s.now ∧ (unlockReq i code s).2.overrun = s.overrun ∧
    (unlockReq i code s).2.pending = s.pending := by
  simp only [unlockReq, judged]
  (repeat' split) <;> simp

@[simp] theorem relockOwn_frame (s : State) :
    (relockOwn s).2.pins = s.pins ∧ (relockOwn s).2.lpu = s.lpu ∧ (relockOwn s).2.scl = s.scl ∧
    (relockOwn s).2.mpm = s.mpm ∧ (relockOwn s).2.rfg = s.rfg ∧ (relockOwn s).2.syu = s.syu ∧
    (relockOwn s).2.bsq = s.bsq ∧ (relockOwn s).2.mtr = s.mtr ∧ (relockOwn s).2.blg = s.blg ∧
    (relockOwn s).2.evr = s.evr ∧ (relockOwn s).2.mgu = s.mgu ∧ (relockOwn s).2.now = s.now ∧
    (relockOwn s).2.handoffs = s.handoffs ∧ (relockOwn s).2.overrun = s.overrun ∧
    (relockOwn s).2.pending = s.pending := by
  unfold relockOwn
  split <;> simp

@[simp] theorem relockReq_frame (s : State) :
    (relockReq s).2.pins = s.pins ∧ (relockReq s).2.lpu = s.lpu ∧ (relockReq s).2.scl = s.scl ∧
    (relockReq s).2.mpm = s.mpm ∧ (relockReq s).2.rfg = s.rfg ∧ (relockReq s).2.syu = s.syu ∧
    (relockReq s).2.bsq = s.bsq ∧ (relockReq s).2.mtr = s.mtr ∧ (relockReq s).2.blg = s.blg ∧
    (relockReq s).2.evr = s.evr ∧ (relockReq s).2.mgu = s.mgu ∧ (relockReq s).2.now = s.now ∧
    (relockReq s).2.overrun = s.overrun ∧ (relockReq s).2.pending = s.pending := by
  simp only [relockReq, judged]
  (repeat' split) <;> simp

@[simp] theorem setOperatorOwn_frame (code : Code) (level : Nat) (s : State) :
    (setOperatorOwn code level s).2.pins = s.pins ∧ (setOperatorOwn code level s).2.lpu = s.lpu ∧
    (setOperatorOwn code level s).2.scl = s.scl ∧ (setOperatorOwn code level s).2.mpm = s.mpm ∧
    (setOperatorOwn code level s).2.rfg = s.rfg ∧ (setOperatorOwn code level s).2.syu = s.syu ∧
    (setOperatorOwn code level s).2.bsq = s.bsq ∧ (setOperatorOwn code level s).2.mtr = s.mtr ∧
    (setOperatorOwn code level s).2.blg = s.blg ∧ (setOperatorOwn code level s).2.evr = s.evr ∧
    (setOperatorOwn code level s).2.mgu = s.mgu ∧ (setOperatorOwn code level s).2.now = s.now ∧
    (setOperatorOwn code level s).2.handoffs = s.handoffs ∧ (setOperatorOwn code level s).2.overrun = s.overrun ∧
    (setOperatorOwn code level s).2.pending = s.pending := by
  unfold setOperatorOwn
  (repeat' split) <;> simp

@[simp] theorem setOperatorReq_frame (code : Code) (level : Nat) (s : State) :
    (setOperatorReq code level s).2.pins = s.pins ∧ (setOperatorReq code level s).2.lpu = s.lpu ∧
    (setOperatorReq code level s).2.scl = s.scl ∧ (setOperatorReq code level s).2.mpm = s.mpm ∧
    (setOperatorReq code level s).2.rfg = s.rfg ∧ (setOperatorReq code level s).2.syu = s.syu ∧
    (setOperatorReq code level s).2.bsq = s.bsq ∧ (setOperatorReq code level s).2.mtr = s.mtr ∧
    (setOperatorReq code level s).2.blg = s.blg ∧ (setOperatorReq code level s).2.evr = s.evr ∧
    (setOperatorReq code level s).2.mgu = s.mgu ∧ (setOperatorReq code level s).2.now = s.now ∧
    (setOperatorReq code level s).2.overrun = s.overrun ∧ (setOperatorReq code level s).2.pending = s.pending := by
  simp only [setOperatorReq, judged]
  (repeat' split) <;> simp

@[simp] theorem setMetrology_frame (code : Code) (revision : Nat) (s : State) :
    (setMetrology code revision s).pins = s.pins ∧ (setMetrology code revision s).lpu = s.lpu ∧
    (setMetrology code revision s).scl = s.scl ∧ (setMetrology code revision s).mpm = s.mpm ∧
    (setMetrology code revision s).rfg = s.rfg ∧ (setMetrology code revision s).syu = s.syu ∧
    (setMetrology code revision s).bsq = s.bsq ∧ (setMetrology code revision s).mtr = s.mtr ∧
    (setMetrology code revision s).blg = s.blg ∧ (setMetrology code revision s).evr = s.evr ∧
    (setMetrology code revision s).mgu = s.mgu ∧ (setMetrology code revision s).now = s.now ∧
    (setMetrology code revision s).handoffs = s.handoffs ∧ (setMetrology code revision s).overrun = s.overrun ∧
    (setMetrology code revision s).pending = s.pending := by
  simp [setMetrology]

@[simp] theorem setMetrologyOwn_frame (code : Code) (revision : Nat) (current : Option Code) (s : State) :
    (setMetrologyOwn code revision current s).2.pins = s.pins ∧
    (setMetrologyOwn code revision current s).2.lpu = s.lpu ∧
    (setMetrologyOwn code revision current s).2.scl = s.scl ∧
    (setMetrologyOwn code revision current s).2.mpm = s.mpm ∧
    (setMetrologyOwn code revision current s).2.rfg = s.rfg ∧
    (setMetrologyOwn code revision current s).2.syu = s.syu ∧
    (setMetrologyOwn code revision current s).2.bsq = s.bsq ∧
    (setMetrologyOwn code revision current s).2.mtr = s.mtr ∧
    (setMetrologyOwn code revision current s).2.blg = s.blg ∧
    (setMetrologyOwn code revision current s).2.evr = s.evr ∧
    (setMetrologyOwn code revision current s).2.mgu = s.mgu ∧
    (setMetrologyOwn code revision current s).2.now = s.now ∧
    (setMetrologyOwn code revision current s).2.overrun = s.overrun ∧
    (setMetrologyOwn code revision current s).2.pending = s.pending := by
  unfold setMetrologyOwn
  (repeat' split) <;> simp

@[simp] theorem setMetrologyReq_frame (code : Code) (revision : Nat) (current : Option Code) (s : State) :
    (setMetrologyReq code revision current s).2.pins = s.pins ∧
    (setMetrologyReq code revision current s).2.lpu = s.lpu ∧
    (setMetrologyReq code revision current s).2.scl = s.scl ∧
    (setMetrologyReq code revision current s).2.mpm = s.mpm ∧
    (setMetrologyReq code revision current s).2.rfg = s.rfg ∧
    (setMetrologyReq code revision current s).2.syu = s.syu ∧
    (setMetrologyReq code revision current s).2.bsq = s.bsq ∧
    (setMetrologyReq code revision current s).2.mtr = s.mtr ∧
    (setMetrologyReq code revision current s).2.blg = s.blg ∧
    (setMetrologyReq code revision current s).2.evr = s.evr ∧
    (setMetrologyReq code revision current s).2.mgu = s.mgu ∧
    (setMetrologyReq code revision current s).2.now = s.now ∧
    (setMetrologyReq code revision current s).2.overrun = s.overrun ∧
    (setMetrologyReq code revision current s).2.pending = s.pending := by
  simp only [setMetrologyReq, judged]
  (repeat' split) <;> simp

@[simp] theorem removeCodeOwn_frame (code : Code) (s : State) :
    (removeCodeOwn code s).2.pins = s.pins ∧ (removeCodeOwn code s).2.lpu = s.lpu ∧
    (removeCodeOwn code s).2.scl = s.scl ∧ (removeCodeOwn code s).2.mpm = s.mpm ∧
    (removeCodeOwn code s).2.rfg = s.rfg ∧ (removeCodeOwn code s).2.syu = s.syu ∧
    (removeCodeOwn code s).2.bsq = s.bsq ∧ (removeCodeOwn code s).2.mtr = s.mtr ∧
    (removeCodeOwn code s).2.blg = s.blg ∧ (removeCodeOwn code s).2.evr = s.evr ∧
    (removeCodeOwn code s).2.mgu = s.mgu ∧ (removeCodeOwn code s).2.now = s.now ∧
    (removeCodeOwn code s).2.overrun = s.overrun ∧ (removeCodeOwn code s).2.pending = s.pending := by
  unfold removeCodeOwn
  (repeat' split) <;> simp

@[simp] theorem removeCodeReq_frame (code : Code) (s : State) :
    (removeCodeReq code s).2.pins = s.pins ∧ (removeCodeReq code s).2.lpu = s.lpu ∧
    (removeCodeReq code s).2.scl = s.scl ∧ (removeCodeReq code s).2.mpm = s.mpm ∧
    (removeCodeReq code s).2.rfg = s.rfg ∧ (removeCodeReq code s).2.syu = s.syu ∧
    (removeCodeReq code s).2.bsq = s.bsq ∧ (removeCodeReq code s).2.mtr = s.mtr ∧
    (removeCodeReq code s).2.blg = s.blg ∧ (removeCodeReq code s).2.evr = s.evr ∧
    (removeCodeReq code s).2.mgu = s.mgu ∧ (removeCodeReq code s).2.now = s.now ∧
    (removeCodeReq code s).2.overrun = s.overrun ∧ (removeCodeReq code s).2.pending = s.pending := by
  simp only [removeCodeReq, judged]
  (repeat' split) <;> simp

@[simp] theorem freezeOwn_frame (s : State) :
    (freezeOwn s).2.pins = s.pins ∧ (freezeOwn s).2.lpu = s.lpu ∧ (freezeOwn s).2.scl = s.scl ∧
    (freezeOwn s).2.mpm = s.mpm ∧ (freezeOwn s).2.rfg = s.rfg ∧ (freezeOwn s).2.syu = s.syu ∧
    (freezeOwn s).2.bsq = s.bsq ∧ (freezeOwn s).2.mtr = s.mtr ∧ (freezeOwn s).2.blg = s.blg ∧
    (freezeOwn s).2.evr = s.evr ∧ (freezeOwn s).2.mgu = s.mgu ∧ (freezeOwn s).2.now = s.now ∧
    (freezeOwn s).2.handoffs = s.handoffs ∧ (freezeOwn s).2.overrun = s.overrun ∧
    (freezeOwn s).2.pending = s.pending := by
  unfold freezeOwn
  split <;> simp

@[simp] theorem freezeReq_frame (s : State) :
    (freezeReq s).2.pins = s.pins ∧ (freezeReq s).2.lpu = s.lpu ∧ (freezeReq s).2.scl = s.scl ∧
    (freezeReq s).2.mpm = s.mpm ∧ (freezeReq s).2.rfg = s.rfg ∧ (freezeReq s).2.syu = s.syu ∧
    (freezeReq s).2.bsq = s.bsq ∧ (freezeReq s).2.mtr = s.mtr ∧ (freezeReq s).2.blg = s.blg ∧
    (freezeReq s).2.evr = s.evr ∧ (freezeReq s).2.mgu = s.mgu ∧ (freezeReq s).2.now = s.now ∧
    (freezeReq s).2.overrun = s.overrun ∧ (freezeReq s).2.pending = s.pending := by
  simp only [freezeReq, judged]
  (repeat' split) <;> simp

@[simp] theorem clearPrepareReq_frame (src : Nat) (s : State) :
    (clearPrepareReq src s).2.pins = s.pins ∧ (clearPrepareReq src s).2.lpu = s.lpu ∧
    (clearPrepareReq src s).2.scl = s.scl ∧ (clearPrepareReq src s).2.mpm = s.mpm ∧
    (clearPrepareReq src s).2.rfg = s.rfg ∧ (clearPrepareReq src s).2.syu = s.syu ∧
    (clearPrepareReq src s).2.bsq = s.bsq ∧ (clearPrepareReq src s).2.mtr = s.mtr ∧
    (clearPrepareReq src s).2.blg = s.blg ∧ (clearPrepareReq src s).2.evr = s.evr ∧
    (clearPrepareReq src s).2.mlk = s.mlk ∧ (clearPrepareReq src s).2.now = s.now ∧
    (clearPrepareReq src s).2.overrun = s.overrun ∧ (clearPrepareReq src s).2.pending = s.pending := by
  simp only [clearPrepareReq, judged]
  (repeat' split) <;> simp

@[simp] theorem emptyLog_frame (s : State) :
    (emptyLog s).pins = s.pins ∧ (emptyLog s).lpu = s.lpu ∧ (emptyLog s).scl = s.scl ∧ (emptyLog s).mpm = s.mpm ∧
    (emptyLog s).rfg = s.rfg ∧ (emptyLog s).syu = s.syu ∧ (emptyLog s).bsq = s.bsq ∧ (emptyLog s).mtr = s.mtr ∧
    (emptyLog s).evr = s.evr ∧ (emptyLog s).mgu = s.mgu ∧ (emptyLog s).mlk = s.mlk ∧ (emptyLog s).now = s.now ∧
    (emptyLog s).overrun = s.overrun ∧ (emptyLog s).pending = s.pending := by
  simp [emptyLog]

@[simp] theorem zeroUnbilled_frame (s : State) :
    (zeroUnbilled s).pins = s.pins ∧ (zeroUnbilled s).lpu = s.lpu ∧ (zeroUnbilled s).scl = s.scl ∧
    (zeroUnbilled s).mpm = s.mpm ∧ (zeroUnbilled s).rfg = s.rfg ∧ (zeroUnbilled s).syu = s.syu ∧
    (zeroUnbilled s).bsq = s.bsq ∧ (zeroUnbilled s).blg = s.blg ∧ (zeroUnbilled s).evr = s.evr ∧
    (zeroUnbilled s).mgu = s.mgu ∧ (zeroUnbilled s).mlk = s.mlk ∧ (zeroUnbilled s).now = s.now ∧
    (zeroUnbilled s).handoffs = s.handoffs ∧ (zeroUnbilled s).overrun = s.overrun ∧
    (zeroUnbilled s).pending = s.pending := by
  simp [zeroUnbilled]

@[simp] theorem billingClearTaken_frame (s : State) :
    (billingClearTaken s).pins = s.pins ∧ (billingClearTaken s).lpu = s.lpu ∧ (billingClearTaken s).scl = s.scl ∧
    (billingClearTaken s).mpm = s.mpm ∧ (billingClearTaken s).rfg = s.rfg ∧ (billingClearTaken s).syu = s.syu ∧
    (billingClearTaken s).bsq = s.bsq ∧ (billingClearTaken s).evr = s.evr ∧ (billingClearTaken s).mgu = s.mgu ∧
    (billingClearTaken s).now = s.now ∧ (billingClearTaken s).overrun = s.overrun ∧
    (billingClearTaken s).pending = s.pending := by
  simp [billingClearTaken]

@[simp] theorem billingClearOwn_frame (prep : Bool) (i : CodeId) (code : Code) (s : State) :
    (billingClearOwn prep i code s).2.pins = s.pins ∧ (billingClearOwn prep i code s).2.lpu = s.lpu ∧
    (billingClearOwn prep i code s).2.scl = s.scl ∧ (billingClearOwn prep i code s).2.mpm = s.mpm ∧
    (billingClearOwn prep i code s).2.rfg = s.rfg ∧ (billingClearOwn prep i code s).2.syu = s.syu ∧
    (billingClearOwn prep i code s).2.bsq = s.bsq ∧ (billingClearOwn prep i code s).2.evr = s.evr ∧
    (billingClearOwn prep i code s).2.mgu = s.mgu ∧ (billingClearOwn prep i code s).2.now = s.now ∧
    (billingClearOwn prep i code s).2.overrun = s.overrun ∧ (billingClearOwn prep i code s).2.pending = s.pending := by
  unfold billingClearOwn
  (repeat' split) <;> simp

@[simp] theorem billingClearReq_frame (prep : Bool) (i : CodeId) (code : Code) (s : State) :
    (billingClearReq prep i code s).2.pins = s.pins ∧ (billingClearReq prep i code s).2.lpu = s.lpu ∧
    (billingClearReq prep i code s).2.scl = s.scl ∧ (billingClearReq prep i code s).2.mpm = s.mpm ∧
    (billingClearReq prep i code s).2.rfg = s.rfg ∧ (billingClearReq prep i code s).2.syu = s.syu ∧
    (billingClearReq prep i code s).2.bsq = s.bsq ∧ (billingClearReq prep i code s).2.evr = s.evr ∧
    (billingClearReq prep i code s).2.mgu = s.mgu ∧ (billingClearReq prep i code s).2.now = s.now ∧
    (billingClearReq prep i code s).2.overrun = s.overrun ∧ (billingClearReq prep i code s).2.pending = s.pending := by
  simp only [billingClearReq, judged]
  (repeat' split) <;> simp

@[simp] theorem discardResidues_frame (s : State) :
    (discardResidues s).pins = s.pins ∧ (discardResidues s).lpu = s.lpu ∧ (discardResidues s).scl = s.scl ∧
    (discardResidues s).mpm = s.mpm ∧ (discardResidues s).rfg = s.rfg ∧ (discardResidues s).syu = s.syu ∧
    (discardResidues s).bsq = s.bsq ∧ (discardResidues s).blg = s.blg ∧ (discardResidues s).evr = s.evr ∧
    (discardResidues s).mgu = s.mgu ∧ (discardResidues s).mlk = s.mlk ∧ (discardResidues s).now = s.now ∧
    (discardResidues s).handoffs = s.handoffs ∧ (discardResidues s).overrun = s.overrun ∧
    (discardResidues s).pending = s.pending := by
  simp [discardResidues]

@[simp] theorem supplyCloses_frame (s : State) :
    (supplyCloses s).pins = s.pins ∧ (supplyCloses s).lpu = s.lpu ∧ (supplyCloses s).scl = s.scl ∧
    (supplyCloses s).mpm = s.mpm ∧ (supplyCloses s).rfg = s.rfg ∧ (supplyCloses s).syu = s.syu ∧
    (supplyCloses s).bsq = s.bsq ∧ (supplyCloses s).evr = s.evr ∧ (supplyCloses s).mgu = s.mgu ∧
    (supplyCloses s).mlk = s.mlk ∧ (supplyCloses s).now = s.now ∧ (supplyCloses s).overrun = s.overrun ∧
    (supplyCloses s).pending = s.pending := by
  simp [supplyCloses]

@[simp] theorem warmBlocks_frame (nid opn bln : BitVec 6) (s : State) :
    (warmBlocks nid opn bln s).pins = s.pins ∧ (warmBlocks nid opn bln s).mlk = s.mlk ∧
    (warmBlocks nid opn bln s).now = s.now ∧ (warmBlocks nid opn bln s).overrun = s.overrun ∧
    (warmBlocks nid opn bln s).pending = s.pending := by
  simp [warmBlocks]

@[simp] theorem openContactor_frame (m : Module) (s : State) :
    (openContactor m s).pins = s.pins ∧ (openContactor m s).scl = s.scl ∧ (openContactor m s).syu = s.syu ∧
    (openContactor m s).bsq = s.bsq ∧ (openContactor m s).mtr = s.mtr ∧ (openContactor m s).blg = s.blg ∧
    (openContactor m s).evr = s.evr ∧ (openContactor m s).mgu = s.mgu ∧ (openContactor m s).mlk = s.mlk ∧
    (openContactor m s).now = s.now ∧ (openContactor m s).handoffs = s.handoffs ∧
    (openContactor m s).overrun = s.overrun ∧ (openContactor m s).pending = s.pending := by
  unfold openContactor
  split <;> simp

@[simp] theorem openContactors_frame (s : State) :
    (openContactors s).pins = s.pins ∧ (openContactors s).scl = s.scl ∧ (openContactors s).syu = s.syu ∧
    (openContactors s).bsq = s.bsq ∧ (openContactors s).mtr = s.mtr ∧ (openContactors s).blg = s.blg ∧
    (openContactors s).evr = s.evr ∧ (openContactors s).mgu = s.mgu ∧ (openContactors s).mlk = s.mlk ∧
    (openContactors s).now = s.now ∧ (openContactors s).handoffs = s.handoffs ∧
    (openContactors s).overrun = s.overrun ∧ (openContactors s).pending = s.pending := by
  simp [openContactors]

@[simp] theorem deadNotice_frame (b : Berth) (s : State) :
    (deadNotice b s).pins = s.pins ∧ (deadNotice b s).scl = s.scl ∧ (deadNotice b s).syu = s.syu ∧
    (deadNotice b s).bsq = s.bsq ∧ (deadNotice b s).mtr = s.mtr ∧ (deadNotice b s).blg = s.blg ∧
    (deadNotice b s).evr = s.evr ∧ (deadNotice b s).mgu = s.mgu ∧ (deadNotice b s).mlk = s.mlk ∧
    (deadNotice b s).now = s.now ∧ (deadNotice b s).handoffs = s.handoffs ∧ (deadNotice b s).overrun = s.overrun ∧
    (deadNotice b s).pending = s.pending := by
  unfold deadNotice
  split <;> simp

@[simp] theorem deadNotices_frame (s : State) :
    (deadNotices s).pins = s.pins ∧ (deadNotices s).scl = s.scl ∧ (deadNotices s).syu = s.syu ∧
    (deadNotices s).bsq = s.bsq ∧ (deadNotices s).mtr = s.mtr ∧ (deadNotices s).blg = s.blg ∧
    (deadNotices s).evr = s.evr ∧ (deadNotices s).mgu = s.mgu ∧ (deadNotices s).mlk = s.mlk ∧
    (deadNotices s).now = s.now ∧ (deadNotices s).handoffs = s.handoffs ∧ (deadNotices s).overrun = s.overrun ∧
    (deadNotices s).pending = s.pending := by
  simp [deadNotices]

@[simp] theorem estopAtEnd_frame (s : State) :
    (estopAtEnd s).mgu = s.mgu ∧ (estopAtEnd s).mlk = s.mlk ∧ (estopAtEnd s).now = s.now ∧
    (estopAtEnd s).overrun = s.overrun ∧ (estopAtEnd s).pending = s.pending := by
  unfold estopAtEnd
  split <;> simp

@[simp] theorem resetEnd_frame (s : State) :
    (resetEnd s).mgu = s.mgu ∧ (resetEnd s).mlk = s.mlk ∧ (resetEnd s).now = s.now ∧
    (resetEnd s).overrun = s.overrun ∧ (resetEnd s).pending = s.pending := by
  simp [resetEnd]

@[simp] theorem passTicks_frame (n : Nat) (s : State) :
    (passTicks n s).pins = s.pins ∧ (passTicks n s).lpu = s.lpu ∧ (passTicks n s).scl = s.scl ∧
    (passTicks n s).mpm = s.mpm ∧ (passTicks n s).rfg = s.rfg ∧ (passTicks n s).syu = s.syu ∧
    (passTicks n s).bsq = s.bsq ∧ (passTicks n s).blg = s.blg ∧ (passTicks n s).evr = s.evr ∧
    (passTicks n s).mgu = s.mgu ∧ (passTicks n s).mlk = s.mlk ∧ (passTicks n s).handoffs = s.handoffs ∧
    (passTicks n s).overrun = s.overrun ∧ (passTicks n s).pending = s.pending := by
  simp [passTicks]

@[simp] theorem warmReset_frame (nid opn bln : BitVec 6) (loss reset : Nat) (s : State) :
    (warmReset nid opn bln loss reset s).overrun = s.overrun ∧
    (warmReset nid opn bln loss reset s).pending = s.pending := by
  simp [warmReset]

@[simp] theorem restartBlocks_frame (s : State) :
    (restartBlocks s).mlk = s.mlk ∧ (restartBlocks s).now = s.now ∧ (restartBlocks s).overrun = s.overrun ∧
    (restartBlocks s).pending = s.pending := by
  unfold restartBlocks
  dsimp only
  (repeat' split) <;> simp

@[simp] theorem coldReset_frame (nid opn bln : BitVec 6) (s : State) :
    (coldReset nid opn bln s).now = s.now ∧ (coldReset nid opn bln s).overrun = s.overrun ∧
    (coldReset nid opn bln s).pending = s.pending := by
  simp [coldReset, State.coldWith]

@[simp] theorem captureRange_frame (src kind : Nat) (r : Request) (s : State) :
    (captureRange src kind r s).pins = s.pins ∧ (captureRange src kind r s).lpu = s.lpu ∧
    (captureRange src kind r s).scl = s.scl ∧ (captureRange src kind r s).mpm = s.mpm ∧
    (captureRange src kind r s).rfg = s.rfg ∧ (captureRange src kind r s).syu = s.syu ∧
    (captureRange src kind r s).bsq = s.bsq ∧ (captureRange src kind r s).mtr = s.mtr ∧
    (captureRange src kind r s).blg = s.blg ∧ (captureRange src kind r s).evr = s.evr ∧
    (captureRange src kind r s).mlk = s.mlk ∧ (captureRange src kind r s).now = s.now ∧
    (captureRange src kind r s).overrun = s.overrun ∧ (captureRange src kind r s).pending = s.pending := by
  unfold captureRange
  split <;> simp

@[simp] theorem performWrite_frame (t : Table) (first : Nat) (es : List (List Nat)) (s : State) :
    (performWrite t first es s).2.pins = s.pins ∧ (performWrite t first es s).2.mgu = s.mgu ∧
    (performWrite t first es s).2.mlk = s.mlk ∧ (performWrite t first es s).2.now = s.now ∧
    (performWrite t first es s).2.overrun = s.overrun ∧ (performWrite t first es s).2.pending = s.pending := by
  unfold performWrite
  (repeat' split) <;> simp

@[simp] theorem performBerth_frame (b cmd : Nat) (s : State) :
    (performBerth b cmd s).2.pins = s.pins ∧ (performBerth b cmd s).2.mgu = s.mgu ∧
    (performBerth b cmd s).2.mlk = s.mlk ∧ (performBerth b cmd s).2.now = s.now ∧
    (performBerth b cmd s).2.overrun = s.overrun ∧ (performBerth b cmd s).2.pending = s.pending := by
  unfold performBerth
  split <;> simp

@[simp] theorem performModule_frame (m cmd : Nat) (s : State) :
    (performModule m cmd s).2.pins = s.pins ∧ (performModule m cmd s).2.scl = s.scl ∧
    (performModule m cmd s).2.bsq = s.bsq ∧ (performModule m cmd s).2.mtr = s.mtr ∧
    (performModule m cmd s).2.blg = s.blg ∧ (performModule m cmd s).2.evr = s.evr ∧
    (performModule m cmd s).2.mgu = s.mgu ∧ (performModule m cmd s).2.mlk = s.mlk ∧
    (performModule m cmd s).2.now = s.now ∧ (performModule m cmd s).2.overrun = s.overrun ∧
    (performModule m cmd s).2.pending = s.pending := by
  unfold performModule
  split <;> simp

@[simp] theorem performClock_frame (day second : Nat) (s : State) :
    (performClock day second s).2.pins = s.pins ∧ (performClock day second s).2.lpu = s.lpu ∧
    (performClock day second s).2.scl = s.scl ∧ (performClock day second s).2.mpm = s.mpm ∧
    (performClock day second s).2.rfg = s.rfg ∧ (performClock day second s).2.syu = s.syu ∧
    (performClock day second s).2.bsq = s.bsq ∧ (performClock day second s).2.evr = s.evr ∧
    (performClock day second s).2.mgu = s.mgu ∧ (performClock day second s).2.mlk = s.mlk ∧
    (performClock day second s).2.now = s.now ∧ (performClock day second s).2.handoffs = s.handoffs ∧
    (performClock day second s).2.overrun = s.overrun ∧ (performClock day second s).2.pending = s.pending := by
  unfold performClock
  split <;> simp

@[simp] theorem performLogRemove_frame (number : Nat) (s : State) :
    (performLogRemove number s).2.pins = s.pins ∧ (performLogRemove number s).2.lpu = s.lpu ∧
    (performLogRemove number s).2.scl = s.scl ∧ (performLogRemove number s).2.mpm = s.mpm ∧
    (performLogRemove number s).2.rfg = s.rfg ∧ (performLogRemove number s).2.syu = s.syu ∧
    (performLogRemove number s).2.bsq = s.bsq ∧ (performLogRemove number s).2.mtr = s.mtr ∧
    (performLogRemove number s).2.evr = s.evr ∧ (performLogRemove number s).2.mgu = s.mgu ∧
    (performLogRemove number s).2.mlk = s.mlk ∧ (performLogRemove number s).2.now = s.now ∧
    (performLogRemove number s).2.overrun = s.overrun ∧ (performLogRemove number s).2.pending = s.pending := by
  unfold performLogRemove
  (repeat' split) <;> simp

@[simp] theorem performStatus_frame (view : Nat) (s : State) :
    (performStatus view s).2.pins = s.pins ∧ (performStatus view s).2.lpu = s.lpu ∧
    (performStatus view s).2.scl = s.scl ∧ (performStatus view s).2.mpm = s.mpm ∧
    (performStatus view s).2.rfg = s.rfg ∧ (performStatus view s).2.syu = s.syu ∧
    (performStatus view s).2.bsq = s.bsq ∧ (performStatus view s).2.mtr = s.mtr ∧
    (performStatus view s).2.blg = s.blg ∧ (performStatus view s).2.evr = s.evr ∧
    (performStatus view s).2.mlk = s.mlk ∧ (performStatus view s).2.now = s.now ∧
    (performStatus view s).2.handoffs = s.handoffs ∧ (performStatus view s).2.overrun = s.overrun ∧
    (performStatus view s).2.pending = s.pending := by
  unfold performStatus
  (repeat' split) <;> simp

@[simp] theorem performRestart_frame (s : State) :
    (performRestart s).2.mlk = s.mlk ∧ (performRestart s).2.now = s.now ∧
    (performRestart s).2.overrun = s.overrun ∧ (performRestart s).2.pending = s.pending := by
  unfold performRestart
  split <;> simp

@[simp] theorem perform_frame (src : Nat) (prep : Bool) (r : Request) (s : State) :
    (perform src prep r s).2.now = s.now ∧ (perform src prep r s).2.overrun = s.overrun ∧
    (perform src prep r s).2.pending = s.pending := by
  cases r <;> simp only [perform, ofOwner, performEvent] <;> (try split) <;> simp

@[simp] theorem judge_frame (src kind : Nat) (prep : Bool) (r : Request) (s : State) :
    (judge src kind prep r s).2.now = s.now ∧ (judge src kind prep r s).2.overrun = s.overrun ∧
    (judge src kind prep r s).2.pending = s.pending := by
  unfold judge
  split
  · simp
  split
  · simp
  split
  · have h := askLock_frame s
    generalize askLock s = y at h ⊢
    obtain ⟨o, s1⟩ := y
    cases o <;> simp_all
  · simp

@[simp] theorem serve_frame (q : MguReq) (s : State) :
    (serve q s).2.now = s.now ∧ (serve q s).2.overrun = s.overrun ∧ (serve q s).2.pending = s.pending := by
  unfold serve
  split <;> simp

@[simp] theorem enterParts_frame (q : MguReq) (ds : List (List Byte)) (s : State) :
    (enterParts q ds s).pins = s.pins ∧ (enterParts q ds s).scl = s.scl ∧ (enterParts q ds s).syu = s.syu ∧
    (enterParts q ds s).bsq = s.bsq ∧ (enterParts q ds s).mtr = s.mtr ∧ (enterParts q ds s).blg = s.blg ∧
    (enterParts q ds s).evr = s.evr ∧ (enterParts q ds s).mlk = s.mlk ∧ (enterParts q ds s).now = s.now ∧
    (enterParts q ds s).handoffs = s.handoffs ∧ (enterParts q ds s).overrun = s.overrun ∧
    (enterParts q ds s).pending = s.pending := by
  induction ds generalizing s with
  | nil => simp [enterParts]
  | cons d ds ih =>
    unfold enterParts
    split <;> simp [ih]

@[simp] theorem endService_frame (s : State) :
    (endService s).pins = s.pins ∧ (endService s).lpu = s.lpu ∧ (endService s).scl = s.scl ∧
    (endService s).mpm = s.mpm ∧ (endService s).rfg = s.rfg ∧ (endService s).syu = s.syu ∧
    (endService s).bsq = s.bsq ∧ (endService s).mtr = s.mtr ∧ (endService s).blg = s.blg ∧
    (endService s).evr = s.evr ∧ (endService s).mlk = s.mlk ∧ (endService s).now = s.now ∧
    (endService s).handoffs = s.handoffs ∧ (endService s).overrun = s.overrun ∧ (endService s).pending = s.pending := by
  unfold endService
  split <;> simp

@[simp] theorem enterAnswer_frame (q : MguReq) (a : Answer) (s : State) :
    (enterAnswer q a s).pins = s.pins ∧ (enterAnswer q a s).scl = s.scl ∧ (enterAnswer q a s).syu = s.syu ∧
    (enterAnswer q a s).bsq = s.bsq ∧ (enterAnswer q a s).mtr = s.mtr ∧ (enterAnswer q a s).blg = s.blg ∧
    (enterAnswer q a s).evr = s.evr ∧ (enterAnswer q a s).mlk = s.mlk ∧ (enterAnswer q a s).now = s.now ∧
    (enterAnswer q a s).handoffs = s.handoffs ∧ (enterAnswer q a s).overrun = s.overrun ∧
    (enterAnswer q a s).pending = s.pending := by
  simp [enterAnswer]

@[simp] theorem serveHead_frame (q : MguReq) (s : State) :
    (serveHead q s).now = s.now ∧ (serveHead q s).overrun = s.overrun ∧ (serveHead q s).pending = s.pending := by
  simp [serveHead]

@[simp] theorem serveAll_frame (n : Nat) (s : State) :
    (serveAll n s).now = s.now ∧ (serveAll n s).overrun = s.overrun ∧ (serveAll n s).pending = s.pending := by
  induction n generalizing s with
  | zero => simp [serveAll]
  | succ n ih =>
    unfold serveAll
    (repeat' split) <;> simp [ih]

@[simp] theorem refuseArrival_frame (q : MguReq) (s : State) :
    (refuseArrival q s).pins = s.pins ∧ (refuseArrival q s).scl = s.scl ∧ (refuseArrival q s).syu = s.syu ∧
    (refuseArrival q s).bsq = s.bsq ∧ (refuseArrival q s).mtr = s.mtr ∧ (refuseArrival q s).blg = s.blg ∧
    (refuseArrival q s).evr = s.evr ∧ (refuseArrival q s).mlk = s.mlk ∧ (refuseArrival q s).now = s.now ∧
    (refuseArrival q s).handoffs = s.handoffs ∧ (refuseArrival q s).overrun = s.overrun ∧
    (refuseArrival q s).pending = s.pending := by
  unfold refuseArrival
  split <;> simp

@[simp] theorem arrive_frame (q : MguReq) (s : State) :
    (arrive q s).now = s.now ∧ (arrive q s).overrun = s.overrun ∧ (arrive q s).pending = s.pending := by
  simp only [arrive]
  (repeat' split) <;> simp

@[simp] theorem nextPart_frame (s : State) :
    (nextPart s).now = s.now ∧ (nextPart s).overrun = s.overrun ∧ (nextPart s).pending = s.pending := by
  unfold nextPart
  (repeat' split) <;> simp

@[simp] theorem sourceIgnored_frame (s : State) :
    (sourceIgnored s).pins = s.pins ∧ (sourceIgnored s).scl = s.scl ∧ (sourceIgnored s).mpm = s.mpm ∧
    (sourceIgnored s).rfg = s.rfg ∧ (sourceIgnored s).syu = s.syu ∧ (sourceIgnored s).bsq = s.bsq ∧
    (sourceIgnored s).mtr = s.mtr ∧ (sourceIgnored s).blg = s.blg ∧ (sourceIgnored s).evr = s.evr ∧
    (sourceIgnored s).mgu = s.mgu ∧ (sourceIgnored s).mlk = s.mlk ∧ (sourceIgnored s).now = s.now ∧
    (sourceIgnored s).handoffs = s.handoffs ∧ (sourceIgnored s).overrun = s.overrun ∧
    (sourceIgnored s).pending = s.pending := by
  simp [sourceIgnored]

@[simp] theorem formDiscard_frame (s : State) :
    (formDiscard s).pins = s.pins ∧ (formDiscard s).scl = s.scl ∧ (formDiscard s).mpm = s.mpm ∧
    (formDiscard s).rfg = s.rfg ∧ (formDiscard s).syu = s.syu ∧ (formDiscard s).bsq = s.bsq ∧
    (formDiscard s).mtr = s.mtr ∧ (formDiscard s).blg = s.blg ∧ (formDiscard s).evr = s.evr ∧
    (formDiscard s).mgu = s.mgu ∧ (formDiscard s).mlk = s.mlk ∧ (formDiscard s).now = s.now ∧
    (formDiscard s).handoffs = s.handoffs ∧ (formDiscard s).overrun = s.overrun ∧
    (formDiscard s).pending = s.pending := by
  simp [formDiscard]

@[simp] theorem consumeMeas_frame (src : Nat) (p : List Byte) (s : State) :
    (consumeMeas src p s).pins = s.pins ∧ (consumeMeas src p s).bsq = s.bsq ∧ (consumeMeas src p s).evr = s.evr ∧
    (consumeMeas src p s).mgu = s.mgu ∧ (consumeMeas src p s).mlk = s.mlk ∧ (consumeMeas src p s).now = s.now ∧
    (consumeMeas src p s).overrun = s.overrun ∧ (consumeMeas src p s).pending = s.pending := by
  simp only [consumeMeas, checked]
  (repeat' split) <;> simp_all

@[simp] theorem consumeBsta_frame (src : Nat) (p : List Byte) (s : State) :
    (consumeBsta src p s).pins = s.pins ∧ (consumeBsta src p s).mgu = s.mgu ∧ (consumeBsta src p s).mlk = s.mlk ∧
    (consumeBsta src p s).now = s.now ∧ (consumeBsta src p s).overrun = s.overrun ∧
    (consumeBsta src p s).pending = s.pending := by
  simp only [consumeBsta, checked]
  (repeat' split) <;> simp_all

@[simp] theorem consumePrpy_frame (src : Nat) (p : List Byte) (s : State) :
    (consumePrpy src p s).pins = s.pins ∧ (consumePrpy src p s).scl = s.scl ∧ (consumePrpy src p s).bsq = s.bsq ∧
    (consumePrpy src p s).mtr = s.mtr ∧ (consumePrpy src p s).blg = s.blg ∧ (consumePrpy src p s).evr = s.evr ∧
    (consumePrpy src p s).mgu = s.mgu ∧ (consumePrpy src p s).mlk = s.mlk ∧ (consumePrpy src p s).now = s.now ∧
    (consumePrpy src p s).overrun = s.overrun ∧ (consumePrpy src p s).pending = s.pending := by
  simp only [consumePrpy, checked]
  (repeat' split) <;> simp_all

@[simp] theorem consumeShpm_frame (src : Nat) (p : List Byte) (s : State) :
    (consumeShpm src p s).pins = s.pins ∧ (consumeShpm src p s).syu = s.syu ∧ (consumeShpm src p s).mtr = s.mtr ∧
    (consumeShpm src p s).blg = s.blg ∧ (consumeShpm src p s).evr = s.evr ∧ (consumeShpm src p s).mgu = s.mgu ∧
    (consumeShpm src p s).mlk = s.mlk ∧ (consumeShpm src p s).now = s.now ∧
    (consumeShpm src p s).overrun = s.overrun ∧ (consumeShpm src p s).pending = s.pending := by
  simp only [consumeShpm, checked]
  (repeat' split) <;> simp_all

@[simp] theorem consumeMreq_frame (src : Nat) (p : List Byte) (s : State) :
    (consumeMreq src p s).now = s.now ∧ (consumeMreq src p s).overrun = s.overrun ∧
    (consumeMreq src p s).pending = s.pending := by
  simp only [consumeMreq, checked]
  (repeat' split) <;> simp_all

@[simp] theorem consume_frame (toAll : Bool) (kind src : Nat) (p : List Byte) (s : State) :
    (consume toAll kind src p s).now = s.now ∧ (consume toAll kind src p s).overrun = s.overrun ∧
    (consume toAll kind src p s).pending = s.pending := by
  unfold consume
  (repeat' split) <;> simp

@[simp] theorem routeFrame_frame (bytes : List Byte) (r : Received) (s : State) :
    (routeFrame bytes r s).now = s.now ∧ (routeFrame bytes r s).overrun = s.overrun ∧
    (routeFrame bytes r s).pending = s.pending := by
  unfold routeFrame
  (repeat' split) <;> simp

@[simp] theorem frameTaken_frame (bytes : List Byte) (s : State) :
    (frameTaken bytes s).now = s.now ∧ (frameTaken bytes s).overrun = s.overrun ∧
    (frameTaken bytes s).pending = s.pending := by
  unfold frameTaken
  (repeat' split) <;> simp

@[simp] theorem handOff_frame (kind : Nat) (src : Byte) (p : List Byte) (s : State) :
    (handOff kind src p s).now = s.now ∧ (handOff kind src p s).overrun = s.overrun ∧
    (handOff kind src p s).pending = s.pending := by
  unfold handOff
  split <;> simp

@[simp] theorem request_frame (src : Byte) (tag : BitVec 16) (kind : Nat) (params : List Byte) (s : State) :
    (request src tag kind params s).now = s.now ∧ (request src tag kind params s).overrun = s.overrun ∧
    (request src tag kind params s).pending = s.pending := by
  simp [request]

end Sys2Proof.Machine
end

