-- ==== Sys2Proof/Laws/Settle.lean ====
section
/-! SUPPORT. Settling: what taking the hand-offs of a command does when there are none, one, or any number of them. -/

namespace Sys2Proof.Machine

/-! ### Taking hand-offs -/

theorem drain_nil (n : Nat) {s : State} (h : s.handoffs = []) : drain n s = s := by
  cases n with
  | zero => rfl
  | succ n => unfold drain; rw [h]

theorem drain_cons (n : Nat) {s : State} {h : Handoff} {hs : List Handoff} (e : s.handoffs = h :: hs) :
    drain (n + 1) s = drain n (takeHandoff h { s with handoffs := hs }) := by
  rw [drain, e]

/-- What holds of a state whatever waits, and after every hand-off taken, holds after them all. -/
theorem drain_keeps {P : State → Prop} (hq : ∀ s hs, P s → P { s with handoffs := hs })
    (ht : ∀ h s, P s → P (takeHandoff h s)) (n : Nat) {s : State} (hs : P s) : P (drain n s) := by
  induction n generalizing s with
  | zero => exact hs
  | succ n ih =>
    unfold drain
    split
    · exact hs
    · exact ih (ht _ _ (hq _ _ hs))

/-- The same for settling, of a property that says nothing of the count of hand-offs left over. -/
theorem settle_keeps {P : State → Prop} (hq : ∀ s hs n, P s → P { s with handoffs := hs, overrun := n })
    (ht : ∀ h s, P s → P (takeHandoff h s)) {s : State} (hs : P s) : P (settle s) :=
  hq _ _ _ (drain_keeps (fun s hs h => hq s hs s.overrun h) ht _ hs)

/-- With no hand-off, settling changes nothing. -/
theorem settle_quiet {s : State} (h : s.handoffs = []) : settle s = s := by
  cases s
  simp only at h
  subst h
  simp [settle, drain_nil]

/-- With one hand-off that leads to no other, settling takes it. -/
theorem settle_one {s : State} {h : Handoff} (e : s.handoffs = [h])
    (q : (takeHandoff h { s with handoffs := [] }).handoffs = []) :
    settle s = takeHandoff h { s with handoffs := [] } := by
  have d : drain Config.settleFuel s = takeHandoff h { s with handoffs := [] } := by
    rw [show Config.settleFuel = 4095 + 1 from rfl, drain_cons _ e, drain_nil _ q]
  generalize takeHandoff h { s with handoffs := [] } = t at d q
  simp only [settle, d]
  cases t
  simp only at q
  subst q
  rfl

@[simp] theorem settle_handoffs (s : State) : (settle s).handoffs = [] := rfl

/-! ### Raises that concern the entry alone -/

/-- R159: such a raise. -/
theorem raiseEntry_alone {e : EventIx} {s : State} (h : RaisesAlone e s) : raiseEntry e s = raised e s := by
  unfold raiseEntry raised EventEntry.raised satAdd State.modEntry State.modEvr
  rcases h with h | h <;> by_cases hr : (s.event e).raw = true <;>
    simp_all [State.event, upd]

/-- A command that ends by raising one entry alone. -/
theorem settle_raise {e : EventIx} {s : State} (q : s.handoffs = []) (h : RaisesAlone e s) :
    settle (s.post (.raise e)) = raised e s := by
  have e1 : ({ s.post (.raise e) with handoffs := [] } : State) = s := by cases s; simp_all [State.post]
  rw [settle_one (h := .raise e) (by simp [q])]
  · rw [e1]; exact raiseEntry_alone h
  · rw [e1]
    show (raiseEntry e s).handoffs = []
    rw [raiseEntry_alone h]
    exact q

/-! ### Commands -/

/-- The outcome of a command between commands. -/
theorem done_quiet (g : State → State) {s : State} (q : Quiet s) : done g s = .next (settle (g s)) := by
  unfold done whole
  cases s
  simp only [Quiet] at q
  subst q
  rfl

/-- A command that hands nothing over. -/
theorem done_eq (g : State → State) {s : State} (q : Quiet s) (h : (g s).handoffs = []) : done g s = .next (g s) := by
  rw [done_quiet g q, settle_quiet h]

end Sys2Proof.Machine
end

