-- ==== Sys2Proof/Laws/Lpu.lean ====
section
/-! SUPPORT. What the Link Port Unit does with what the other blocks give it, while nothing waits behind a free
egress. -/

namespace Sys2Proof.Machine

/-- R14: while a frame is being sent, another waits. -/
theorem kick_busy {s : State} {f : List Byte} (h : s.lpu.sending = some f) : kick s = s := by
  simp [kick, h]

/-- R9, R14: a frame of the part's own begins. -/
theorem sendOwn_eq (dest kind flags : Nat) (payload : List Byte) (s : State) :
    sendOwn dest kind flags payload s = { s with lpu := s.lpu.begun dest kind flags payload } := rfl

/-- R13, R14: a frame enters the REPLY queue. -/
theorem enterReply_eq (f : ReplyFrame) {s : State} (w : EgressWorks s) :
    enterReply f false s = { s with lpu := s.lpu.replied f } := by
  unfold enterReply
  cases h : s.lpu.sending with
  | some x => rw [kick_busy (f := x) (by simpa using h)]; simp [State.modLpu, Lpu.replied, h]
  | none =>
    obtain ⟨h1, h2, h3, h4, h5⟩ := w h
    simp [kick, h, h1, h3, h4, h5, beginNext, takePromoted, sendReply, sendOwn_eq, Lpu.replied, State.modLpu,
      Lpu.begun]

/-- R10, R14: a BCMD is accepted, and changes the LPU only. -/
theorem giveBcmd_eq (c : Bcmd) {s : State} (w : EgressWorks s) :
    giveBcmd c s = { s with lpu := (giveBcmd c s).lpu } := by
  unfold giveBcmd
  split
  · rfl
  cases h : s.lpu.sending with
  | some x =>
    have : (s.modLpu (Lpu.acceptCmd c)).lpu.sending = some x := by
      simp only [State.modLpu_lpu, Lpu.acceptCmd]; (repeat' split) <;> simp [h]
    rw [kick_busy this]; rfl
  | none =>
    obtain ⟨h1, h2, h3, h4, h5⟩ := w h
    simp [kick, h, h1, h2, h3, h4, h5, beginNext, sendProtect, sendOwn_eq, State.modLpu, Lpu.acceptCmd,
      hasCmd, Lpu.begun]

/-- A command changes the LPU only. -/
theorem command_eq (c : BreakerCmd) (t : Target) {s : State} (w : EgressWorks s) :
    command c t s = { s with lpu := (command c t s).lpu } := giveBcmd_eq _ w

/-- R11, R14: an SHPN changes the LPU only. -/
theorem giveShpn_eq (d : Nat) (b : Notice) {s : State} (w : EgressWorks s) :
    giveShpn d b s = { s with lpu := (giveShpn d b s).lpu } := by
  unfold giveShpn
  split
  · rfl
  cases h : s.lpu.sending with
  | some x =>
    (repeat' split)
    · rw [kick_busy (f := x) (by simp [enterControl, h])]; rfl
    · rw [kick_busy (f := x) (by simp [enterControl, displaceShpn, shpnLost, h])]; rfl
    · rfl
  | none =>
    obtain ⟨h1, h2, h3, h4, h5⟩ := w h
    simp [kick, h, h1, h3, h4, h5, beginNext, takePromoted, sendControl, sendOwn_eq, State.modLpu, Lpu.controlFull,
      enterControl, onControlSent, Lpu.begun]

/-- R98: a BERTH notice changes the LPU only. -/
theorem berthNotice_eq (b : Berth) {s : State} (w : EgressWorks s) :
    berthNotice b s = { s with lpu := (berthNotice b s).lpu } := giveShpn_eq _ _ w

end Sys2Proof.Machine
end

