-- ==== Sys2Proof/Laws/Mgu.lean ====
section
/-! SUPPORT. A request that is served at once: from the hand-off of its MREQ to the entry of its reply. -/

namespace Sys2Proof.Machine

/-! ### Byte strings -/

@[simp] theorem be_length (k n : Nat) : (be k n).length = k := by
  induction k with
  | zero => rfl
  | succ k ih => simp [be, ih]

theorem be_one (n : Nat) : be 1 n = [BitVec.ofNat 8 n] := by simp [be]

theorem be_two (n : Nat) : be 2 n = [BitVec.ofNat 8 (n / 256), BitVec.ofNat 8 n] := by simp [be]

theorem fieldAt_two (a b : Byte) (bs : List Byte) : fieldAt (a :: b :: bs) 0 2 = a.toNat * 256 + b.toNat := by
  simp [fieldAt, fromBe]

/-- The tag read back from the bytes it was sent in. -/
theorem tag_read (tag : BitVec 16) (bs : List Byte) : BitVec.ofNat 16 (fieldAt (be 2 tag.toNat ++ bs) 0 2) = tag := by
  rw [be_two, List.cons_append, List.cons_append, fieldAt_two]
  apply BitVec.eq_of_toNat_eq
  have := tag.isLt
  simp only [BitVec.toNat_ofNat]
  omega

/-! ### Arrival -/

/-- R171: the request of an MREQ with a tag, a kind and parameters. -/
theorem requestOf_eq (src : Nat) (tag : BitVec 16) (kind : Nat) (params : List Byte) :
    requestOf src (be 2 tag.toNat ++ be 1 kind ++ params) = ⟨src, tag, BitVec.ofNat 8 kind, params⟩ := by
  unfold requestOf
  rw [List.append_assoc, tag_read, be_two, be_one]
  congr 1
  apply BitVec.eq_of_toNat_eq
  simp [byteAt]

/-- R7: an MREQ that reaches consumption arrives at the MGU. -/
theorem request_arrives {s : State} {src : Byte} (h : reaches s src.toNat = true) (tag : BitVec 16) (kind : Nat)
    (params : List Byte) :
    request src tag kind params s = arrive ⟨src.toNat, tag, BitVec.ofNat 8 kind, params⟩ s := by
  have l : 3 ≤ 2 + (1 + params.length) := by omega
  rw [request, handOff, if_pos h, ← requestOf_eq]
  simp [consume, consumeMreq, checked, l, kindMreq, kindMeas, kindBsta, kindPrpy, kindShpm]

/-- R171: such a request is served at once. -/
theorem arrive_served {q : MguReq} {s : State} {src : Byte} (h : Served s src) :
    arrive q s = serveAll serviceBound (accepted q s) := by
  obtain ⟨-, h1, h2, h3⟩ := h
  unfold arrive
  rw [if_pos (by simp [arrivalAccepted, h1, h3])]
  simp [h1, reservePlace, State.modLpu, State.modMgu, accepted]

/-! ### Service -/

/-- R172: a request with a reply of one part is served, and its place in the queue is given up. -/
theorem serveAll_one {q : MguReq} {s t : State} {r : Result} {d : List Byte}
    (hq : s.mgu.queue = [q]) (hp : s.mgu.parts = [])
    (hs : (serve q s).1 = ⟨r, [d]⟩) (ht : drain Config.settleFuel (serve q s).2 = t)
    (hl : t.mgu.queue.length ≤ 1) :
    serveAll serviceBound s = (enterReserved (replyOf q r d) t).modMgu fun g => { g with parts := [], queue := [] } := by
  have e : serveHead q s = (enterReserved (replyOf q r d) t).modMgu fun g => { g with parts := [], queue := [] } := by
    unfold serveHead enterAnswer
    have hd : ∀ u : State, List.drop 1 (enterReserved (replyOf q r d) u).mgu.queue = List.drop 1 u.mgu.queue := by
      intro u; simp
    have hz : List.drop 1 t.mgu.queue = [] := by
      apply List.drop_eq_nil_of_le; exact hl
    simp only [hs, List.tail_cons, enterParts, List.headD_cons, ht, endService, State.modMgu_mgu, List.isEmpty_nil,
      if_true]
    simp only [State.modMgu, hd, hz]
  rw [show serviceBound = 8 + 1 from rfl, serveAll, hq]
  simp only [hp, List.isEmpty_nil, if_true, e]
  rw [show (8 : Nat) = 7 + 1 from rfl, serveAll]
  simp

/-- R172: a request that is accepted, served at once and answered in one part. -/
theorem request_served {s s' t : State} {src : Byte} {tag : BitVec 16} {kind : Nat} {params : List Byte} {r : Request}
    {res : Result} {d : List Byte} (q : Quiet s) (h : Served s src) (hk : kind < 256)
    (hp : parseRequest kind params = some r)
    (hj : judge src.toNat kind (prepared s src.toNat) r
      (setPrepared src.toNat false (accepted ⟨src.toNat, tag, BitVec.ofNat 8 kind, params⟩ s)) = (⟨res, [d]⟩, s'))
    (ht : drain Config.settleFuel s' = t) (hl : t.mgu.queue.length ≤ 1) :
    done (request src tag kind params) s =
      .next (settle ((enterReserved (reply src tag kind res d) t).modMgu fun g => { g with parts := [], queue := [] })) := by
  have e : request src tag kind params s =
      (enterReserved (reply src tag kind res d) t).modMgu fun g => { g with parts := [], queue := [] } := by
    rw [request_arrives h.1, arrive_served h]
    refine serveAll_one (q := ⟨src.toNat, tag, BitVec.ofNat 8 kind, params⟩) (r := res) (d := d) (t := t) rfl h.2.2.1
      ?_ ?_ hl
    · have : kind % 256 = kind := Nat.mod_eq_of_lt hk
      simp only [serve, BitVec.toNat_ofNat, Nat.reducePow, this, hp]
      exact congrArg Prod.fst hj
    · have : kind % 256 = kind := Nat.mod_eq_of_lt hk
      simp only [serve, BitVec.toNat_ofNat, Nat.reducePow, this, hp]
      exact (congrArg (drain Config.settleFuel) (congrArg Prod.snd hj)).trans ht
  rw [done_quiet _ q, e]

/-- R172: the same where the owner's action hands nothing over and leaves the LPU and the MGU as they were. -/
theorem request_exact {s : State} (u : State) {src : Byte} {tag : BitVec 16} {kind : Nat} {params : List Byte}
    {r : Request} {res : Result} {d : List Byte} (q : Quiet s) (w : EgressWorks s) (h : Served s src) (hk : kind < 256)
    (hp : parseRequest kind params = some r)
    (hj : ∀ p, judge src.toNat kind (prepared s src.toNat) r
      (setPrepared src.toNat false (accepted p s)) = (⟨res, [d]⟩, setPrepared src.toNat false (accepted p u)))
    (h1 : u.handoffs = []) (h2 : u.lpu = s.lpu) (h3 : u.mgu = s.mgu) :
    done (request src tag kind params) s = .next (answered src tag kind res d u) := by
  rw [request_served q h hk hp (hj _) (drain_nil _ (by simpa [accepted] using h1)) (by simp [accepted, setPrepared])]
  rw [settle_quiet (by simpa [accepted] using h1)]
  congr 1
  unfold enterReserved
  rw [enterReply_eq _ (by
    simp only [EgressWorks] at w
    intro hn
    simp only [State.modLpu_lpu, setPrepared_frame, accepted, h2] at hn ⊢
    simpa using w hn)]
  cases u
  simp only at h1 h2 h3
  subst h1 h2 h3
  obtain ⟨-, hq, hparts, -⟩ := h
  simp [answered, setPrepared, accepted, State.modLpu, State.modMgu, hq, hparts, isOperator, isBilling]

end Sys2Proof.Machine
end

