-- ==== Sys2Proof/WellFormed.lean ====
section
/-! DEFINITION. Which commands the Quay Link and the part's timers can present: a source byte that passes
the reception checks (R2), and a frame or payload of a length the link can carry (R2, R4, section 1.6).
`exec` is total on ill-formed commands too. -/

namespace Sys2Proof

/-- A source byte that R2 lets through: neither 0 nor 63. -/
def srcOk (src : Byte) : Bool := src != 0 && src != 63

/-- R2: a payload of at most 480 bytes. -/
def payloadOk (p : List Byte) : Bool := p.length ≤ Config.maxPayload

/-- The entries of a WRITE_TABLE: the payload carries six bytes before them (section 1.6). -/
def entriesOk (p : List Byte) : Bool := p.length + 6 ≤ Config.maxPayload

/-- A command the part can be presented with. -/
def Instr.wf : Instr → Bool
  | .coldReset _ _ _ => true
  | .warmReset _ _ _ _ _ => true
  | .pilotInputChange _ _ => true
  | .estopAssert => true
  | .estopRelease => true
  | .estopRepeatTimerExpiry => true
  | .frameReceptionEnd bytes => decide (bytes.length ≤ Config.maxFrame)
  | .overlongCut => true
  | .ingressLossTimerExpiry => true
  | .egressFree => true
  | .promotion => true
  | .measFrame src p => srcOk src && payloadOk p
  | .heldLimitExpiry _ => true
  | .staleLimitExpiry _ => true
  | .stalenessRepeatTimerExpiry _ _ => true
  | .scanSlot => true
  | .pollReplyTimerExpiry => true
  | .prpyFrame src p => srcOk src && payloadOk p
  | .startLimitExpiry _ => true
  | .stopLimitExpiry _ => true
  | .rfgPeriod => true
  | .overloadTimerExpiry _ => true
  | .syncWaitTimerExpiry _ => true
  | .watchTimerExpiry _ => true
  | .confirmTimerExpiry _ => true
  | .backoffTimerExpiry _ => true
  | .deadBusConfirmTimerExpiry _ => true
  | .bstaFrame src p => srcOk src && payloadOk p
  | .shipState src _ _ _ _ => srcOk src
  | .hold src _ => srcOk src
  | .genOff src => srcOk src
  | .genOn src => srcOk src
  | .shedAck src _ => srcOk src
  | .rampPeriod _ => true
  | .shipHoldEnd _ => true
  | .holdLimitReached _ => true
  | .rampTimeoutExpiry _ => true
  | .generatorWaitExpiry _ => true
  | .openingTimerExpiry _ => true
  | .clockTick => true
  | .demandIntervalEnd => true
  | .mreqArrival src p => srcOk src && payloadOk p
  | .nextReplyPart => true
  | .readTable src _ _ _ _ => srcOk src
  | .writeStreamTable src _ _ _ e => srcOk src && entriesOk e
  | .writeCalibrationGains src _ _ _ e => srcOk src && entriesOk e
  | .writeGridSettings src _ _ _ e => srcOk src && entriesOk e
  | .writeModuleTable src _ _ _ e => srcOk src && entriesOk e
  | .writeReferenceSettings src _ _ _ e => srcOk src && entriesOk e
  | .writeBreakerTable src _ _ _ e => srcOk src && entriesOk e
  | .writeSyncProfiles src _ _ _ e => srcOk src && entriesOk e
  | .writeBerthTable src _ _ _ e => srcOk src && entriesOk e
  | .writeMeteringSettings src _ _ _ e => srcOk src && entriesOk e
  | .writeTariffSets src _ _ _ e => srcOk src && entriesOk e
  | .writeCurrentSetIndex src _ _ _ e => srcOk src && entriesOk e
  | .writeEventTable src _ _ _ e => srcOk src && entriesOk e
  | .connect src _ _ => srcOk src
  | .connectDeadShip src _ _ => srcOk src
  | .depart src _ _ => srcOk src
  | .abort src _ _ => srcOk src
  | .trip src _ _ => srcOk src
  | .resetTrip src _ _ => srcOk src
  | .block src _ _ => srcOk src
  | .unblock src _ _ => srcOk src
  | .readmit src _ _ => srcOk src
  | .eventClear src _ _ => srcOk src
  | .eventSet src _ _ => srcOk src
  | .eventEnable src _ _ => srcOk src
  | .eventDisable src _ _ => srcOk src
  | .clockSet src _ _ _ => srcOk src
  | .logReadOldest src _ => srcOk src
  | .logRemoveOldest src _ _ => srcOk src
  | .statusReadPoints src _ => srcOk src
  | .statusReadModules src _ => srcOk src
  | .statusReadBerths src _ => srcOk src
  | .statusReadSync src _ => srcOk src
  | .statusReadSessions src _ => srcOk src
  | .statusReadUnbilled src _ => srcOk src
  | .statusReadLock src _ => srcOk src
  | .statusReadLink src _ => srcOk src
  | .statusReadCapture src _ => srcOk src
  | .unlock src _ _ _ => srcOk src
  | .relock src _ => srcOk src
  | .setCodeOperator src _ _ _ => srcOk src
  | .setCodeMetrology src _ _ _ _ => srcOk src
  | .removeCode src _ _ => srcOk src
  | .freeze src _ => srcOk src
  | .clearPrepare src _ => srcOk src
  | .billingClear src _ _ _ => srcOk src
  | .restart src _ => srcOk src

end Sys2Proof
end

