-- ==== Sys2Proof/Tests/Slice0.lean ====
section
/-! SUPPORT. Tests: the checks of WellFormed, the manual's worked figures, one step of a command on a small state, and
states that meet the hypotheses of the statements. -/

open Sys2Proof Sys2Proof.Machine

section Tests

-- each theorem is checked before the next begins: many kernel evaluations at once would need a thread each
set_option Elab.async false

/-! ### WellFormed refuses -/

theorem test_wf_source_zero : (Instr.hold 0 5).wf = false := by decide
theorem test_wf_source_all_nodes : (Instr.readTable 63 1 1 0 1).wf = false := by decide
theorem test_wf_source_single : (Instr.readTable 62 1 1 0 1).wf = true := by decide
theorem test_wf_frame_too_long : (Instr.frameReceptionEnd (List.replicate 493 0)).wf = false := by decide +kernel
theorem test_wf_frame_longest : (Instr.frameReceptionEnd (List.replicate 492 0)).wf = true := by decide +kernel
theorem test_wf_payload_too_long : (Instr.mreqArrival 2 (List.replicate 481 0)).wf = false := by decide +kernel
theorem test_wf_entries_too_long : (Instr.writeTariffSets 3 1 0 1 (List.replicate 475 0)).wf = false := by
  decide +kernel

/-! ### The manual's figures -/

/-- R3 with the usual check string of this CRC: CBF43926 for the bytes 31..39 hex. -/
theorem test_crc_check : crc32 [0x31, 0x32, 0x33, 0x34, 0x35, 0x36, 0x37, 0x38, 0x39] = 0xCBF43926 := by decide +kernel

/-- The table of R24. -/
theorem test_calibrate : calibrate 2 49152 = 2 ∧ calibrate (-2) 49152 = -2 ∧ calibrate 1000003 65600 = 1000980 := by
  decide

/-- The tables of R142. -/
theorem test_band_of : ([25199, 25200, 35999, 36000, 86399].map
    (bandOf [(0, 0), (25200, 1), (36000, 2), (64800, 1), (79200, 0)])) = [0, 1, 1, 2, 0] := by decide +kernel

/-- Section 4.7: 5,000 kW over M1, M2 and M5, before and after M2's derating. -/
theorem test_shares :
    let cap (m2 : Nat) (m : Module) := if m = 1 then 2500 else if m = 2 then m2 else 1800
    [1, 2, 5].map (shareOf (cap 2500) [1, 2, 5] 5000) = [1838, 1838, 1324] ∧
      [1, 2, 5].map (shareOf (cap 1000) [1, 2, 5] 5000) = [2359, 943, 1698] := by decide +kernel

/-- R84: measurements of 120 ms from t_c 100. -/
theorem test_learn : learn 100 120 = 105 ∧ learn 105 120 = 109 ∧ learn 109 120 = 112 ∧ learn 112 120 = 114 := by decide

/-- R86: the waits after the first to the fourth failed attempt, base 1,000 ms and cap 2. -/
theorem test_backoff : [1, 2, 3, 4].map (backoffMs Profile.coldOutlet) = [1000, 2000, 4000, 4000] := by decide

/-- A point with an angle and a frequency. -/
def pointAt (angle freq : Nat) : PointRec := { PointRec.cold none with angle := angle, freq := freq }

/-- The profile of the worked example behind R82: slip window −500..500. -/
def wideProfile : Profile := { Profile.coldOutlet with slipLow := -500, slipHigh := 500 }

/-- The worked example behind R82: φ, Δ and φ_p at their limits. -/
theorem test_prediction :
    let e (am ar : Nat) (sl : Int) (tc : Nat) :=
      let x := evaluate wideProfile tc (pointAt am (50000 + sl).toNat) (pointAt ar 50000)
      (x.phi, x.delta, x.phiP)
    e 100 65000 500 300 = (some 636, some 9830, some 10466) ∧
      e 5536 35536 (-500) 300 = (some (-30000), some (-9830), some 25706) ∧
      e 40000 8000 400 200 = (some 32000, some 5243, some (-28293)) ∧
      e 1000 1000 7 20 = (some 0, some 9, some 9) ∧ e 1000 1000 (-7) 20 = (some 0, some (-9), some (-9)) := by
  decide +kernel

/-- R79: a frequency out of its range drops the prediction and the angle stage; stage 2's slip is computed and kept. -/
theorem test_slip_kept :
    let e := evaluate wideProfile 300 (pointAt 0 39999) (pointAt 0 40000)
    e.slip = some (-1) ∧ e.sOk = false ∧ e.phi = none := by decide

/-- Section 8.8: the charges of B2's session. -/
theorem test_charges :
    energyCharge #v[0, 15204777, 43019652, 0] #v[121, 183, 247, 0] = 13408328 ∧
      demandCharge 5612436 9375 = 52616588 := by decide +kernel

/-- Sections 7.10 and 8.8: demand over 900 s. -/
theorem test_demand : demandW 500 900 = 2000 ∧ demandW 1403109 900 = 5612436 := by decide

/-- The table of R21 at the edges of its rows. -/
theorem test_sequence : seqCheck none 7 = .accept 0 ∧ seqCheck (some 500) 500 = .discard ∧
    seqCheck (some 65535) 0 = .accept 0 ∧ seqCheck (some 501) 504 = .accept 2 ∧
    seqCheck (some 0) 32767 = .accept 32766 ∧ seqCheck (some 0) 32768 = .discard ∧
    seqCheck (some 504) 503 = .discard := by decide

/-- Section 4.10: soft-start voltage and increment of B0. -/
theorem test_soft_start : (newBerthRef ⟨20, 200, 20, 2, 100⟩ 50000 11000).vRef = 2200 := by decide

/-- R170: the actions after a cold reset. -/
theorem test_cold_actions : coldAction 9 = .tripBerth ∧ coldAction 51 = .tripBerth ∧ coldAction 99 = .tripAll ∧
    coldAction 57 = .none ∧ coldAction 10 = .none := by decide

/-! ### One command on a small state -/

/-- The next state of an outcome. -/
def after (o : Host.Outcome State Fault Refusal) : State :=
  match o with
  | .next t => t
  | .fault _ | .refused _ => State.reset

/-- The machine after reset, with egress sending a frame. -/
def busyLink : State := State.reset.modLpu fun l => { l with sending := some [] }

/-- Berth 0 configured as in section 4.10, in the state given. -/
def berth0 (st : BerthState) : State :=
  (busyLink.modBsq fun q => { q with table := upd q.table 0 fun _ =>
      ⟨true, 60000, 11000, 5000, 50, 1000, 120, 300, 600, 50, 10, 50, 500, 1⟩ }).modBerth 0 fun r =>
    { r with state := st }

/-- A berth reference record. -/
def ref0 : BerthRef := newBerthRef ⟨20, 50, 20, 2, 100⟩ 60000 11000

/-- Berth 0 in the state given, with a reference record. -/
def withRef (st : BerthState) (pSet : Nat) : State :=
  (berth0 st).modRfg fun r => { r with berths := upd r.berths 0 fun _ => some { ref0 with pSet := pSet } }

/-- Berth 0 in RAMP_UP at 1,000 kW with a load of 4,800 kW, 5,000 kW ONLINE and a running ramp (section 6.10). -/
def rampState : State :=
  ((withRef .rampUp 1000).setShip 0 (some ⟨true, false, 2, 4800, some 7, 0⟩)).modBerth 0 fun r =>
    { r with rampDue := some 20, rampTimer := .running 300000, summary := ⟨2, 2, true, 5000⟩ }

/-- An open session of berth `b` bound to set 0. -/
def session (b : Berth) : Session :=
  ⟨none, b, none, 0, (1, 100), none, none, Vector.replicate 4 0, 0, 0, 0, 0, none, none, none⟩

/-- Berth 0's session open, with set 0 loaded and current. -/
def withSession (s : State) : State :=
  s.modBlg fun g => { g with
    sets := upd g.sets 0 fun _ => ⟨true, [(0, 1)], #v[100, 100, 100, 100], 10, 1⟩
    current := some 0
    slots := upd g.slots 0 fun _ => .openSlot (session 0) }

/-- A closed record with the number given. -/
def record (n : Nat) : Session := { session 0 with number := some n, endClock := some (1, 200), reason := some .normal }

/-- The lock with an operator code and a metrology code, in the state given. -/
def lockState (l : LockState) : State :=
  busyLink.modMlk fun _ => ⟨some 11, false, some 22, 3, l, false, 5, false⟩

/-- The result code of the newest reply. -/
def lastResult (s : State) : Option Result :=
  match s.lpu.reply.getLast? with
  | some ⟨.mrep _ _ _ r _, _⟩ => some r
  | _ => none

/-- Section 1.5: with a BCMD waiting egress begins it first, and with a promoted SETP before the forward buffer. -/
theorem test_egress_protect :
    let s := busyLink.modLpu fun l =>
      { l with protect := [⟨9, .openCmd, 6, 200⟩], forward := [[1], [2], [3]], seq := 700 }
    (after (exec .egressFree s)).lpu.protect = [] ∧ (after (exec .egressFree s)).lpu.forward.length = 3 ∧
      (after (exec .egressFree s)).lpu.seq = 701 := by decide +kernel

theorem test_egress_forward :
    let s := busyLink.modLpu fun l =>
      { l with forward := [[1], [2]], control := [⟨.poll 9 3 0, 0, false⟩], seq := 700 }
    (after (exec .egressFree s)).lpu.sending = some [1] ∧ (after (exec .egressFree s)).lpu.seq = 700 := by decide +kernel

theorem test_promotion :
    let s := busyLink.modLpu fun l => { l with control := [⟨.poll 9 3 0, 2, false⟩] }
    (after (exec .promotion s)).lpu.control = [⟨.poll 9 3 0, 2, true⟩] ∧ (after (exec .promotion s)).now = 7 := by
  decide +kernel

theorem test_overlong_cut : (after (exec .overlongCut State.reset)).lpu.counters.overlong = 1 ∧
    ((after (exec .overlongCut State.reset)).event 89).raw = true := by decide +kernel

theorem test_ingress_loss : (after (exec .ingressLossTimerExpiry State.reset)).lpu.lossIndicator = true ∧
    (after (exec .ingressLossTimerExpiry State.reset)).lpu.lossDue = 40 := by decide +kernel

/-- Section 1.2: 11 bytes are too few. -/
theorem test_frame_short :
    (after (exec (.frameReceptionEnd (List.replicate 11 1)) State.reset)).lpu.counters.rejected = 1 := by decide +kernel

/-- A HOLD of 15 quanta to node 1 from node 50, written out by the layouts of section 1.6. -/
theorem test_frame_hold :
    let hp : List Byte := [1, 50, 7, 0, 0, 3, 0, 9, 2, 0, 15]
    let t := after (exec (.frameReceptionEnd (hp ++ be 4 (crc32 hp))) rampState)
    (t.berth 0).holdEnd = some 1500 ∧ (t.berth 0).rampTimer = .paused 300000 := by decide +kernel

/-- Section 6.10: a period adds 1,000 / 50 = 20 kW. -/
theorem test_ramp_period : ((after (exec (.rampPeriod 0) rampState)).berthRef 0).map (·.pSet) = some 1020 := by
  decide +kernel

theorem test_gen_off : ((after (exec (.genOff 50) rampState)).berth 0).state = .shore := by decide +kernel

/-- Section 6.10, the same call tripped: the pilot loop is released. -/
theorem test_pilot_trip :
    let s := (withSession rampState).modPins fun p => { p with pilot := upd p.pilot 0 fun _ => true }
    let t := after (exec (.pilotInputChange 0 false) s)
    (t.berth 0).state = .tripped ∧ t.evr.outputs[0] = true ∧ t.blg.log.map (·.reason) = [some .pilot] ∧
      (t.event 9).raw = true := by decide +kernel

theorem test_estop_outputs : (after (exec .estopAssert State.reset)).evr.outputs = Vector.replicate 4 true := by
  decide +kernel

theorem test_depart : ((after (exec (.depart 2 5 0) (berth0 .shore))).berth 0).genDue = some 600000 := by decide +kernel

theorem test_connect_refused : lastResult (after (exec (.connect 2 5 0) busyLink)) = some .busy := by decide +kernel

theorem test_connect_pilot : lastResult (after (exec (.connect 2 5 0) (berth0 .dead))) = some .pilotOpen := by
  decide +kernel

/-- Section 7.9: 8.4 × 10^10 W·µs carry 23 Wh in band 1 and leave 1.2 × 10^9. -/
theorem test_integrate :
    let t := integrate 0 84000000000 (withSession State.reset)
    t.mtr.recs[0].importResidue = 1200000000 ∧
      t.slot 0 = .openSlot { session 0 with bands := #v[0, 23, 0, 0], importWh := 23 } := by decide +kernel

theorem test_tick_midnight :
    let s := State.reset.modMtr fun m => { m with day := 65535, second := 86399 }
    (after (exec .clockTick s)).mtr.day = 0 ∧ (after (exec .clockTick s)).mtr.second = 0 ∧
      (after (exec .clockTick s)).mtr.endDue = true := by decide +kernel

/-- Section 8.8: the repeated removal finds another head. -/
theorem test_log_remove :
    let s := busyLink.modBlg fun g => { g with log := [record 57, record 58], counter := 59 }
    let t := after (exec (.logRemoveOldest 3 5 57) s)
    t.blg.log = [record 58] ∧ lastResult (after (exec (.logRemoveOldest 3 6 57) t)) = some .badValue := by decide +kernel

/-- Section 11.9: a wrong code costs an attempt, and the right one opens the lock. -/
theorem test_unlock :
    let t := after (exec (.unlock 2 5 1 99) (lockState .locked))
    t.mlk.attempts = 4 ∧ lastResult t = some .lockMismatch ∧ (t.event 96).raw = true ∧
      (after (exec (.unlock 2 6 1 11) t)).mlk.lock = .unlocked := by decide +kernel

theorem test_billing_clear_needs_prepare :
    lastResult (after (exec (.billingClear 3 5 2 22) (lockState .locked))) = some .noPrepare ∧
      (after (exec (.billingClear 3 6 2 22) (after (exec (.clearPrepare 3 5) (lockState .locked))))).mlk.lock =
        .unprotected := by decide +kernel

theorem test_tariff_locked :
    lastResult (after (exec (.writeCurrentSetIndex 3 5 0 1 [4]) (lockState .locked))) = some .locked := by decide +kernel

theorem test_clock_set :
    let t := after (exec (.clockSet 3 5 412 30000) busyLink)
    t.mtr.second = 30000 ∧ t.mtr.intervalStart = 29700 ∧ t.mtr.intervalEnd = 30600 := by decide +kernel

/-- Section 10.4: berth table, first 3 and count 2. -/
theorem test_out_of_range :
    (after (exec (.readTable 2 5 8 3 2) busyLink)).mgu.capture = some ⟨2, 1, 8, 3, 2⟩ := by decide +kernel

theorem test_event_set : ((after (exec (.eventSet 2 5 28) busyLink)).event 28).clock = some (0, 0) := by decide +kernel

theorem test_block_standby :
    let s := busyLink.modModule 2 fun r => { r with state := .standby }
    ((after (exec (.block 2 5 2) s)).modu 2).state = .blocked := by decide +kernel

theorem test_scan_slot :
    let s := busyLink.modMpm fun m => { m with table := upd m.table 3 fun _ => ⟨true, 2500, 40, 30, 30⟩ }
    (after (exec .scanSlot s)).mpm.poll = some ⟨3, 0, none⟩ ∧
      (after (exec .scanSlot s)).lpu.control = [⟨.poll 40 3 0, 10, false⟩] := by decide +kernel

/-- The queue: a step takes the front, and an empty queue lets the part's own events and time go on. -/
theorem test_step_front :
    let s : State := { State.reset with pending := [.overlongCut, .estopAssert] }
    (after (step s)).pending = [.estopAssert] ∧ (after (step s)).lpu.counters.overlong = 1 := by decide +kernel

theorem test_step_idle : (after (step State.reset)).now = 1 := by decide +kernel

/-- Section 2.9: stream entry 6 for SH1, berth 1 SHORE, last valid record 501 at 10 ms; `now` as given. -/
def gapState (now : Nat) : State :=
  let e : StreamEntry := ⟨true, 21, 2, 6, 10000, 100000⟩
  let s := ({ State.reset with now := now }.modScl fun c => { c with streams := upd c.streams 6 fun _ => e }).modPoint 6
    fun r => { r with state := .fresh, lastSeq := some 501, arrival := 10, limits := some (entryLimits e) }
  (s.modBsq fun q => { q with table := upd q.table 1 fun _ =>
    ⟨true, 60000, 11000, 5000, 50, 1000, 120, 300, 600, 50, 10, 50, 500, 1⟩ }).modBerth 1 fun r => { r with state := .shore }

/-- One record of channel 2 with the sequence and voltage given. -/
def gapRecord (seq voltage : Nat) : List Byte :=
  [1, 2, 1] ++ be 2 seq ++ be 4 0 ++ be 2 voltage ++ be 2 0 ++ be 4 60010 ++ be 4 0 ++ be 4 0

/-- Section 2.9, time 30: 600 V beside the nominal is outside 5.0 % and two records are missed. -/
theorem test_meas_band :
    let t := after (exec (.measFrame 21 (gapRecord 504 11600)) (gapState 30))
    (t.point 6).missed = 2 ∧ (t.point 6).vOut = true ∧ (t.point 6).fOut = false ∧ (t.event 26).raw = true ∧
      (t.event 27).raw = false := by decide +kernel

theorem test_meas_late : ((after (exec (.measFrame 21 (gapRecord 500 11600)) (gapState 31))).point 6).discarded = 1 := by
  decide +kernel

/-- Section 2.9: HELD when the age is 21 ms, STALE when it is 101 ms. -/
theorem test_held_and_stale :
    let t := after (exec (.heldLimitExpiry 6) (gapState 30))
    let u := after (exec (.staleLimitExpiry 6) t)
    (t.point 6).state = .held ∧ t.now = 31 ∧ (u.point 6).state = .stale ∧ u.now = 111 ∧ (u.event 14).raw = true := by
  decide +kernel

/-- A channel that closes the outlet of berth 2, commanded at 110 ms (the worked example behind R86). -/
def closingState : State :=
  let p : Profile := ⟨330, 20, 150, 80, 364, 3, 60, 3, 1000, 2, 300, 10⟩
  ({ busyLink with now := 214 }.modSyu fun y => { y with
    breakers := upd y.breakers 2 fun _ => ⟨40, 100, 60, true, none, none⟩
    chans := upd y.chans 0 fun _ => some
      ⟨⟨2, 2, .bsq, 7, 3, 0, 300000⟩, p, .closing, 0, 3, none, some 270, none, some 110, none, none⟩ }).modBerth 2
    fun r => { r with state := .syncing }

theorem test_close_confirmed :
    let t := after (exec (.bstaFrame 40 [1, 2, 0, 0]) closingState)
    (t.breaker 2).lastMeasured = some 104 ∧ (t.breaker 2).tc = 101 ∧ t.syu.closeHeld[2] = true ∧
      t.syu.chans[0] = none := by decide +kernel

theorem test_close_not_confirmed :
    let t := after (exec (.confirmTimerExpiry 0) closingState)
    t.now = 270 ∧ (t.event 33).raw = true ∧ (t.syu.chans[0].bind fun w => w.backoffDue) = some 1270 := by decide +kernel

/-- R38: the third miss of a STANDBY module. -/
theorem test_module_lost :
    let s := (busyLink.modMpm fun m => { m with poll := some ⟨4, 9, some 12⟩ }).modModule 4 fun r =>
      { r with state := .standby, missCount := 2 }
    let t := after (exec .pollReplyTimerExpiry s)
    (t.modu 4).state = .lost ∧ (t.modu 4).missCount = 3 ∧ (t.event 72).raw = true := by decide +kernel

/-! ### States that meet the hypotheses of the statements -/

/-- Berth 0 in RAMP_UP with its session open, a ramp period waiting in the queue. -/
def demo : State := { withSession rampState with pending := [.rampPeriod 0] }

/-- What the statements about requests ask of a state, for the operator node 2 and the billing node 3. -/
def Ready (s : State) : Prop :=
  Quiet s ∧ EgressWorks s ∧ Served s 2 ∧ Served s 3 ∧ fromStation s 2 ∧ isOperator s 2 = true ∧ isBilling s 3 = true

/-- A state that shares link and management unit with `busyLink` is ready. -/
theorem ready_of (s : State) (hl : s.lpu = busyLink.lpu) (hm : s.mgu = busyLink.mgu) (hh : s.handoffs = []) :
    Ready s := by
  have e : s.lpu.sending = some [] := by rw [hl]; rfl
  simp only [Ready, Quiet, EgressWorks, Served, fromStation, isOperator, isBilling, reaches, State.own, hl, hm, hh]
  decide +kernel

/-- With the event table of a reset every raise concerns its entry alone. -/
theorem raises_of (s : State) (h : s.evr = State.reset.evr) (e : EventIx) : RaisesAlone e s := by
  right
  unfold State.event
  rw [h]
  revert e
  decide +kernel

theorem witness_StepRunsFront : ∃ (c : Instr) (rest : List Instr) (s : State), s.pending = c :: rest :=
  ⟨.rampPeriod 0, [], demo, rfl⟩

theorem demo_steps : step demo = .next (after (step demo)) := rfl

theorem witness_TripsKept : TripOutputs demo ∧ EstopHolds demo ∧ ∃ t, step demo = .next t :=
  ⟨by unfold TripOutputs; decide +kernel, by unfold EstopHolds; decide +kernel, _, demo_steps⟩

theorem demo_slots (b : Berth) : demo.slot b = if b = 0 then .openSlot (session 0) else .free := by
  revert b; decide +kernel

theorem demo_adds_up : SessionsAddUp demo ∧ ∃ t, step demo = .next t := by
  refine ⟨⟨by decide +kernel, ?_, by intro r h; cases h⟩, _, demo_steps⟩
  intro b r h
  rw [demo_slots] at h
  split at h
  · cases h; rfl
  · cases h

theorem witness_BillingKept :
    (BillingRoom demo ∧ LogOrdered demo ∧ ∃ t, step demo = .next t) ∧ (SessionsAddUp demo ∧ ∃ t, step demo = .next t) ∧
      ∃ t, exec (.trip 2 5 0) demo = .next t :=
  ⟨⟨by unfold BillingRoom; decide +kernel, ⟨List.Pairwise.nil, by intro r h; cases h⟩, _, demo_steps⟩, demo_adds_up, _,
    (rfl : _ = Host.Outcome.next (after (exec (.trip 2 5 0) demo)))⟩

/-- The commands that the clauses of `BillingKept` and `LockSoundKept` leave out are none of the two witnesses above and
below. -/
theorem witness_commands_left_out :
    (∀ src p, Instr.trip 2 5 0 ≠ .mreqArrival src p) ∧ (∀ bytes, Instr.trip 2 5 0 ≠ .frameReceptionEnd bytes) ∧
      Instr.trip 2 5 0 ≠ .nextReplyPart ∧ (∀ src tag n, Instr.trip 2 5 0 ≠ .logRemoveOldest src tag n) ∧
      (∀ src tag i code, Instr.trip 2 5 0 ≠ .billingClear src tag i code) ∧
      (∀ nid opn bln, Instr.unlock 2 5 1 99 ≠ .coldReset nid opn bln) ∧
      ∀ nid opn bln k n, Instr.unlock 2 5 1 99 ≠ .warmReset nid opn bln k n := by
  and_intros <;> intros <;> simp

theorem witness_SlotsKept : BoundCounts demo ∧ SlotsFit demo ∧ ∃ t, step demo = .next t := by
  refine ⟨by unfold BoundCounts; decide +kernel, ⟨by decide +kernel, ?_, by decide +kernel⟩, _, demo_steps⟩
  intro i h
  cases h
  decide +kernel

theorem witness_LockSoundKept :
    (LockSound (lockState .unlocked) ∧ ∃ t, step (lockState .unlocked) = .next t) ∧
      ∃ t, exec (.unlock 2 5 1 99) (lockState .locked) = .next t :=
  ⟨⟨by unfold LockSound; decide +kernel, _, (rfl : _ = Host.Outcome.next (after (step (lockState .unlocked))))⟩, _,
    (rfl : _ = Host.Outcome.next (after (exec (.unlock 2 5 1 99) (lockState .locked))))⟩

theorem witness_LinkKept : LinkBounds demo ∧ EgressWorks demo ∧ ∃ t, step demo = .next t :=
  ⟨by unfold LinkBounds; decide +kernel, (ready_of demo rfl rfl rfl).2.1, _, demo_steps⟩

theorem witness_RepliesReservedKept : RepliesReserved demo ∧ ∃ t, step demo = .next t :=
  ⟨by unfold RepliesReserved; decide +kernel, _, demo_steps⟩

theorem witness_SyncOnceKept : SyncOnce closingState ∧ ∃ t, step closingState = .next t :=
  ⟨by unfold SyncOnce; decide +kernel, _, (rfl : _ = Host.Outcome.next (after (step closingState)))⟩

theorem witness_ModulesListedKept : ModulesListed demo ∧ ∃ t, step demo = .next t :=
  ⟨by unfold ModulesListed; decide +kernel, _, demo_steps⟩

theorem witness_HoldsCurrentKept : HoldsCurrent demo ∧ ∃ t, step demo = .next t :=
  ⟨by unfold HoldsCurrent; decide +kernel, _, demo_steps⟩

theorem witness_MeterSoundKept : MeterSound demo ∧ ∃ t, step demo = .next t :=
  ⟨by unfold MeterSound UnbilledFits; decide +kernel, _, demo_steps⟩

/-- Berth 0 TRIPPED with its demand set. -/
def tripped0 : State := (berth0 .tripped).modBerth 0 fun r => { r with demand := true, reason := some .pilot }

theorem witness_TrippedStays :
    (tripped0.berth 0).state = .tripped ∧ (tripped0.berth 0).demand = true ∧
      (tripped0.breaker (outlet 0)).lastPosition ≠ some .openPos ∧ ∃ t, exec .estopRelease tripped0 = .next t :=
  ⟨by decide +kernel, by decide +kernel, by decide +kernel, _,
    (rfl : _ = Host.Outcome.next (after (exec .estopRelease tripped0)))⟩

/-- The fields of `frameBytes` at the ends of their ranges. -/
theorem witness_FrameRoundTrip :
    receive (frameBytes 255 255 255 255 65535 [7, 8]) = some ⟨255, 255, 255, [7, 8]⟩ ∧
      receive (frameBytes 1 1 0 0 0 []) = some ⟨1, 1, 0, []⟩ := by decide +kernel

/-- Stream entries at the ends of their widths. -/
theorem witness_TableRoundTrip_streams :
    (255 < 256 ∧ 65535 < 65536 ∧ 4294967295 < 4294967296) ∧
      (takeEntry Table.streams.form (encStream ⟨true, 255, 255, 255, 65535, 4294967295⟩ ++ [9])).map
        (fun x => (toStream x.1, x.2)) = some (⟨true, 255, 255, 255, 65535, 4294967295⟩, [9]) := by decide +kernel

theorem witness_TableRoundTrip_grid :
    (takeEntry Table.grid.form (encGrid ⟨65535, 65535, 255, 65535⟩)).map (fun x => toGrid x.1) =
      some ⟨65535, 65535, 255, 65535⟩ := by decide +kernel

theorem witness_TableRoundTrip_modules :
    (takeEntry Table.modules.form (encModuleEntry (7 : Module).val ⟨true, 65535, 255, 255, 255⟩)).map
      (fun x => toModuleEntry x.1) = some ⟨true, 65535, 255, 255, 255⟩ := by decide +kernel

theorem witness_TableRoundTrip_reference :
    (takeEntry Table.reference.form (encRefSettings ⟨255, 255, 255, 255, 65535⟩)).map (fun x => toRefSettings x.1) =
      some ⟨255, 255, 255, 255, 65535⟩ := by decide +kernel

theorem witness_TableRoundTrip_profiles :
    let p : Profile := ⟨65535, -32768, 32767, -1, 65535, 255, 255, 255, 65535, 255, 65535, 255⟩
    (takeEntry Table.profiles.form (encProfile p)).map (fun x => toProfile x.1) = some p := by decide +kernel

theorem witness_TableRoundTrip_berths :
    let e : BerthEntry := ⟨true, 65535, 65535, 65535, 255, 65535, 65535, 65535, 65535, 65535, 255, 255, 65535, 255⟩
    (takeEntry Table.berths.form (encBerthEntry e)).map (fun x => toBerthEntry x.1) = some e := by decide +kernel

theorem witness_SharesAddUp :
    let cap (m : Module) : Nat := if m = 5 then 1800 else 2500
    [1, 2, (5 : Module)].Nodup ∧ 0 < ([1, 2, 5].map cap).sum ∧ 6800 ≤ ([1, 2, 5].map cap).sum := by decide

/-- A channel of berth 2's outlet in the phase given, both points FRESH, the frequency and the angle of CB2 as given. -/
def syncState (ph : Phase) (freq angle : Nat) : State :=
  let s := (closingState.modChan 0 (Option.map fun w => { w with phase := ph, confirmDue := none }))
  (s.modPoint 7 fun r => { r with state := .fresh, freq := 60000 }).modPoint 3 fun r =>
    { r with state := .fresh, freq := freq, angle := angle }

/-- The evaluation at the channel of `syncState`. -/
def syncEval (freq angle : Nat) : Evaluation :=
  let s := syncState .watching freq angle
  evaluate ⟨330, 20, 150, 80, 364, 3, 60, 3, 1000, 2, 300, 10⟩ (s.breaker 2).tc (s.point 3) (s.point 7)

/-- Requests for the outlets of berths 2 and 1. -/
def queued (t : Target) : SyncReq := ⟨t, 2, .bsq, 7, 3, 0, 300000⟩

/-- The queue and the busy channels given. -/
def channels (q : List SyncReq) (busy0 busy1 : Bool) : State :=
  let w := closingState.syu.chans[0]
  closingState.modSyu fun y => { y with queue := q, chans := #v[if busy0 then w else none, if busy1 then w else none] }

/-- R76: both channels IDLE in one event: S0 takes the oldest request, also where S1 became IDLE first. -/
theorem test_serves_s0_first :
    let s := channels [queued 1, queued 0] true true
    let t := settle (idleChannel 0 (idleChannel 1 s))
    (t.syu.chans.map fun w => w.map fun w => w.req.target) = #v[some 1, some 0] ∧ t.syu.queue = [] := by decide +kernel

theorem witness_SyncAttempts :
    (∀ q a b, (channels q a b).handoffs = [] ∧ (channels q a b).syu.queue = q) ∧
      (channels [queued 2] true true).syu.chans[0] ≠ none ∧ (channels [queued 2] true true).syu.chans[1] ≠ none ∧
      (channels [queued 2] false true).syu.chans[0] = none ∧ (channels [queued 2] true false).syu.chans[1] = none ∧
      (300 ≤ 300 ∧ -500 ≤ wideProfile.slipLow ∧ wideProfile.slipHigh ≤ 500) ∧
      (evaluate wideProfile 300 (pointAt 0 40000) (pointAt 0 40500)).sOk = true ∧
      (evaluate wideProfile 300 (pointAt 0 39999) (pointAt 0 40000)).sOk = false ∧
      (∀ ph f a, ∃ w, (syncState ph f a).syu.chans[(0 : Chan)] = some w ∧ w.phase = ph ∧ w.req.refPoint = 7 ∧
        ((syncState ph f a).point w.req.matchPoint).state = .fresh ∧ (syncState ph f a).pins.estop = false ∧
        EgressWorks (syncState ph f a)) ∧
      ((syncEval 60080 0).vOk = true ∧ (syncEval 60080 0).sOk = true ∧ (syncEval 60080 0).aOk = false) ∧
      ((syncEval 60080 65012).sOk = true ∧ (syncEval 60080 65012).aOk = true) ∧ (syncEval 60151 0).sOk = false := by
  refine ⟨fun q a b => ⟨rfl, rfl⟩, ?_, ?_, rfl, rfl, ?_⟩
  · decide +kernel
  · decide +kernel
  refine ⟨?_, ?_, ?_, ?_⟩
  · decide
  · decide
  · decide
  refine ⟨fun _ _ _ => ⟨_, rfl, rfl, rfl, rfl, rfl, fun h => (by cases h)⟩, ?_⟩
  decide +kernel

/-- Berth 1's revenue record with the baseline 1,000 us, the last arrival given, and the time 40 ms. -/
def metered (last : Option Nat) : State :=
  ({ demo with now := 40 }).modMtr fun m => { m with recs := upd m.recs 1 fun r =>
    { r with baseline := some 1000, lastArrival := last } }

theorem witness_EnergyIsCarried :
    (∃ r, demo.slot 0 = .openSlot r ∧ bandOf demo.blg.sets[r.set].schedule demo.mtr.second ≤ 3) ∧
      (∀ a, (metered a).mtr.recs[1].baseline = some 1000) ∧
      (metered none).mtr.recs[1].lastArrival = none ∧ (metered (some 30)).mtr.recs[1].lastArrival = some 30 ∧
      2147483648 ≤ (2147484648 + 4294967296 - 1000) % 4294967296 ∧
      (2147484647 + 4294967296 - 1000) % 4294967296 < 2147483648 ∧ (metered none).mtr.gapLimit = 100000 ∧
      100000 < (101001 + 4294967296 - 1000) % 4294967296 ∧ ¬ 100000 < (101000 + 4294967296 - 1000) % 4294967296 ∧
      demo.mtr.recs[1].baseline = none ∧ demo.sessionOpen 1 = false ∧ (1 : Berth) ≠ 0 ∧
      UnbilledFits (demo.modUnbilled 1 fun u => { u with importWh := Config.u64Max }) := by
  refine ⟨⟨session 0, rfl, by decide +kernel⟩, fun _ => rfl, rfl, rfl, ?_⟩
  unfold UnbilledFits
  decide +kernel

/-- A LOADED tariff set of the schedule given. -/
def tariffOf (schedule : List (Nat × Nat)) : TariffSet := ⟨true, schedule, #v[121, 183, 247, 0], 9375, 0⟩

/-- `s` with set 1 LOADED and current and the slot of berth `b` RESERVED. -/
def reserve (s : State) (b : Berth) : State := s.modBlg fun g => { g with
  sets := upd g.sets 1 fun _ => tariffOf [(0, 0)], current := some 1, slots := upd g.slots b fun _ => .reserved }

/-- A dead-bus close of berth 2's outlet, operated by node 40, in DEAD_CLOSE. -/
def deadOutlet : State :=
  ((reserve busyLink 2).modSyu fun y => { y with
    breakers := upd y.breakers 2 fun _ => ⟨40, 100, 60, true, none, none⟩
    deadBus := [⟨2, 2, .bsq, 10, 210⟩] }).modBerth 2 fun r => { r with state := .deadClose }

/-- Berth 0's outlet operated by node 40, the berth in the state given with its session open, an OPEN noted at 5 ms and
the present time 9 ms. -/
def outletState (st : BerthState) : State :=
  ({ withSession (withRef st 0) with now := 9 }.modBreaker 0 fun e => { e with node := 40 }).modBerth 0 fun r =>
    { r with openNoted := 5 }

theorem witness_SessionsBilled :
    let c := reserve closingState 2
    let o := outletState .opening
    startsOk ([(0, 0), (86399, 1)].map Prod.fst) = true ∧ c.slot 2 = .reserved ∧ c.blg.current = some 1 ∧
      busyLink.slot 0 = .free ∧ busyLink.blg.current = none ∧ (∀ r, busyLink.slot 0 ≠ .openSlot r) ∧
      demo.slot 0 = .openSlot (session 0) ∧
      (Quiet c ∧ reaches c 40 = true ∧ SyncOnce c ∧ byteAt [1, 2, 0, 0] 1 = (2 : Berth).val ∧
        (c.breaker (outlet 2)).node = 40 ∧ byteAt [1, 2, 0, 0] 0 = 1 ∧ (c.berth 2).state = .syncing ∧
        ∃ w, c.syu.chans[(0 : Chan)] = some w ∧ w.req.target = outlet 2 ∧ w.phase = .closing) ∧
      (Quiet deadOutlet ∧ reaches deadOutlet 40 = true ∧ SyncOnce deadOutlet ∧ (deadOutlet.breaker (outlet 2)).node = 40 ∧
        deadOutlet.slot 2 = .reserved ∧ deadOutlet.blg.current = some 1 ∧ (deadOutlet.berth 2).state = .deadClose ∧
        ∃ d ∈ deadOutlet.syu.deadBus, d.target = outlet 2) ∧
      ModulesListed o ∧ Quiet o ∧ reaches o 40 = true ∧ SyncOnce o ∧ (o.breaker (outlet 0)).node = 40 ∧ byteAt [0, 0, 0, 0] 0 = 0 ∧
      o.slot 0 = .openSlot (session 0) ∧ (o.berth 0).state = .opening ∧ (o.berth 0).openNoted < o.now ∧
      RaisesAlone evLogFull o := by
  refine ⟨by decide, rfl, rfl, rfl, rfl, (by intro r h; cases h), rfl,
    ⟨rfl, by decide +kernel, ?_, rfl, rfl, rfl, rfl, _, rfl, rfl, rfl⟩,
    ⟨rfl, by decide +kernel, ?_, rfl, rfl, rfl, rfl, by decide +kernel⟩, ?_, rfl, ?_, ?_, rfl, rfl, rfl, rfl, ?_,
    raises_of _ rfl _⟩
  all_goals first | decide +kernel | (unfold SyncOnce; decide +kernel) | (unfold ModulesListed; decide +kernel)

/-- The emergency-stop input asserted. -/
def stopped : State := demo.modPins fun p => { p with estop := true }

theorem witness_ColdResetClears : demo.pins.estop = false ∧ stopped.pins.estop = true := by decide +kernel

theorem witness_WarmResetKeeps : (∃ r, demo.slot 0 = .openSlot r) ∧ (0 : EventIx) ≠ evLogFull ∧ (0 : EventIx) ≠ evEstop ∧
    (let n := demo.modMpm fun m => { m with table := upd m.table 3 fun _ => ⟨true, 2500, 40, 30, 30⟩ }
    (after (exec (.warmReset 1 2 3 0 0) n)).own ≠ none ∧ n.mpm.table[(3 : Module)].installed = true ∧
      (n.entry 0).configured = true) ∧ BoundCounts demo := by
  refine ⟨⟨_, rfl⟩, by decide, by decide, ?_⟩
  unfold BoundCounts
  decide +kernel

theorem witness_PilotLoop :
    let s := demo.modPins fun p => { p with pilot := upd p.pilot 0 fun _ => true }
    let u := tripped0.modPins fun p => { p with pilot := upd p.pilot 0 fun _ => true }
    Quiet s ∧ s.pins.pilot[(0 : Berth)] = true ∧ (s.berth 0).state ∉ [.unused, .dead, .tripped] ∧
      Quiet u ∧ (u.berth 0).state ∈ [.unused, .dead, .tripped] :=
  ⟨rfl, by decide +kernel, by decide +kernel, rfl, by decide +kernel⟩

theorem witness_EmergencyStop :
    Quiet stopped ∧ stopped.pins.estop = true ∧ Quiet demo ∧ SyncOnce demo ∧ demo.pins.estop = false ∧
      (demo.berth 0).state ∉ [.unused, .dead, .tripped] ∧ (demo.berth 1).state ∈ [.unused, .dead, .tripped] ∧
      demo.bsq.estopRepeat = none ∧ RaisesAlone evEstop demo ∧
      (after (exec .estopAssert demo)).bsq.estopRepeat = some 100 ∧ Quiet (after (exec .estopAssert demo)) :=
  ⟨rfl, by decide +kernel, rfl, by unfold SyncOnce; decide +kernel, by decide +kernel, by decide +kernel, by decide +kernel, rfl,
    raises_of _ rfl _, by decide +kernel, by unfold Quiet; decide +kernel⟩

/-- Frames of node 40: to node 9, to the own node, to all nodes, and one whose source is the own node. -/
def frameTo (dest src kind : Nat) : List Byte := frameBytes dest src kind 0 7 [3, 0, 1]

/-- `busyLink` with a full forward buffer. -/
def fullForward : State := busyLink.modLpu fun l => { l with forward := [[1], [2], [3], [4]] }

theorem witness_FrameFates :
    (Quiet busyLink ∧ Quiet fullForward ∧ Quiet State.reset ∧ (∀ e, RaisesAlone e fullForward) ∧ EgressWorks State.reset ∧
      busyLink.lpu.sending = some [] ∧ State.reset.lpu.sending = none) ∧
    492 < (List.replicate 493 (0 : Byte)).length ∧ receive (List.replicate 11 0) = none ∧
    busyLink.own = some 1 ∧ State.reset.own = some 1 ∧ busyLink.lpu.forward.length < 4 ∧ 4 ≤ fullForward.lpu.forward.length ∧
    ([(9, 1, 4), (9, 40, 4), (1, 40, 1), (1, 40, 4), (1, 40, 6), (1, 40, 9), (1, 40, 2), (63, 40, 1), (63, 40, 2)].all fun x =>
      receive (frameTo x.1 x.2.1 x.2.2) = some ⟨x.1, x.2.1, x.2.2, [3, 0, 1]⟩) = true := by
  refine ⟨⟨rfl, rfl, rfl, raises_of _ rfl, fun _ => ⟨rfl, rfl, rfl, rfl, rfl⟩, rfl, rfl⟩, ?_, ?_⟩
  · rw [List.length_replicate]; decide
  · decide +kernel

/-- The five forms of a ship message of the gateway 50, one of no known form, and a source that is no gateway. -/
theorem witness_FrameFates_ship :
    let state := be 1 1 ++ [3, 2] ++ be 2 (4800 : BitVec 16).toNat ++ be 8 (7 : BitVec 64).toNat
    (([state, be 1 2 ++ be 2 (15 : BitVec 16).toNat, [3], [4], be 1 5 ++ be 2 (9 : BitVec 16).toNat, [6]].flatMap fun p =>
        [1, 63].map fun d => (receive (frameBytes d 50 7 0 7 p) = some ⟨d, 50, 7, p⟩ : Bool)).all id) = true ∧
      (byteAt [6] 0, 1) ∉ [(1, 13), (2, 3), (3, 1), (4, 1), (5, 3)] ∧
      (∃ b, ((berth0 .shore).entry b).configured = true ∧ ((berth0 .shore).entry b).gateway = 50) ∧
      ¬ ∃ b, ((berth0 .shore).entry b).configured = true ∧ ((berth0 .shore).entry b).gateway = 49 := by
  decide +kernel

/-- Node 40 is the node of module 3 and of breaker 5, node 21 a stream node, node 50 the gateway of berth 0. -/
def nodesState : State :=
  ((berth0 .dead).modMpm fun m => { m with table := upd m.table 3 fun _ => ⟨true, 2500, 40, 30, 30⟩ }).modBreaker 5 fun e =>
    { e with node := 40 }

theorem witness_ConsumptionChecks :
    Quiet nodesState ∧ reaches nodesState 40 = true ∧ reaches nodesState 62 = true ∧ Quiet (gapState 30) ∧
      reaches (gapState 30) 21 = true ∧
      (∃ e ∈ (gapState 30).scl.streams.toList, e.valid = true ∧ e.node = 21) ∧
      (∀ e ∈ nodesState.scl.streams.toList, ¬ (e.valid = true ∧ e.node = 40)) ∧
      (∃ e ∈ nodesState.mpm.table.toList, e.installed = true ∧ e.node = 40) ∧
      (∀ e ∈ nodesState.mpm.table.toList, ¬ (e.installed = true ∧ e.node = 62)) ∧
      (nodesState.breaker 5).node = 40 ∧ (∀ t, (nodesState.breaker t).node ≠ 62) ∧
      (∀ b, ¬ ((nodesState.entry b).configured = true ∧ (nodesState.entry b).gateway = 40)) := by
  refine ⟨rfl, ?_, ?_, rfl, ?_⟩
  all_goals decide +kernel

/-- A POLL in the CONTROL queue, promoted or not. -/
def pollPlace (promoted : Bool) : ControlPlace := ⟨.poll 40 3 0, 2, promoted⟩

/-- `busyLink` with the CONTROL queue given. -/
def withControl (ps : List ControlPlace) : State := busyLink.modLpu fun l => { l with control := ps }

theorem witness_LinkTimers :
    Quiet busyLink ∧ (∀ e, RaisesAlone e busyLink) ∧ (∀ ps, Quiet (withControl ps) ∧ ∀ e, RaisesAlone e (withControl ps)) ∧
      (∀ x ∈ [pollPlace true], x.promoted = true) ∧ (pollPlace false).promoted = false :=
  ⟨rfl, raises_of _ rfl, fun _ => ⟨rfl, raises_of _ rfl⟩, by decide, rfl⟩

theorem witness_EgressOrder :
    (∀ l, Quiet { busyLink with lpu := l }) ∧ (busyLink.modLpu fun l => { l with protect := [⟨9, .trip, 0, 200⟩] }).lpu.protect =
        ⟨9, .trip, 0, 200⟩ :: [] ∧
      (withControl [pollPlace false, pollPlace true]).lpu.control = [pollPlace false] ++ pollPlace true :: [] ∧
      (withControl []).lpu.protect = [] ∧ fullForward.lpu.forward = [1] :: [[2], [3], [4]] ∧
      (withControl [pollPlace false]).lpu.forward = [] ∧
      (busyLink.modLpu fun l => { l with reply := [⟨.note 2 3 0 1 5, false⟩] }).lpu.reply = ⟨.note 2 3 0 1 5, false⟩ :: [] ∧
      busyLink.lpu.reply = [] :=
  ⟨fun _ => rfl, rfl, rfl, rfl, rfl, rfl, rfl, rfl⟩

/-- R36, R65: what a POLL and a SETP that egress begins tell. -/
theorem test_told :
    let poll := after (exec .egressFree (withControl [pollPlace false] |>.modMpm fun m => { m with poll := some ⟨3, 0, none⟩ }))
    let setp := after (exec .egressFree (withControl [⟨.setp ⟨40, 3, .start, 1, 50000, 2200, 0, 2500, 0⟩, 1, false⟩]))
    poll.mpm.poll = some ⟨3, 0, some 4⟩ ∧ setp.rfg.modules[3].lastSent = some (50000, 2200, .start) ∧
      setp.rfg.modules[3].startSent = true := by decide +kernel

/-- A BCMD OPEN for the breaker given. -/
def openFor (t : Target) : Bcmd := ⟨0, .openCmd, t, 200⟩

/-- An SHPN place, and a SETP for module 3. -/
def shpnPlace : ControlPlace := ⟨.shpn 50 (.rampDone 0), 1, false⟩

/-- A SETP for module 3. -/
def setp3 : Setp := ⟨40, 3, .form, 1, 50000, 11000, 0, 2500, 0⟩

theorem witness_FramesGiven :
    ({ State.reset with lpu := Lpu.cold 0 0 }).own = none ∧ State.reset.own ≠ none ∧ State.reset.lpu.sending = none ∧
      EgressWorks State.reset ∧ EgressWorks busyLink ∧ busyLink.own ≠ none ∧ busyLink.lpu.sending = some [] ∧
      busyLink.lpu.protect.length < 8 ∧
      8 ≤ ((allTargets.take 8).map openFor).length ∧ (∀ y ∈ (allTargets.take 8).map openFor, y.target ≠ 8) ∧
      [openFor 8] = [] ++ openFor 8 :: [] ∧ (∀ y ∈ ([] : List Bcmd) ++ [], y.target ≠ 8) ∧
      (withControl []).lpu.control.length < 24 ∧ 24 ≤ (List.replicate 24 (pollPlace false)).length ∧
      (∀ p ∈ List.replicate 24 (pollPlace false), p.isShpn = false) ∧ shpnPlace.isShpn = true ∧
      (⟨.setp setp3, 1, true⟩ : ControlPlace).isSetpFor 3 = true ∧
      (∀ p ∈ List.replicate 24 (pollPlace false), p.isSetpFor 3 = false) ∧
      List.replicate 24 (pollPlace false) = [] ++ ⟨.poll 40 3 0, 2, false⟩ :: List.replicate 23 (pollPlace false) ∧
      24 ≤ (pollPlace true :: List.replicate 23 shpnPlace).length ∧ (∀ x ∈ [pollPlace true], x.isShpn = false) ∧
      pollPlace true :: List.replicate 23 shpnPlace = [pollPlace true] ++ shpnPlace :: List.replicate 22 shpnPlace :=
  ⟨by decide, by decide, rfl, fun _ => ⟨rfl, rfl, rfl, rfl, rfl⟩, fun h => (by cases h), by decide, rfl, by decide, by decide,
    by decide, rfl, by decide, by decide, by decide, by decide, rfl, rfl, by decide, rfl, by decide, by decide, rfl⟩

/-- A record of the channel, flags and sequence given. -/
def recordOf (channel flags : Byte) (seq : Nat) : List Byte :=
  [1, channel, flags] ++ be 2 seq ++ be 4 0 ++ be 2 11000 ++ be 2 0 ++ be 4 60010 ++ be 4 0 ++ be 4 0

/-- `gapState` with the last sequence absent. -/
def freshState : State := (gapState 30).modPoint 6 fun r => { r with lastSeq := none }

theorem witness_RecordNotValid :
    let e : StreamEntry := ⟨true, 21, 2, 6, 10000, 100000⟩
    Quiet (gapState 30) ∧ Quiet freshState ∧ reaches (gapState 30) 21 = true ∧
      (∃ e ∈ (gapState 30).scl.streams.toList, e.valid = true ∧ e.node = 21) ∧ (recordOf 3 1 502).length = 25 ∧
      byteAt (recordOf 3 1 502) 0 = 1 ∧ (measRecord ((recordOf 3 1 502).drop 1)).channel = 3 ∧
      (∀ e ∈ (gapState 30).scl.streams.toList, ¬ (e.valid = true ∧ e.node = 21 ∧ e.channel = 3)) ∧
      matchEntry (gapState 30).scl.streams 21 2 = some e ∧ ((gapState 30).point 6).lastSeq = some 501 ∧
      ((measRecord ((recordOf 2 1 501).drop 1)).seq + 65536 - 501) % 65536 = 0 ∧
      ((measRecord ((recordOf 2 1 33269).drop 1)).seq + 65536 - 501) % 65536 = 32768 ∧
      ((measRecord ((recordOf 2 0 502).drop 1)).seq + 65536 - 501) % 65536 = 1 ∧
      ((measRecord ((recordOf 2 0 33268).drop 1)).seq + 65536 - 501) % 65536 = 32767 ∧
      (measRecord ((recordOf 2 0 502).drop 1)).valid = false ∧ (freshState.point 6).lastSeq = none := by
  refine ⟨rfl, rfl, ?_⟩
  decide +kernel

/-- A frame of two records and one of eight. -/
theorem witness_RecordNotValid_several :
    let one := (recordOf 3 1 502).drop 1
    one.length = 24 ∧ ((List.replicate 7 one).flatten).length = 24 * 7 ∧ Quiet (gapState 30) ∧
      (measTaken 21 (be 1 1 ++ one) (gapState 30)).handoffs = [] ∧
      (measTaken 21 (gapRecord 502 11600) (gapState 30)).handoffs ≠ [] := by
  refine ⟨by decide +kernel, by decide +kernel, rfl, ?_⟩
  decide +kernel

theorem witness_ValidRecord :
    let e : StreamEntry := ⟨true, 21, 2, 6, 10000, 100000⟩
    reaches (gapState 30) 21 = true ∧ (recordOf 2 1 502).length = 25 ∧ byteAt (recordOf 2 1 502) 0 = 1 ∧
      matchEntry (gapState 30).scl.streams 21 2 = some e ∧ e.point = (6 : Point).val ∧
      (measRecord ((recordOf 2 1 502).drop 1)).valid = true ∧ ((gapState 30).point 6).lastSeq = some 501 ∧
      1 ≤ ((measRecord ((recordOf 2 1 502).drop 1)).seq + 65536 - 501) % 65536 ∧
      ((measRecord ((recordOf 2 1 33268).drop 1)).seq + 65536 - 501) % 65536 ≤ 32767 ∧ (6 : Point) ≠ gridPoint ∧
      (freshState.point 6).lastSeq = none := by decide +kernel

/-- `gapState` with its stream entry for the grid point. -/
def gridState : State := (gapState 30).modScl fun c => { c with streams := upd c.streams 6 fun e => { e with point := 0 } }

/-- The clauses of an SHb point in SHORE, at the edges of the bands, and of the grid point. -/
theorem witness_ValidRecord_bands :
    (∀ e, RaisesAlone e (gapState 30)) ∧ (6 : Point) = shPoint 1 ∧ (4 : Point) = cbPoint 3 ∧ ((gapState 30).berth 1).state = .shore ∧
      11000 * ((gapState 30).entry 1).vBand < ((11551 : Int) - 11000).natAbs * 1000 ∧
      ¬ 11000 * ((gapState 30).entry 1).vBand < ((11550 : Int) - 11000).natAbs * 1000 ∧
      (matchEntry gridState.scl.streams 21 2).map (fun e => e.point) = some gridPoint.val ∧
      (∀ b, gridPoint ≠ shPoint b) ∧ reaches gridState 21 = true := by
  refine ⟨raises_of _ rfl, rfl, rfl, ?_⟩
  decide +kernel

/-- Berth 0 SHORE, its ship and converter points with limits 20 and 100 ms, the staleness conditions as given. -/
def watchedState (ship conv : Option Nat) (st : Freshness) : State :=
  (((berth0 .shore).modScl fun c => { c with
    shipStale := upd c.shipStale 0 fun _ => ship
    convStale := upd c.convStale 0 fun _ => conv }).modPoint 5 fun r => { r with state := st, limits := some (20, 100) }).modPoint 1
      fun r => { r with state := st, limits := some (20, 20) }

theorem witness_FreshnessExpiries :
    let s := watchedState (some 90) (some 90) .fresh
    Quiet s ∧ (∀ e, RaisesAlone e s) ∧ (s.point 5).state = .fresh ∧ (s.point 5).limits = some (20, 100) ∧ 20 < 100 ∧
      ((watchedState none none .held).point 5).state ≠ .fresh ∧ ((watchedState none none .stale).point 5).state = .stale ∧
      (∀ b side, pointSide 9 = some (b, side) → (s.berth b).state.watched = false) ∧ (s.berth 0).state.watched = true ∧
      shPoint 0 = 5 ∧ s.scl.shipStale[(0 : Berth)] = some 90 ∧ s.scl.convStale[(0 : Berth)] = some 90 ∧
      staleCond (watchedState none none .stale) 0 .ship = none ∧ cbPoint 0 = 1 ∧ (s.point 1).limits = some (20, 20) ∧
      (s.point 1).state ≠ .stale := by
  refine ⟨rfl, raises_of _ rfl, ?_⟩
  refine ⟨by decide +kernel, by decide +kernel, by decide, by decide +kernel, by decide +kernel, ?_, by decide +kernel,
    rfl, rfl, rfl, rfl, rfl, by decide +kernel, by decide +kernel⟩
  intro b side h
  cases h

/-- Module 3 in the state given, with a poll, a start timer and a stop timer, and its miss count. -/
def modState (st : ModuleState) (misses : Nat) : State :=
  (nodesState.modMpm fun m => { m with poll := some ⟨3, 9, some 12⟩ }).modModule 3 fun r =>
    { r with state := st, missCount := misses, startDue := some 30000, stopDue := some 30000 }

theorem witness_ScanSlots :
    let s := busyLink.modMpm fun m => { m with table := upd (upd m.table 3 fun _ => ⟨true, 2500, 40, 30, 30⟩) 7 fun _ =>
      ⟨true, 2500, 41, 30, 30⟩ }
    Quiet s ∧ Quiet (modState .online 0) ∧ (modState .online 0).mpm.poll.isSome ∧ Quiet busyLink ∧
      (∀ m : Module, busyLink.mpm.table[m].installed = false) ∧ s.mpm.poll = none ∧ nextPolled s = some 3 ∧ s.own ≠ none ∧
      s.lpu.sending = some [] ∧ s.lpu.control.length < 24 ∧ s.mpm.lastPolled = none ∧
      nextPolled (s.modMpm fun m => { m with lastPolled := some 3 }) = some 7 ∧
      nextPolled (s.modMpm fun m => { m with lastPolled := some 7 }) = some 3 := by
  refine ⟨rfl, rfl, by decide +kernel, rfl, ?_⟩
  decide +kernel

theorem witness_PollEnds :
    Quiet busyLink ∧ (∀ m n due, busyLink.mpm.poll ≠ some ⟨m, n, some due⟩) ∧ (∀ st n, Quiet (modState st n)) ∧
      (modState .online 1).mpm.poll = some ⟨3, 9, some 12⟩ ∧ ((modState .online 1).modu 3).missCount + 1 < 3 ∧
      ((modState .stopping 2).modu 3).state ∈ [.absent, .stopping, .lost, .blocked] ∧
      3 ≤ ((modState .online 2).modu 3).missCount + 1 ∧
      ((modState .online 2).modu 3).state ∈ [.standby, .starting, .syncing, .online] ∧
      reaches (modState .online 2) 40 = true ∧
      (∃ e ∈ (modState .online 2).mpm.table.toList, e.installed = true ∧ e.node = 40) ∧
      byteAt [3, 9, 1, 0, 9, 196] 0 = 3 ∧ byteAt [3, 9, 1, 0, 9, 196] 1 = 9 ∧
      reportedOf? (byteAt [3, 9, 1, 0, 9, 196] 2) = some .running ∧ byteAt [3, 8, 1, 0, 9, 196] 1 ≠ 9 ∧
      (modState .online 2).mpm.table[(3 : Module)].node = 40 := by
  refine ⟨rfl, (by intro _ _ _ h; cases h), fun _ _ => rfl, rfl, ?_⟩
  decide +kernel

theorem witness_ModulesLeaveService :
    (∀ st, Quiet (modState st 0)) ∧ ((modState .online 0).modu 3).state ≠ .starting ∧
      ((modState .online 0).modu 3).state ≠ .stopping ∧ (busyLink.modu 3).startDue = none ∧
      (busyLink.modu 3).stopDue = none ∧ ((modState .starting 0).modu 3).state = .starting ∧
      ((modState .starting 0).modu 3).startDue = some 30000 ∧ ((modState .stopping 0).modu 3).state = .stopping ∧
      ((modState .stopping 0).modu 3).stopDue = some 30000 := by
  refine ⟨fun _ => rfl, ?_⟩
  decide +kernel

/-- Module 3 allocated to berth 0 in the state given. -/
def listed (st : ModuleState) : State :=
  ((withRef .shore 0).modMpm fun m => { m with
    table := upd m.table 3 fun _ => ⟨true, 2500, 40, 30, 30⟩
    lists := upd m.lists 0 fun _ => [3] }).modModule 3 fun r => { r with state := st, capacity := some 2500, startIssued := true }

/-- Module 3 allocated to berth 0 in the state given, its poll 9 open and its record changed by `g`. -/
def polled (st : ModuleState) (g : ModuleRec → ModuleRec) : State :=
  ((listed st).modMpm fun m => { m with poll := some ⟨3, 9, some 12⟩ }).modModule 3 g

/-- The same with module 4 ONLINE before it in the list. -/
def joining : State :=
  ((polled .starting id).modMpm fun m => { m with lists := upd m.lists 0 fun _ => [4, 3] }).modModule 4 fun r =>
    { r with state := .online }

/-- The same with module 4 SYNCING behind module 3 and its request deferred. -/
def forming : State :=
  ((polled .starting fun r => { r with first := true, closedNoted := true }).modMpm fun m => { m with
    lists := upd m.lists 0 fun _ => [3, 4] }).modModule 4 fun r => { r with state := .syncing, deferred := true }

/-- The rules at a reply, R39, R42 and R47: the node, the poll, the events, and the module's states and marks. -/
theorem witness_PollEnds_rules :
    let s := polled .stopping fun r => { r with openSeen := true }
    (∀ st g, (polled st g).mpm.poll = some ⟨3, 9, some 12⟩ ∧ ∀ e, RaisesAlone e (polled st g)) ∧
      ModulesListed (polled .online id) ∧ ModulesListed forming ∧ ModulesListed joining ∧ ModulesListed s ∧
      ((polled .online id).mpm.table[(3 : Module)].node = 40 ∧ reaches (polled .online id) 40 = true ∧
        (∃ e ∈ (polled .online id).mpm.table.toList, e.installed = true ∧ e.node = 40)) ∧
      reportedOf? (byteAt [3, 9, 2, 0, 9, 196] 2) = some .fault ∧ ((polled .online id).modu 3).reported ≠ some .fault ∧
      min (fieldAt [3, 9, 2, 0, 9, 196] 4 2) 2500 = 2500 ∧ min (fieldAt [3, 9, 2, 0, 9, 195] 4 2) 2500 < 2500 ∧
      ((polled .syncing id).modu 3).state ∈ [.absent, .standby, .lost, .blocked, .syncing] ∧
      (3 ∈ (polled .online id).list 0 ∧ ((polled .online id).berth 0).state ∉ [.allocating, .energising]) ∧
      (forming.modu 3).first = true ∧ (forming.modu 3).closedNoted = true ∧
      3 ∈ forming.list 0 ∧ (forming.berth 0).energised = false ∧ 4 ∈ forming.list 0 ∧ (forming.modu 4).deferred = true ∧
      ((joining.modu 3).first = false ∧ 3 ∈ joining.list 0 ∧ (joining.modu 4).state = .online ∧
        4 ∈ joining.list 0 ∧ joining.syu.busy (contactor 3) = false ∧
        ((joining.modBreaker 7 fun e => { e with node := 33 }).breaker (contactor 3)).node ≠ 0) ∧
      ((polled .starting id).modu 3).first = false ∧
      (∀ x ∈ (polled .starting id).list 0, ((polled .starting id).modu x).state ≠ .online) ∧
      ((polled .stopping id).modu 3).openSeen = false ∧ (s.modu 3).openSeen = true ∧ s.list 0 = [3] ∧
      ((s.modBerth 0 fun r => { r with state := .releasing }).berth 0).state = .releasing := by
  refine ⟨fun _ _ => ⟨rfl, raises_of _ rfl⟩, by unfold ModulesListed; decide +kernel,
    by unfold ModulesListed; decide +kernel, by unfold ModulesListed; decide +kernel,
    by unfold ModulesListed; decide +kernel, ?_⟩
  decide +kernel

/-- Berth 0 in the state given, CB0 FRESH with the power given in W, P_set 800, and the overload state. -/
def loaded (st : BerthState) (watts : Int) (already : Bool) (due : Option Nat) : State :=
  (((listed .online).modBerth 0 fun r => { r with state := st }).modPoint 1 fun r =>
    { r with state := .fresh, pCal := watts }).modBerthRef 0 fun r => { r with overload := already, overloadDue := due }

/-- R59 and R60: at the first period in ENERGISING the voltage rises by the limit of 50 V from 2,200 V, progress becomes
RISING, and R64: a STARTING module is sent them at once. -/
theorem test_reference_period :
    let s := (listed .starting).modBerth 0 fun r => { r with state := .energising }
    let t := after (exec .rfgPeriod s)
    ((t.berthRef 0).map fun r => (r.fRef, r.vRef, r.progress)) = some (60000, 2250, .rising) ∧
      t.rfg.modules[3].built = some ⟨.start, 60000, 2250, 0, 2500⟩ ∧
      (after (exec .rfgPeriod (s.modModule 3 fun r => { r with startIssued := false }))).rfg.modules[3].built = none := by
  decide +kernel

/-- R56: a soft-start fraction of 30 % and a shed margin of 7 kW are stored at the write and apply from the next period. -/
theorem test_settings_next_period :
    let t := after (exec (.writeReferenceSettings 2 5 0 1 [20, 50, 30, 2, 0, 7]) (listed .online))
    let u := after (exec .rfgPeriod t)
    let soft (s : State) := ((createRef 0 s).berthRef 0).map fun r => r.vRef
    t.rfg.settings = ⟨20, 50, 30, 2, 7⟩ ∧ soft t = some 2200 ∧ t.rfg.inForce.shedMargin = 100 ∧
      soft u = some 3300 ∧ u.rfg.inForce.shedMargin = 7 := by decide +kernel

/-- R67: at 2,501 kW the berth is overloaded, at 2,500 kW it is not, and the shed carries 1 kW and the margin of 100. -/
theorem test_overload_onset :
    let t := after (exec .rfgPeriod (loaded .shore 2501000 false none))
    (t.berthRef 0).map (·.overloadDue) = some (some 10020) ∧ (t.lpu.control.map (·.frame)).head? = some (.shpn 50 (.shed 0 101)) ∧
      ((after (exec .rfgPeriod (loaded .shore 2500000 true none))).berthRef 0).map (·.overload) = some false := by
  decide +kernel

theorem witness_ReferencePeriod :
    (∃ r r', (listed .online).berthRef 0 = some r ∧ (after (exec .rfgPeriod (listed .online))).berthRef 0 = some r') ∧
      ModulesListed (listed .starting) ∧ ModulesListed (listed .syncing) ∧ ModulesListed (listed .stopping) ∧
      ModulesListed (listed .online) ∧
      (∀ st ∈ [ModuleState.starting, .syncing, .stopping, .online], 3 ∈ (listed st).list 0 ∧ ((listed st).modu 3).state = st) ∧
      ((listed .starting).modu 3).startIssued = true ∧
      (((listed .starting).modModule 3 fun r => { r with startIssued := false }).modu 3).startIssued = false ∧
      (∀ b, 5 ∉ (listed .online).list b) := by
  refine ⟨⟨_, _, rfl, rfl⟩, by unfold ModulesListed; decide +kernel, by unfold ModulesListed; decide +kernel,
    by unfold ModulesListed; decide +kernel, by unfold ModulesListed; decide +kernel, ?_⟩
  decide +kernel

/-- The soft-energise test at the edge of its window, overload at and above the capacity, and a berth that works
alone. -/
theorem witness_ReferencePeriod_berth :
    (∃ r, ((listed .online).modBerth 0 fun x => { x with state := .energising }).berthRef 0 = some r ∧ r.progress ≠ .complete) ∧
      ((11220 : Int) - 11000).natAbs * 1000 ≤ 11000 * 20 ∧ ¬ ((11221 : Int) - 11000).natAbs * 1000 ≤ 11000 * 20 ∧
      (∀ e, RaisesAlone e (loaded .shore 2501000 false none)) ∧
      sumCapacity (loaded .shore 2501000 false none) 0 = 2500 ∧ (2500 : Int) < roundHalfAway 2501000 1000 ∧
      ¬ (2500 : Int) < roundHalfAway 2500000 1000 ∧
      ((loaded .shore 2501000 true none).berthRef 0).map (fun r => (r.overload, r.overloadDue)) = some (true, none) ∧
      (∀ c, c ≠ 0 → (loaded .shore 2501000 false none).berthRef c = none ∧ (loaded .shore 2501000 false none).list c = []) ∧
      ((loaded .shore 2501000 false none).berth 0).state ≠ .energising ∧ (loaded .shore 2501000 false none).own ≠ none ∧
      (loaded .shore 2501000 false none).lpu.sending = some [] ∧
      (loaded .shore 2501000 false none).lpu.control.length ≤ 12 := by
  refine ⟨⟨_, rfl, by decide +kernel⟩, by decide, by decide, raises_of _ rfl, ?_⟩
  decide +kernel

/-- Channel 0 at work for berth 2's outlet, after `k` failed attempts, its timers as given. -/
def timerState (k : Nat) (watch confirm backoff : Option Nat) : State :=
  closingState.modChan 0 (Option.map fun w => { w with k := k, watchDue := watch, confirmDue := confirm, backoffDue := backoff })

/-- A pending dead-bus close of contactor 5. -/
def deadState : State := nodesState.modSyu fun y => { y with deadBus := [⟨5, 0, .mpm, 10, 210⟩] }

theorem witness_SyncTimers :
    let q := busyLink.modSyu fun y => { y with queue := [queued 2] }
    (∀ k w c b, Quiet (timerState k w c b) ∧ EgressWorks (timerState k w c b) ∧ ∀ e, RaisesAlone e (timerState k w c b)) ∧
      Quiet q ∧ queued 2 ∈ q.syu.queue ∧ SyncOnce q ∧ (∀ r ∈ q.syu.queue, r.target ≠ 3) ∧
      (∃ w, (timerState 1 (some 9) none none).syu.chans[(0 : Chan)] = some w ∧ w.watchDue = some 9 ∧
        w.k + 1 ≠ w.profile.attemptLimit) ∧
      (∃ w, (timerState 2 (some 9) none none).syu.chans[(0 : Chan)] = some w ∧ w.watchDue = some 9 ∧
        w.k + 1 = w.profile.attemptLimit) ∧ SyncOnce (timerState 2 (some 9) none none) ∧
      (∃ w, (timerState 1 none (some 9) none).syu.chans[(0 : Chan)] = some w ∧ w.confirmDue = some 9 ∧
        w.k + 1 ≠ w.profile.attemptLimit) ∧
      (∃ w, (timerState 2 none (some 9) none).syu.chans[(0 : Chan)] = some w ∧ w.confirmDue = some 9 ∧
        w.k + 1 = w.profile.attemptLimit) ∧ (timerState 2 none (some 9) none).own ≠ none ∧
      SyncOnce (timerState 2 none (some 9) none) ∧
      (∃ w, (timerState 1 none none (some 9)).syu.chans[(0 : Chan)] = some w ∧ w.backoffDue = some 9) ∧
      (∀ w due, busyLink.syu.chans[(0 : Chan)] = some w → w.watchDue ≠ some due) ∧
      Quiet deadState ∧ SyncOnce deadState ∧ (∃ d ∈ deadState.syu.deadBus, d.target = 5) ∧
      (∀ d ∈ deadState.syu.deadBus, d.target ≠ 4) ∧ EgressWorks deadState ∧ deadState.own ≠ none ∧
      ∀ e, RaisesAlone e deadState := by
  refine ⟨fun _ _ _ _ => ⟨rfl, fun h => (by cases h), raises_of _ rfl⟩, rfl, by decide +kernel,
    by unfold SyncOnce; decide +kernel, by decide +kernel, ⟨_, rfl, rfl, by decide⟩, ⟨_, rfl, rfl, by decide⟩,
    by unfold SyncOnce; decide +kernel, ⟨_, rfl, rfl, by decide⟩, ⟨_, rfl, rfl, by decide⟩, by decide,
    by unfold SyncOnce; decide +kernel, ⟨_, rfl, rfl⟩, ?_, rfl, by unfold SyncOnce; decide +kernel, by decide +kernel,
    by decide +kernel, fun h => (by cases h), by decide, raises_of _ rfl⟩
  intro w due h
  cases h

theorem witness_BreakerReports :
    let s := outletState .shore
    let d := outletState .dead
    ([(0, .openPos), (1, .closed), (2, .moving), (3, .fault)].all fun x =>
      byteAt [BitVec.ofNat 8 x.1, 0, 0, 0] 1 = (0 : Target).val &&
        positionOf? (byteAt [BitVec.ofNat 8 x.1, 0, 0, 0] 0) = some x.2) = true ∧
    ((∀ st, Quiet (outletState st) ∧ EgressWorks (outletState st)) ∧ Quiet closingState ∧ Quiet deadState) ∧
    (∀ c : Chan, ∀ w, s.syu.chans[c] = some w → w.req.target = 0 → w.phase ≠ .closing) ∧
    (reaches s 40 = true ∧ (s.breaker 0).node = 40 ∧ (∀ x ∈ s.syu.deadBus, x.target ≠ 0) ∧
      s.syu.closeHeld[(0 : Target)] = false ∧ (s.breaker 0).lastPosition ≠ some .closed ∧
      (s.berth 0).state.carrying = true ∧ outlet 0 = 0) ∧
    ((∀ b, (0 : Target) = outlet b → (d.berth b).state ∉ [.rampUp, .shore, .awaitGenerators, .rampDown, .opening]) ∧
      ∀ m, (7 : Target) = contactor m → (d.modu m).state ∉ [.online, .stopping]) ∧
    ((outletState .opening).berth 0).state = .opening ∧
    ((outletState .opening).berth 0).openNoted < (outletState .opening).now ∧
    (outletState .opening).slot 0 = .openSlot (session 0) := by
  refine ⟨by decide, ⟨fun _ => ⟨rfl, fun h => (by cases h)⟩, rfl, rfl⟩, ?_, ?_, ?_, ?_⟩
  · intro c w h
    revert h
    fin_cases c <;> (intro h; cases h)
  all_goals decide +kernel

/-- The close pending at a channel, before and at the attempt limit, and a pending dead-bus close. -/
theorem witness_BreakerReports_close :
    (∃ w, closingState.syu.chans[(0 : Chan)] = some w ∧ w.req.target = 2 ∧ w.phase = .closing ∧
      w.commandTime = some 110 ∧ w.k + 1 ≠ w.profile.attemptLimit) ∧
    (∃ w, (timerState 2 none (some 9) none).syu.chans[(0 : Chan)] = some w ∧ w.req.target = 2 ∧ w.phase = .closing ∧
      w.k + 1 = w.profile.attemptLimit) ∧
    (SyncOnce closingState ∧ SyncOnce (timerState 2 none (some 9) none) ∧ SyncOnce deadState) ∧
    (EgressWorks closingState ∧ EgressWorks deadState) ∧
    ((∀ e, RaisesAlone e closingState) ∧ (∀ e, RaisesAlone e (timerState 2 none (some 9) none)) ∧
      ∀ e, RaisesAlone e deadState) ∧
    (closingState.breaker 2).node = 40 ∧ (∃ d ∈ deadState.syu.deadBus, d.target = 5) ∧ (deadState.breaker 5).node = 40 ∧
    closingState.own ≠ none := by
  refine ⟨⟨_, rfl, rfl, rfl, rfl, by decide⟩, ⟨_, rfl, rfl, rfl, by decide⟩, ?_,
    ⟨fun h => (by cases h), fun h => (by cases h)⟩, ⟨raises_of _ rfl, raises_of _ rfl, raises_of _ rfl⟩, ?_⟩
  · unfold SyncOnce; decide +kernel
  · decide +kernel

/-- Module 3 allocated to berth 0 in the state given, its contactor at node 40, an OPEN noted at 5 ms and the present
time as given. -/
def contactorState (st : ModuleState) (now : Nat) (off : Bool) : State :=
  ({ listed st with now := now }.modBreaker 7 fun e => { e with node := 40 }).modModule 3 fun r =>
    { r with openNoted := 5, offSeen := off }

theorem witness_BreakerReports_contactor :
    let s := contactorState .stopping 6 true
    (∀ st n o, Quiet (contactorState st n o) ∧ EgressWorks (contactorState st n o) ∧
        ∀ e, RaisesAlone e (contactorState st n o)) ∧
      ModulesListed (contactorState .online 6 false) ∧ ModulesListed s ∧
      (∀ st ∈ [ModuleState.online, .stopping], ((contactorState st 6 false).modu 3).state = st) ∧
      (reaches s 40 = true ∧ byteAt [0, 7, 0, 0] 1 = (7 : Target).val ∧ (s.breaker 7).node = 40 ∧ (7 : Target) = contactor 3 ∧
        s.own ≠ none) ∧
      3 ∈ s.list 0 ∧ s.list 0 = [3] ∧
      (s.modu 3).offSeen = true ∧ (s.modu 3).openNoted < s.now ∧
      (contactorState .stopping 5 true).now ≤ ((contactorState .stopping 5 true).modu 3).openNoted := by
  refine ⟨fun _ _ _ => ⟨rfl, fun h => (by cases h), raises_of _ rfl⟩, by unfold ModulesListed; decide +kernel,
    by unfold ModulesListed; decide +kernel, ?_⟩
  decide +kernel

/-- R45, R47: the contactor of an ONLINE module reported OPEN stops the module; the second mark of a stop ends it. -/
theorem test_contactor_open :
    let t := after (exec (.bstaFrame 40 [0, 7, 0, 0]) (contactorState .online 6 false))
    let u := after (exec (.bstaFrame 40 [0, 7, 0, 0]) (contactorState .stopping 6 true))
    (t.modu 3).state = .stopping ∧ (t.event 69).raw = true ∧ t.list 0 = [3] ∧ (u.modu 3).state = .standby ∧ u.list 0 = [] := by
  decide +kernel

/-- Modules 3 and 4 on berth 0 in the states given, module 5 STANDBY, the berth in the state given with the number of
ONLINE modules BSQ was last shown; poll 9 of module 3 is open after two misses, and module 3 is the first when `first`. -/
def service (m o : ModuleState) (b : BerthState) (shown : Nat) (first : Bool) : State :=
  ((((polled m fun r => { r with
      missCount := 2, first := first, startDue := some 30, stopDue := some 30 }).modMpm fun c => { c with
    lists := upd c.lists 0 fun _ => [3, 4] }).modModule 4 fun r => { r with state := o, capacity := some 2500 }).modModule 5
      fun r => { r with state := .standby }).modBerth 0 fun r => { r with state := b, summary := ⟨2, shown, false, 5000⟩ }

/-- The clauses of a loss, a block and a start limit, and of what becomes of the berth. -/
theorem witness_LeftService :
    (∀ m o b n f, Quiet (service m o b n f) ∧ EgressWorks (service m o b n f) ∧ Ready (service m o b n f) ∧
      (∀ e, RaisesAlone e (service m o b n f)) ∧ (service m o b n f).mpm.poll = some ⟨3, 9, some 12⟩ ∧
      3 ∈ (service m o b n f).list 0 ∧ ((service m o b n f).modu 3).state = m ∧
      ((service m o b n f).modu 3).startDue = some 30 ∧ ((service m o b n f).modu 3).stopDue = some 30 ∧
      ((service m o b n f).berth 0).state = b ∧ ((service m o b n f).modu 3).first = f ∧
      SyncOnce (service m o b n f)) ∧
      (ModulesListed (service .online .online .shore 2 false) ∧ ModulesListed (service .online .syncing .syncing 1 false) ∧
        ModulesListed (service .online .syncing .shore 1 false) ∧ ModulesListed (listed .stopping)) ∧
      ModulesListed (service .starting .syncing .allocating 0 true) ∧
      ((service .online .online .shore 2 false).entry 0).replacement = 1 ∧
      3 ≤ ((service .online .online .shore 2 false).modu 3).missCount + 1 ∧
      (service .online .online .shore 2 false).own ≠ none ∧
      (service .online .online .shore 2 false).lpu.control.length ≤ 4 ∧
      ((service .online .syncing .syncing 1 false).berth 0).summary.online ≠ 0 ∧
      ((listed .stopping).list 0 = [3] ∧ (((listed .stopping).modBerth 0 fun r => { r with state := .releasing }).berth 0).state =
        .releasing) := by
  refine ⟨fun _ _ _ _ _ => ⟨rfl, fun h => (by cases h), ready_of _ rfl rfl rfl, raises_of _ rfl, rfl, ?_⟩, ?_⟩
  · exact ⟨.head _, rfl, rfl, rfl, rfl, rfl, List.nodup_nil⟩
  · refine ⟨⟨?_, ?_, ?_, ?_⟩, ?_, ?_⟩
    all_goals try unfold ModulesListed
    all_goals decide +kernel

/-- R49, R103, R120: with module 4 ONLINE a lost ONLINE module is replaced by module 5; with none left the berth goes to
RELEASING before its close and trips after it. -/
theorem test_loss_in_service :
    let t := after (exec .pollReplyTimerExpiry (service .online .online .shore 2 false))
    let u := after (exec .pollReplyTimerExpiry (service .online .syncing .syncing 1 false))
    let v := after (exec .pollReplyTimerExpiry (service .online .syncing .shore 1 false))
    (t.modu 3).state = .lost ∧ t.list 0 = [4, 5] ∧ (t.modu 5).state = .starting ∧ (t.berth 0).state = .shore ∧
      (u.berth 0).state = .releasing ∧ (u.event (evCapacityLimit 0)).raw = true ∧ (u.modu 4).state = .stopping ∧
      (v.berth 0).state = .tripped ∧ (v.berth 0).reason = some .noSource := by
  decide +kernel

/-- R100: the first module's ONLINE takes the berth from ALLOCATING to ENERGISING. -/
theorem test_first_online :
    let s := (forming.modBerth 0 fun r => { r with state := .allocating })
    let t := after (exec (.prpyFrame 40 [3, 9, 1, 0, 9, 196]) s)
    (t.modu 3).state = .online ∧ (t.berth 0).state = .energising ∧ (s.berth 0).summary.online = 0 ∧
      s.lpu.control.length ≤ 4 ∧ s.own ≠ none := by
  decide +kernel

/-- Module 3 SYNCING on berth 0 in ENERGISING with its bus formed, the close of its contactor under way at S0 for
node 40; the dead-ship mark as given, SH0 FRESH at 5 V, the ship's bus reported dead, the outlet at node 33. -/
def lastJoins (dead : Bool) : State :=
  ((((((listed .syncing).modBerth 0 fun r => { r with
      state := .energising, energised := true, deadShip := dead, summary := ⟨1, 0, false, 0⟩ }).modSyu fun y => { y with
    chans := #v[some ⟨⟨contactor 3, 0, .mpm, 1, 12, 0, 120000⟩, Profile.coldModule, .closing, 0, 3, none, some 200, none,
      some 0, none, none⟩, none] }).modBreaker 7 fun e => { e with node := 40 }).modBreaker 0 fun e => { e with node := 33 }).modPoint
    5 fun r => { r with state := .fresh, voltage := 5 }).setShip 0 (some ⟨true, true, 0, 0, none, 0⟩)

/-- The clauses of R101 and R43 at a contactor's CLOSED. -/
theorem witness_LeftEnergising :
    (∀ d, Quiet (lastJoins d) ∧ EgressWorks (lastJoins d) ∧ ∀ e, RaisesAlone e (lastJoins d)) ∧
      ModulesListed (lastJoins false) ∧ SyncOnce (lastJoins false) ∧ SyncOnce (lastJoins true) ∧
      (let s := lastJoins true
      reaches s 40 = true ∧ byteAt [1, 7, 0, 0] 1 = (contactor 3).val ∧ (s.breaker (contactor 3)).node = 40 ∧
        (s.modu 3).state = .syncing ∧ 3 ∈ s.list 0 ∧ (s.berth 0).state = .energising ∧ (s.berth 0).energised = true ∧
        (s.berth 0).summary.allOnline = false ∧ s.syu.busy (outlet 0) = false ∧ (s.breaker (outlet 0)).node ≠ 0 ∧
        (s.point (shPoint 0)).state ≠ .stale ∧
        (s.point (shPoint 0)).voltage * 100 < (s.entry 0).nominalV * s.syu.profiles[0].deadThreshold ∧
        ((lastJoins false).modBreaker 0 fun e => { e with node := 0 }).syu.busy (outlet 0) = false) := by
  refine ⟨fun _ => ⟨rfl, fun h => (by cases h), raises_of _ rfl⟩, by unfold ModulesListed; decide +kernel,
    by unfold SyncOnce; decide +kernel, by unfold SyncOnce; decide +kernel, ?_⟩
  decide +kernel

/-- R101: the last module ONLINE takes a berth whose bus is formed to SYNCING with its outlet's request, or to DEAD_CLOSE. -/
theorem test_leaves_energising :
    let t := after (exec (.bstaFrame 40 [1, 7, 0, 0]) (lastJoins false))
    let u := after (exec (.bstaFrame 40 [1, 7, 0, 0]) (lastJoins true))
    (t.modu 3).state = .online ∧ (t.berth 0).state = .syncing ∧ t.syu.inChannel (outlet 0) = true ∧
      (u.berth 0).state = .deadClose ∧ u.syu.deadPending (outlet 0) = true := by
  decide +kernel

/-- Berth 0 in ENERGISING before its soft energise is complete, CB0 FRESH at the nominal values, one module listed. -/
def risingState : State :=
  (((listed .online).modBerth 0 fun r => { r with state := .energising, summary := ⟨1, 1, true, 2500⟩ }).modPoint 1 fun r =>
    { r with state := .fresh, voltage := 11000, freq := 60000 }).modBreaker 0 fun e => { e with node := 33 }

theorem witness_ReferencePeriod_complete :
    (risingState.berth 0).state = .energising ∧ (risingState.berthRef 0).map (·.progress) = some .waiting ∧
      (risingState.point (cbPoint 0)).state = .fresh ∧ 0 < (risingState.berth 0).summary.listed ∧
      (risingState.berth 0).summary.allOnline = true ∧ ModulesListed risingState ∧ SyncOnce risingState ∧
      (∀ e, RaisesAlone e risingState) ∧ risingState.syu.busy (outlet 0) = false ∧
      ((after (exec .rfgPeriod risingState)).berth 0).state = .syncing := by
  refine ⟨rfl, rfl, rfl, by decide, rfl, by unfold ModulesListed; decide +kernel, by unfold SyncOnce; decide +kernel,
    raises_of _ rfl, by decide +kernel, by decide +kernel⟩

/-- Berth 0 in the state given with module 3 of its list, and a request for breaker `k` in the queue. -/
def waitingFor (k : Target) (b : BerthState) (m : ModuleState) : State :=
  ((listed m).modBerth 0 fun r => { r with state := b }).modSyu fun y => { y with queue := [⟨k, 0, .bsq, 5, 1, 0, 9⟩] }

/-- Berth 0 in the state given with module 3, the first, of its list, and a dead-bus close of breaker `k` pending. -/
def closeWaiting (k : Target) (b : BerthState) : State :=
  (((listed .starting).modModule 3 fun r => { r with first := true }).modBerth 0 fun r => { r with state := b }).modSyu
    fun y => { y with deadBus := [⟨k, 0, .mpm, 0, 9⟩] }

/-- The clauses of a failed request and of a failed dead-bus close. -/
theorem witness_FailedAt :
    (∀ k b m, Quiet (waitingFor k b m) ∧ (∀ e, RaisesAlone e (waitingFor k b m)) ∧ EgressWorks (waitingFor k b m) ∧
      ((waitingFor k b m).berth 0).state = b ∧ ((waitingFor k b m).modu 3).state = m ∧ 3 ∈ (waitingFor k b m).list 0) ∧
      (∀ k b, Quiet (closeWaiting k b) ∧ (∀ e, RaisesAlone e (closeWaiting k b)) ∧ EgressWorks (closeWaiting k b) ∧
        ((closeWaiting k b).berth 0).state = b ∧ ((closeWaiting k b).modu 3).first = true ∧
        ((closeWaiting k b).modu 3).runningSeen = false) ∧
      ModulesListed (waitingFor 0 .syncing .online) ∧ SyncOnce (waitingFor 0 .syncing .online) ∧
      ModulesListed (waitingFor 7 .shore .syncing) ∧ ModulesListed (closeWaiting 7 .allocating) ∧
      SyncOnce (closeWaiting 7 .allocating) ∧ (7 : Target) = contactor 3 ∧ (0 : Target) = outlet 0 := by
  refine ⟨fun _ _ _ => ⟨rfl, raises_of _ rfl, fun h => (by cases h), rfl, rfl, .head _⟩,
    fun _ _ => ⟨rfl, raises_of _ rfl, fun h => (by cases h), rfl, rfl, rfl⟩, ?_, ?_, ?_, ?_, ?_, ?_⟩
  all_goals try unfold ModulesListed
  all_goals try unfold SyncOnce
  all_goals decide +kernel

/-- R43, R100, R102: the wait limit of an outlet in SYNCING, of a module in SYNCING, and a first close not confirmed. -/
theorem test_failed_requests :
    let t := after (exec (.syncWaitTimerExpiry 0) (waitingFor 0 .syncing .online))
    let u := after (exec (.syncWaitTimerExpiry 7) (waitingFor 7 .shore .syncing))
    let v := after (exec (.deadBusConfirmTimerExpiry 7) (closeWaiting 7 .allocating))
    (t.berth 0).state = .releasing ∧ (t.event (evSyncFail 0)).raw = true ∧ (u.modu 3).state = .stopping ∧
      (v.modu 3).state = .stopping ∧ (v.berth 0).state = .releasing ∧ (v.event (evCapacityLimit 0)).raw = true := by
  decide +kernel

/-- The clauses of an uncommanded closure of outlet 0, with an attempt in WATCHING and without one. -/
theorem witness_BreakerReports_uncommanded :
    let w : ChanWork := ⟨queued 0, { Profile.coldOutlet with attemptLimit := 3 }, .watching, 0, 3, some 9, none, none, none, none, none⟩
    let s := (outletState .syncing).modSyu fun y => { y with chans := #v[some w, none] }
    (s.syu.chans[(0 : Chan)] = some w ∧ w.req.target = 0 ∧ w.k + 1 ≠ w.profile.attemptLimit ∧
      { w with k := 2 }.k + 1 = w.profile.attemptLimit) ∧ EgressWorks s ∧ SyncOnce s ∧ (∀ e, RaisesAlone e s) ∧
      ∀ c : Chan, (outletState .shore).syu.chans[c] = none := by
  refine ⟨⟨rfl, rfl, by decide, by decide⟩, fun h => (by cases h), by unfold SyncOnce; decide +kernel, raises_of _ rfl, ?_⟩
  decide +kernel

theorem witness_ShipMessages :
    (∀ st, Quiet (berth0 st) ∧ EgressWorks (berth0 st)) ∧ reaches rampState 50 = true ∧ Quiet rampState ∧
      EgressWorks rampState ∧ gatewayBerth rampState 50 = some 0 ∧ (rampState.berth 0).state = .rampUp ∧
      (rampState.berth 0).holdMark = false ∧ (15 : BitVec 16) ≠ 0 ∧ gatewayBerth (berth0 .shore) 50 = some 0 ∧
      ((berth0 .shore).berth 0).state ≠ .rampUp ∧ ((berth0 .shore).berth 0).state ≠ .rampDown ∧
      ((berth0 .awaitGenerators).berth 0).state = .awaitGenerators ∧
      ((berth0 .awaitGenerators).point (shPoint 0)).state = .stale ∧
      (((berth0 .awaitGenerators).modPoint 5 fun r => { r with state := .fresh }).point (shPoint 0)).state ≠ .stale := by
  refine ⟨fun _ => ⟨rfl, fun h => (by cases h)⟩, by decide +kernel, rfl, fun h => (by cases h), ?_⟩
  decide +kernel

/-- Berth 0 in RAMP_DOWN with a running ramp, P_set as given, SH0 FRESH at 0 W. -/
def downState (pSet : Nat) : State :=
  ((withRef .rampDown pSet).modBerth 0 fun r =>
    { r with rampDue := some 20, rampTimer := .running 300000, summary := ⟨2, 2, true, 5000⟩ }).modPoint 5 fun r =>
      { r with state := .fresh }

theorem witness_RampPeriods :
    Quiet (berth0 .dead) ∧ ((berth0 .dead).berth 0).rampDue = none ∧ Quiet rampState ∧ (rampState.berth 0).rampDue = some 20 ∧
      (∃ r, rampState.berthRef 0 = some r) ∧ (rampState.berth 0).state = .rampUp ∧ EgressWorks rampState ∧
      RaisesAlone (evCapacityLimit 0) rampState ∧ (∀ n, Quiet (downState n) ∧ EgressWorks (downState n)) ∧
      ((downState 21).berth 0).rampDue = some 20 ∧ (∃ r, (downState 21).berthRef 0 = some r ∧ min (r.pSet - 1000 / 50) 5000 = 1) ∧
      ((downState 20).berth 0).state = .rampDown ∧ (∃ r, (downState 20).berthRef 0 = some r ∧ r.pSet - 1000 / 50 = 0) ∧
      ((downState 20).point (shPoint 0)).state ≠ .stale ∧
      (roundHalfAway ((downState 20).point (shPoint 0)).pCal 1000).natAbs ≤ ((downState 20).entry 0).openThreshold ∧
      (((berth0 .shore).modBerth 0 fun r => { r with rampDue := some 20 }).berth 0).rampDue = some 20 :=
  ⟨rfl, by decide +kernel, rfl, by decide +kernel, ⟨_, rfl⟩, by decide +kernel, fun h => (by cases h), raises_of _ rfl _,
    fun _ => ⟨rfl, fun h => (by cases h)⟩, by decide +kernel, ⟨_, rfl, by decide +kernel⟩, by decide +kernel,
    ⟨_, rfl, by decide +kernel⟩, by decide +kernel, by decide +kernel, by decide +kernel⟩

/-- Berth 0 with every timer running. -/
def timers0 : State :=
  (downState 20).modBerth 0 (fun r => { r with holdEnd := some 50, genDue := some 60, openDue := some 70 }) |>.modBerthRef 0
    fun r => { r with overloadDue := some 40 }

/-- Berth 0 in RAMP_UP with the hold time given and no ship hold, or one that ends at the instant the limit is reached. -/
def holding (acc : Nat) (due : Option Nat) : State :=
  rampState.modBerth 0 fun r => { r with holdAcc := acc, holdEnd := due }

/-- R105: a ship hold that ends at the instant at which the accumulated time reaches the limit of 120 s has used up the
limit: HOLD_LIMIT is raised and a later HOLD is not taken. -/
theorem test_hold_limit_at_end :
    let t := after (exec (.shipHoldEnd 0) (holding 0 (some 120000)))
    let u := after (exec (.holdLimitReached 0) t)
    (t.berth 0).holdAcc = 120000 ∧ (u.event 7).raw = true ∧ (u.berth 0).holdMark = true ∧
      ((after (exec (.hold 50 5) u)).berth 0).holdEnd = none := by decide +kernel

theorem witness_BerthTimers :
    Quiet timers0 ∧ EgressWorks timers0 ∧ TripOutputs timers0 ∧ (∀ e, RaisesAlone e timers0) ∧
      (∃ r, timers0.berthRef 0 = some r ∧ r.overloadDue = some 40) ∧ (timers0.berth 0).holdEnd = some 50 ∧
      (timers0.berth 0).holdAcc ≤ (timers0.entry 0).holdLimit * 1000 ∧ (timers0.berth 0).rampTimer = .running 300000 ∧
      (timers0.berth 0).genDue = some 60 ∧ (timers0.berth 0).openDue = some 70 ∧ (busyLink.berthRef 0) = none ∧
      (busyLink.berth 0).holdEnd = none ∧ (busyLink.berth 0).rampTimer = .stopped ∧ (busyLink.berth 0).genDue = none ∧
      (busyLink.berth 0).openDue = none ∧ LimitPending 0 timers0 ∧ LimitPending 0 (holding 120000 none) ∧
      ¬ LimitPending 0 (holding 119999 none) := by
  refine ⟨rfl, fun h => (by cases h), by unfold TripOutputs; decide +kernel, raises_of _ rfl, ⟨_, rfl, rfl⟩, ?_⟩
  unfold LimitPending
  decide +kernel

/-- A request waiting with one part of its reply, `n` reservations held and the REPLY places given. -/
def waiting (n : Nat) (ps : List ReplyPlace) : State :=
  (busyLink.modLpu fun l => { l with reservations := n, reply := ps }).modMgu fun g =>
    { g with queue := [⟨2, 5, 1, []⟩], parts := [[0, 1]] }

/-- Berth 0 in the state given, entry `e` enabled with the action given, module 3 in the state given and listed. -/
def armed (st : BerthState) (ms : ModuleState) (e : EventIx) (a : Action) : State :=
  ((withRef st 0).modEntry e fun x => { x with enabled := true, action := a, notifyOperator := true }).modMpm fun m => { m with
    table := upd m.table 3 fun _ => ⟨true, 2500, 40, 30, 30⟩
    lists := upd m.lists 0 fun _ => [3]
    recs := upd m.recs 3 fun r => { r with state := ms } }

theorem witness_EnabledRaises :
    (∀ st ms e a, Ready (armed st ms e a)) ∧ (∀ st ms e a, ((armed st ms e a).berth 0).state = st) ∧
      (∀ st ms e a, ((armed st ms e a).modu 3).state = ms) ∧ (∀ n, EgressWorks (waiting n [])) ∧
      (State.reset.own ≠ none ∧ State.reset.lpu.ordinary + State.reset.lpu.reservations < 15 ∧
        15 ≤ (waiting 15 []).lpu.ordinary + (waiting 15 []).lpu.reservations) ∧
      ([(0, .none), (2, .hold), (89, .holdAll), (3, .shed), (9, .tripBerth), (99, .tripAll), (71, .blockModule), (71, .tripBerth)
        ].all fun (x : EventIx × Action) =>
          let s := armed .shore .online x.1 x.2
          (s.event x.1).raw = false && (s.event x.1).enabled && (s.event x.1).action = x.2 &&
            (List.finRange 4).all fun b =>
              s.evr.holds[b] = eventHold s.evr.entries b && s.bsq.recs[b].eventHold = s.evr.holds[b]) = true ∧
      (evShipBusStale 0 = berthEvent 0 0 ∧ berthEvent 0 2 = 2 ∧ berthEvent 0 3 = 3 ∧ berthEvent 0 9 = 9 ∧
        moduleEvent 3 3 = 71) ∧
      (armed .shore .online 71 .tripBerth).berthOfModule 3 = some 0 := by
  refine ⟨fun _ _ _ _ => ready_of _ rfl rfl rfl, fun _ _ _ _ => rfl, fun _ _ _ _ => rfl, fun _ h => (by cases h), ?_⟩
  decide +kernel

theorem witness_ClockAndInterval :
    let s := (withSession rampState).modMtr fun m => { m with second := 86399 }
    let u := demo.modMtr fun m => { m with second := 900, endDue := true }
    Quiet s ∧ s.mtr.endDue = false ∧ Quiet u ∧ u.mtr.endDue = true ∧ u.slot 0 = .openSlot (session 0) ∧
      u.sessionOpen 1 = false :=
  ⟨rfl, rfl, rfl, rfl, rfl, rfl⟩

/-- The same with egress free. -/
def waitingFree (n : Nat) : State := (waiting n []).modLpu fun l => { l with sending := none }

theorem witness_RequestArrivals :
    (Instr.depart 2 5 0).request? = some (2, 5, 3, [0, 3]) ∧ (∀ n ps, Quiet (waiting n ps)) ∧
      reaches State.reset 1 = false ∧ reaches (waiting 14 []) 2 = true ∧ 3 ≤ [(0 : Byte), 5, 3].length ∧
      (waiting 14 []).mgu.queue ≠ [] ∧ ¬ (8 ≤ (waiting 14 []).mgu.queue.length ∨
        15 ≤ (waiting 14 []).lpu.ordinary + (waiting 14 []).lpu.reservations) ∧
      15 ≤ (waiting 15 []).lpu.ordinary + (waiting 15 []).lpu.reservations ∧
      (∃ x ∈ (waiting 15 [⟨.mrep 2 5 1 .busy [], true⟩]).lpu.reply, x.refusal = true) ∧
      (∀ x ∈ (waiting 15 []).lpu.reply, x.refusal = false) ∧ (waiting 15 []).lpu.sending = some [] ∧
      EgressWorks (waitingFree 15) ∧ (waitingFree 15).lpu.sending = none ∧ busyLink.mgu.parts = [] ∧
      (waiting 0 []).mgu.queue = [⟨2, 5, 1, []⟩] ∧ (waiting 0 []).mgu.parts = [[0, 1]] ∧ EgressWorks (waiting 14 []) ∧
      (waiting 14 []).lpu.ordinary + (waiting 14 []).lpu.reservations < 15 :=
  ⟨rfl, fun _ _ => rfl, by decide +kernel, by decide +kernel, by decide, by decide, by decide, by decide, by decide, by decide,
    rfl, fun _ => ⟨rfl, rfl, rfl, rfl, rfl⟩, rfl, rfl, rfl, rfl, fun h => (by cases h), by decide⟩

theorem witness_RequestChecks :
    Ready busyLink ∧ (∀ e, RaisesAlone e busyLink) ∧ isBilling busyLink 2 = false ∧ isOperator busyLink 3 = false ∧
      ¬ fromStation busyLink 40 ∧ Served busyLink 40 ∧
      (3, [(0 : Byte)].length) ∉ [(3, 2), (4, 2)] ∧ tableOf? (byteAt [3, 0, 1] 0) = some .grid ∧
      takeEntries Table.grid.form (byteAt [3, 0, 1] 2) [1, 2] = none ∧
      (Instr.depart 3 5 0).request? = some (3, 5, 3, [0, 3]) ∧ (3 : Byte).toNat + (2 : Byte).toNat = 4 + 1 ∧
      busyLink.mgu.capture = none ∧ ({ busyLink with mgu := { busyLink.mgu with capture := some ⟨2, 1, 8, 3, 2⟩ } }).mgu.capture ≠ none ∧
      takeEntries Table.current.form 1 [4] = some [[4]] :=
  ⟨ready_of _ rfl rfl rfl, raises_of _ rfl, by decide +kernel, by decide +kernel,
    by unfold fromStation; decide +kernel, by unfold Served; decide +kernel, by decide, rfl, by decide, rfl, by decide, rfl,
    by decide, by decide⟩

theorem witness_ReadsAnswered :
    let s := busyLink.modBlg fun g => { g with log := [record 57], counter := 58 }
    Ready busyLink ∧ Ready s ∧ tableOf? (8 : Byte).toNat = some .berths ∧ (3 : Byte).toNat + (1 : Byte).toNat ≤ Table.berths.size ∧
      busyLink.lpu.ordinary + busyLink.lpu.reservations + (partsOf (List.replicate 475 0)).length ≤ 15 ∧
      busyLink.blg.log = [] ∧ s.blg.log = record 57 :: [] :=
  ⟨ready_of _ rfl rfl rfl, ready_of _ rfl rfl rfl, rfl, by decide, by decide +kernel, rfl, rfl⟩

theorem witness_SettingsWritten :
    Ready busyLink ∧ LockOpen busyLink ∧ (16 : Byte).toNat + [81920].length ≤ 17 ∧ (∀ g ∈ [49152, 81920], g < 4294967296) ∧
      (∀ g ∈ [49152, 81920], 49152 ≤ g ∧ g ≤ 81920) ∧ ¬ (∀ g ∈ [49151, 81920], 49152 ≤ g ∧ g ≤ 81920) ∧
      (1 : Byte).toNat + [Profile.coldModule].length ≤ 2 ∧ Profile.coldModule.slipLow < 32768 :=
  ⟨ready_of _ rfl rfl rfl, by unfold LockOpen; decide +kernel, by decide, by decide, by decide, by decide, by decide, by decide⟩

/-- Set 1 LOADED and current, berth 0's slot RESERVED. -/
def reservedState : State := reserve busyLink 0

theorem witness_TariffsWritten :
    Ready demo ∧ LockOpen demo ∧ demo.mtr.demandS = [300, 600, 900, 1800, 3600].getD 2 0 ∧
      [300, 600, 900, 1800, 3600].getD 4 0 ≠ demo.mtr.demandS ∧ demo.slot 0 = .openSlot (session 0) ∧
      demo.sessionOpen 1 = false ∧ Ready reservedState ∧ LockOpen reservedState ∧ (3 : Byte).toNat + [()].length ≤ 4 ∧
      (tariffOf [(0, 0), (86399, 3)]).schedule.length < 256 ∧ 0 < demo.blg.sets[(0 : Fin 4)].bound ∧
      reservedState.blg.sets[(0 : Fin 4)].bound = 0 ∧ reservedState.slot 0 = .reserved ∧
      (∀ b, busyLink.slot b ≠ .reserved) ∧ Ready busyLink ∧ 4 < (5 : Byte).toNat :=
  ⟨ready_of _ rfl rfl rfl, by unfold LockOpen; decide +kernel, by decide +kernel, by decide +kernel, rfl, rfl,
    ready_of _ rfl rfl rfl, by unfold LockOpen; decide +kernel, by decide, by decide, by decide +kernel, by decide +kernel, rfl,
    by decide +kernel, ready_of _ rfl rfl rfl, by decide⟩

theorem witness_PlantWritten :
    let q := nodesState.modSyu fun y => { y with queue := [queued 2] }
    Ready busyLink ∧ (∀ b, (busyLink.berth b).state.watched = false) ∧ (23 : Byte).toNat + [StreamEntry.cold].length ≤ 24 ∧
      Ready (listed .online) ∧ addressedBy (2 : Byte).toNat 2 3 ∧ ((listed .online).modu 3).state = .online ∧
      Ready (modState .lost 0) ∧ ((modState .lost 0).modu 3).state ∉ [.starting, .syncing, .online, .stopping] ∧
      (∀ m : Module, ((modState .lost 0).modu m).state ∉ [.starting, .syncing, .online, .stopping]) ∧ Ready q ∧
      q.syu.busy 2 = true ∧ (∀ k, busyLink.syu.busy k = false) ∧ Ready (berth0 .shore) ∧
      ((berth0 .shore).berth 0).state ∈ [.syncing, .deadClose, .rampUp, .shore, .awaitGenerators, .rampDown, .opening] ∧
      ∀ e, RaisesAlone e (berth0 .shore) :=
  ⟨ready_of _ rfl rfl rfl, by decide +kernel, by decide, ready_of _ rfl rfl rfl, by unfold addressedBy; decide,
    by decide +kernel, ready_of _ rfl rfl rfl, by decide +kernel, by decide +kernel, ready_of _ rfl rfl rfl, by decide +kernel,
    by decide +kernel, ready_of _ rfl rfl rfl, by decide +kernel, raises_of _ rfl⟩

theorem witness_BerthsAndEventsWritten :
    Ready (berth0 .shore) ∧ ((berth0 .shore).berth 0).state ∉ [.unused, .dead] ∧ Ready (berth0 .dead) ∧
      (∀ b, ((berth0 .dead).berth b).state ∈ [.unused, .dead]) ∧ (3 : Byte).toNat + [BerthEntry.cold].length ≤ 4 ∧
      (99 : Byte).toNat + [EventEntry.cold 99].length ≤ 100 ∧ (∀ i : EventIx, busyLink.evr.entries[i].raw = false) ∧
      HoldsCurrent busyLink :=
  ⟨ready_of _ rfl rfl rfl, by decide +kernel, ready_of _ rfl rfl rfl, by decide +kernel, by decide, by decide, by decide +kernel,
    by unfold HoldsCurrent; decide +kernel⟩

/-- Everything a CONNECT of berth 0 asks for: the pilot loop closed, the ship ready, set 1 current, the log with `n`
records and the counter given, module 3 STANDBY with the rating given, its contactor at node 40 and CB0 dead. -/
def connectable (n counter rating : Nat) : State :=
  let s := ((berth0 .dead).modPins fun p => { p with pilot := upd p.pilot 0 fun _ => true }).setShip 0
    (some ⟨true, false, 2, 4800, some 7, 0⟩)
  let s := (s.modBlg fun g => { g with
    sets := upd g.sets 1 fun _ => tariffOf [(0, 0)], current := some 1, log := List.replicate n (record 1), counter := counter })
  let s := (s.modMpm fun m => { m with table := upd m.table 3 fun _ => ⟨true, rating, 40, 30, 30⟩ }).modModule 3 fun r =>
    { r with state := .standby }
  (s.modBreaker 7 fun e => { e with node := 40 }).modPoint 1 fun r => { r with state := .fresh, voltage := 1099 }

theorem witness_ConnectionAsked :
    let s := connectable 31 1 5000
    Ready (berth0 .shore) ∧ ¬ (((berth0 .shore).berth 0).state = .dead) ∧ Ready (berth0 .dead) ∧
      ((berth0 .dead).berth 0).state = .dead ∧ (berth0 .dead).pins.estop = false ∧ (berth0 .dead).pins.pilot[(0 : Berth)] = false ∧
      Ready s ∧ (s.berth 0).state = .dead ∧ s.pins.estop = false ∧ s.pins.pilot[(0 : Berth)] = true ∧
      (∃ r, s.bsq.ships[(0 : Berth)] = some r ∧ r.ready = true ∧ s.now - r.received ≤ 2000) ∧
      (s.setShip 0 none).bsq.ships[(0 : Berth)] = none ∧ s.blg.current = some 1 ∧ s.blg.sets[(1 : Fin 4)].loaded = true ∧
      (s.modBlg fun g => { g with current := none }).blg.current = none ∧ (connectable 32 1 5000).blg.sum = 32 ∧
      s.blg.sum < 32 ∧ (connectable 0 4294967296 5000).blg.counter + (connectable 0 4294967296 5000).blg.taken = Config.u32Max + 1 ∧
      ¬ (s.entry 0).contract ≤ (connectable 31 1 4999).mpm.table[(3 : Module)].rating ∧
      (s.entry 0).contract ≤ s.mpm.table[(3 : Module)].rating ∧
      ((List.finRange 8).filter fun m => (s.modu m).state = .standby) = 3 :: [] ∧ s.slot 0 = .free ∧ s.list 0 = [] ∧
      (∀ e, RaisesAlone e s) ∧ s.syu.busy (contactor 3) = false ∧ (s.breaker (contactor 3)).node ≠ 0 ∧
      (s.point (cbPoint 0)).state ≠ .stale ∧
      (s.point (cbPoint 0)).voltage * 100 < (s.entry 0).nominalV * s.syu.profiles[1].deadThreshold :=
  ⟨ready_of _ rfl rfl rfl, by decide +kernel, ready_of _ rfl rfl rfl, by decide +kernel, rfl, by decide +kernel,
    ready_of _ rfl rfl rfl, by decide +kernel, rfl, by decide +kernel, ⟨_, rfl, by decide +kernel, by decide +kernel⟩, rfl, rfl,
    by decide +kernel, rfl, by decide +kernel, by decide +kernel, by decide +kernel, by decide +kernel, by decide +kernel,
    by decide +kernel, rfl, rfl, raises_of _ rfl, by decide +kernel, by decide +kernel, by decide +kernel, by decide +kernel⟩

/-- R99, R100: with CB0 not dead the first close is refused within step 2, so that a free egress begins the OPEN for K3
and the BERTH notice waits. -/
theorem test_first_close_refused :
    let s := ((connectable 31 1 5000).modPoint 1 fun r => { r with voltage := 1100 }).modLpu fun l => { l with sending := none }
    let t := after (exec (.connect 2 5 0) s)
    t.lpu.sending = some (frameBytes 40 1 5 0 0 [2, 7, 0, 200]) ∧
      t.lpu.control.map (·.frame) = [.shpn 50 (.berth 0 2), .shpn 50 (.berth 0 11)] ∧ (t.berth 0).state = .releasing ∧
      (t.modu 3).state = .stopping ∧ (t.event 11).raw = true := by decide +kernel

/-- The refusals of the first close: CB0 at the threshold, CB0 STALE, and no node. -/
theorem witness_ConnectionAsked_refused :
    let s := (connectable 31 1 5000).modPoint 1 fun r => { r with voltage := 1100 }
    ModulesListed s ∧ RaisesAlone (evCapacityLimit 0) s ∧ s.syu.busy (contactor 3) = false ∧
      (s.entry 0).nominalV * s.syu.profiles[1].deadThreshold ≤ (s.point (cbPoint 0)).voltage * 100 ∧
      ((s.modPoint 1 fun r => { r with state := .stale }).point (cbPoint 0)).state = .stale ∧
      ((s.modBreaker 7 fun e => { e with node := 0 }).breaker (contactor 3)).node = 0 := by
  refine ⟨by unfold ModulesListed; decide +kernel, raises_of _ rfl _, ?_⟩
  decide +kernel

theorem witness_BerthCommands :
    let r := tripped0.modBreaker 0 fun e => { e with lastPosition := some .openPos }
    (∀ st, Ready (berth0 st)) ∧ (∀ st, ((berth0 st).berth 0).state = st) ∧ 4 ≤ (4 : Byte).toNat ∧ BillingRoom (berth0 .syncing) ∧
      ((∀ e, RaisesAlone e (berth0 .shore) ∨ ((berth0 .shore).event e).action ∈ [.tripBerth, .tripAll]) ∧
        ModulesListed (berth0 .shore) ∧ (berth0 .shore).own ≠ none ∧ SyncOnce (berth0 .syncing) ∧
        (berth0 .shore).lpu.control.length + 4 ≤ 24 ∧ (berth0 .syncing).list 0 = []) ∧
      ModulesListed (berth0 .syncing) ∧ Ready r ∧ (r.berth 0).state = .tripped ∧ (r.breaker (outlet 0)).lastPosition = some .openPos ∧ r.pins.estop = false ∧
      r.list 0 = [] ∧ Ready tripped0 ∧ (tripped0.breaker (outlet 0)).lastPosition ≠ some .openPos ∧
      TripOutputs (r.modEvr fun e => { e with outputs := upd e.outputs 0 fun _ => true }) :=
  ⟨fun _ => ready_of _ rfl rfl rfl, fun _ => rfl, by decide, by unfold BillingRoom; decide +kernel,
    ⟨fun e => .inl (raises_of _ rfl e), by unfold ModulesListed; decide +kernel, by decide +kernel,
      by unfold SyncOnce; decide +kernel, by decide +kernel, rfl⟩,
    by unfold ModulesListed; decide +kernel, ready_of _ rfl rfl rfl, by decide +kernel, by decide +kernel, rfl, rfl, ready_of _ rfl rfl rfl, by decide +kernel,
    by unfold TripOutputs; decide +kernel⟩

/-- R121 does not name the last limit among what RESET_TRIP clears. -/
theorem test_reset_trip_keeps_limit :
    let s := (tripped0.modBreaker 0 fun e => { e with lastPosition := some .openPos }).modBerth 0 fun r =>
      { r with lastLimit := 4000 }
    let t := after (exec (.resetTrip 2 5 0) s)
    (t.berth 0).state = .dead ∧ (t.berth 0).demand = false ∧ (t.berth 0).lastLimit = 4000 := by decide +kernel

theorem witness_ModuleCommands :
    let b := (modState .stopping 0).modModule 3 fun r => { r with blockPending := true }
    let a := (modState .lost 0).modModule 3 fun r => { r with answered := true }
    (∀ st, Ready (modState st 0)) ∧ (∀ st, ((modState st 0).modu 3).state = st) ∧ 8 ≤ (8 : Byte).toNat ∧ Ready b ∧
      (b.modu 3).state = .stopping ∧ (b.modu 3).blockPending = true ∧
      ((modState .stopping 0).modu 3).blockPending = false ∧ Ready a ∧ (a.modu 3).state = .lost ∧ (a.modu 3).answered = true ∧
      ((modState .lost 0).modu 3).answered = false :=
  ⟨fun _ => ready_of _ rfl rfl rfl, fun _ => rfl, by decide, ready_of _ rfl rfl rfl, rfl, rfl, rfl, ready_of _ rfl rfl rfl, rfl,
    rfl, rfl⟩

/-- Entry 28 with the enable and raw status given and action HOLD, berth 2's ship condition as given. -/
def entry28 (enabled raw : Bool) (cond : Option Nat) : State :=
  (busyLink.modEntry 28 fun x => { x with enabled := enabled, raw := raw, action := .hold }).modScl fun c =>
    { c with shipStale := upd c.shipStale 2 fun _ => cond }

theorem witness_EventRequests :
    (∀ a b c, Ready (entry28 a b c)) ∧ 100 ≤ (100 : Byte).toNat ∧ RaisesAlone 28 (entry28 false false none) ∧
      HoldsCurrent (entry28 true false none) ∧ ((entry28 true false none).event 28).raw = false ∧
      (entry28 true true none).scl.shipStale[(2 : Berth)] = none ∧ (entry28 true true (some 100)).scl.shipStale[(2 : Berth)] ≠ none ∧
      (28 : EventIx).val = 14 * (2 : Berth).val + 0 ∧
      ((entry28 true true none).event 28).enabled = true ∧ ((entry28 false true none).event 28).enabled = false ∧
      ((entry28 false true none).event 28).raw = true ∧ ((entry28 false false none).event 28).raw = false ∧
      ((entry28 true false none).event 28).action = .hold ∧ ((entry28 true true none).event 29).action = .none ∧
      (28 : EventIx) ≠ evLogFull ∧ HoldsCurrent (entry28 false true (some 100)) ∧
      (entry28 false true (some 100)).scl.shipStale[(2 : Berth)] ≠ none ∧
      ((entry28 false true (some 100)).event 28).enabled = false := by
  refine ⟨fun _ _ _ => ready_of _ rfl rfl rfl, by decide, by unfold RaisesAlone; decide +kernel,
    by unfold HoldsCurrent; decide +kernel, ?_⟩
  unfold HoldsCurrent
  decide +kernel

/-- The lock with no attempt left. -/
def exhaustedState : State := (lockState .locked).modMlk fun k => { k with attempts := 0, exhausted := true }

theorem witness_ClockAndLogRequests :
    let g := busyLink.modBlg fun g => { g with log := [record 57], counter := 58 }
    (∀ l, Ready (lockState l)) ∧ (lockState .locked).mlk.attempts ≠ 0 ∧ (lockState .locked).mlk.lock = .locked ∧
      Ready exhaustedState ∧ exhaustedState.mlk.attempts = 0 ∧ (∀ e, RaisesAlone e exhaustedState) ∧
      (11 : Byte).toNat ∈ [2, 9, 10, 11] ∧ tableOf? (11 : Byte).toNat = some .current ∧
      takeEntries Table.current.form 1 [4] = some [[4]] ∧ Ready demo ∧ LockOpen demo ∧ 86399 < (86400 : BitVec 32).toNat ∧
      (86399 : BitVec 32).toNat ≤ 86399 ∧ demo.slot 0 = .openSlot (session 0) ∧ demo.sessionOpen 1 = false ∧
      busyLink.blg.log = [] ∧ Ready g ∧ g.blg.log = record 57 :: [] ∧ (record 57).number = some (57 : BitVec 32).toNat ∧
      (record 57).number ≠ some (58 : BitVec 32).toNat ∧ g.blg.sum ≤ 32 :=
  ⟨fun _ => ready_of _ rfl rfl rfl, by decide, rfl, ready_of _ rfl rfl rfl, rfl, raises_of _ rfl, by decide, rfl, by decide,
    ready_of _ rfl rfl rfl, by unfold LockOpen; decide +kernel, by decide, by decide, rfl, rfl, rfl, ready_of _ rfl rfl rfl,
    rfl, by decide, by decide, by decide +kernel⟩

theorem witness_LockRequests :
    let frozen := (lockState .locked).modMlk fun k => { k with frozen := true }
    let strict := (lockState .unlocked).modMlk fun k => { k with strict := true }
    let bare := (lockState .locked).modMlk fun k => { k with metrologyCode := none, revision := 65534 }
    let ready := (lockState .locked).modMgu fun g => { g with prepOperator := true }
    (∀ l, Ready (lockState l)) ∧ Ready exhaustedState ∧ (∀ e, RaisesAlone e exhaustedState) ∧ Ready frozen ∧
      frozen.mlk.frozen = true ∧ Ready strict ∧ strict.mlk.strict = true ∧ Ready bare ∧ bare.mlk.metrologyCode = none ∧
      (Instr.relock 2 5).request? = some (2, 5, 14, []) ∧ (lockState .locked).mlk.operatorCode = some 11 ∧
      (lockState .locked).mlk.metrologyCode = some 22 ∧ 1 < (2 : Byte).toNat ∧ (1 : Byte).toNat ≤ 1 ∧
      65533 < (65534 : BitVec 16).toNat ∧ (65533 : BitVec 16).toNat ≤ 65533 ∧ prepared (lockState .locked) 2 = false ∧
      prepared ready 2 = true ∧ (Quiet ready ∧ EgressWorks ready ∧ Served ready 2 ∧ fromStation ready 2) ∧ ready.blg.taken = 0 ∧
      reservedState.blg.taken ≠ 0 :=
  ⟨fun _ => ready_of _ rfl rfl rfl, ready_of _ rfl rfl rfl, raises_of _ rfl, ready_of _ rfl rfl rfl, rfl,
    ready_of _ rfl rfl rfl, rfl, ready_of _ rfl rfl rfl, rfl, rfl, rfl, rfl, by decide, by decide, by decide, by decide,
    by decide +kernel, by decide +kernel,
    ⟨rfl, fun h => (by cases h), by unfold Served; decide +kernel, by unfold fromStation; decide +kernel⟩, by decide +kernel,
    by decide +kernel⟩

theorem witness_CodeMismatches :
    let last := (lockState .unlocked).modMlk fun k => { k with attempts := 1 }
    Ready (lockState .unlocked) ∧ Ready last ∧ (∀ e, RaisesAlone e last) ∧ last.mlk.attempts = 1 ∧ last.mlk.frozen = false ∧
      (lockState .unlocked).mlk.attempts ≠ 1 ∧ last.mlk.lock ≠ .unprotected ∧ last.mlk.operatorCode ≠ some 99 ∧
      last.mlk.metrologyCode ≠ none ∧ last.mlk.metrologyCode ≠ some 99 ∧ last.mlk.strict = false ∧ last.mlk.lock = .unlocked ∧
      (7 : BitVec 16).toNat ≤ 65533 ∧ prepared (last.modMgu fun g => { g with prepOperator := true }) 2 = true ∧
      last.blg.taken = 0 :=
  ⟨ready_of _ rfl rfl rfl, ready_of _ rfl rfl rfl, raises_of _ rfl, rfl, rfl, by decide, by decide, by decide, by decide, by decide,
    rfl, rfl, by decide, by decide +kernel, by decide +kernel⟩

theorem witness_RestartRequest :
    Ready (berth0 .shore) ∧ ((berth0 .shore).berth 0).state ≠
        (if ((berth0 .shore).entry 0).configured then .dead else .unused) ∧ Ready (berth0 .dead) ∧
      ∀ b, ((berth0 .dead).berth b).state = if ((berth0 .dead).entry b).configured then .dead else .unused :=
  ⟨ready_of _ rfl rfl rfl, by decide +kernel, ready_of _ rfl rfl rfl, by decide +kernel⟩

end Tests
end

section
namespace Sys2Proof.Machine

/-! ### What the link keeps while blocks give it frames (R10, R11, R13, R14) -/

/-- R14: nothing waits behind a free egress. -/
def Lpu.Works (l : Lpu) : Prop :=
  l.sending = none → l.protect = [] ∧ l.commandList = [] ∧ l.control = [] ∧ l.forward = [] ∧ l.reply = []

theorem egressWorks_iff (s : State) : EgressWorks s ↔ s.lpu.Works := Iff.rfl

/-- While egress sends, frames are only added: those of the REPLY queue stay, the commands for the breakers `x` names
stay, and CONTROL gains at most `n` frames at its tail as long as it has room for them. -/
structure Lpu.Queued (x : Target → Prop) (n : Nat) (l l' : Lpu) : Prop where
  sending : l'.sending = l.sending
  seq : l'.seq = l.seq
  sent : l'.counters.sent = l.counters.sent
  nid : l'.nid = l.nid
  reply : ∀ p ∈ l.reply, p ∈ l'.reply
  commands : ∀ c : Bcmd, x c.target → c ∈ l.protect ++ l.commandList → c ∈ l'.protect ++ l'.commandList
  control : l.control.length + n ≤ 24 → ∃ ps, l'.control = l.control ++ ps ∧ ps.length ≤ n

theorem Lpu.Queued.refl (x : Target → Prop) (n : Nat) (l : Lpu) : Lpu.Queued x n l l :=
  ⟨rfl, rfl, rfl, rfl, fun _ h => h, fun _ _ h => h, fun _ => ⟨[], by simp⟩⟩

theorem Lpu.Queued.trans {x : Target → Prop} {n k : Nat} {l₁ l₂ l₃ : Lpu} (h : Lpu.Queued x n l₁ l₂)
    (g : Lpu.Queued x k l₂ l₃) : Lpu.Queued x (n + k) l₁ l₃ where
  sending := g.sending.trans h.sending
  seq := g.seq.trans h.seq
  sent := g.sent.trans h.sent
  nid := g.nid.trans h.nid
  reply p hp := g.reply p (h.reply p hp)
  commands c hc hm := g.commands c hc (h.commands c hc hm)
  control room := by
    obtain ⟨ps, e, hp⟩ := h.control (by omega)
    obtain ⟨qs, e', hq⟩ := g.control (by rw [e, List.length_append]; omega)
    exact ⟨ps ++ qs, by rw [e', e, List.append_assoc], by rw [List.length_append]; omega⟩

/-- What blocks that give the LPU frames, at most `n` of them for CONTROL, leave of it. -/
structure Lpu.Kept (x : Target → Prop) (n : Nat) (l l' : Lpu) : Prop where
  nid : l'.nid = l.nid
  works : l.Works → l'.Works ∧ (l.control.length + n ≤ 24 → l'.control.length ≤ l.control.length + n)
  busy : l.sending ≠ none → Lpu.Queued x n l l'

section
variable {x y : Target → Prop} {n k : Nat} {l l₁ l₂ l₃ : Lpu}

theorem Lpu.Kept.refl (x : Target → Prop) (n : Nat) (l : Lpu) : Lpu.Kept x n l l :=
  ⟨rfl, fun h => ⟨h, fun _ => by omega⟩, fun _ => .refl x n l⟩

theorem Lpu.Kept.trans (h : Lpu.Kept x n l₁ l₂) (g : Lpu.Kept x k l₂ l₃) : Lpu.Kept x (n + k) l₁ l₃ where
  nid := g.nid.trans h.nid
  works w := by
    obtain ⟨w₂, r⟩ := h.works w
    obtain ⟨w₃, r'⟩ := g.works w₂
    exact ⟨w₃, fun room => by have := r (by omega); have := r' (by omega); omega⟩
  busy b := (h.busy b).trans (g.busy (by rw [(h.busy b).sending]; exact b))

theorem Lpu.Kept.mono (h : Lpu.Kept x n l₁ l₂) (hn : n ≤ k) (hx : ∀ t, y t → x t) : Lpu.Kept y k l₁ l₂ where
  nid := h.nid
  works w := ⟨(h.works w).1, fun room => by have := (h.works w).2 (by omega); omega⟩
  busy b :=
    { h.busy b with
      commands := fun c hc => (h.busy b).commands c (hx _ hc)
      control := fun room => by
        obtain ⟨ps, e, hp⟩ := (h.busy b).control (by omega)
        exact ⟨ps, e, by omega⟩ }

/-- Counting a lost frame. -/
theorem Lpu.Kept.count (x : Target → Prop) (n : Nat) (l : Lpu) (c : LinkCounters) (hc : c.sent = l.counters.sent) :
    Lpu.Kept x n l { l with counters := c } :=
  ⟨rfl, fun h => ⟨h, fun _ => by simp⟩, fun _ => { Lpu.Queued.refl x n l with sent := hc }⟩

/-- R14: what egress has begun it goes on sending. -/
theorem Lpu.Queued.begun {d kind flags : Nat} {p : List Byte} (h : Lpu.Queued x n l₁ l₂)
    (b : ∃ l, l₁ = Lpu.begun d kind flags p l) : ∃ l, l₂ = Lpu.begun d kind flags p l := by
  obtain ⟨l, rfl⟩ := b
  refine ⟨{ l₂ with seq := l.seq, counters := { l₂.counters with sent := l.counters.sent } }, ?_⟩
  have h1 := h.sending
  have h2 := h.seq
  have h3 := h.sent
  have h4 := h.nid
  obtain ⟨nid, due, loss, fwd, prot, cmds, ctl, rep, res, seq, snd, c⟩ := l₂
  cases c
  simp_all [Lpu.begun]

/-! ### One frame given -/

/-- R10: a command for another breaker than `x` names enters PROTECT or the command list. -/
theorem Lpu.acceptCmd_queued {c : Bcmd} (hx : ¬ x c.target) (l : Lpu) : Lpu.Queued x 0 l (l.acceptCmd c) := by
  have other : ∀ {c' : Bcmd} {cs : List Bcmd}, x c'.target → c' ∈ cs → c' ∈ replaceCmd c cs := by
    intro c' cs hc' hm
    have ne : c'.target ≠ c.target := fun e => hx (e ▸ hc')
    exact List.mem_map.2 ⟨c', hm, by simp [ne]⟩
  unfold Lpu.acceptCmd
  split
  · exact { Lpu.Queued.refl x 0 l with
      commands := fun c' hc' hm => by simpa using (List.mem_append.1 hm).imp_left (other hc') }
  split
  · exact { Lpu.Queued.refl x 0 l with
      commands := fun c' hc' hm => by simpa using (List.mem_append.1 hm).imp_right (other hc') }
  split
  · exact { Lpu.Queued.refl x 0 l with commands := fun c' _ hm => by simp_all; tauto }
  · exact { Lpu.Queued.refl x 0 l with commands := fun c' _ hm => by simp_all; tauto }

/-- R10: an accepted command stands in PROTECT or the command list. -/
theorem Lpu.mem_acceptCmd (c : Bcmd) (l : Lpu) : c ∈ (l.acceptCmd c).protect ++ (l.acceptCmd c).commandList := by
  have replaced : ∀ {cs : List Bcmd}, hasCmd c.target cs = true → c ∈ replaceCmd c cs := by
    intro cs h
    obtain ⟨c', hm, e⟩ := List.any_eq_true.1 h
    exact List.mem_map.2 ⟨c', hm, by simp_all⟩
  unfold Lpu.acceptCmd
  (repeat' split) <;> simp_all

end

section
variable {x : Target → Prop} {s : State}

/-- R14: what begins or ends no frame of the link's own leaves the NID strap as sampled. -/
theorem beginNext_nid (s : State) : (beginNext s).lpu.nid = s.lpu.nid := by
  unfold beginNext
  (repeat' split) <;> simp [sendProtect, sendControl, sendForward, sendReply, sendOwn_eq, Lpu.begun]

theorem kick_nid (s : State) : (kick s).lpu.nid = s.lpu.nid := by
  unfold kick
  split
  · exact beginNext_nid s
  · rfl

/-- R10, R14: a BCMD for another breaker than `x` names. -/
theorem giveBcmd_kept {c : Bcmd} (hx : ¬ x c.target) (s : State) : Lpu.Kept x 0 s.lpu (giveBcmd c s).lpu := by
  unfold giveBcmd
  split
  · exact .refl x 0 _
  have hn : (s.modLpu (Lpu.acceptCmd c)).lpu.nid = s.lpu.nid := by
    simp only [State.modLpu_lpu, Lpu.acceptCmd]; (repeat' split) <;> rfl
  have hq := Lpu.acceptCmd_queued hx s.lpu
  refine ⟨(kick_nid _).trans hn, fun w => ?_, fun b => ?_⟩
  · cases h : s.lpu.sending with
    | some f =>
      rw [kick_busy (f := f) (by simpa [hq.sending] using h)]
      exact ⟨fun e => by simp [hq.sending, h] at e, fun room => by
        obtain ⟨ps, e, hp⟩ := hq.control room
        simpa [e] using hp⟩
    | none =>
      obtain ⟨h1, h2, h3, h4, h5⟩ := w h
      simp [kick, h, h1, h2, h3, beginNext, sendProtect, sendOwn_eq, State.modLpu, Lpu.acceptCmd, hasCmd, Lpu.begun,
        Lpu.Works]
  · obtain ⟨f, h⟩ := Option.ne_none_iff_exists'.1 b
    rw [kick_busy (f := f) (by simpa [hq.sending] using h)]
    exact hq

/-- R10, R14: a BCMD given while nothing waits behind a free egress. -/
theorem giveBcmd_given {c : Bcmd} (w : EgressWorks s) (o : s.own ≠ none) :
    CommandGiven c (giveBcmd c s) ∧ (giveBcmd c s).lpu.sending ≠ none := by
  unfold giveBcmd
  rw [if_neg (by simpa using o)]
  have hq := Lpu.acceptCmd_queued (x := fun _ => False) (c := c) not_false s.lpu
  cases h : s.lpu.sending with
  | some f =>
    rw [kick_busy (f := f) (by simpa [hq.sending] using h)]
    refine ⟨?_, by simp [hq.sending, h]⟩
    exact (List.mem_append.1 (Lpu.mem_acceptCmd c s.lpu)).elim .inl (.inr ∘ .inl)
  | none =>
    obtain ⟨h1, h2, h3, h4, h5⟩ := w h
    have e : kick (s.modLpu (Lpu.acceptCmd c)) = { s with lpu := s.lpu.begun c.dest kindBcmd 0 c.payload } := by
      cases s
      simp_all [kick, beginNext, sendProtect, sendOwn_eq, State.modLpu, Lpu.acceptCmd, hasCmd, Lpu.begun]
    rw [e]
    exact ⟨.inr (.inr ⟨s.lpu, rfl⟩), by simp [Lpu.begun]⟩

/-- R11, R14: an SHPN. -/
theorem giveShpn_kept (x : Target → Prop) (d : Nat) (body : Notice) (s : State) :
    Lpu.Kept x 1 s.lpu (giveShpn d body s).lpu := by
  have hn : (giveShpn d body s).lpu.nid = s.lpu.nid := by
    unfold giveShpn
    (repeat' split) <;> simp [kick_nid, enterControl, displaceShpn, shpnLost]
  unfold giveShpn at hn ⊢
  split
  · exact .count x 1 _ _ rfl
  cases h : s.lpu.sending with
  | some f =>
    have sent : ∀ u : State, u.lpu.sending = some f → kick u = u := fun u e => kick_busy e
    split
    · rw [sent _ (by simpa [enterControl] using h)]
      exact ⟨rfl, fun w => ⟨fun e => by simp [enterControl, h] at e, fun _ => by simp [enterControl]⟩,
        fun _ => { Lpu.Queued.refl x 1 s.lpu with control := fun _ => ⟨_, rfl, by simp⟩ }⟩
    next full =>
    have noRoom : ¬ s.lpu.control.length + 1 ≤ 24 := by
      have : 24 ≤ s.lpu.control.length := by simpa [Lpu.controlFull] using full
      omega
    split
    · rw [sent _ (by simpa [enterControl, displaceShpn, shpnLost] using h)]
      exact ⟨rfl, fun w => ⟨fun e => by simp [enterControl, displaceShpn, shpnLost, h] at e, fun r => absurd r noRoom⟩,
        fun _ => { Lpu.Queued.refl x 1 s.lpu with control := fun r => absurd r noRoom }⟩
    · exact .count x 1 _ _ rfl
  | none =>
    refine ⟨by simpa [*] using hn, fun w => ?_, fun b => absurd h b⟩
    obtain ⟨h1, h2, h3, h4, h5⟩ := w h
    simp [kick, h, h1, h2, h3, h4, h5, beginNext, takePromoted, sendControl, sendOwn_eq, State.modLpu, Lpu.controlFull,
      enterControl, onControlSent, Lpu.begun, Lpu.Works]

/-- R11, R14: an SHPN given with room in CONTROL while nothing waits behind a free egress. -/
theorem giveShpn_given {d : Nat} {body : Notice} (w : EgressWorks s) (o : s.own ≠ none)
    (room : s.lpu.control.length < 24) :
    NoticeGiven d body (giveShpn d body s) ∧ (giveShpn d body s).lpu.sending ≠ none := by
  unfold giveShpn
  rw [if_neg (by simpa using o), if_pos (by simpa [Lpu.controlFull] using room)]
  cases h : s.lpu.sending with
  | some f =>
    rw [kick_busy (f := f) (by simpa [enterControl] using h)]
    exact ⟨.inl (by simp [enterControl]), by simp [enterControl, h]⟩
  | none =>
    obtain ⟨h1, h2, h3, h4, h5⟩ := w h
    have e : kick (enterControl (.shpn d body) s) = { s with
        lpu := Lpu.begun (ControlFrame.shpn d body).parts.1 (ControlFrame.shpn d body).parts.2.1 0
          (ControlFrame.shpn d body).parts.2.2 s.lpu } := by
      cases s
      simp_all [kick, beginNext, takePromoted, sendControl, sendOwn_eq, State.modLpu, enterControl, onControlSent,
        Lpu.begun]
    rw [e]
    exact ⟨.inr ⟨s.lpu, rfl⟩, by simp [Lpu.begun]⟩

/-- R13, R14: a frame enters the REPLY queue. -/
theorem enterReply_kept (x : Target → Prop) (f : ReplyFrame) (r : Bool) (s : State) :
    Lpu.Kept x 0 s.lpu (enterReply f r s).lpu := by
  unfold enterReply
  refine ⟨kick_nid _, fun w => ?_, fun b => ?_⟩
  · cases h : s.lpu.sending with
    | some g =>
      rw [kick_busy (f := g) (by simpa using h)]
      exact ⟨fun e => by simp [h] at e, fun _ => by simp⟩
    | none =>
      obtain ⟨h1, h2, h3, h4, h5⟩ := w h
      simp [kick, h, h1, h2, h3, h4, h5, beginNext, takePromoted, sendReply, sendOwn_eq, State.modLpu, Lpu.begun,
        Lpu.Works]
  · obtain ⟨g, h⟩ := Option.ne_none_iff_exists'.1 b
    rw [kick_busy (f := g) (by simpa using h)]
    exact { Lpu.Queued.refl x 0 s.lpu with reply := fun p hp => by simp [hp] }

/-- R1, R13: a NOTE. -/
theorem giveNote_kept (x : Target → Prop) (f : ReplyFrame) (s : State) :
    Lpu.Kept x 0 s.lpu (giveNote f s).lpu := by
  unfold giveNote
  split
  · exact .count x 0 _ _ rfl
  · exact enterReply_kept x f false s

end
end Sys2Proof.Machine

end

section
namespace Sys2Proof.Machine

/-! ### What egress touches outside the LPU (R36, R65) -/

/-- Nothing but the LPU, the open poll and the module reference records differ. -/
def Sends (s t : State) : Prop :=
  ∃ l p ms, t = { s with lpu := l, mpm := { s.mpm with poll := p }, rfg := { s.rfg with modules := ms } }

theorem Sends.refl (s : State) : Sends s s := ⟨s.lpu, s.mpm.poll, s.rfg.modules, rfl⟩

theorem Sends.trans {s t u : State} (h : Sends s t) (g : Sends t u) : Sends s u := by
  obtain ⟨l, p, ms, rfl⟩ := h
  obtain ⟨l', p', ms', rfl⟩ := g
  exact ⟨l', p', ms', rfl⟩

theorem Sends.modLpu (g : Lpu → Lpu) (s : State) : Sends s (s.modLpu g) := ⟨_, _, _, rfl⟩

theorem onControlSent_sends (f : ControlFrame) (s : State) : Sends s (onControlSent f s) := by
  cases f with
  | setp f => exact ⟨s.lpu, s.mpm.poll, _, rfl⟩
  | poll d m n => exact ⟨s.lpu, _, s.rfg.modules, rfl⟩
  | shpn d b => exact .refl s

theorem sendControl_sends (p : ControlPlace) (rest : List ControlPlace) (s : State) :
    Sends s (sendControl p rest s) :=
  ((Sends.modLpu _ s).trans (Sends.modLpu _ _)).trans (onControlSent_sends _ _)

theorem beginNext_sends (s : State) : Sends s (beginNext s) := by
  unfold beginNext
  split
  · exact ⟨_, s.mpm.poll, s.rfg.modules, rfl⟩
  split
  · exact sendControl_sends _ _ s
  split
  · exact Sends.modLpu _ s
  split
  · exact sendControl_sends _ _ s
  split
  · exact ⟨_, s.mpm.poll, s.rfg.modules, rfl⟩
  · exact .refl s

theorem kick_sends (s : State) : Sends s (kick s) := by
  unfold kick
  split
  · exact beginNext_sends s
  · exact .refl s

theorem command_sends (cmd : BreakerCmd) (t : Target) (s : State) : Sends s (command cmd t s) := by
  unfold command giveBcmd
  split
  · exact .refl s
  · exact (Sends.modLpu _ s).trans (kick_sends _)

theorem giveShpn_sends (d : Nat) (body : Notice) (s : State) : Sends s (giveShpn d body s) := by
  have lost : Sends s (shpnLost s) := ⟨_, s.mpm.poll, s.rfg.modules, rfl⟩
  unfold giveShpn
  split
  · exact lost
  split
  · exact (Sends.modLpu _ s).trans (kick_sends _)
  split
  · exact ((Sends.modLpu _ s).trans (Sends.modLpu _ _)).trans ((Sends.modLpu _ _).trans (kick_sends _))
  · exact lost

theorem enterReply_sends (f : ReplyFrame) (r : Bool) (s : State) : Sends s (enterReply f r s) :=
  (Sends.modLpu _ s).trans (kick_sends _)

theorem giveNote_sends (f : ReplyFrame) (s : State) : Sends s (giveNote f s) := by
  unfold giveNote
  split
  · exact Sends.modLpu _ s
  · exact enterReply_sends f false s

/-! ### What SYU holds for a breaker (R74, R90) -/

theorem Syu.busy_eq_false {y : Syu} {t : Target} :
    y.busy t = false ↔ (∀ r ∈ y.queue, r.target ≠ t) ∧ (∀ (c : Chan) w, y.chans[c] = some w → w.req.target ≠ t) ∧
      ∀ d ∈ y.deadBus, d.target ≠ t := by
  have chans : y.inChannel t = false ↔ ∀ (c : Chan) w, y.chans[c] = some w → w.req.target ≠ t := by
    simp only [Syu.inChannel, allChans, Syu.holds, List.any_cons, List.any_nil, Bool.or_false, Bool.or_eq_false_iff,
      Option.any_eq_false, decide_eq_false_iff_not, ne_eq, Fin.forall_fin_two]
  simp only [Syu.busy, Bool.or_eq_false_iff, chans, Syu.queued, Syu.deadPending, List.any_eq_false, decide_eq_true_eq,
    and_assoc]

/-- SYU has taken up nothing for breaker `t`. -/
def Syu.Spares (t : Target) (y y' : Syu) : Prop := y.busy t = false → y'.busy t = false

theorem Syu.Spares.idleChan {t : Target} (c : Chan) (y : Syu) :
    y.Spares t { y with chans := upd y.chans c fun _ => none } := by
  intro h
  obtain ⟨hq, hc, hd⟩ := Syu.busy_eq_false.1 h
  refine Syu.busy_eq_false.2 ⟨hq, fun d w e => hc d w ?_, hd⟩
  by_cases hcd : c = d
  · subst hcd; simp at e
  · simpa [upd_other _ _ hcd] using e

theorem Syu.Spares.queueFilter {t : Target} (p : SyncReq → Bool) (y : Syu) :
    y.Spares t { y with queue := y.queue.filter p } := by
  intro h
  obtain ⟨hq, hc, hd⟩ := Syu.busy_eq_false.1 h
  exact Syu.busy_eq_false.2 ⟨fun r hr => hq r (List.mem_filter.1 hr).1, hc, hd⟩

theorem Syu.Spares.deadFilter {t : Target} (p : DeadClose → Bool) (y : Syu) :
    y.Spares t { y with deadBus := y.deadBus.filter p } := by
  intro h
  obtain ⟨hq, hc, hd⟩ := Syu.busy_eq_false.1 h
  exact Syu.busy_eq_false.2 ⟨hq, hc, fun d hm => hd d (List.mem_filter.1 hm).1⟩

theorem Syu.Spares.queueAppend {t : Target} {r : SyncReq} (hr : r.target ≠ t) (y : Syu) :
    y.Spares t { y with queue := y.queue ++ [r] } := by
  intro h
  obtain ⟨hq, hc, hd⟩ := Syu.busy_eq_false.1 h
  refine Syu.busy_eq_false.2 ⟨fun r' hm => ?_, hc, hd⟩
  obtain hm | hm := List.mem_append.1 hm
  · exact hq r' hm
  · rw [List.mem_singleton.1 hm]; exact hr

theorem Syu.Spares.deadAppend {t : Target} {d : DeadClose} (ht : d.target ≠ t) (y : Syu) :
    y.Spares t { y with deadBus := y.deadBus ++ [d] } := by
  intro h
  obtain ⟨hq, hc, hd⟩ := Syu.busy_eq_false.1 h
  refine Syu.busy_eq_false.2 ⟨hq, hc, fun d' hm => ?_⟩
  obtain hm | hm := List.mem_append.1 hm
  · exact hd d' hm
  · rw [List.mem_singleton.1 hm]; exact ht

/-- R76: a channel takes only what stood in the queue. -/
theorem fillChannel_spares (t : Target) (c : Chan) (s : State) : s.syu.Spares t (fillChannel c s).syu := by
  unfold fillChannel
  split
  next req rest _ hqueue =>
    intro h
    obtain ⟨hq, hc, hd⟩ := Syu.busy_eq_false.1 h
    refine Syu.busy_eq_false.2 ⟨fun r hr => hq r (by rw [hqueue]; exact List.mem_cons_of_mem _ hr), fun d w e => ?_, hd⟩
    by_cases hcd : c = d
    · subst hcd
      have : w.req = req := by
        simp only [State.modSyu_syu, Fin.getElem_fin, upd_self, Option.some.injEq] at e
        rw [← e]; rfl
      rw [this]
      exact hq req (by rw [hqueue]; exact List.mem_cons_self)
    · exact hc d w (by simpa [upd_other _ _ hcd] using e)
  · exact id

end Sys2Proof.Machine

end

section
namespace Sys2Proof.Machine

/-! ### One record after a change of a record -/

section
variable (s : State)

@[simp] theorem State.berth_modBerth (b : Berth) (g : BerthRec → BerthRec) : (s.modBerth b g).berth b = g (s.berth b) :=
  upd_self s.bsq.recs b g

theorem State.berth_modBerth_other {b c : Berth} (h : c ≠ b) (g : BerthRec → BerthRec) :
    (s.modBerth c g).berth b = s.berth b :=
  upd_other s.bsq.recs g h

theorem State.modu_modModule (m : Module) (g : ModuleRec → ModuleRec) : (s.modModule m g).modu m = g (s.modu m) :=
  upd_self s.mpm.recs m g

theorem State.modu_modModule_other {m k : Module} (h : m ≠ k) (g : ModuleRec → ModuleRec) :
    (s.modModule m g).modu k = s.modu k :=
  upd_other s.mpm.recs g h

theorem State.berthRef_modBerthRef (b : Berth) (g : BerthRef → BerthRef) :
    (s.modBerthRef b g).berthRef b = (s.berthRef b).map g :=
  upd_self s.rfg.berths b (Option.map g)

theorem State.berthRef_modBerthRef_other {b c : Berth} (h : c ≠ b) (g : BerthRef → BerthRef) :
    (s.modBerthRef c g).berthRef b = s.berthRef b :=
  upd_other s.rfg.berths (Option.map g) h

theorem State.slot_modSlot (b : Berth) (g : Slot → Slot) : (s.modSlot b g).slot b = g (s.slot b) :=
  upd_self s.blg.slots b g

theorem State.slot_modSlot_other {b c : Berth} (h : c ≠ b) (g : Slot → Slot) : (s.modSlot c g).slot b = s.slot b :=
  upd_other s.blg.slots g h

theorem State.event_modEntry (e : EventIx) (g : EventEntry → EventEntry) :
    (s.modEntry e g).event e = g (s.event e) :=
  upd_self s.evr.entries e g

theorem State.event_modEntry_other {e f : EventIx} (h : e ≠ f) (g : EventEntry → EventEntry) :
    (s.modEntry e g).event f = s.event f :=
  upd_other s.evr.entries g h

theorem driveOutputs_get (b : Berth) : (driveOutputs s).evr.outputs[b] = ((s.berth b).demand || s.pins.estop) := by
  simp [driveOutputs, State.berth]

end

/-! ### Hand-offs -/

/-- A hand-off that neither blocks a module nor brings one into service. -/
def Handoff.Mild : Handoff → Prop
  | .raise e => ∀ m k, eventFamily e ≠ .module m k
  | .contactorResult _ r => r = .cancelled
  | .contactorOutcome .. | .pollSkipped .. => False
  | .summary _ | .firstFailure _ | .listEmpty _ | .outletResult _ _ | .outletOutcome _ _ | .energised _
  | .serveChannels => True

/-- A hand-off that a cancellation gives (R90). -/
def Handoff.Cancels (h : Handoff) : Prop :=
  (∃ b, h = .outletResult b .cancelled) ∨ (∃ m, h = .contactorResult m .cancelled) ∨ h = .serveChannels

theorem Handoff.Cancels.mild {h : Handoff} (c : h.Cancels) : h.Mild := by
  obtain ⟨b, rfl⟩ | ⟨m, rfl⟩ | rfl := c
  · trivial
  · rfl
  · trivial

theorem eventFamily_berthEvent (b : Berth) (k : Fin 14) : eventFamily (berthEvent b k) = .berth b k := by
  have lt : 14 * b.val + k.val < 56 := by omega
  have hd : (14 * b.val + k.val) / 14 = b.val := by omega
  have hm : (14 * b.val + k.val) % 14 = k.val := by omega
  simp [eventFamily, berthEvent, lt, hd, hm]

/-- An event of a berth is no module's. -/
theorem mild_berthEvent (b : Berth) (k : Fin 14) : (Handoff.raise (berthEvent b k)).Mild := by
  intro m j
  rw [eventFamily_berthEvent]
  exact EventFamily.noConfusion

theorem mild_logFull : (Handoff.raise evLogFull).Mild := by
  intro m j
  rw [show eventFamily evLogFull = .single from rfl]
  exact EventFamily.noConfusion

theorem outlet_injective : Function.Injective outlet := fun _ _ h => Fin.ext (congrArg (·.val) h)

theorem contactor_ne_outlet (m : Module) (b : Berth) : contactor m ≠ outlet b := by
  intro h
  have : 4 + m.val = b.val := congrArg (·.val) h
  omega

theorem targetKind_outlet (b : Berth) : targetKind (outlet b) = .inl b := by
  simp [targetKind, outlet]

/-! ### Work that is done aside from one berth -/

/-- What work at other berths, at the modules and at the shared blocks leaves of berth `b`: its record but for what is
handed it, its power set, its slot, what SYU and the link hold for its outlet; the lists, and modules taken only out of
service; the log and the event table but for what is added. The work gives at most `n` SHPN, and hands over only what
satisfies `P`. -/
structure Aside (b : Berth) (n : Nat) (P : Handoff → Prop) (s t : State) : Prop where
  handed : ∃ hs, t.handoffs = s.handoffs ++ hs ∧ ∀ h ∈ hs, P h
  link : Lpu.Kept (· = outlet b) n s.lpu t.lpu
  berth : ∃ v h rt, t.berth b = { s.berth b with summary := v, eventHold := h, rampTimer := rt } ∧
    ((s.berth b).rampTimer = .stopped → rt = .stopped)
  ref : ∀ r', t.berthRef b = some r' → ∃ r, s.berthRef b = some r ∧ r'.pSet = r.pSet
  slot : t.slot b = s.slot b
  log : s.blg.log <+: t.blg.log
  lists : t.mpm.lists = s.mpm.lists
  modules : ∀ m, (t.modu m).state = (s.modu m).state ∨ (t.modu m).state = .stopping
  idle : s.syu.Spares (outlet b) t.syu
  outputs : (s.berth b).demand = true → s.evr.outputs[b] = true → t.evr.outputs[b] = true
  raw : ∀ e, (s.event e).raw = true → (t.event e).raw = true
  entries : ∀ e, (t.event e).enabled = (s.event e).enabled ∧ (t.event e).action = (s.event e).action

section
variable {b : Berth} {n k : Nat} {P Q : Handoff → Prop} {s t u : State}

theorem Aside.refl (b : Berth) (n : Nat) (P : Handoff → Prop) (s : State) : Aside b n P s s where
  handed := ⟨[], by simp⟩
  link := .refl _ n _
  berth := ⟨(s.berth b).summary, (s.berth b).eventHold, (s.berth b).rampTimer, rfl, id⟩
  ref r h := ⟨r, h, rfl⟩
  slot := rfl
  log := List.prefix_rfl
  lists := rfl
  modules _ := .inl rfl
  idle := id
  outputs _ h := h
  raw _ h := h
  entries _ := ⟨rfl, rfl⟩

/-- Work aside from a berth keeps its trip demand. -/
theorem Aside.demand (h : Aside b n P s t) : (t.berth b).demand = (s.berth b).demand := by
  obtain ⟨v, e, rt, hb, -⟩ := h.berth
  rw [hb]

/-- Work aside from a berth keeps its state. -/
theorem Aside.state (h : Aside b n P s t) : (t.berth b).state = (s.berth b).state := by
  obtain ⟨v, e, rt, hb, -⟩ := h.berth
  rw [hb]

theorem Aside.list (h : Aside b n P s t) (c : Berth) : t.list c = s.list c := by
  unfold State.list
  rw [h.lists]

theorem Aside.trans (h : Aside b n P s t) (g : Aside b k P t u) : Aside b (n + k) P s u where
  handed := by
    obtain ⟨hs, e, hp⟩ := h.handed
    obtain ⟨gs, e', gp⟩ := g.handed
    refine ⟨hs ++ gs, by rw [e', e, List.append_assoc], fun x hx => ?_⟩
    exact (List.mem_append.1 hx).elim (hp x) (gp x)
  link := h.link.trans g.link
  berth := by
    obtain ⟨v, a, rt, e, hr⟩ := h.berth
    obtain ⟨v', a', rt', e', gr⟩ := g.berth
    exact ⟨v', a', rt', by rw [e', e], fun hs => gr (by rw [e]; exact hr hs)⟩
  ref r hr := by
    obtain ⟨r', hr', e⟩ := g.ref r hr
    obtain ⟨r'', hr'', e'⟩ := h.ref r' hr'
    exact ⟨r'', hr'', e.trans e'⟩
  slot := g.slot.trans h.slot
  log := h.log.trans g.log
  lists := g.lists.trans h.lists
  modules m := (g.modules m).elim (fun e => (h.modules m).imp e.trans e.trans) .inr
  idle := g.idle ∘ h.idle
  outputs d o := g.outputs (h.demand.trans d) (h.outputs d o)
  raw e r := g.raw e (h.raw e r)
  entries e := ⟨(g.entries e).1.trans (h.entries e).1, (g.entries e).2.trans (h.entries e).2⟩

theorem Aside.mono (h : Aside b n P s t) (hn : n ≤ k) (hP : ∀ x, P x → Q x) : Aside b k Q s t :=
  { h with
    handed := by
      obtain ⟨hs, e, hp⟩ := h.handed
      exact ⟨hs, e, fun x hx => hP x (hp x hx)⟩
    link := h.link.mono hn fun _ => id }

/-- Work of the same kind over a list, each piece on the lists as they were. -/
theorem Aside.foldl {α : Type} {f : State → α → State} (xs : List α)
    (h : ∀ x ∈ xs, ∀ t, t.mpm.lists = s.mpm.lists → Aside b n P t (f t x)) :
    Aside b (n * xs.length) P s (xs.foldl f s) := by
  induction xs generalizing s with
  | nil => exact .refl b _ P s
  | cons x xs ih =>
    have first := h x List.mem_cons_self s rfl
    have rest := ih (s := f s x) fun y hy t ht => h y (List.mem_cons_of_mem _ hy) t (ht.trans first.lists)
    exact (first.trans rest).mono (by rw [List.length_cons, Nat.mul_succ]; omega) fun _ => id

/-! ### The operations, done aside from a berth -/

theorem Sends.aside (h : Sends s t) (hl : Lpu.Kept (· = outlet b) n s.lpu t.lpu) : Aside b n P s t := by
  obtain ⟨l, p, ms, rfl⟩ := h
  exact { Aside.refl b n P s with link := hl }

/-- A command for another breaker. -/
theorem command_aside (cmd : BreakerCmd) {t : Target} (ht : t ≠ outlet b) (s : State) :
    Aside b 0 P s (command cmd t s) :=
  (command_sends cmd t s).aside (giveBcmd_kept ht s)

theorem giveShpn_aside (d : Nat) (body : Notice) (s : State) : Aside b 1 P s (giveShpn d body s) :=
  (giveShpn_sends d body s).aside (giveShpn_kept _ d body s)

theorem giveNote_aside (f : ReplyFrame) (s : State) : Aside b 0 P s (giveNote f s) :=
  (giveNote_sends f s).aside (giveNote_kept _ f s)

theorem post_aside {h : Handoff} (hp : P h) (s : State) : Aside b 0 P s (s.post h) :=
  { Aside.refl b 0 P s with handed := ⟨[h], rfl, by simpa using hp⟩ }

theorem modMtr_aside (g : Mtr → Mtr) (s : State) : Aside b 0 P s (s.modMtr g) := { Aside.refl b 0 P s with }

theorem modSyu_aside {g : Syu → Syu} (h : s.syu.Spares (outlet b) (g s.syu)) : Aside b 0 P s (s.modSyu g) :=
  { Aside.refl b 0 P s with idle := h }

theorem modModuleRef_aside (m : Module) (g : ModuleRef → ModuleRef) (s : State) :
    Aside b 0 P s (s.modModuleRef m g) := { Aside.refl b 0 P s with }

theorem modBerth_aside {c : Berth} (h : c ≠ b) (g : BerthRec → BerthRec) (s : State) : Aside b 0 P s (s.modBerth c g) :=
  { Aside.refl b 0 P s with
    berth := ⟨(s.berth b).summary, (s.berth b).eventHold, (s.berth b).rampTimer, s.berth_modBerth_other h g, id⟩ }

theorem modBerthRef_aside {c : Berth} {g : BerthRef → BerthRef} (h : c ≠ b ∨ ∀ r, (g r).pSet = r.pSet) (s : State) :
    Aside b 0 P s (s.modBerthRef c g) :=
  { Aside.refl b 0 P s with
    ref := fun r' hr => by
      by_cases e : c = b
      · subst e
        rw [s.berthRef_modBerthRef, Option.map_eq_some_iff] at hr
        obtain ⟨r, hr, rfl⟩ := hr
        exact ⟨r, hr, (h.resolve_left (not_not.2 rfl)) r⟩
      · exact ⟨r', by rwa [s.berthRef_modBerthRef_other e] at hr, rfl⟩ }

theorem discardRef_aside {c : Berth} (h : c ≠ b) (s : State) : Aside b 0 P s (discardRef c s) :=
  { Aside.refl b 0 P s with
    ref := fun r' hr => ⟨r', by rw [← hr]; exact (upd_other s.rfg.berths _ h).symm, rfl⟩ }

theorem modSlot_aside {c : Berth} (h : c ≠ b) (g : Slot → Slot) (s : State) : Aside b 0 P s (s.modSlot c g) :=
  { Aside.refl b 0 P s with slot := s.slot_modSlot_other h g }

/-- A module is taken out of service. -/
theorem modModule_aside (m : Module) {g : ModuleRec → ModuleRec} (h : ∀ r, (g r).state = .stopping) (s : State) :
    Aside b 0 P s (s.modModule m g) :=
  { Aside.refl b 0 P s with
    modules := fun x => by
      by_cases e : m = x
      · subst e; right; rw [s.modu_modModule]; exact h _
      · left; rw [s.modu_modModule_other e] }

theorem dropBerthPair_aside (c : Berth) (s : State) : Aside b 0 P s (dropBerthPair c s) :=
  modBerthRef_aside (g := fun r => { r with pair := none }) (.inr fun _ => rfl) s

theorem driveOutputs_aside (s : State) : Aside b 0 P s (driveOutputs s) :=
  { Aside.refl b 0 P s with outputs := fun d _ => by rw [driveOutputs_get, d]; rfl }

end

end Sys2Proof.Machine

end

section
namespace Sys2Proof.Machine

section
variable {b : Berth} {n k : Nat} {P Q : Handoff → Prop}

/-! ### SYU aside from a berth -/

theorem releasePair_aside (t : Target) (s : State) : Aside b 0 P s (releasePair t s) := by
  unfold releasePair
  split
  · exact dropBerthPair_aside _ s
  · exact modModuleRef_aside _ _ s

theorem giveResult_aside {t : Target} {r : SyncResult} (ho : ∀ o, targetKind t = .inl o → P (.outletResult o r))
    (hm : ∀ m, targetKind t = .inr m → P (.contactorResult m r)) (s : State) : Aside b 0 P s (giveResult t r s) := by
  unfold giveResult
  split
  next o h => exact post_aside (ho o h) s
  next m h => exact post_aside (hm m h) s

/-- R90: a request ends cancelled. -/
theorem endCancelled_aside (req : SyncReq) (s : State) :
    Aside b 0 Handoff.Cancels s (endRequest req .cancelled s) :=
  (releasePair_aside _ s).trans
    (giveResult_aside (fun o _ => .inl ⟨o, rfl⟩) (fun m _ => .inr (.inl ⟨m, rfl⟩)) _)

theorem idleChannel_aside (c : Chan) (s : State) : Aside b 0 Handoff.Cancels s (idleChannel c s) :=
  (modSyu_aside (Syu.Spares.idleChan c s.syu)).trans (post_aside (.inr (.inr rfl)) _)

theorem cancelQueued_aside (t : Target) (s : State) : Aside b 0 Handoff.Cancels s (cancelQueued t s) := by
  unfold cancelQueued
  split
  · exact .refl b 0 _ s
  · exact (modSyu_aside (Syu.Spares.queueFilter _ s.syu)).trans (endCancelled_aside _ _)

theorem cancelChannel_aside {t : Target} (ht : t ≠ outlet b) (c : Chan) (s : State) :
    Aside b 0 Handoff.Cancels s (cancelChannel t c s) := by
  have opened : ∀ (w : ChanWork), Aside b 0 Handoff.Cancels s (if w.phase = .closing then command .openCmd t s else s) := by
    intro w
    split
    · exact command_aside _ ht s
    · exact .refl b 0 _ s
  unfold cancelChannel
  split
  · exact .refl b 0 _ s
  split
  · exact ((opened _).trans (endCancelled_aside _ _)).trans (idleChannel_aside c _)
  · exact .refl b 0 _ s

theorem cancelDeadClose_aside {t : Target} (ht : t ≠ outlet b) (s : State) :
    Aside b 0 P s (cancelDeadClose t s) := by
  unfold cancelDeadClose
  split
  · exact (command_aside _ ht s).trans (modSyu_aside (Syu.Spares.deadFilter _ _))
  · exact .refl b 0 _ s

/-- R90: the cancellation for another breaker. -/
theorem cancelSync_aside {t : Target} (ht : t ≠ outlet b) (s : State) :
    Aside b 0 Handoff.Cancels s (cancelSync t s) :=
  (((cancelQueued_aside t s).trans (cancelChannel_aside ht 0 _)).trans (cancelChannel_aside ht 1 _)).trans
    (cancelDeadClose_aside ht _)

/-- R74: a request for the outlet of another berth. -/
theorem requestSync_aside {c : Berth} (hc : c ≠ b) (q : Requester) (s : State) :
    Aside b 0 Handoff.Mild s (requestSync (outlet c) c q s) := by
  have ht : outlet c ≠ outlet b := fun e => hc (outlet_injective e)
  unfold requestSync
  split
  · exact .refl b 0 _ s
  split
  · refine ((post_aside (mild_berthEvent c 2) s).trans (releasePair_aside _ _)).trans (giveResult_aside ?_ ?_ _)
    · exact fun _ _ => trivial
    · intro m hm
      exact nomatch hm.symm.trans (targetKind_outlet c)
  · exact (modSyu_aside (Syu.Spares.queueAppend ht s.syu)).trans (post_aside trivial _)

/-- R88: a dead-bus request for the outlet of another berth. -/
theorem requestDeadBus_aside {c : Berth} (hc : c ≠ b) (q : Requester) (s : State) :
    Aside b 0 Handoff.Mild s (requestDeadBus (outlet c) c q s) := by
  have ht : outlet c ≠ outlet b := fun e => hc (outlet_injective e)
  unfold requestDeadBus
  split
  · exact (command_aside _ ht s).trans (modSyu_aside (Syu.Spares.deadAppend ht _))
  · unfold giveOutcome
    rw [targetKind_outlet]
    exact post_aside trivial s

theorem fillChannels_aside (s : State) : Aside b 0 P s (fillChannels s) := by
  have fill : ∀ (c : Chan) (s : State), Aside b 0 P s (fillChannel c s) := by
    intro c s
    have spares := fillChannel_spares (outlet b) c s
    unfold fillChannel at spares ⊢
    split
    next h1 h2 =>
      rw [h1, h2] at spares
      exact modSyu_aside spares
    · exact .refl b 0 _ s
  exact (fill 0 s).trans (fill 1 _)

theorem serveChannelsTaken_aside (s : State) : Aside b 0 Handoff.Cancels s (serveChannelsTaken s) := by
  unfold serveChannelsTaken
  split
  · exact fillChannels_aside s
  split
  · exact .refl b 0 _ s
  · exact post_aside (.inr (.inr rfl)) s

/-! ### Modules released aside from a berth -/

/-- A hand-off that the release of the modules `ms` gives: a cancellation's, or the summary of a berth that lists one of
them (R46, R53). -/
def Handoff.OfRelease (lists : Vector (List Module) 4) (ms : List Module) (h : Handoff) : Prop :=
  h.Cancels ∨ ∃ c : Berth, (∃ m ∈ ms, m ∈ lists[c]) ∧ h = .summary c

theorem Handoff.OfRelease.mild {lists : Vector (List Module) 4} {ms : List Module} {h : Handoff}
    (r : h.OfRelease lists ms) : h.Mild := by
  obtain r | ⟨c, -, rfl⟩ := r
  · exact r.mild
  · trivial

theorem berthOfModule_mem {s : State} {m : Module} {c : Berth} (h : s.berthOfModule m = some c) : m ∈ s.list c := by
  have := List.find?_some h
  simpa using this

/-- The states of a module in service. -/
def ModuleState.serving : ModuleState → Bool
  | .starting | .syncing | .online => true
  | .absent | .standby | .stopping | .lost | .blocked => false

/-- R46: a module record once its module is released at `now`, with `ms` to stop in. -/
def ModuleRec.stopping (now ms : Nat) (r : ModuleRec) : ModuleRec :=
  { r with
    state := .stopping
    deferred := false
    startDue := none
    stopDue := some (now + ms)
    offSeen := false
    openSeen := false
    openNoted := now }

/-- R46: module `m` enters STOPPING, its own target is discarded, what SYU holds for its contactor is cancelled and the
contactor is commanded OPEN. -/
def stopModule (m : Module) (s : State) : State :=
  command .openCmd (contactor m) (cancelSync (contactor m) (dropModulePair m
    (s.modModule m (ModuleRec.stopping s.now (s.mpm.table[m].stopLimit * 1000)))))

/-- R46: a module out of service is not released. -/
theorem release_idle {m : Module} {s : State} (h : (s.modu m).state.serving = false) : release m s = s := by
  unfold release
  cases e : (s.modu m).state <;> simp_all [ModuleState.serving]

/-- R46: the release of a module in service, with the summary of the berth that lists it. -/
theorem release_serving {m : Module} {s : State} (h : (s.modu m).state.serving = true) :
    release m s = stopModule m s ∨ ∃ c, m ∈ s.list c ∧ release m s = tellSummary c (stopModule m s) := by
  have berth : ∀ {x : Option Berth}, s.berthOfModule m = x → (x = none ∨ ∃ c, x = some c ∧ m ∈ s.list c) := by
    rintro (_ | c) hc
    · exact .inl rfl
    · exact .inr ⟨c, rfl, berthOfModule_mem hc⟩
  unfold release
  obtain e | ⟨c, e, hc⟩ := berth rfl
  · left
    cases h' : (s.modu m).state <;> simp_all [ModuleState.serving] <;> rfl
  · right
    refine ⟨c, hc, ?_⟩
    cases h' : (s.modu m).state <;> simp_all [ModuleState.serving] <;> rfl

theorem stopModule_aside (m : Module) (s : State) : Aside b 0 Handoff.Cancels s (stopModule m s) :=
  (((modModule_aside m (fun _ => rfl) s).trans (modModuleRef_aside m _ _)).trans
    (cancelSync_aside (contactor_ne_outlet m b) _)).trans (command_aside _ (contactor_ne_outlet m b) _)

/-- R46: what the release of a module leaves. -/
theorem release_aside (m : Module) (s : State) :
    Aside b 0 (Handoff.OfRelease s.mpm.lists [m]) s (release m s) := by
  have stopped : Aside b 0 (Handoff.OfRelease s.mpm.lists [m]) s (stopModule m s) :=
    (stopModule_aside m s).mono le_rfl fun _ => .inl
  cases h : (s.modu m).state.serving with
  | false => rw [release_idle h]; exact .refl b 0 _ s
  | true =>
    obtain e | ⟨c, hc, e⟩ := release_serving h
    · rw [e]; exact stopped
    · rw [e]; exact stopped.trans (post_aside (.inr ⟨c, ⟨m, List.mem_singleton_self m, hc⟩, rfl⟩) _)

/-- R46: the release of the modules of a berth's list. -/
theorem releaseBerth_aside (c : Berth) (s : State) :
    Aside b 0 (Handoff.OfRelease s.mpm.lists (s.list c)) s (releaseBerth c s) := by
  refine (Aside.foldl (n := 0) (s.list c) fun m hm t ht => ?_).mono (by simp) fun _ => id
  refine (release_aside m t).mono le_rfl fun h => ?_
  rw [ht]
  rintro (h | ⟨d, ⟨x, hx, hd⟩, rfl⟩)
  · exact .inl h
  · exact .inr ⟨d, ⟨m, hm, List.mem_singleton.1 hx ▸ hd⟩, rfl⟩

/-! ### Billing aside from a berth -/

theorem evalLogFull_aside (hP : P (.raise evLogFull)) (s : State) : Aside b 0 P s (evalLogFull s) := by
  have flag : ∀ v, Aside b 0 P s (s.modBlg fun g => { g with logFull := v }) :=
    fun _ => { Aside.refl b 0 P s with }
  unfold evalLogFull
  split
  · exact (flag true).trans (post_aside hP _)
  · exact flag false

theorem freeSlot_aside {c : Berth} (hc : c ≠ b) (hP : P (.raise evLogFull)) (s : State) :
    Aside b 0 P s (freeSlot c s) := by
  unfold freeSlot
  split
  · exact (modSlot_aside hc _ s).trans (evalLogFull_aside hP _)
  · exact .refl b 0 _ s

theorem closeSession_aside {c : Berth} (hc : c ≠ b) (hP : P (.raise evLogFull)) (reason : EndReason) (s : State) :
    Aside b 0 P s (closeSession c reason s) := by
  have logged : ∀ (t : State) (r : Session), Aside b 0 P t
      (t.modBlg fun g => { g with log := g.log ++ [r], counter := g.counter + 1 }) :=
    fun t r => { Aside.refl b 0 P t with log := List.prefix_append _ _ }
  have unbound : ∀ (t : State) (i : Fin 4), Aside b 0 P t (unbindSet i t) := fun t i => { Aside.refl b 0 P t with }
  unfold closeSession
  split
  · exact ((((modMtr_aside _ s).trans (logged _ _)).trans (modSlot_aside hc _ _)).trans (unbound _ _)).trans
      (evalLogFull_aside hP _)
  · exact .refl b 0 _ s

theorem openSession_aside {c : Berth} (hc : c ≠ b) (s : State) : Aside b 0 P s (openSession c s) := by
  have bound : ∀ (t : State) (i : Fin 4), Aside b 0 P t (bindSet i t) := fun t i => { Aside.refl b 0 P t with }
  unfold openSession
  split
  · exact ((modSlot_aside hc _ s).trans (bound _ _)).trans (modMtr_aside _ _)
  · exact .refl b 0 _ s

/-! ### Another berth changes state -/

theorem watchBegin_aside {c : Berth} {side : Side} (hP : P (.raise (staleEvent c side))) (s : State) :
    Aside b 0 P s (watchBegin c side s) := by
  have set : ∀ v, Aside b 0 P s (setStaleCond c side v s) := by
    intro v
    cases side <;> exact { Aside.refl b 0 P s with }
  unfold watchBegin
  split
  · exact (set _).trans (post_aside hP _)
  · exact .refl b 0 _ s

/-- A berth that enters the watched states may raise its staleness events (R29). -/
theorem watchChange_aside {c : Berth} {new : BerthState} (hP : new.watched = true → ∀ side, P (.raise (staleEvent c side)))
    (old : BerthState) (s : State) : Aside b 0 P s (watchChange c old new s) := by
  unfold watchChange
  split
  next h =>
    have hw := hP (by simp_all)
    exact (watchBegin_aside (hw _) s).trans (watchBegin_aside (hw _) _)
  split
  · exact { Aside.refl b 0 P s with }
  · exact .refl b 0 _ s

theorem changeState_aside {c : Berth} (hc : c ≠ b) {st : BerthState}
    (hP : st.watched = true → ∀ side, P (.raise (staleEvent c side))) (s : State) :
    Aside b 0 P s (changeState c st s) := by
  have watched := (modBerth_aside hc (fun r => { r with state := st }) s).trans
    (watchChange_aside (b := b) hP (s.berth c).state _)
  have banded : ∀ t : State, Aside b 0 P t (if (s.berth c).state = .shore ∧ st ≠ .shore then clearBands c t else t) := by
    intro t
    split
    · exact { Aside.refl b 0 P t with }
    · exact .refl b 0 _ t
  unfold changeState
  dsimp only
  split
  · exact (watched.trans (banded _)).trans (dropBerthPair_aside c _)
  · exact watched.trans (banded _)

theorem enterState_aside {c : Berth} (hc : c ≠ b) {st : BerthState}
    (hP : st.watched = true → ∀ side, P (.raise (staleEvent c side))) (s : State) :
    Aside b 1 P s (enterState c st s) :=
  (changeState_aside hc hP s).trans (giveShpn_aside _ _ _)

theorem mild_staleEvent (c : Berth) (side : Side) : (Handoff.raise (staleEvent c side)).Mild := by
  cases side
  · exact mild_berthEvent c 0
  · exact mild_berthEvent c 1

theorem enterState_mild {c : Berth} (hc : c ≠ b) (st : BerthState) (s : State) :
    Aside b 1 Handoff.Mild s (enterState c st s) :=
  enterState_aside hc (fun _ => mild_staleEvent c) s

theorem stopRamp_aside {c : Berth} (hc : c ≠ b) (s : State) : Aside b 0 P s (stopRamp c s) :=
  (modBerth_aside hc _ s).trans (modBerth_aside hc _ _)

theorem stopTimers_aside {c : Berth} (hc : c ≠ b) (s : State) : Aside b 0 P s (stopTimers c s) :=
  ((stopRamp_aside hc s).trans (modBerth_aside hc _ _)).trans (modBerthRef_aside (.inl hc) _)

/-- A hand-off that the trip of berth `c` gives. -/
def Handoff.OfTrip (s : State) (c : Berth) (h : Handoff) : Prop :=
  h.OfRelease s.mpm.lists (s.list c) ∨ h = .raise evLogFull

theorem Handoff.OfTrip.mild {s : State} {c : Berth} {h : Handoff} (r : h.OfTrip s c) : h.Mild := by
  obtain r | rfl := r
  · exact r.mild
  · exact mild_logFull

/-- R115 steps 1 to 3: the demand is set, the outlet's request is cancelled and BCMD TRIP is given. -/
def tripCommanded (b : Berth) (s : State) : State :=
  command .trip (outlet b) (cancelSync (outlet b)
    (driveOutputs (s.modBerth b fun r => { r with demand := true, fromOpening := false })))

/-- R115 steps 4 to 7: the modules are released, the billing is ended, the timers are stopped and the reason is kept. -/
def tripEnded (b : Berth) (why : TripReason) (s : State) : State :=
  (stopTimers b (endBilling b why.endReason (releaseBerth b (tripCommanded b s)))).modBerth b
    fun r => { r with reason := some why }

theorem tripBerth_eq {c : Berth} {s : State} (h : (s.berth c).state.active = true) (why : TripReason) :
    tripBerth c why s = enterState c .tripped (tripEnded c why s) := if_pos h

theorem tripCommanded_aside {c : Berth} (hc : c ≠ b) (s : State) :
    Aside b 0 Handoff.Cancels s (tripCommanded c s) := by
  have ht : outlet c ≠ outlet b := fun e => hc (outlet_injective e)
  exact (((modBerth_aside hc _ s).trans (driveOutputs_aside _)).trans (cancelSync_aside ht _)).trans
    (command_aside _ ht _)

/-- R115: a trip of another berth. -/
theorem tripBerth_aside {c : Berth} (hc : c ≠ b) (why : TripReason) (s : State) :
    Aside b 1 (Handoff.OfTrip s c) s (tripBerth c why s) := by
  cases h : (s.berth c).state.active with
  | false =>
    rw [tripBerth, if_neg (by simp [h])]
    exact .refl b 1 _ s
  | true =>
    rw [tripBerth_eq h]
    have cancelled : Aside b 0 (Handoff.OfTrip s c) s (tripCommanded c s) :=
      (tripCommanded_aside hc s).mono le_rfl fun _ h => .inl (.inl h)
    have released := cancelled.trans ((releaseBerth_aside c (tripCommanded c s)).mono le_rfl fun h hr => by
      rw [cancelled.list, cancelled.lists] at hr
      exact .inl hr)
    have ended := released.trans
      ((closeSession_aside hc (.inr rfl) why.endReason _).trans (freeSlot_aside hc (.inr rfl) _))
    exact ((ended.trans (stopTimers_aside hc _)).trans (modBerth_aside hc _ _)).trans
      (enterState_aside hc (fun h => absurd h (by decide)) _)

end
end Sys2Proof.Machine

end

section
namespace Sys2Proof.Machine

section
variable {b c : Berth} {n k : Nat} {P Q : Handoff → Prop} {s : State}

/-! ### The sequence of another berth -/

theorem listEmptyTaken_aside (hc : c ≠ b) (s : State) : Aside b 1 Handoff.Mild s (listEmptyTaken c s) := by
  unfold listEmptyTaken
  split
  · exact ((((modBerth_aside hc _ s).trans (modBerth_aside hc _ _)).trans (discardRef_aside hc _)).trans
      (driveOutputs_aside _)).trans (enterState_mild hc .dead _)
  · exact .refl b 1 _ s

theorem enterReleasing_aside (hc : c ≠ b) (s : State) : Aside b 2 Handoff.Mild s (enterReleasing c s) := by
  have ht : outlet c ≠ outlet b := fun e => hc (outlet_injective e)
  have cancelled : Aside b 0 Handoff.Mild s (cancelSync (outlet c) s) :=
    (cancelSync_aside ht s).mono le_rfl fun _ => Handoff.Cancels.mild
  exact (((cancelled.trans (freeSlot_aside hc mild_logFull _)).trans
    ((releaseBerth_aside c _).mono le_rfl fun _ => Handoff.OfRelease.mild)).trans
      (enterState_mild hc .releasing _)).trans (listEmptyTaken_aside hc _)

theorem energisedTest_aside (hc : c ≠ b) (s : State) : Aside b 1 Handoff.Mild s (energisedTest c s) := by
  unfold energisedTest
  dsimp only
  split
  · split
    · exact (requestDeadBus_aside hc _ s).trans (enterState_mild hc .deadClose _)
    · exact (requestSync_aside hc _ s).trans (enterState_mild hc .syncing _)
  · exact .refl b 1 _ s

theorem loseSource_aside (hc : c ≠ b) (s : State) : Aside b 2 Handoff.Mild s (loseSource c s) := by
  have ht : outlet c ≠ outlet b := fun e => hc (outlet_injective e)
  have cancelled : Aside b 0 Handoff.Mild s (cancelSync (outlet c) s) :=
    (cancelSync_aside ht s).mono le_rfl fun _ => Handoff.Cancels.mild
  exact ((cancelled.trans (post_aside (mild_berthEvent c 11) _)).trans (enterReleasing_aside hc _))

theorem actOnSummary_aside (hc : c ≠ b) (s : State) : Aside b 2 Handoff.Mild s (actOnSummary c s) := by
  have tested := (energisedTest_aside hc s).mono (by omega : 1 ≤ 2) fun _ => id
  have same := Aside.refl b 2 Handoff.Mild s
  unfold actOnSummary
  dsimp only
  split
  · split
    · exact (enterState_mild hc .energising s).trans (energisedTest_aside hc _)
    · exact same
  · split
    · exact loseSource_aside hc s
    · exact tested
  · split
    · exact loseSource_aside hc s
    · exact same
  · split
    · exact loseSource_aside hc s
    · exact same
  case h_5 | h_6 | h_7 | h_8 =>
    split
    · exact (tripBerth_aside hc _ s).mono (by omega) fun _ => Handoff.OfTrip.mild
    · exact same
  all_goals exact same

/-- R53: a berth in which no trip acts does not act on a summary either. -/
theorem actOnSummary_inactive (h : (s.berth c).state.active = false) : actOnSummary c s = s := by
  unfold actOnSummary
  cases e : (s.berth c).state <;> simp_all [BerthState.active]

theorem summaryTaken_aside (hb : (s.berth b).state.active = false) (c : Berth) :
    Aside b 2 Handoff.Mild s (summaryTaken c s) := by
  unfold summaryTaken
  split
  · exact .refl b 2 _ s
  by_cases hc : c = b
  · subst hc
    rw [actOnSummary_inactive (by simpa using hb)]
    exact { Aside.refl c 2 Handoff.Mild s with
      berth := ⟨summaryOf s c, (s.berth c).eventHold, (s.berth c).rampTimer, s.berth_modBerth c _, id⟩ }
  · exact (modBerth_aside hc _ s).trans (actOnSummary_aside hc _)

theorem outletResultTaken_aside (hc : c ≠ b) (r : SyncResult) (s : State) :
    Aside b 2 Handoff.Mild s (outletResultTaken c r s) := by
  have ramping : Aside b 1 Handoff.Mild s (enterRampUp c (openSession c s)) :=
    (((openSession_aside hc s).trans (modBerth_aside hc _ _)).trans (modBerth_aside hc _ _)).trans
      (enterState_mild hc .rampUp _)
  unfold outletResultTaken
  split
  · cases r
    · exact ramping.mono (by omega) fun _ => id
    · exact enterReleasing_aside hc s
    · exact enterReleasing_aside hc s
    · exact .refl b 2 _ s
  · exact .refl b 2 _ s

theorem outletOutcomeTaken_aside (hc : c ≠ b) (o : DeadOutcome) (s : State) :
    Aside b 2 Handoff.Mild s (outletOutcomeTaken c o s) := by
  have failed : Aside b 2 Handoff.Mild s (enterReleasing c (s.post (.raise (evSyncFail c)))) :=
    ((post_aside (mild_berthEvent c 2) s).trans (enterReleasing_aside hc _))
  unfold outletOutcomeTaken
  split
  · cases o
    · exact ((openSession_aside hc s).trans (enterState_mild hc .shore _)).mono (by omega) fun _ => id
    · exact failed
    · exact failed
  · exact .refl b 2 _ s

theorem energisedTaken_aside (hc : c ≠ b) (s : State) : Aside b 1 Handoff.Mild s (energisedTaken c s) := by
  unfold energisedTaken
  split
  · exact (modBerth_aside hc _ s).trans (energisedTest_aside hc _)
  · exact .refl b 1 _ s

theorem firstFailureTaken_aside (hc : c ≠ b) (s : State) : Aside b 2 Handoff.Mild s (firstFailureTaken c s) := by
  unfold firstFailureTaken
  split
  · exact (post_aside (mild_berthEvent c 11) s).trans (enterReleasing_aside hc _)
  · exact .refl b 2 _ s

/-! ### Raises -/

/-- R105, R107: the timer of a ramp runs or pauses; one that is stopped stays so. -/
theorem syncTimer_eq (now : Nat) (r : BerthRec) :
    ∃ rt, r.syncTimer now = { r with rampTimer := rt } ∧ (r.rampTimer = .stopped → rt = .stopped) := by
  unfold BerthRec.syncTimer
  split
  next h => split <;> exact ⟨_, rfl, fun e => by simp_all⟩
  next h => split <;> exact ⟨_, rfl, fun e => by simp_all⟩
  · exact ⟨r.rampTimer, rfl, id⟩

theorem setEventHold_aside (c : Berth) (v : Bool) (s : State) : Aside b 0 P s (setEventHold c v s) := by
  by_cases hc : c = b
  · subst hc
    obtain ⟨rt, e, h⟩ := syncTimer_eq s.now { s.berth c with eventHold := v }
    exact { Aside.refl c 0 P s with
      berth := ⟨(s.berth c).summary, v, rt, (s.berth_modBerth c _).trans e, h⟩ }
  · exact modBerth_aside hc _ s

theorem recomputeHolds_aside (s : State) : Aside b 0 P s (recomputeHolds s) := by
  refine (Aside.foldl (n := 0) allBerths fun c _ t _ => ?_).mono (by simp) fun _ => id
  unfold recomputeHold
  dsimp only
  split
  · exact .refl b 0 _ t
  · have flagged : ∀ v, Aside b 0 P t (t.modEvr fun r => { r with holds := upd r.holds c fun _ => v }) :=
      fun _ => { Aside.refl b 0 P t with }
    exact (flagged _).trans (setEventHold_aside c _ _)

theorem giveNotes_aside (e : EventIx) (s : State) : Aside b 0 P s (giveNotes e s) :=
  (Aside.foldl (n := 0) _ fun _ _ t _ => giveNote_aside _ t).mono (by simp) fun _ => id

theorem shedAction_aside (c : Berth) (s : State) : Aside b 1 P s (shedAction c s) := by
  have kept : Aside b 0 P s
      (if shedAmount s c ≠ 0 then s.modBerthRef c fun r => { r with lastShed := shedAmount s c } else s) := by
    split
    · exact modBerthRef_aside (g := fun r => { r with lastShed := shedAmount s c }) (.inr fun _ => rfl) s
    · exact .refl b 0 _ s
  unfold shedAction
  dsimp only
  split
  · exact kept.mono (by omega) fun _ => id
  · exact kept.trans (giveShpn_aside _ _ _)

theorem tripBerth_inactive (h : (s.berth c).state.active = false) (why : TripReason) : tripBerth c why s = s := by
  simp [tripBerth, h]

/-- R115: a trip of any berth, aside from one in which no trip acts. -/
theorem tripBerth_mild (hb : (s.berth b).state.active = false) (c : Berth) (why : TripReason) :
    Aside b 1 Handoff.Mild s (tripBerth c why s) := by
  by_cases hc : c = b
  · subst hc
    rw [tripBerth_inactive hb]
    exact .refl c 1 _ s
  · exact (tripBerth_aside hc why s).mono le_rfl fun _ => Handoff.OfTrip.mild

theorem tripEvents_mild (hb : (s.berth b).state.active = false) :
    Aside b 4 Handoff.Mild s (allBerths.foldl (fun s c => tripEvent c s) s) := by
  have step : ∀ {n : Nat} {t : State} (c : Berth), Aside b n Handoff.Mild s t →
      Aside b (n + 1) Handoff.Mild s (tripEvent c t) :=
    fun c h => h.trans (tripBerth_mild (by rw [h.state]; exact hb) c _)
  exact step 3 (step 2 (step 1 (step 0 (.refl b 0 _ s))))

theorem applyAction_aside {e : EventIx} (hb : (s.berth b).state.active = false) (he : (Handoff.raise e).Mild) :
    Aside b 4 Handoff.Mild s (applyAction e s) := by
  unfold applyAction
  split
  · exact (shedAction_aside _ s).mono (by omega) fun _ => id
  · exact (tripBerth_mild hb _ _).mono (by omega) fun _ => id
  · split
    · exact .refl b 4 _ s
    · exact (tripBerth_mild hb _ _).mono (by omega) fun _ => id
  · exact tripEvents_mild hb
  next m k _ hf => exact absurd hf (he m k)
  · exact .refl b 4 _ s

/-- R159: an entry is counted again, or becomes raw. -/
theorem modEntry_aside {e : EventIx} {g : EventEntry → EventEntry}
    (h : ∀ x, (x.raw = true → (g x).raw = true) ∧ (g x).enabled = x.enabled ∧ (g x).action = x.action) (s : State) :
    Aside b 0 P s (s.modEntry e g) :=
  { Aside.refl b 0 P s with
    raw := fun f hf => by
      by_cases ef : e = f
      · subst ef; rw [s.event_modEntry]; exact (h _).1 hf
      · rw [s.event_modEntry_other ef]; exact hf
    entries := fun f => by
      by_cases ef : e = f
      · subst ef; rw [s.event_modEntry]; exact (h _).2
      · rw [s.event_modEntry_other ef]; exact ⟨rfl, rfl⟩ }

/-- R159: what a raise does aside from a berth in which no trip acts. -/
theorem raiseEntry_aside {e : EventIx} (hb : (s.berth b).state.active = false) (he : (Handoff.raise e).Mild) :
    Aside b 4 Handoff.Mild s (raiseEntry e s) := by
  unfold raiseEntry
  dsimp only
  split
  · refine (modEntry_aside ?_ s).mono (n := 0) (by omega) fun _ => id
    exact fun _ => ⟨id, rfl, rfl⟩
  have set : Aside b 0 Handoff.Mild s
      (s.modEntry e fun x => { x with raw := true, count := 0, clock := some s.clock }) := by
    refine modEntry_aside ?_ s
    exact fun _ => ⟨fun _ => rfl, rfl, rfl⟩
  split
  · have held := (set.trans (giveNotes_aside e _)).trans (recomputeHolds_aside _)
    exact (held.trans (applyAction_aside (by rw [held.state]; exact hb) he)).mono (by omega) fun _ => id
  · exact set.mono (by omega) fun _ => id

/-- R159: an entry is raw once it is raised. -/
theorem raiseEntry_raw {e : EventIx} (hb : (s.berth b).state.active = false) (he : (Handoff.raise e).Mild) :
    ((raiseEntry e s).event e).raw = true := by
  by_cases h : (s.event e).raw = true
  · exact (raiseEntry_aside hb he).raw e h
  unfold raiseEntry
  rw [if_neg h]
  dsimp only
  have set : ((s.modEntry e fun x => { x with raw := true, count := 0, clock := some s.clock }).event e).raw = true := by
    rw [s.event_modEntry]
  split
  · have held := (giveNotes_aside (b := b) (P := Handoff.Mild) e
      (s.modEntry e fun x => { x with raw := true, count := 0, clock := some s.clock })).trans (recomputeHolds_aside _)
    exact (applyAction_aside (by rw [held.state]; exact hb) he).raw e (held.raw e set)
  · exact set

/-! ### Every mild hand-off -/

/-- What taking a hand-off leaves of a berth in which no trip acts. -/
theorem takeHandoff_aside {h : Handoff} (hb : (s.berth b).state.active = false) (hm : h.Mild) :
    Aside b 4 Handoff.Mild s (takeHandoff h s) := by
  have elsewhere : ∀ {c : Berth} {n : Nat} {t : State}, n ≤ 4 → (c ≠ b → Aside b n Handoff.Mild s t) →
      (c = b → t = s) → Aside b 4 Handoff.Mild s t := by
    intro c n t hn ho he
    by_cases hc : c = b
    · rw [he hc]; exact .refl b 4 _ s
    · exact (ho hc).mono hn fun _ => id
  have inactive : ∀ {c : Berth} {st : BerthState}, st.active = true → c = b → (s.berth c).state ≠ st := by
    rintro c st ha rfl rfl
    exact absurd ha (by simp [hb])
  cases h with
  | raise e => exact raiseEntry_aside hb hm
  | summary c => exact (summaryTaken_aside hb c).mono (by omega) fun _ => id
  | firstFailure c =>
    exact elsewhere (by omega) (fun hc => firstFailureTaken_aside hc s) fun hc =>
      if_neg (inactive rfl hc)
  | listEmpty c =>
    exact elsewhere (by omega) (fun hc => listEmptyTaken_aside hc s) fun hc =>
      if_neg fun h => inactive rfl hc h.1
  | outletResult c r =>
    exact elsewhere (by omega) (fun hc => outletResultTaken_aside hc r s) fun hc =>
      if_neg (inactive rfl hc)
  | outletOutcome c o =>
    exact elsewhere (by omega) (fun hc => outletOutcomeTaken_aside hc o s) fun hc =>
      if_neg (inactive rfl hc)
  | contactorResult m r =>
    obtain rfl : r = .cancelled := hm
    have : takeHandoff (.contactorResult m .cancelled) s = s := by
      show contactorResult m .cancelled s = s
      unfold contactorResult
      split <;> rfl
    rw [this]
    exact .refl b 4 _ s
  | contactorOutcome m c o => exact hm.elim
  | energised c =>
    exact elsewhere (by omega) (fun hc => energisedTaken_aside hc s) fun hc =>
      if_neg (inactive rfl hc)
  | pollSkipped m j => exact hm.elim
  | serveChannels =>
    exact (serveChannelsTaken_aside s).mono (by omega) fun _ => Handoff.Cancels.mild

end
end Sys2Proof.Machine

end

section
namespace Sys2Proof.Machine

/-! ### Settling aside from a berth -/

section
variable {b : Berth} {n k : Nat} {P : Handoff → Prop} {s t u : State}

/-- Whatever waits to be taken, `t` comes from `s` by work aside from berth `b`. -/
def Later (b : Berth) (s t : State) : Prop :=
  ∃ n, Aside b n (fun _ => True) s { t with handoffs := s.handoffs }

theorem Aside.later (h : Aside b n P s t) : Later b s t :=
  ⟨n, { h with handed := ⟨[], by simp⟩ }⟩

theorem Later.refl (b : Berth) (s : State) : Later b s s := ⟨0, .refl b 0 _ s⟩

theorem Later.trans (h : Later b s t) (g : Later b t u) : Later b s u := by
  obtain ⟨n, h⟩ := h
  obtain ⟨k, g⟩ := g
  have g' : Aside b k (fun _ => True) { t with handoffs := s.handoffs } { u with handoffs := s.handoffs } :=
    { g with handed := ⟨[], by simp⟩ }
  exact ⟨n + k, h.trans g'⟩

/-- What waits is of no account. -/
theorem later_handoffs (b : Berth) (s : State) (hs : List Handoff) : Later b s { s with handoffs := hs } :=
  ⟨0, .refl b 0 _ s⟩

theorem Later.state (h : Later b s t) : (t.berth b).state = (s.berth b).state := by
  obtain ⟨n, h⟩ := h
  exact h.state

theorem Later.raw (h : Later b s t) {e : EventIx} (r : (s.event e).raw = true) : (t.event e).raw = true := by
  obtain ⟨n, h⟩ := h
  exact h.raw e r

/-- Mild hand-offs lead to mild hand-offs only. -/
theorem Aside.mild_handoffs (h : Aside b n Handoff.Mild s t) (hs : ∀ x ∈ s.handoffs, x.Mild) :
    ∀ x ∈ t.handoffs, x.Mild := by
  obtain ⟨gs, e, hg⟩ := h.handed
  intro x hx
  rw [e] at hx
  exact (List.mem_append.1 hx).elim (hs x) (hg x)

theorem drain_later (hb : (s.berth b).state.active = false) (hs : ∀ x ∈ s.handoffs, x.Mild) (n : Nat) :
    Later b s (drain n s) ∧ ∀ x ∈ (drain n s).handoffs, x.Mild := by
  induction n generalizing s with
  | zero => exact ⟨.refl b s, hs⟩
  | succ n ih =>
    cases e : s.handoffs with
    | nil => rw [drain_nil _ e]; exact ⟨.refl b s, hs⟩
    | cons h rest =>
      rw [drain_cons n e]
      have rested := later_handoffs b s rest
      have taken := takeHandoff_aside (s := { s with handoffs := rest }) (b := b) hb (hs h (by simp [e]))
      have mild := taken.mild_handoffs fun x hx => hs x (by rw [e]; exact List.mem_cons_of_mem _ hx)
      obtain ⟨after, still⟩ := ih (by rw [taken.state]; exact hb) mild
      exact ⟨(rested.trans taken.later).trans after, still⟩

theorem settle_later (hb : (s.berth b).state.active = false) (hs : ∀ x ∈ s.handoffs, x.Mild) :
    Later b s (settle s) := by
  obtain ⟨n, h⟩ := (drain_later hb hs Config.settleFuel).1
  exact ⟨n, { h with }⟩

/-- R159: a raise that stands among the first `n` hand-offs is taken. -/
theorem drain_raises {e : EventIx} (hb : (s.berth b).state.active = false) (hs : ∀ x ∈ s.handoffs, x.Mild)
    {before after : List Handoff} (h : s.handoffs = before ++ .raise e :: after) {n : Nat} (hn : before.length < n) :
    ((drain n s).event e).raw = true := by
  obtain ⟨n, rfl⟩ : ∃ k, n = k + 1 := ⟨n - 1, by omega⟩
  induction before generalizing s after n with
  | nil =>
    have he : (Handoff.raise e).Mild := hs _ (by simp [h])
    rw [drain_cons n h]
    have taken := takeHandoff_aside (s := { s with handoffs := after }) (b := b) hb he
    have mild := taken.mild_handoffs fun x hx => hs x (by rw [h]; exact List.mem_cons_of_mem _ hx)
    exact (drain_later (by rw [taken.state]; exact hb) mild n).1.raw (raiseEntry_raw (b := b) hb he)
  | cons x before ih =>
    rw [List.cons_append] at h
    rw [drain_cons n h]
    have taken := takeHandoff_aside (s := { s with handoffs := before ++ .raise e :: after }) (b := b) hb
      (hs x (by simp [h]))
    have mild := taken.mild_handoffs fun y hy => hs y (by rw [h]; exact List.mem_cons_of_mem _ hy)
    obtain ⟨gs, eq, -⟩ := taken.handed
    obtain ⟨k, rfl⟩ : ∃ k, n = k + 1 := ⟨n - 1, by simp at hn; omega⟩
    exact ih (by rw [taken.state]; exact hb) mild (by rw [eq, List.append_assoc, List.cons_append])
      k (by simp at hn; omega)

theorem settle_raises {e : EventIx} (hb : (s.berth b).state.active = false) (hs : ∀ x ∈ s.handoffs, x.Mild)
    {before after : List Handoff} (h : s.handoffs = before ++ .raise e :: after)
    (hn : before.length < Config.settleFuel) : ((settle s).event e).raw = true :=
  drain_raises hb hs h hn

end

/-! ### What a cancellation, a release and the end of billing do (R46, R90, R115) -/

section
variable {t : Target} {s : State}

theorem cancelQueued_syu (t : Target) (s : State) :
    (cancelQueued t s).syu = { s.syu with queue := s.syu.queue.filter fun r => r.target ≠ t } := by
  unfold cancelQueued
  split
  next h =>
    have all : ∀ r ∈ s.syu.queue, r.target ≠ t := by simpa using h
    rw [List.filter_eq_self.2 (by simpa using all)]
  · simp

theorem cancelChannel_syu (t : Target) (c : Chan) (s : State) :
    (cancelChannel t c s).syu =
      if s.syu.holds c t then { s.syu with chans := upd s.syu.chans c fun _ => none } else s.syu := by
  unfold cancelChannel Syu.holds
  split
  next h => simp [h]
  next w h =>
    split
    next ht => split <;> simp [h, ht, idleChannel, State.post, State.modChan]
    next ht => simp [h, ht]

theorem cancelDeadClose_syu (t : Target) (s : State) :
    (cancelDeadClose t s).syu = { s.syu with deadBus := s.syu.deadBus.filter fun d => d.target ≠ t } := by
  unfold cancelDeadClose
  split
  · simp [dropDeadClose]
  next h =>
    have all : ∀ d ∈ s.syu.deadBus, d.target ≠ t := by simpa [Syu.deadPending] using h
    rw [List.filter_eq_self.2 (by simpa using all)]

/-- R90: a cancellation leaves SYU nothing for the breaker. -/
theorem cancelSync_idle (t : Target) (s : State) : (cancelSync t s).syu.busy t = false := by
  have channel : ∀ (c : Chan) (s : State) w, (cancelChannel t c s).syu.chans[c] = some w → w.req.target ≠ t := by
    intro c s w h
    rw [cancelChannel_syu] at h
    split at h
    · simp at h
    next hold => exact fun e => hold (by simp [Syu.holds, h, e])
  have queue : ∀ (c : Chan) (s : State), (cancelChannel t c s).syu.queue = s.syu.queue := by
    intro c s
    rw [cancelChannel_syu]
    split <;> rfl
  have other : ∀ (c d : Chan) (s : State) w, c ≠ d → (cancelChannel t c s).syu.chans[d] = some w →
      s.syu.chans[d] = some w := by
    intro c d s w hcd h
    rw [cancelChannel_syu] at h
    split at h
    · simpa [upd_other _ _ hcd] using h
    · exact h
  refine Syu.busy_eq_false.2 ⟨fun r hr => ?_, fun c w h => ?_, fun d hd => ?_⟩
  · rw [cancelSync, cancelDeadClose_syu, queue, queue, cancelQueued_syu] at hr
    simpa using (List.mem_filter.1 hr).2
  · rw [cancelSync, cancelDeadClose_syu] at h
    match c with
    | 0 => exact channel 0 _ w (other 1 0 _ w (by decide) h)
    | 1 => exact channel 1 _ w h
  · rw [cancelSync, cancelDeadClose_syu] at hd
    simpa using (List.mem_filter.1 hd).2

/-- R90: a cancellation changes no breaker table entry. -/
theorem cancelSync_breaker (t k : Target) (s : State) : (cancelSync t s).breaker k = s.breaker k := by
  have channel : ∀ (c : Chan) (s : State), (cancelChannel t c s).syu.breakers = s.syu.breakers := by
    intro c s
    rw [cancelChannel_syu]
    split <;> rfl
  unfold State.breaker
  rw [cancelSync, cancelDeadClose_syu, channel, channel, cancelQueued_syu]

/-- R46: a stopped module is in service no more. -/
theorem stopModule_state (m : Module) (s : State) : ((stopModule m s).modu m).state = .stopping := by
  have before : ∀ g : ModuleRec → ModuleRec, ((dropModulePair m (s.modModule m g)).modu m).state =
      (g (s.modu m)).state := fun g => congrArg ModuleRec.state (s.modu_modModule m g)
  have after : ∀ u : State, (u.modu m).state = .stopping →
      ((command .openCmd (contactor m) (cancelSync (contactor m) u)).modu m).state = .stopping := by
    intro u hu
    have same := ((cancelSync_aside (b := 0) (contactor_ne_outlet m 0) u).trans
      (command_aside .openCmd (contactor_ne_outlet m 0) _)).modules m
    rwa [hu, or_self] at same
  exact after _ (before _)

theorem tellSummary_modu (c : Berth) (m : Module) (s : State) : (tellSummary c s).modu m = s.modu m := rfl

theorem release_not_serving (m : Module) (s : State) : ((release m s).modu m).state.serving = false := by
  cases h : (s.modu m).state.serving with
  | false => rw [release_idle h]; exact h
  | true =>
    obtain e | ⟨c, -, e⟩ := release_serving h
    · rw [e, stopModule_state]; rfl
    · rw [e, tellSummary_modu, stopModule_state]; rfl

/-- R46: the modules of a released berth are in service no more. -/
theorem releaseBerth_serving {b : Berth} {m : Module} (h : m ∈ s.list b) :
    ((releaseBerth b s).modu m).state.serving = false := by
  have kept : ∀ {m x : Module} {s : State}, (s.modu m).state.serving = false →
      ((release x s).modu m).state.serving = false := by
    intro m x s h
    obtain e | e := (release_aside (b := 0) x s).modules m
    · rw [e]; exact h
    · rw [e]; rfl
  have fold : ∀ (ms : List Module) (s : State), m ∈ ms ∨ (s.modu m).state.serving = false →
      ((ms.foldl (fun s m => release m s) s).modu m).state.serving = false := by
    intro ms
    induction ms with
    | nil => exact fun s h => h.resolve_left List.not_mem_nil
    | cons x xs ih =>
      intro s h
      refine ih _ ?_
      obtain h | h := h
      · obtain rfl | h := List.mem_cons.1 h
        · exact .inr (release_not_serving m s)
        · exact .inl h
      · exact .inr (kept h)
  exact fold _ s (.inl h)

end
end Sys2Proof.Machine

end

section
namespace Sys2Proof.Machine

/-! ### What a berth's own steps do to it (R98, R113, R115) -/

section
variable {b : Berth} {s : State}

theorem stopRamp_berth (b : Berth) (s : State) :
    (stopRamp b s).berth b =
      { s.berth b with
        holdEnd := none
        holdFrom := s.now
        holdAcc := heldTime s b
        rampDue := none
        rampTimer := .stopped
        capacityCond := false } := by
  unfold stopRamp setShipHold
  rw [State.berth_modBerth, State.berth_modBerth]
  obtain ⟨rt, e, -⟩ := syncTimer_eq s.now
    { s.berth b with holdEnd := none, holdFrom := s.now, holdAcc := heldTime s b }
  rw [e]

theorem stopTimers_berth (b : Berth) (s : State) :
    (stopTimers b s).berth b =
      { s.berth b with
        holdEnd := none
        holdFrom := s.now
        holdAcc := heldTime s b
        rampDue := none
        rampTimer := .stopped
        capacityCond := false
        genDue := none
        openDue := none } := by
  have eq : (stopTimers b s).berth b =
      ((stopRamp b s).modBerth b fun r => { r with genDue := none, openDue := none }).berth b := rfl
  rw [eq, State.berth_modBerth, stopRamp_berth]

theorem stopTimers_ref (b : Berth) (s : State) : ∀ r, (stopTimers b s).berthRef b = some r → r.pSet = 0 := by
  intro r h
  unfold stopTimers setPSet at h
  rw [State.berthRef_modBerthRef, Option.map_eq_some_iff] at h
  obtain ⟨r', -, rfl⟩ := h
  rfl

theorem Sends.berthRef {t : State} (h : Sends s t) (b : Berth) : t.berthRef b = s.berthRef b := by
  obtain ⟨l, p, ms, rfl⟩ := h
  rfl

theorem Sends.modu {t : State} (h : Sends s t) (m : Module) : t.modu m = s.modu m := by
  obtain ⟨l, p, ms, rfl⟩ := h
  rfl

theorem Sends.lists {t : State} (h : Sends s t) : t.mpm.lists = s.mpm.lists := by
  obtain ⟨l, p, ms, rfl⟩ := h
  rfl

theorem changeState_berth (b : Berth) (st : BerthState) (s : State) :
    (changeState b st s).berth b = { s.berth b with state := st } := by
  have bsq : (changeState b st s).bsq = (s.modBerth b fun r => { r with state := st }).bsq := by
    unfold changeState
    dsimp only
    (repeat' split) <;> simp
  unfold State.berth
  rw [bsq]
  exact s.berth_modBerth b _

theorem changeState_entry (b c : Berth) (st : BerthState) (s : State) : (changeState b st s).entry c = s.entry c := by
  have table : (changeState b st s).bsq.table = s.bsq.table := by
    unfold changeState
    dsimp only
    (repeat' split) <;> simp
  rw [State.entry, table]
  rfl

theorem enterState_entry (b c : Berth) (st : BerthState) (s : State) : (enterState b st s).entry c = s.entry c := by
  rw [← changeState_entry b c st s, enterState]
  simp [State.entry]

/-- R98: a berth's record as it enters a state. -/
theorem enterState_berth (b : Berth) (st : BerthState) (s : State) :
    (enterState b st s).berth b = { s.berth b with state := st } := by
  rw [← changeState_berth]
  simp [enterState, State.berth]

theorem changeState_ref {st : BerthState} {r' : BerthRef} (h : (changeState b st s).berthRef b = some r') :
    ∃ r, s.berthRef b = some r ∧ r'.pSet = r.pSet := by
  have unpaired : ∀ t : State, t.rfg = s.rfg → (dropBerthPair b t).berthRef b = some r' →
      ∃ r, s.berthRef b = some r ∧ r'.pSet = r.pSet := by
    intro t ht h
    obtain ⟨r, hr, e⟩ := (dropBerthPair_aside (b := b) (P := fun _ => True) b t).ref r' h
    exact ⟨r, by rw [← hr, State.berthRef, State.berthRef, ht], e⟩
  have same : ∀ t : State, t.rfg = s.rfg → t.berthRef b = some r' → ∃ r, s.berthRef b = some r ∧ r'.pSet = r.pSet :=
    fun t ht h => ⟨r', by rw [← h, State.berthRef, State.berthRef, ht], rfl⟩
  unfold changeState at h
  dsimp only at h
  (repeat' split at h)
  · exact unpaired _ (by simp) h
  · exact unpaired _ (by simp) h
  · exact same _ (by simp) h
  · exact same _ (by simp) h

theorem enterState_sends (b : Berth) (st : BerthState) (s : State) :
    Sends (changeState b st s) (enterState b st s) := giveShpn_sends _ _ _

theorem enterState_modu (b : Berth) (st : BerthState) (s : State) (m : Module) :
    (enterState b st s).modu m = s.modu m := by
  rw [(enterState_sends b st s).modu]
  simp [State.modu]

theorem enterState_kept (x : Target → Prop) (b : Berth) (st : BerthState) (s : State) :
    Lpu.Kept x 1 s.lpu (enterState b st s).lpu := by
  have given := giveShpn_kept x ((changeState b st s).entry b).gateway
    (.berth b ((changeState b st s).berth b).state.code) (changeState b st s)
  rwa [show (changeState b st s).lpu = s.lpu by simp] at given

/-- R98: the BERTH notice of the state entered. -/
theorem enterState_notice {st : BerthState} (w : EgressWorks s) (o : s.own ≠ none) (room : s.lpu.control.length < 24) :
    NoticeGiven (s.entry b).gateway (.berth b st.code) (enterState b st s) ∧
      (enterState b st s).lpu.sending ≠ none := by
  have lpu : (changeState b st s).lpu = s.lpu := by simp
  have given := giveShpn_given (s := changeState b st s) (d := (s.entry b).gateway) (body := .berth b st.code)
    (by rw [egressWorks_iff, lpu]; exact w) (by rw [State.own, lpu]; exact o) (by rw [lpu]; exact room)
  have eq : enterState b st s = giveShpn (s.entry b).gateway (.berth b st.code) (changeState b st s) := by
    rw [enterState, berthNotice, changeState_entry, changeState_berth]
  rw [eq]
  exact given

theorem evalLogFull_slots (s : State) : (evalLogFull s).blg.slots = s.blg.slots ∧ (evalLogFull s).blg.log = s.blg.log := by
  unfold evalLogFull
  split <;> exact ⟨rfl, rfl⟩

theorem freeSlot_log (b : Berth) (s : State) : (freeSlot b s).blg.log = s.blg.log := by
  unfold freeSlot
  split
  · rw [(evalLogFull_slots _).2]; rfl
  · rfl

/-- R145: a reservation is freed. -/
theorem freeSlot_reserved (h : s.slot b = .reserved) : (freeSlot b s).slot b = .free := by
  have eq : freeSlot b s = evalLogFull (s.modSlot b fun _ => .free) := by
    unfold freeSlot
    rw [h]
  rw [eq, State.slot, (evalLogFull_slots _).1]
  exact s.slot_modSlot b _

/-- R145: a slot OPEN or FREE is not changed. -/
theorem freeSlot_other (h : s.slot b ≠ .reserved) : freeSlot b s = s := by
  unfold freeSlot
  split
  next e => exact absurd e h
  next => rfl

/-- R145: a freed slot is not RESERVED. -/
theorem freeSlot_not_reserved (b : Berth) (s : State) : (freeSlot b s).slot b ≠ .reserved := by
  by_cases h : s.slot b = .reserved
  · rw [freeSlot_reserved h]
    exact Slot.noConfusion
  · rw [freeSlot_other h]
    exact h

theorem closeSession_slot (b : Berth) (why : EndReason) (s : State) :
    ∀ r, (closeSession b why s).slot b ≠ .openSlot r := by
  intro r
  unfold closeSession
  split
  next r' h =>
    rw [State.slot, (evalLogFull_slots _).1]
    intro e
    have : (upd s.blg.slots b fun _ => Slot.free)[b.val] = .openSlot r := e
    simp at this
  next h => exact h r

/-- R150: the record of a session that is closed. -/
theorem closeSession_log {r : Session} (h : s.slot b = .openSlot r) (why : EndReason) :
    ∃ x ∈ (closeSession b why s).blg.log, ClosedAs r x why s.clock := by
  refine ⟨closedRecord s b why r, ?_, rfl, rfl, rfl, rfl, rfl, rfl, rfl, rfl, rfl, rfl⟩
  unfold closeSession
  rw [h]
  dsimp only
  rw [(evalLogFull_slots _).2]
  exact List.mem_append_right _ List.mem_cons_self

/-- R115: the slot is free once a trip has ended the billing. -/
theorem endBilling_slot (b : Berth) (why : EndReason) (s : State) : (endBilling b why s).slot b = .free := by
  have closed := closeSession_slot b why s
  unfold endBilling
  cases e : (closeSession b why s).slot b with
  | free => rw [freeSlot_other (by rw [e]; exact Slot.noConfusion), e]
  | reserved => exact freeSlot_reserved e
  | openSlot r => exact absurd e (closed r)

end

/-! ### A trip (R115) -/

section
variable {b : Berth} {why : TripReason} {s t : State}

/-- A berth beside `b`. -/
theorem exists_other (b : Berth) : ∃ d : Berth, b ≠ d := ⟨b + 1, by decide +revert⟩

theorem tripCommanded_berth (b : Berth) (s : State) :
    (tripCommanded b s).berth b = { s.berth b with demand := true, fromOpening := false } := by
  rw [← s.berth_modBerth b fun r => { r with demand := true, fromOpening := false }]
  simp [tripCommanded, State.berth]

theorem tripEnded_berth (b : Berth) (why : TripReason) (s : State) :
    ∃ hf ha, (tripEnded b why s).berth b =
      { s.berth b with
        demand := true
        fromOpening := false
        holdEnd := none
        holdFrom := hf
        holdAcc := ha
        rampDue := none
        rampTimer := .stopped
        capacityCond := false
        genDue := none
        openDue := none
        reason := some why } := by
  have before : (endBilling b why.endReason (releaseBerth b (tripCommanded b s))).berth b =
      (tripCommanded b s).berth b := by simp [State.berth]
  rw [tripEnded, State.berth_modBerth, stopTimers_berth, before, tripCommanded_berth]
  exact ⟨_, _, rfl⟩

theorem tripEnded_ref (b : Berth) (why : TripReason) (s : State) :
    ∀ r, (tripEnded b why s).berthRef b = some r → r.pSet = 0 := by
  have eq : ∀ (t : State) (g : BerthRec → BerthRec), (t.modBerth b g).berthRef b = t.berthRef b := fun _ _ => rfl
  rw [tripEnded, eq]
  exact stopTimers_ref b _

theorem tripCommanded_outputs (b : Berth) (s : State) : (tripCommanded b s).evr.outputs[b] = true := by
  have : (tripCommanded b s).evr =
      (driveOutputs (s.modBerth b fun r => { r with demand := true, fromOpening := false })).evr := by
    simp [tripCommanded]
  rw [this, driveOutputs_get, State.berth_modBerth]
  rfl

theorem tripCommanded_idle (b : Berth) (s : State) : (tripCommanded b s).syu.busy (outlet b) = false := by
  have idle := cancelSync_idle (outlet b)
    (driveOutputs (s.modBerth b fun r => { r with demand := true, fromOpening := false }))
  simpa [tripCommanded] using idle

/-- R115: up to BCMD TRIP a trip changes neither billing nor the clock. -/
theorem tripCommanded_clock (b : Berth) (s : State) :
    (tripCommanded b s).blg = s.blg ∧ (tripCommanded b s).mtr = s.mtr := by
  simp [tripCommanded]

/-- R90: what a cancellation leaves of the link. -/
theorem cancelSync_kept {x : Target → Prop} {t : Target} (hx : ¬ x t) (s : State) :
    Lpu.Kept x 0 s.lpu (cancelSync t s).lpu := by
  have opened : ∀ s : State, Lpu.Kept x 0 s.lpu (command .openCmd t s).lpu := fun s => giveBcmd_kept hx s
  have channel : ∀ (c : Chan) (s : State), Lpu.Kept x 0 s.lpu (cancelChannel t c s).lpu := by
    intro c s
    unfold cancelChannel
    split
    · exact .refl x 0 _
    split
    · split
      · simpa using opened s
      · simpa using Lpu.Kept.refl x 0 s.lpu
    · exact .refl x 0 _
  have dead : ∀ s : State, Lpu.Kept x 0 s.lpu (cancelDeadClose t s).lpu := by
    intro s
    unfold cancelDeadClose
    split
    · simpa using opened s
    · exact .refl x 0 _
  have queued : Lpu.Kept x 0 s.lpu (cancelQueued t s).lpu := by
    simpa using Lpu.Kept.refl x 0 s.lpu
  exact ((queued.trans (channel 0 _)).trans (channel 1 _)).trans (dead _)

/-- R115: BCMD TRIP is given. -/
theorem tripCommanded_given (w : EgressWorks s) (o : s.own ≠ none) :
    CommandGiven ⟨(s.breaker (outlet b)).node, .trip, outlet b, (s.breaker (outlet b)).margin + 100⟩
        (tripCommanded b s) ∧ (tripCommanded b s).lpu.sending ≠ none := by
  have cancelled := cancelSync_kept (x := fun k => k ≠ outlet b) (not_not.2 rfl)
    (driveOutputs (s.modBerth b fun r => { r with demand := true, fromOpening := false }))
  have given := giveBcmd_given (s := cancelSync (outlet b)
      (driveOutputs (s.modBerth b fun r => { r with demand := true, fromOpening := false })))
    (c := ⟨(s.breaker (outlet b)).node, .trip, outlet b, (s.breaker (outlet b)).margin + 100⟩)
    (cancelled.works w).1 (by rw [State.own, cancelled.nid]; exact o)
  have eq : tripCommanded b s = giveBcmd ⟨(s.breaker (outlet b)).node, .trip, outlet b,
      (s.breaker (outlet b)).margin + 100⟩ (cancelSync (outlet b)
      (driveOutputs (s.modBerth b fun r => { r with demand := true, fromOpening := false }))) := by
    rw [tripCommanded, command, cancelSync_breaker]
    rfl
  rw [eq]
  exact given

theorem tripCommanded_kept {x : Target → Prop} (hx : ¬ x (outlet b)) (s : State) :
    Lpu.Kept x 0 s.lpu (tripCommanded b s).lpu :=
  (cancelSync_kept hx (driveOutputs (s.modBerth b fun r => { r with demand := true, fromOpening := false }))).trans
    (giveBcmd_kept hx _)

/-- R115: what follows BCMD TRIP leaves the link but for the releases. -/
theorem tripEnded_kept (b : Berth) (why : TripReason) (s : State) :
    Lpu.Kept (· = outlet b) 0 (tripCommanded b s).lpu (tripEnded b why s).lpu := by
  simpa [tripEnded] using (releaseBerth_aside (b := b) b (tripCommanded b s)).link

/-- A command for a breaker named stays given while frames are only added. -/
theorem CommandGiven.queued {x : Target → Prop} {n : Nat} {c : Bcmd} (h : CommandGiven c s) (hx : x c.target)
    (q : Lpu.Queued x n s.lpu t.lpu) : CommandGiven c t := by
  have listed : c ∈ s.lpu.protect ++ s.lpu.commandList → CommandGiven c t := fun hm =>
    (List.mem_append.1 (q.commands c hx hm)).elim .inl (.inr ∘ .inl)
  obtain h | h | h := h
  · exact listed (List.mem_append_left _ h)
  · exact listed (List.mem_append_right _ h)
  · exact .inr (.inr (q.begun h))

/-- R115: what a trip of a berth does to it. -/
theorem tripBerth_tripped (h : (s.berth b).state.active = true) (why : TripReason) :
    TrippedFrom b why s (tripBerth b why s) := by
  rw [tripBerth_eq h]
  obtain ⟨hf, ha, hrec⟩ := tripEnded_berth b why s
  have record := enterState_berth b .tripped (tripEnded b why s)
  rw [hrec] at record
  have released := releaseBerth_aside (b := b) b (tripCommanded b s)
  have outputs : (enterState b .tripped (tripEnded b why s)).evr = (tripCommanded b s).evr := by simp [tripEnded]
  have blg : (enterState b .tripped (tripEnded b why s)).blg =
      (endBilling b why.endReason (releaseBerth b (tripCommanded b s))).blg := by simp [tripEnded]
  have syu : (enterState b .tripped (tripEnded b why s)).syu = (releaseBerth b (tripCommanded b s)).syu := by
    simp [tripEnded]
  have modules : ∀ m, (enterState b .tripped (tripEnded b why s)).modu m =
      (releaseBerth b (tripCommanded b s)).modu m := by
    intro m
    rw [enterState_modu]
    simp [tripEnded, State.modu]
  have lists : (tripCommanded b s).list b = s.list b := by
    obtain ⟨d, hd⟩ := exists_other b
    exact (tripCommanded_aside hd s).list b
  refine ⟨by rw [record], by rw [record], by rw [record], by rw [record], ?_, by rw [record], by rw [record],
    by rw [record], by rw [record], by rw [record], by rw [record], ?_, ?_, ?_, ?_, ?_, ?_⟩
  · rw [outputs]; exact tripCommanded_outputs b s
  · intro r hr
    rw [(enterState_sends b .tripped _).berthRef] at hr
    obtain ⟨r', hr', e⟩ := changeState_ref hr
    rw [e]
    exact tripEnded_ref b why s r' hr'
  · rw [State.slot, blg]; exact endBilling_slot b _ _
  · intro r hr
    have unchanged := tripCommanded_clock b s
    have before : (releaseBerth b (tripCommanded b s)).slot b = .openSlot r := by
      simpa [State.slot, unchanged.1] using hr
    have clock : (releaseBerth b (tripCommanded b s)).clock = s.clock := by
      simp [State.clock, unchanged.2]
    rw [blg, endBilling, freeSlot_log, ← clock]
    exact closeSession_log before _
  · intro m hm
    have out := releaseBerth_serving (s := tripCommanded b s) (b := b) (m := m) (lists ▸ hm)
    rw [modules]
    refine ⟨?_, ?_, ?_⟩ <;> intro e <;> rw [e] at out <;> exact Bool.noConfusion out
  · intro _
    rw [syu]
    exact released.idle (tripCommanded_idle b s)
  · intro w o
    obtain ⟨given, sending⟩ := tripCommanded_given (b := b) w o
    have link := (tripEnded_kept b why s).trans (enterState_kept _ b .tripped (tripEnded b why s))
    refine ⟨given.queued (x := (· = outlet b)) rfl (link.busy sending), fun _ _ room => ?_⟩
    have before := (tripCommanded_kept (x := fun _ => False) not_false s).trans
      ((tripEnded_kept b why s).mono le_rfl fun _ => False.elim)
    obtain ⟨works, length⟩ := before.works w
    have table : (tripEnded b why s).entry b = s.entry b := by
      simp [tripEnded, State.entry, stopTimers, stopRamp, setShipHold, tripCommanded]
    rw [← table]
    exact (enterState_notice works (by rw [State.own, before.nid]; exact o)
      (by have := length (by omega); omega)).1

end
end Sys2Proof.Machine

end

section
namespace Sys2Proof.Machine

/-! ### How many hand-offs a trip gives -/

section
variable {s : State}

theorem endRequest_length (req : SyncReq) (r : SyncResult) (s : State) :
    (endRequest req r s).handoffs.length = s.handoffs.length + 1 := by
  have given : ∀ s : State, (giveResult req.target r s).handoffs.length = s.handoffs.length + 1 := by
    intro s
    unfold giveResult
    split <;> simp [State.post]
  rw [endRequest, given]
  simp

theorem cancelSync_length (t : Target) (s : State) :
    (cancelSync t s).handoffs.length ≤ s.handoffs.length + 5 := by
  have queued : (cancelQueued t s).handoffs.length ≤ s.handoffs.length + 1 := by
    unfold cancelQueued
    split
    · omega
    · rw [endRequest_length]; simp
  have idled : ∀ (c : Chan) (s : State), (idleChannel c s).handoffs.length = s.handoffs.length + 1 := by
    intro c s
    simp [idleChannel, State.post]
  have channel : ∀ (c : Chan) (s : State), (cancelChannel t c s).handoffs.length ≤ s.handoffs.length + 2 := by
    intro c s
    unfold cancelChannel
    split
    · omega
    split
    · rw [idled, endRequest_length]
      split <;> simp
    · omega
  have first := channel 0 (cancelQueued t s)
  have second := channel 1 (cancelChannel t 0 (cancelQueued t s))
  rw [cancelSync, (cancelDeadClose_frame t _).2.2.2.2.2.2.2.2.2.1]
  omega

/-- The modules in service. -/
def inService (s : State) : Finset Module := Finset.univ.filter fun m => (s.modu m).state.serving = true

theorem inService_card (s : State) : (inService s).card ≤ 8 := (Finset.card_le_univ _).trans (by simp)

/-- R46: a release gives at most six hand-offs, and only where it takes a module out of service. -/
theorem release_length (m : Module) (s : State) :
    (release m s).handoffs.length + 6 * (inService (release m s)).card ≤
      s.handoffs.length + 6 * (inService s).card := by
  cases h : (s.modu m).state.serving with
  | false => rw [release_idle h]
  | true =>
    have fewer : (inService (release m s)).card < (inService s).card := by
      refine Finset.card_lt_card ((Finset.ssubset_iff_of_subset fun x hx => ?_).2 ⟨m, ?_, ?_⟩)
      · simp only [inService, Finset.mem_filter, Finset.mem_univ, true_and] at hx ⊢
        obtain e | e := (release_aside (b := 0) m s).modules x
        · rwa [e] at hx
        · rw [e] at hx; exact Bool.noConfusion hx
      · simpa [inService] using h
      · simp [inService, release_not_serving]
    have stopped : (stopModule m s).handoffs.length ≤ s.handoffs.length + 5 := by
      have cancelled := cancelSync_length (contactor m) (dropModulePair m
        (s.modModule m (ModuleRec.stopping s.now (s.mpm.table[m].stopLimit * 1000))))
      simpa [stopModule] using cancelled
    have given : (release m s).handoffs.length ≤ s.handoffs.length + 6 := by
      obtain e | ⟨c, -, e⟩ := release_serving h
      · rw [e]; omega
      · rw [e, tellSummary, State.post, List.length_append, List.length_singleton]; omega
    omega

theorem releaseBerth_length (b : Berth) (s : State) :
    (releaseBerth b s).handoffs.length ≤ s.handoffs.length + 48 := by
  have fold : ∀ (ms : List Module) (s : State),
      (ms.foldl (fun s m => release m s) s).handoffs.length +
        6 * (inService (ms.foldl (fun s m => release m s) s)).card ≤
      s.handoffs.length + 6 * (inService s).card := by
    intro ms
    induction ms with
    | nil => exact fun s => le_rfl
    | cons m ms ih => exact fun s => (ih _).trans (release_length m s)
  have := fold (s.list b) s
  have := inService_card s
  rw [releaseBerth]
  omega

theorem evalLogFull_length (s : State) : (evalLogFull s).handoffs.length ≤ s.handoffs.length + 1 := by
  unfold evalLogFull
  split <;> simp [State.post]

theorem endBilling_length (b : Berth) (why : EndReason) (s : State) :
    (endBilling b why s).handoffs.length ≤ s.handoffs.length + 2 := by
  have freed : ∀ s : State, (freeSlot b s).handoffs.length ≤ s.handoffs.length + 1 := by
    intro s
    unfold freeSlot
    split
    · exact evalLogFull_length _
    · omega
  have closed : (closeSession b why s).handoffs.length ≤ s.handoffs.length + 1 := by
    unfold closeSession
    split
    · exact evalLogFull_length _
    · omega
  have := freed (closeSession b why s)
  rw [endBilling]
  omega

theorem enterTripped_handoffs (b : Berth) (s : State) : (enterState b .tripped s).handoffs = s.handoffs := by
  have watch : ∀ (old : BerthState) (s : State), (watchChange b old .tripped s).handoffs = s.handoffs := by
    intro old s
    unfold watchChange
    rw [if_neg (by simp [BerthState.watched])]
    split <;> simp
  have change : (changeState b .tripped s).handoffs = s.handoffs := by
    unfold changeState
    dsimp only
    (repeat' split) <;> simp [watch]
  simp [enterState, change]

/-- R115: a trip gives at most 55 hand-offs. -/
theorem tripBerth_length (b : Berth) (why : TripReason) (s : State) :
    (tripBerth b why s).handoffs.length ≤ s.handoffs.length + 55 := by
  cases h : (s.berth b).state.active with
  | false => rw [tripBerth_inactive h]; omega
  | true =>
    have commanded : (tripCommanded b s).handoffs.length ≤ s.handoffs.length + 5 := by
      simpa [tripCommanded] using cancelSync_length (outlet b)
        (driveOutputs (s.modBerth b fun r => { r with demand := true, fromOpening := false }))
    have released := releaseBerth_length b (tripCommanded b s)
    have ended := endBilling_length b why.endReason (releaseBerth b (tripCommanded b s))
    have : (tripEnded b why s).handoffs =
        (endBilling b why.endReason (releaseBerth b (tripCommanded b s))).handoffs := by simp [tripEnded]
    rw [tripBerth_eq h, enterTripped_handoffs, this]
    omega

end

/-! ### A BERTH notice stands while the trips of other berths settle -/

/-- R11, R14: the SHPN given at `now` stands in CONTROL, or egress, found free, has begun it. -/
def Lpu.Noticed (d : Nat) (body : Notice) (now : Nat) (l : Lpu) : Prop :=
  (⟨.shpn d body, now, false⟩ : ControlPlace) ∈ l.control ∨
    ∃ l₀ : Lpu, l = l₀.begun (ControlFrame.shpn d body).parts.1 (ControlFrame.shpn d body).parts.2.1 0
      (ControlFrame.shpn d body).parts.2.2

theorem noticeGiven_iff (d : Nat) (body : Notice) (t : State) :
    NoticeGiven d body t ↔ t.lpu.Noticed d body t.now := Iff.rfl

theorem Lpu.Noticed.queued {d : Nat} {body : Notice} {now : Nat} {x : Target → Prop} {n : Nat} {l l' : Lpu}
    (h : l.Noticed d body now) (q : Lpu.Queued x n l l') (room : l.control.length + n ≤ 24) : l'.Noticed d body now := by
  obtain h | h := h
  · obtain ⟨ps, e, -⟩ := q.control room
    exact .inl (by rw [e]; exact List.mem_append_left _ h)
  · exact .inr (q.begun h)

/-- The berths in which a trip acts. -/
def activeBerths (s : State) : Finset Berth := Finset.univ.filter fun c => (s.berth c).state.active = true

theorem mem_activeBerths {s : State} {c : Berth} : c ∈ activeBerths s ↔ (s.berth c).state.active = true := by
  simp [activeBerths]

/-- A hand-off that leads to no SHPN but those of the trips that raises bring. -/
def Handoff.Tame (s : State) (h : Handoff) : Prop :=
  h.Cancels ∨ (∃ e, h = .raise e) ∨ ∃ c, h = .summary c ∧ (s.berth c).state.active = false

/-- An SHPN that was given at `now` stands, and CONTROL has room for the notices of the berths still to trip; raises
bring trips only, and what waits is tame. -/
structure NoticeStands (d : Nat) (body : Notice) (now : Nat) (s : State) : Prop where
  noticed : s.lpu.Noticed d body now
  sending : s.lpu.sending ≠ none
  room : s.lpu.control.length + (activeBerths s).card ≤ 24
  apart : ∀ b c m, m ∈ s.list b → m ∈ s.list c → b = c
  events : ∀ e, RaisesAlone e s ∨ (s.event e).action ∈ [.tripBerth, .tripAll]
  tame : ∀ h ∈ s.handoffs, h.Tame s

section
variable {d : Nat} {body : Notice} {now : Nat} {s t : State} {b : Berth} {n : Nat} {P : Handoff → Prop}

theorem Aside.events (h : Aside b n P s t)
    (hs : ∀ e, RaisesAlone e s ∨ (s.event e).action ∈ [.tripBerth, .tripAll]) :
    ∀ e, RaisesAlone e t ∨ (t.event e).action ∈ [.tripBerth, .tripAll] := by
  intro e
  obtain ⟨enabled, action⟩ := h.entries e
  rw [action]
  exact (hs e).imp_left fun hr => hr.imp (h.raw e) (enabled.trans ·)

/-- Work aside from every berth that gives no SHPN. -/
theorem NoticeStands.aside (h : NoticeStands d body now s) (ha : ∀ b, Aside b 0 Handoff.Cancels s t) :
    NoticeStands d body now t := by
  have q := (ha 0).link.busy h.sending
  have states : ∀ c, (t.berth c).state = (s.berth c).state := fun c => (ha c).state
  obtain ⟨ps, control, hp⟩ := q.control (by have := h.room; omega)
  obtain rfl : ps = [] := List.eq_nil_of_length_eq_zero (by omega)
  rw [List.append_nil] at control
  refine ⟨h.noticed.queued q (by have := h.room; omega), by rw [q.sending]; exact h.sending, ?_, ?_,
    (ha 0).events h.events, ?_⟩
  · simpa only [control, activeBerths, states] using h.room
  · simpa only [(ha 0).list] using h.apart
  · obtain ⟨hs, e, hc⟩ := (ha 0).handed
    intro x hx
    rw [e] at hx
    obtain hx | hx := List.mem_append.1 hx
    · simpa only [Handoff.Tame, states] using h.tame x hx
    · exact .inl (hc x hx)

/-- R115: the trip of another berth gives its BERTH notice, for which there is room. -/
theorem NoticeStands.trip (h : NoticeStands d body now s) (c : Berth) (why : TripReason) :
    NoticeStands d body now (tripBerth c why s) := by
  cases hc : (s.berth c).state.active with
  | false => rw [tripBerth_inactive hc]; exact h
  | true =>
    have tripped : ((tripBerth c why s).berth c).state = .tripped := (tripBerth_tripped hc why).1
    have others : ∀ b, c ≠ b → ((tripBerth c why s).berth b).state = (s.berth b).state :=
      fun b hb => (tripBerth_aside hb why s).state
    obtain ⟨b, hb⟩ := exists_other c
    have aside := tripBerth_aside hb why s
    have q := aside.link.busy h.sending
    have active : activeBerths (tripBerth c why s) = (activeBerths s).erase c := by
      ext x
      rw [Finset.mem_erase, mem_activeBerths, mem_activeBerths]
      by_cases hx : c = x
      · subst hx; rw [tripped]; simp [BerthState.active]
      · simp [others x hx, Ne.symm hx]
    have member : c ∈ activeBerths s := mem_activeBerths.2 hc
    have card := Finset.card_erase_add_one member
    have inactive : ∀ x, (s.berth x).state.active = false → ((tripBerth c why s).berth x).state.active = false := by
      intro x hx
      by_cases e : c = x
      · subst e; rw [tripped]; rfl
      · rw [others x e]; exact hx
    have room := h.room
    obtain ⟨ps, control, hp⟩ := q.control (by omega)
    refine ⟨h.noticed.queued q (by omega), by rw [q.sending]; exact h.sending, ?_, ?_, aside.events h.events, ?_⟩
    · rw [control, active, List.length_append]; omega
    · simpa only [aside.list] using h.apart
    · obtain ⟨hs, e, hg⟩ := aside.handed
      intro x hx
      rw [e] at hx
      obtain hx | hx := List.mem_append.1 hx
      · obtain hx | hx | ⟨y, rfl, hy⟩ := h.tame x hx
        · exact .inl hx
        · exact .inr (.inl hx)
        · exact .inr (.inr ⟨y, rfl, inactive y hy⟩)
      · obtain (hx | ⟨y, ⟨m, hm, hy⟩, rfl⟩) | rfl := hg x hx
        · exact .inl hx
        · obtain rfl : c = y := h.apart c y m hm hy
          exact .inr (.inr ⟨c, rfl, by rw [tripped]; rfl⟩)
        · exact .inr (.inl ⟨_, rfl⟩)

/-- R164: an action that trips berths. -/
theorem NoticeStands.act (h : NoticeStands d body now s) {e : EventIx}
    (ha : (s.event e).action ∈ [.tripBerth, .tripAll]) : NoticeStands d body now (applyAction e s) := by
  unfold applyAction
  split
  next shed _ => simp [shed] at ha
  · exact h.trip _ _
  · split
    · exact h
    · exact h.trip _ _
  · exact (((h.trip _ _).trip _ _).trip _ _).trip _ _
  next block _ => simp [block] at ha
  · exact h

/-- R159, R164: a raise that changes its entry alone or trips berths. -/
theorem NoticeStands.raise (h : NoticeStands d body now s) (e : EventIx) :
    NoticeStands d body now (raiseEntry e s) := by
  have set : ∀ (b : Berth) (g : EventEntry → EventEntry),
      (∀ x, (x.raw = true → (g x).raw = true) ∧ (g x).enabled = x.enabled ∧ (g x).action = x.action) →
      Aside b 0 Handoff.Cancels s (s.modEntry e g) := fun b g hg => modEntry_aside hg s
  unfold raiseEntry
  dsimp only
  split
  · refine h.aside fun b => set b _ ?_
    exact fun _ => ⟨id, rfl, rfl⟩
  next raw =>
  have marked := fun b => set b (fun x => { x with raw := true, count := 0, clock := some s.clock })
    fun _ => ⟨fun _ => rfl, rfl, rfl⟩
  split
  next enabled =>
    have action : (s.event e).action ∈ [.tripBerth, .tripAll] :=
      (h.events e).resolve_left fun hr => hr.elim raw fun x => by rw [x] at enabled; exact Bool.noConfusion enabled
    have held := fun b => ((marked b).trans (giveNotes_aside e _)).trans (recomputeHolds_aside _)
    have acts := ((held 0).entries e).2
    exact (h.aside held).act (by rw [acts]; exact action)
  · exact h.aside marked

/-- BSQ keeps a summary handed to it (R53). -/
theorem keepSummary_aside (c : Berth) (v : Summary) (s : State) :
    Aside b n P s (s.modBerth c fun r => { r with summary := v }) := by
  by_cases hc : c = b
  · subst hc
    exact { Aside.refl c n P s with
      berth := ⟨v, (s.berth c).eventHold, (s.berth c).rampTimer, s.berth_modBerth c _, id⟩ }
  · exact (modBerth_aside hc _ s).mono (by omega) fun _ => id

theorem takeCancelled {h : Handoff} (hc : h.Cancels) (s : State) :
    takeHandoff h s = s ∨ h = .serveChannels := by
  obtain ⟨c, rfl⟩ | ⟨m, rfl⟩ | rfl := hc
  · left
    show outletResultTaken c .cancelled s = s
    unfold outletResultTaken
    split <;> rfl
  · left
    show contactorResult m .cancelled s = s
    unfold contactorResult
    split <;> rfl
  · exact .inr rfl

theorem NoticeStands.take {h : Handoff} {rest : List Handoff} (hs : NoticeStands d body now s)
    (e : s.handoffs = h :: rest) : NoticeStands d body now (takeHandoff h { s with handoffs := rest }) := by
  have rested : NoticeStands d body now { s with handoffs := rest } :=
    { hs with tame := fun x hx => hs.tame x (by rw [e]; exact List.mem_cons_of_mem _ hx) }
  obtain hc | ⟨x, rfl⟩ | ⟨c, rfl, hc⟩ := hs.tame h (by simp [e])
  · obtain same | rfl := takeCancelled hc { s with handoffs := rest }
    · rw [same]; exact rested
    · exact rested.aside fun b => serveChannelsTaken_aside _
  · exact rested.raise x
  · show NoticeStands d body now (summaryTaken c { s with handoffs := rest })
    unfold summaryTaken
    split
    · exact rested
    · rw [actOnSummary_inactive (by rw [State.berth_modBerth]; exact hc)]
      exact rested.aside fun b => keepSummary_aside c _ _

theorem NoticeStands.drain (h : NoticeStands d body now s) (n : Nat) :
    NoticeStands d body now (Machine.drain n s) := by
  induction n generalizing s with
  | zero => exact h
  | succ n ih =>
    cases e : s.handoffs with
    | nil => rw [drain_nil _ e]; exact h
    | cons x rest => rw [drain_cons n e]; exact ih (h.take e)

theorem NoticeStands.settle (h : NoticeStands d body now s) : (Machine.settle s).lpu.Noticed d body now :=
  (h.drain Config.settleFuel).noticed

end

/-! ### A tripped berth stays as the trip left it -/

section
variable {b : Berth} {why : TripReason} {s u v t : State}

/-- R14, R115: where nothing waits behind a free egress, egress is sending after a trip. -/
theorem tripBerth_sending (h : (s.berth b).state.active = true) (why : TripReason) (w : EgressWorks s)
    (o : s.own ≠ none) : (tripBerth b why s).lpu.sending ≠ none := by
  obtain ⟨-, sending⟩ := tripCommanded_given (b := b) w o
  have link := (tripEnded_kept b why s).trans (enterState_kept _ b .tripped (tripEnded b why s))
  rw [tripBerth_eq h, (link.busy sending).sending]
  exact sending

/-- R115: after a trip, the BERTH notice stands while what the trip hands over is taken. -/
theorem tripBerth_noticeStands (h : (s.berth b).state.active = true) (why : TripReason) (q : Quiet s)
    (w : EgressWorks s) (o : s.own ≠ none)
    (events : ∀ e, RaisesAlone e s ∨ (s.event e).action ∈ [.tripBerth, .tripAll]) (listed : ModulesListed s)
    (room : s.lpu.control.length + 4 ≤ 24) :
    NoticeStands (s.entry b).gateway (.berth b 12) s.now (tripBerth b why s) := by
  have tripped := tripBerth_tripped h why
  obtain ⟨c, hc⟩ := exists_other b
  have aside := tripBerth_aside hc why s
  obtain ⟨state, -, -, -, -, -, -, -, -, -, -, -, -, -, -, -, given⟩ := tripped
  refine ⟨?_, tripBerth_sending h why w o, ?_, ?_, aside.events events, ?_⟩
  · have noticed := (given w o).2 events listed room
    rw [noticeGiven_iff] at noticed
    simpa using noticed
  · have length := (aside.link.works w).2 (by omega)
    have fewer : (activeBerths (tripBerth b why s)).card ≤ 3 := by
      have sub : activeBerths (tripBerth b why s) ⊆ Finset.univ.erase b := by
        intro x hx
        refine Finset.mem_erase.2 ⟨fun e => ?_, Finset.mem_univ x⟩
        rw [mem_activeBerths, e, state] at hx
        exact Bool.noConfusion hx
      exact (Finset.card_le_card sub).trans (by simp)
    omega
  · simpa only [aside.list] using listed.2.1
  · obtain ⟨hs, e, hg⟩ := aside.handed
    intro x hx
    rw [e, q, List.nil_append] at hx
    obtain (hx | ⟨y, ⟨m, hm, hy⟩, rfl⟩) | rfl := hg x hx
    · exact .inl hx
    · obtain rfl : b = y := listed.2.1 b y m hm hy
      exact .inr (.inr ⟨b, rfl, by rw [state]; rfl⟩)
    · exact .inr (.inl ⟨_, rfl⟩)

/-- R115: what a trip left of its berth stays as work is done aside from it; its notice has to be followed on its own. -/
theorem TrippedFrom.later (h : TrippedFrom b why s v) (l : Later b v t)
    (sending : EgressWorks s → s.own ≠ none → v.lpu.sending ≠ none)
    (notice : EgressWorks s → s.own ≠ none →
      (∀ e, RaisesAlone e s ∨ (s.event e).action ∈ [.tripBerth, .tripAll]) → ModulesListed s →
        s.lpu.control.length + 4 ≤ 24 → NoticeGiven (s.entry b).gateway (.berth b 12) t) :
    TrippedFrom b why s t := by
  obtain ⟨n, l⟩ := l
  obtain ⟨state, demand, opening, reason, output, rampDue, rampTimer, holdEnd, genDue, openDue, capacity, power, slot,
    log, modules, idle, given⟩ := h
  obtain ⟨sum, hold, rt, record, stopped⟩ := l.berth
  obtain rfl := stopped rampTimer
  have record' : t.berth b = { v.berth b with summary := sum, eventHold := hold, rampTimer := .stopped } := record
  refine ⟨by rw [record']; exact state, by rw [record']; exact demand, by rw [record']; exact opening,
    by rw [record']; exact reason, l.outputs demand output, by rw [record']; exact rampDue, by rw [record'],
    by rw [record']; exact holdEnd, by rw [record']; exact genDue, by rw [record']; exact openDue,
    by rw [record']; exact capacity, ?_, l.slot.trans slot, ?_, ?_, fun so => l.idle (idle so), fun w o => ⟨?_, ?_⟩⟩
  · intro r hr
    obtain ⟨r', hr', e⟩ := l.ref r hr
    rw [e]
    exact power r' hr'
  · intro r hr
    obtain ⟨x, hx, closed⟩ := log r hr
    exact ⟨x, l.log.subset hx, closed⟩
  · intro m hm
    have before := modules m hm
    obtain e | e := l.modules m
    · have e' : (t.modu m).state = (v.modu m).state := e
      rw [e']; exact before
    · have e' : (t.modu m).state = .stopping := e
      rw [e']; decide
  · exact (given w o).1.queued (x := (· = outlet b)) rfl (l.link.busy (sending w o))
  · exact notice w o

end
end Sys2Proof.Machine

end

section
namespace Sys2Proof.Machine

/-! ### The pilot loops (R117) -/

section
variable {b : Berth} {s : State}

theorem active_iff (st : BerthState) : st.active = true ↔ st ∉ [.unused, .dead, .tripped] := by
  cases st <;> decide

theorem exec_pilotInputChange {s : State} (q : Quiet s) (b : Berth) (asserted : Bool) :
    exec (.pilotInputChange b asserted) s = .next (settle (pilotChange b asserted s)) := by
  rw [← done_quiet (pilotChange b asserted) q]
  rfl

/-- R117: an input that becomes asserted, or is released where no trip acts, changes its level only. -/
theorem pilotChange_level {asserted : Bool} (h : asserted = true ∨ (s.berth b).state.active = false) :
    pilotChange b asserted s = { s with pins := { s.pins with pilot := upd s.pins.pilot b fun _ => asserted } } := by
  unfold pilotChange
  split
  next same =>
    have : upd s.pins.pilot b (fun _ => asserted) = s.pins.pilot := by
      subst same
      exact Vector.set_getElem_self _
    rw [this]
  · have quiet : (!asserted && (s.berth b).state.active) = false := by
      obtain rfl | h := h
      · rfl
      · rw [h, Bool.and_false]
    rw [if_neg (by simp [quiet])]
    rfl

/-- R117: a release of an asserted input in any other state. -/
theorem pilotChange_release (h : s.pins.pilot[b] = true) (ha : (s.berth b).state.active = true) :
    pilotChange b false s =
      (tripBerth b .pilot (s.modPins fun p => { p with pilot := upd p.pilot b fun _ => false })).post
        (.raise (evPilotLoss b)) := by
  unfold pilotChange
  rw [if_neg (by rw [h]; decide), if_pos (by rw [ha]; rfl)]

/-- R115, R117: the trip that a released pilot loop brings, once everything it leads to is taken. -/
theorem trip_raised {e : EventIx} (he : (Handoff.raise e).Mild) (q : Quiet s)
    (h : (s.berth b).state.active = true) (why : TripReason) :
    TrippedFrom b why s (settle ((tripBerth b why s).post (.raise e))) ∧
      ((settle ((tripBerth b why s).post (.raise e))).event e).raw = true := by
  have tripped := tripBerth_tripped h why
  obtain ⟨c, hc⟩ := exists_other b
  obtain ⟨hs, eq, given⟩ := (tripBerth_aside hc why s).handed
  rw [q, List.nil_append] at eq
  have inactive : (((tripBerth b why s).post (.raise e)).berth b).state.active = false := by
    rw [show ((tripBerth b why s).post (.raise e)).berth b = (tripBerth b why s).berth b from rfl, tripped.1]
    rfl
  have handoffs : ((tripBerth b why s).post (.raise e)).handoffs = hs ++ .raise e :: [] := by
    rw [State.post, eq]
  have mild : ∀ x ∈ ((tripBerth b why s).post (.raise e)).handoffs, x.Mild := by
    intro x hx
    rw [handoffs] at hx
    obtain hx | hx := List.mem_append.1 hx
    · exact (given x hx).mild
    · rw [List.mem_singleton.1 hx]; exact he
  have posted : Later b (tripBerth b why s) ((tripBerth b why s).post (.raise e)) := later_handoffs b _ _
  refine ⟨tripped.later (posted.trans (settle_later inactive mild)) (tripBerth_sending h why) ?_, ?_⟩
  · intro w o events listed room
    have stands := tripBerth_noticeStands h why q w o events listed room
    have stands' : NoticeStands (s.entry b).gateway (.berth b 12) s.now ((tripBerth b why s).post (.raise e)) :=
      { stands with
        tame := fun x hx => (List.mem_append.1 hx).elim (stands.tame x) fun hx =>
          .inr (.inl ⟨e, List.mem_singleton.1 hx⟩) }
    rw [noticeGiven_iff]
    simpa using stands'.settle
  · have length := tripBerth_length b why s
    rw [eq, q] at length
    exact settle_raises inactive mild handoffs (lt_of_le_of_lt length (by decide))

end
end Sys2Proof.Machine

section

open Sys2Proof Sys2Proof.Machine

/-- Settles O22: a release where a trip acts is followed through everything that the trip hands over. -/
theorem pilotLoop : Obligations.PilotLoop := by
  unfold Obligations.PilotLoop
  intro b asserted s q
  refine ⟨fun h => ?_, fun hp ha hs => ?_⟩
  · have level : asserted = true ∨ (s.berth b).state.active = false :=
      h.imp_right fun hm => by
        rw [← Bool.not_eq_true, active_iff, not_not]
        exact hm
    rw [exec_pilotInputChange q, pilotChange_level level, settle_quiet]
    exact q
  · subst ha
    have active := (active_iff _).2 hs
    have raised := trip_raised (s := s.modPins fun p => { p with pilot := upd p.pilot b fun _ => false })
      (mild_berthEvent b 9) q active .pilot
    refine ⟨_, exec_pilotInputChange q b false, ?_, ?_⟩
    · rw [pilotChange_release hp active]
      simp [State.post]
    · rw [pilotChange_release hp active]
      exact raised

end

end

section
namespace Sys2Proof.Machine

/-! ### Berth commands (R116, R172) -/

section
variable {s u v : State} {src : Byte} {tag : BitVec 16} {b : Berth}

/-- R172, R180: the state in which a request of `src` that is served at once reaches its owner. -/
def served (src : Byte) (q : MguReq) (s : State) : State := setPrepared src.toNat false (accepted q s)

/-- The MREQ of a berth command. -/
def berthReq (src : Byte) (tag : BitVec 16) (k cmd : Byte) : MguReq := ⟨src.toNat, tag, BitVec.ofNat 8 3, [k, cmd]⟩

/-- R174 to R176: a berth command of the operator node passes every check before BSQ's own. -/
theorem judge_berth (o : isOperator s src.toNat = true) (p : MguReq) (prep : Bool) (k cmd : Nat) :
    judge src.toNat 3 prep (.berth k cmd) (served src p s) = ofOwner (performBerth k cmd (served src p s)) := by
  have allowed : admitted (served src p s) src.toNat (Request.sender (.berth k cmd)) = true := o
  unfold judge
  rw [if_neg (by simp [allowed]), if_neg (by simp [Request.outOfRange, Request.range?]),
    if_neg (by simp [Request.guarded])]
  rfl

/-- R172: BSQ's action stands between the acceptance of a berth command and its reply. -/
theorem berthCommand_served (q : Quiet s) (h : Served s src) (o : isOperator s src.toNat = true) {k cmd : Byte}
    {res : Result} (hv : performBerth k.toNat cmd.toNat (served src (berthReq src tag k cmd) s) = (res, v))
    (hl : v.mgu.queue.length ≤ 1) :
    done (request src tag 3 [k, cmd]) s =
      .next (settle ((enterReserved (reply src tag 3 res []) (drain Config.settleFuel v)).modMgu
        fun g => { g with parts := [], queue := [] })) :=
  request_served (r := .berth k.toNat cmd.toNat) (s' := v) q h (by omega) rfl
    ((judge_berth o _ _ _ _).trans (congrArg ofOwner hv)) rfl (by simpa using hl)

/-- R172: a berth command at which BSQ does nothing but answer. -/
theorem berthCommand_answered (q : Quiet s) (w : EgressWorks s) (h : Served s src) (o : isOperator s src.toNat = true)
    {k cmd : Byte} {res : Result} (hv : ∀ p, performBerth k.toNat cmd.toNat (served src p s) = (res, served src p s)) :
    done (request src tag 3 [k, cmd]) s = .next (answered src tag 3 res [] s) :=
  request_exact (r := .berth k.toNat cmd.toNat) s q w h (by omega) rfl
    (fun p => (judge_berth o p _ _ _).trans (congrArg ofOwner (hv p))) q rfl rfl

/-- R13: reservations play no part in what the link does with an SHPN. -/
theorem giveShpn_reservations (d : Nat) (body : Notice) (w : EgressWorks s) {r : Nat}
    (hl : u.lpu = { s.lpu with reservations := r }) (hn : u.now = s.now) :
    (giveShpn d body u).lpu = { (giveShpn d body s).lpu with reservations := r } := by
  have own : u.own = s.own := by rw [State.own, hl]; rfl
  have full : u.lpu.controlFull = s.lpu.controlFull := by rw [hl]; rfl
  have control : u.lpu.control = s.lpu.control := by rw [hl]
  unfold giveShpn
  rw [own, full, control]
  cases h : s.lpu.sending with
  | some f =>
    have sending : u.lpu.sending = some f := by rw [hl]; exact h
    (repeat' split)
    · simp [shpnLost, hl]
    · rw [kick_busy (f := f) (by simpa [enterControl] using sending),
        kick_busy (f := f) (by simpa [enterControl] using h)]
      simp [enterControl, hl, hn]
    · rw [kick_busy (f := f) (by simpa [enterControl, displaceShpn, shpnLost] using sending),
        kick_busy (f := f) (by simpa [enterControl, displaceShpn, shpnLost] using h)]
      simp [enterControl, displaceShpn, shpnLost, hl, hn]
    · simp [shpnLost, hl]
  | none =>
    obtain ⟨h1, h2, h3, h4, h5⟩ := w h
    split
    · simp [shpnLost, hl]
    · simp [kick, h, h1, h3, h4, h5, hl, hn, beginNext, takePromoted, sendControl, sendOwn_eq, State.modLpu,
        Lpu.controlFull, enterControl, onControlSent, Lpu.begun]

theorem giveShpn_lpu_reservations (d : Nat) (body : Notice) (w : EgressWorks s) :
    (giveShpn d body s).lpu.reservations = s.lpu.reservations := by
  rw [giveShpn_reservations d body w (u := s) (r := s.lpu.reservations) rfl rfl]

/-- R98, R172: a berth command at which BSQ hands nothing over and gives one notice. -/
theorem berthCommand_noticed (u : State) (q : Quiet s) (w : EgressWorks s) (h : Served s src)
    (o : isOperator s src.toNat = true) {k cmd : Byte} {d : Nat} {body : Notice}
    (hv : ∀ p, performBerth k.toNat cmd.toNat (served src p s) = (.done, giveShpn d body (served src p u)))
    (h1 : u.handoffs = []) (h2 : u.lpu = s.lpu) (h3 : u.mgu = s.mgu) (h4 : u.now = s.now) :
    done (request src tag 3 [k, cmd]) s =
      .next (answered src tag 3 .done [] { u with lpu := (giveShpn d body s).lpu }) := by
  have works : EgressWorks (served src (berthReq src tag k cmd) u) := by
    rw [egressWorks_iff, show (served src (berthReq src tag k cmd) u).lpu =
      { u.lpu with reservations := u.lpu.reservations + 1 } by simp [served, accepted], h2]
    exact w
  have given := giveShpn_reservations d body w (u := served src (berthReq src tag k cmd) u)
    (r := s.lpu.reservations + 1) (by simp [served, accepted, h2]) (by simp [served, accepted, h4])
  have eq := giveShpn_eq d body works
  rw [given] at eq
  have after := (giveShpn_kept (fun _ => False) d body s).works w
  rw [berthCommand_served q h o (hv _) (by simp [served, accepted, setPrepared]),
    drain_nil _ (by simp [served, accepted, h1]), settle_quiet (by simp [served, accepted, h1]), eq]
  congr 1
  unfold enterReserved
  rw [enterReply_eq _ (by rw [egressWorks_iff]; exact after.1)]
  obtain ⟨-, queue, parts, -⟩ := h
  cases u
  simp only at h1 h2 h3 h4
  subst h1 h2 h3 h4
  have same := giveShpn_lpu_reservations d body w
  simp [answered, served, setPrepared, accepted, State.modLpu, State.modMgu, queue, parts, isOperator, isBilling, ← same]

end
end Sys2Proof.Machine

end

section
namespace Sys2Proof.Machine

section
variable {s : State} {src : Byte} {tag : BitVec 16} {b : Berth}

/-! ### What BSQ answers -/

theorem berthOf?_beyond {n : Nat} (h : 4 ≤ n) : berthOf? n = none := dif_neg (by omega)

theorem berthOf?_byte (b : Berth) : berthOf? (BitVec.ofNat 8 b.val).toNat = some b := by
  have : (BitVec.ofNat 8 b.val).toNat = b.val := by
    rw [BitVec.toNat_ofNat]
    omega
  rw [this]
  exact dif_pos b.isLt

/-- R99 to R121: a berth that does not exist. -/
theorem performBerth_beyond {n : Nat} (h : 4 ≤ n) (cmd : Nat) (s : State) : performBerth n cmd s = (.badValue, s) := by
  unfold performBerth
  rw [berthOf?_beyond h]

theorem performBerth_depart (b : Berth) (s : State) :
    performBerth (BitVec.ofNat 8 b.val).toNat (3 : Byte).toNat s = departCmd b s := by
  unfold performBerth
  rw [berthOf?_byte]
  rfl

theorem performBerth_abort (b : Berth) (s : State) :
    performBerth (BitVec.ofNat 8 b.val).toNat (4 : Byte).toNat s = abortCmd b s := by
  unfold performBerth
  rw [berthOf?_byte]
  rfl

theorem performBerth_trip (b : Berth) (s : State) :
    performBerth (BitVec.ofNat 8 b.val).toNat (5 : Byte).toNat s = tripCmd b s := by
  unfold performBerth
  rw [berthOf?_byte]
  rfl

theorem performBerth_resetTrip (b : Berth) (s : State) :
    performBerth (BitVec.ofNat 8 b.val).toNat (6 : Byte).toNat s = resetTripCmd b s := by
  unfold performBerth
  rw [berthOf?_byte]
  rfl

theorem departCmd_busy (h : (s.berth b).state ≠ .shore) : departCmd b s = (.busy, s) := if_neg h

/-- R114: the states in which ABORT releases the berth. -/
theorem abortCmd_releases (h : (s.berth b).state ∈ [.allocating, .energising, .syncing, .deadClose]) :
    abortCmd b s = (.done, enterReleasing b s) := by
  unfold abortCmd
  cases e : (s.berth b).state <;> simp_all

theorem abortCmd_rampUp (h : (s.berth b).state = .rampUp) : abortCmd b s = (.done, enterRampDown b s) := by
  rw [abortCmd, h]

theorem abortCmd_busy (h : (s.berth b).state ∉ [.allocating, .energising, .syncing, .deadClose, .rampUp]) :
    abortCmd b s = (.busy, s) := by
  unfold abortCmd
  cases e : (s.berth b).state <;> simp_all

theorem tripCmd_busy (h : (s.berth b).state ∈ [.unused, .dead]) : tripCmd b s = (.busy, s) := by
  unfold tripCmd
  cases e : (s.berth b).state <;> simp_all

/-- R116: TRIP in TRIPPED and in the states a trip acts in. -/
theorem tripCmd_done (h : (s.berth b).state ∉ [.unused, .dead]) :
    tripCmd b s = (.done, tripBerth b .operator s) := by
  unfold tripCmd
  cases e : (s.berth b).state <;> simp_all

theorem resetTripAllowed_iff (s : State) (b : Berth) :
    resetTripAllowed s b = true ↔ (s.berth b).state = .tripped ∧
      (s.breaker (outlet b)).lastPosition = some .openPos ∧ s.pins.estop = false ∧ s.list b = [] := by
  simp [resetTripAllowed, and_assoc]

/-! ### Changes of state that hand nothing over -/

theorem upd_upd {α : Type} {n : Nat} (v : Vector α n) (i : Fin n) (f g : α → α) :
    upd (upd v i f) i g = upd v i fun x => g (f x) := by
  simp [upd]

theorem modBerth_modBerth (b : Berth) (f g : BerthRec → BerthRec) (s : State) :
    (s.modBerth b f).modBerth b g = s.modBerth b fun r => g (f r) := by
  simp only [State.modBerth, State.modBsq, upd_upd]

/-- R98: a change of state is followed by the notice of the state entered. -/
theorem enterState_eq (b : Berth) (st : BerthState) (s : State) :
    enterState b st s = giveShpn (s.entry b).gateway (.berth b st.code) (changeState b st s) := by
  rw [enterState, berthNotice, changeState_entry, changeState_berth]

/-- R27, R29, R62: a change between states that are watched alike, neither from SHORE nor from SYNCING. -/
theorem changeState_plain {st : BerthState} (hw : (s.berth b).state.watched = st.watched)
    (hs : (s.berth b).state ≠ .shore) (hy : (s.berth b).state ≠ .syncing) :
    changeState b st s = s.modBerth b fun r => { r with state := st } := by
  simp [changeState, watchChange, hw, hs, hy]

/-- R27: a change from SHORE to another watched state. -/
theorem changeState_shore {st : BerthState} (hw : st.watched = true) (hs : (s.berth b).state = .shore)
    (hn : st ≠ .shore) :
    changeState b st s = clearBands b (s.modBerth b fun r => { r with state := st }) := by
  have shore : BerthState.shore.watched = true := rfl
  simp [changeState, watchChange, hw, hs, hn, shore]

/-- R104, R105, R107: the record of a berth whose ramp begins. -/
theorem startRamp_eq (b : Berth) (s : State) :
    (startRamp b s).modBerth b (fun r => { r with capacityCond := false }) =
      s.modBerth b (BerthRec.rampBegun s.now ((s.entry b).rampTimeout * 1000)) := by
  rw [startRamp, modBerth_modBerth]
  congr 1
  funext r
  cases h : r.eventHold <;>
    simp [BerthRec.syncTimer, BerthRec.held, BerthRec.rampBegun, h]

theorem enterRampDown_eq (h : (s.berth b).state = .rampUp) :
    enterRampDown b s = giveShpn (s.entry b).gateway (.berth b 9) (s.modBerth b fun r =>
      { BerthRec.rampBegun s.now ((s.entry b).rampTimeout * 1000) r with state := .rampDown }) := by
  have state : ((s.modBerth b (BerthRec.rampBegun s.now ((s.entry b).rampTimeout * 1000))).berth b).state = .rampUp := by
    rw [State.berth_modBerth]
    exact h
  rw [enterRampDown, startRamp_eq, enterState_eq,
    changeState_plain (by rw [state]; rfl) (by rw [state]; decide) (by rw [state]; decide), modBerth_modBerth]
  rfl

/-- R168: with the stop released, only berth `b`'s output follows when its demand is cleared. -/
theorem driveOutputs_cleared (h : TripOutputs s) (he : s.pins.estop = false) {g : BerthRec → BerthRec}
    (hg : ∀ r, (g r).demand = false) :
    driveOutputs (s.modBerth b g) =
      (s.modBerth b g).modEvr fun e => { e with outputs := upd e.outputs b fun _ => false } := by
  have outputs : (Vector.ofFn fun c : Fin 4 => (s.modBerth b g).bsq.recs[c].demand || (s.modBerth b g).pins.estop) =
      upd s.evr.outputs b fun _ => false := by
    ext c hc
    rw [upd_get, Vector.getElem_ofFn]
    have old := h ⟨c, hc⟩
    by_cases e : b.val = c
    · subst e
      rw [if_pos rfl]
      simp [hg, he]
    · have other : b ≠ ⟨c, hc⟩ := fun x => e (congrArg Fin.val x)
      rw [if_neg e]
      have same := congrArg BerthRec.demand (s.berth_modBerth_other other g)
      simp only [State.berth] at same
      rw [same]
      exact old.symm
  unfold driveOutputs
  rw [outputs]
  rfl

end
end Sys2Proof.Machine

end

section
namespace Sys2Proof.Machine

/-! ### The berth commands that hand nothing over (R109, R114, R116, R121) -/

section
variable {s : State} {src : Byte} {tag : BitVec 16} {b : Berth}

/-- R116: a command to a berth that does not exist. -/
theorem berthCommand_beyond (q : Quiet s) (w : EgressWorks s) (h : Served s src) (o : isOperator s src.toNat = true)
    {k : Byte} (hk : 4 ≤ k.toNat) :
    ∀ c ∈ [Instr.connect src tag k, .connectDeadShip src tag k, .depart src tag k, .abort src tag k, .trip src tag k,
      .resetTrip src tag k], exec c s = .next (answered src tag 3 .badValue [] s) := by
  have refused : ∀ cmd : Byte, done (request src tag 3 [k, cmd]) s = .next (answered src tag 3 .badValue [] s) :=
    fun cmd => berthCommand_answered q w h o fun p => performBerth_beyond hk cmd.toNat _
  simp only [List.forall_mem_cons]
  exact ⟨refused 1, refused 2, refused 3, refused 4, refused 5, refused 6, fun _ h => absurd h List.not_mem_nil⟩

/-- R109: DEPART in SHORE. -/
theorem exec_depart (q : Quiet s) (w : EgressWorks s) (h : Served s src) (o : isOperator s src.toNat = true)
    (hs : (s.berth b).state = .shore) :
    exec (.depart src tag (BitVec.ofNat 8 b.val)) s = .next (answered src tag 3 .done []
      { clearBands b (s.modBerth b fun r =>
          { r with state := .awaitGenerators, genDue := some (s.now + (s.entry b).genWait * 1000) }) with
        lpu := (giveShpn (s.entry b).gateway (.berth b 8) s).lpu }) := by
  refine berthCommand_noticed (cmd := 3) (d := (s.entry b).gateway) (body := .berth b 8) _ q w h o (fun p => ?_)
    q rfl rfl rfl
  have shore : (((served src p s).modBerth b fun r =>
      { r with genDue := some (s.now + (s.entry b).genWait * 1000) }).berth b).state = .shore := by
    rw [State.berth_modBerth]
    exact hs
  have entered : departCmd b (served src p s) = (.done, enterState b .awaitGenerators
      ((served src p s).modBerth b fun r => { r with genDue := some (s.now + (s.entry b).genWait * 1000) })) :=
    if_pos hs
  rw [performBerth_depart, entered, enterState_eq, changeState_shore rfl shore (by decide), modBerth_modBerth]
  rfl

/-- R114: ABORT in RAMP_UP. -/
theorem exec_abort_rampUp (q : Quiet s) (w : EgressWorks s) (h : Served s src) (o : isOperator s src.toNat = true)
    (hs : (s.berth b).state = .rampUp) :
    exec (.abort src tag (BitVec.ofNat 8 b.val)) s = .next (answered src tag 3 .done []
      { s.modBerth b (fun r =>
          { BerthRec.rampBegun s.now ((s.entry b).rampTimeout * 1000) r with state := .rampDown }) with
        lpu := (giveShpn (s.entry b).gateway (.berth b 9) s).lpu }) := by
  refine berthCommand_noticed (cmd := 4) (d := (s.entry b).gateway) (body := .berth b 9) _ q w h o (fun p => ?_)
    q rfl rfl rfl
  have ramping : ((served src p s).berth b).state = .rampUp := hs
  rw [performBerth_abort, abortCmd_rampUp ramping, enterRampDown_eq ramping]
  rfl

/-- R121: the state that RESET_TRIP leaves, but for the link. -/
def tripReset (b : Berth) (s : State) : State :=
  (discardRef b (s.modBerth b fun r =>
    { r with
      state := .dead
      demand := false
      fromOpening := false
      reason := none
      deadShip := false
      energised := false })).modEvr fun e => { e with outputs := upd e.outputs b fun _ => false }

/-- R98, R121: BSQ's action at RESET_TRIP. -/
theorem resetTripCmd_eq (t : TripOutputs s) (hr : resetTripAllowed s b = true) :
    resetTripCmd b s = (.done, giveShpn (s.entry b).gateway (.berth b 1) (tripReset b s)) := by
  obtain ⟨hs, -, he, -⟩ := (resetTripAllowed_iff s b).1 hr
  have cleared := driveOutputs_cleared (b := b) t he
    (g := fun r => { r with demand := false, fromOpening := false, reason := none, deadShip := false, energised := false })
    fun _ => rfl
  have driven : driveOutputs (clearCall b
      (s.modBerth b fun r => { r with demand := false, fromOpening := false, reason := none })) =
      (discardRef b (s.modBerth b fun r => { r with
        demand := false, fromOpening := false, reason := none, deadShip := false, energised := false })).modEvr
          fun e => { e with outputs := upd e.outputs b fun _ => false } := by
    rw [clearCall, modBerth_modBerth]
    exact congrArg (discardRef b) cleared
  have tripped : ((driveOutputs (clearCall b
      (s.modBerth b fun r => { r with demand := false, fromOpening := false, reason := none }))).berth b).state =
      .tripped := by
    rw [driven]
    exact (congrArg BerthRec.state (s.berth_modBerth b _)).trans hs
  rw [resetTripCmd, if_pos hr, enterState_eq,
    changeState_plain (by rw [tripped]; rfl) (by rw [tripped]; decide) (by rw [tripped]; decide), driven]
  exact congrArg (fun t => (Result.done, giveShpn (s.entry b).gateway (.berth b 1)
    ((discardRef b t).modEvr fun e => { e with outputs := upd e.outputs b fun _ => false })))
    (modBerth_modBerth b _ _ s)

/-- R121: RESET_TRIP where it is taken. -/
theorem exec_resetTrip (q : Quiet s) (w : EgressWorks s) (h : Served s src) (o : isOperator s src.toNat = true)
    (t : TripOutputs s) (hr : resetTripAllowed s b = true) :
    exec (.resetTrip src tag (BitVec.ofNat 8 b.val)) s = .next (answered src tag 3 .done []
      { tripReset b s with lpu := (giveShpn (s.entry b).gateway (.berth b 1) s).lpu }) := by
  refine berthCommand_noticed (cmd := 6) (d := (s.entry b).gateway) (body := .berth b 1) _ q w h o (fun p => ?_)
    q rfl rfl rfl
  rw [performBerth_resetTrip, resetTripCmd_eq (s := served src p s) t hr]
  rfl

/-- R121: RESET_TRIP where it is not taken. -/
theorem exec_resetTrip_busy (q : Quiet s) (w : EgressWorks s) (h : Served s src) (o : isOperator s src.toNat = true)
    (hr : ¬ resetTripAllowed s b = true) :
    exec (.resetTrip src tag (BitVec.ofNat 8 b.val)) s = .next (answered src tag 3 .busy [] s) :=
  berthCommand_answered (cmd := 6) q w h o fun _ => (performBerth_resetTrip b _).trans (if_neg hr)

/-- R109: DEPART elsewhere than in SHORE. -/
theorem exec_depart_busy (q : Quiet s) (w : EgressWorks s) (h : Served s src) (o : isOperator s src.toNat = true)
    (hs : (s.berth b).state ≠ .shore) :
    exec (.depart src tag (BitVec.ofNat 8 b.val)) s = .next (answered src tag 3 .busy [] s) :=
  berthCommand_answered (cmd := 3) q w h o fun _ => (performBerth_depart b _).trans (departCmd_busy hs)

/-- R114: ABORT in the states in which it is not taken. -/
theorem exec_abort_busy (q : Quiet s) (w : EgressWorks s) (h : Served s src) (o : isOperator s src.toNat = true)
    (hs : (s.berth b).state ∉ [.allocating, .energising, .syncing, .deadClose, .rampUp]) :
    exec (.abort src tag (BitVec.ofNat 8 b.val)) s = .next (answered src tag 3 .busy [] s) :=
  berthCommand_answered (cmd := 4) q w h o fun _ => (performBerth_abort b _).trans (abortCmd_busy hs)

/-- R116: TRIP in UNUSED and DEAD. -/
theorem exec_trip_busy (q : Quiet s) (w : EgressWorks s) (h : Served s src) (o : isOperator s src.toNat = true)
    (hs : (s.berth b).state ∈ [.unused, .dead]) :
    exec (.trip src tag (BitVec.ofNat 8 b.val)) s = .next (answered src tag 3 .busy [] s) :=
  berthCommand_answered (cmd := 5) q w h o fun _ => (performBerth_trip b _).trans (tripCmd_busy hs)

/-- R116: TRIP in TRIPPED. -/
theorem exec_trip_tripped (q : Quiet s) (w : EgressWorks s) (h : Served s src) (o : isOperator s src.toNat = true)
    (hs : (s.berth b).state = .tripped) :
    exec (.trip src tag (BitVec.ofNat 8 b.val)) s = .next (answered src tag 3 .done [] s) := by
  refine berthCommand_answered (cmd := 5) q w h o fun p => ?_
  have still : ((served src p s).berth b).state = .tripped := hs
  rw [performBerth_trip, tripCmd_done (by rw [still]; decide), tripBerth_inactive (by rw [still]; rfl)]

end
end Sys2Proof.Machine

end

section
namespace Sys2Proof.Machine

/-! ### TRIP where a trip acts (R116) -/

section
variable {s t u : State} {src : Byte} {tag : BitVec 16} {b : Berth} {n : Nat} {P : Handoff → Prop}

/-- R1: a node that is reached has a node number. -/
theorem Served.own (h : Served s src) : s.own ≠ none := by
  obtain ⟨reached, -⟩ := h
  intro e
  simp [reaches, e] at reached

/-- R13: a reply given stays given while frames are only added. -/
theorem ReplyGiven.queued {x : Target → Prop} {f : ReplyFrame} (h : ReplyGiven f s) (q : Lpu.Queued x n s.lpu t.lpu) :
    ReplyGiven f t :=
  h.imp (q.reply _) q.begun

/-- R13, R14: a reply that enters while egress sends. -/
theorem enterReserved_given {f : ReplyFrame} (h : s.lpu.sending ≠ none) : ReplyGiven f (enterReserved f s) := by
  obtain ⟨g, h⟩ := Option.ne_none_iff_exists'.1 h
  refine .inl ?_
  rw [enterReserved, enterReply, kick_busy (f := g) (by simpa using h)]
  simp

theorem enterReserved_aside (f : ReplyFrame) (s : State) : Aside b 0 P s (enterReserved f s) := by
  have released : Aside b 0 P s (s.modLpu fun l => { l with reservations := l.reservations - 1 }) :=
    { Aside.refl b 0 P s with
      link := ⟨rfl, fun w => ⟨w, fun _ => by simp⟩, fun _ => { Lpu.Queued.refl (· = outlet b) 0 s.lpu with }⟩ }
  exact released.trans ((enterReply_sends f false _).aside (enterReply_kept _ f false _))

theorem modMgu_aside (g : Mgu → Mgu) (s : State) : Aside b n P s (s.modMgu g) := { Aside.refl b n P s with }

/-- R172: a request is answered and everything handed over is taken, aside from a berth in which no trip acts. -/
theorem answer_later (hb : (s.berth b).state.active = false) (hs : ∀ x ∈ s.handoffs, x.Mild) (f : ReplyFrame)
    (g : Mgu → Mgu) :
    let a := (enterReserved f (drain Config.settleFuel s)).modMgu g
    Later b s a ∧ Later b a (settle a) := by
  obtain ⟨drained, mild⟩ := drain_later hb hs Config.settleFuel
  have entered := (enterReserved_aside (b := b) (P := Handoff.Mild) f (drain Config.settleFuel s)).trans
    (modMgu_aside (n := 0) g _)
  exact ⟨drained.trans entered.later,
    settle_later (by rw [entered.state, drained.state]; exact hb) (entered.mild_handoffs mild)⟩

/-- R14: egress goes on sending. -/
theorem Later.sending (h : Later b s t) (hs : s.lpu.sending ≠ none) : t.lpu.sending ≠ none := by
  obtain ⟨n, h⟩ := h
  exact (h.link.busy hs).sending.symm ▸ hs

theorem Later.replyGiven {f : ReplyFrame} (h : Later b s t) (hs : s.lpu.sending ≠ none) (r : ReplyGiven f s) :
    ReplyGiven f t := by
  obtain ⟨n, h⟩ := h
  exact r.queued (h.link.busy hs)

/-- R115: once a berth is tripped, an answer leaves the trip as it was. -/
theorem trip_answered (q : Quiet s) (w : EgressWorks s) (o : s.own ≠ none) (h : (s.berth b).state.active = true)
    (why : TripReason) (f : ReplyFrame) (g : Mgu → Mgu) :
    let t := settle ((enterReserved f (drain Config.settleFuel (tripBerth b why s))).modMgu g)
    ReplyGiven f t ∧ TrippedFrom b why s t := by
  have tripped := tripBerth_tripped h why
  have sending := tripBerth_sending h why w o
  obtain ⟨c, hc⟩ := exists_other b
  have inactive : ((tripBerth b why s).berth b).state.active = false := by rw [tripped.1]; rfl
  have mild := ((tripBerth_aside hc why s).mono le_rfl fun _ => Handoff.OfTrip.mild).mild_handoffs
    (by rw [q]; exact fun x hx => absurd hx List.not_mem_nil)
  obtain ⟨answered, settled⟩ := answer_later inactive mild f g
  have drained := (drain_later inactive mild Config.settleFuel).1.sending sending
  refine ⟨settled.replyGiven (answered.sending sending) (enterReserved_given drained),
    tripped.later (answered.trans settled) (fun _ _ => sending) fun w o events listed room => ?_⟩
  have stands := (((tripBerth_noticeStands h why q w o events listed room).drain Config.settleFuel).aside
    fun _ => enterReserved_aside f _).aside fun _ => modMgu_aside g _
  rw [noticeGiven_iff]
  simpa using stands.settle

/-- R116: TRIP where a trip acts. -/
theorem exec_trip (q : Quiet s) (w : EgressWorks s) (h : Served s src) (o : isOperator s src.toNat = true)
    (hs : (s.berth b).state.active = true) :
    ∃ t, exec (.trip src tag (BitVec.ofNat 8 b.val)) s = .next t ∧ ReplyGiven (reply src tag 3 .done []) t ∧
      TrippedFrom b .operator s t := by
  have active : ((served src (berthReq src tag (BitVec.ofNat 8 b.val) 5) s).berth b).state.active = true := hs
  have outcome := trip_answered (s := served src (berthReq src tag (BitVec.ofNat 8 b.val) 5) s) q w h.own active
    .operator (reply src tag 3 .done []) fun g => { g with parts := [], queue := [] }
  refine ⟨_, berthCommand_served (cmd := 5) q h o (v := tripBerth b .operator _) ?_ ?_, outcome⟩
  · rw [performBerth_trip, tripCmd_done]
    have := (active_iff _).1 active
    exact fun e => this (by simp_all)
  · simp [served, accepted, setPrepared]

end
end Sys2Proof.Machine

end

section
namespace Sys2Proof.Machine

/-! ### A release of a berth before its ship is supplied (R113, R145) -/

section
variable {s t : State} {b c : Berth} {n : Nat} {P : Handoff → Prop}

/-- R145: a place is gained as a reservation is freed. -/
theorem taken_modSlot_free (h : s.slot b = .reserved) :
    (s.modSlot b fun _ => .free).blg.taken + 1 = s.blg.taken := by
  have lt : b.val < s.blg.slots.toList.length := by simp
  have here : s.blg.slots.toList[b.val] = .reserved := by simpa [State.slot] using h
  have counted : 0 < s.blg.slots.toList.countP fun x => x != .free :=
    List.countP_pos_iff.2 ⟨_, List.getElem_mem lt, by rw [here]; rfl⟩
  have eq : (s.modSlot b fun _ => .free).blg.slots.toList = s.blg.slots.toList.set b.val .free :=
    Vector.toList_set (xs := s.blg.slots) b.isLt
  have reserved : (Slot.reserved != Slot.free) = true := rfl
  have free : (Slot.free != Slot.free) = false := rfl
  rw [Blg.taken, eq, List.countP_set lt, here, reserved, free, Blg.taken]
  simp only [if_true, Bool.false_eq_true, if_false]
  omega

/-- R146: with room for billing, a freed reservation leaves LOG_FULL as it is. -/
theorem freeSlot_handoffs (h : BillingRoom s) (b : Berth) : (freeSlot b s).handoffs = s.handoffs := by
  unfold freeSlot
  split
  next reserved =>
    have gained := taken_modSlot_free reserved
    have room : s.blg.taken + s.blg.log.length ≤ 32 := h.1
    unfold evalLogFull
    rw [if_neg]
    · rfl
    · show ¬ (s.modSlot b fun _ => .free).blg.taken + s.blg.log.length = 32
      omega
  · rfl

/-- R29: a berth that enters a state which is not watched raises nothing. -/
theorem enterState_unwatched (hc : c ≠ b) {st : BerthState} (hw : st.watched = false) (s : State) :
    Aside b 1 P s (enterState c st s) :=
  enterState_aside hc (fun h => by rw [hw] at h; exact Bool.noConfusion h) s

theorem enterDead_aside (hc : c ≠ b) (s : State) : Aside b 1 P s (enterDead c s) :=
  ((((modBerth_aside hc _ s).trans (modBerth_aside hc _ _)).trans (discardRef_aside hc _)).trans
    (driveOutputs_aside _)).trans (enterState_unwatched hc rfl _)

/-- R113: up to the state RELEASING. -/
def releaseBegun (b : Berth) (s : State) : State := releaseBerth b (freeSlot b (cancelSync (outlet b) s))

theorem enterReleasing_eq (b : Berth) (s : State) :
    enterReleasing b s = listEmptyTaken b (enterState b .releasing (releaseBegun b s)) := rfl

theorem releaseBegun_aside (hc : c ≠ b) (h : BillingRoom s) :
    Aside b 0 (Handoff.OfRelease s.mpm.lists (s.list c)) s (releaseBegun c s) := by
  have ht : outlet c ≠ outlet b := fun e => hc (outlet_injective e)
  have cancelled := (cancelSync_aside (b := b) ht s).mono le_rfl
    fun x hx => (.inl hx : x.OfRelease s.mpm.lists (s.list c))
  have room : BillingRoom (cancelSync (outlet c) s) := by simpa [BillingRoom] using h
  have freed : Aside b 0 (Handoff.OfRelease s.mpm.lists (s.list c)) (cancelSync (outlet c) s)
      (freeSlot c (cancelSync (outlet c) s)) :=
    { freeSlot_aside (P := fun _ => True) hc trivial (cancelSync (outlet c) s) with
      handed := ⟨[], by simp [freeSlot_handoffs room]⟩ }
  have before := cancelled.trans freed
  have released := releaseBerth_aside (b := b) c (freeSlot c (cancelSync (outlet c) s))
  rw [before.list, before.lists] at released
  exact before.trans released

/-- R113: a release hands over only what the release of the berth's modules does. -/
theorem enterReleasing_released (hc : c ≠ b) (h : BillingRoom s) :
    Aside b 2 (Handoff.OfRelease s.mpm.lists (s.list c)) s (enterReleasing c s) := by
  rw [enterReleasing_eq]
  have entered := (releaseBegun_aside hc h).trans (enterState_unwatched (st := .releasing) hc rfl _)
  refine entered.trans (k := 1) ?_
  unfold listEmptyTaken
  split
  · exact enterDead_aside hc _
  · exact .refl b 1 _ _

/-! ### What the release leaves of the berth itself -/

theorem releaseBegun_list (h : BillingRoom s) (b c : Berth) : (releaseBegun b s).list c = s.list c := by
  obtain ⟨d, hd⟩ := exists_other b
  exact (releaseBegun_aside hd h).list c

theorem listEmptyTaken_entries (b : Berth) (s : State) : (listEmptyTaken b s).evr.entries = s.evr.entries := by
  unfold listEmptyTaken
  split
  · simp [enterDead, driveOutputs]
  · rfl

theorem listEmptyTaken_modu (b : Berth) (s : State) (m : Module) : (listEmptyTaken b s).modu m = s.modu m := by
  unfold listEmptyTaken
  split
  · rw [enterDead, enterState_modu]; simp [State.modu]
  · rfl

theorem releasing_list (h : BillingRoom s) (b : Berth) :
    (enterState b .releasing (releaseBegun b s)).list b = s.list b := by
  rw [← releaseBegun_list h b b, State.list, (enterState_sends b .releasing _).lists]
  simp [State.list]

/-- R113: the state a berth is released to. -/
theorem enterReleasing_state (h : BillingRoom s) (b : Berth) :
    ((enterReleasing b s).berth b).state = if s.list b = [] then .dead else .releasing := by
  have releasing : ((enterState b .releasing (releaseBegun b s)).berth b).state = .releasing := by
    rw [enterState_berth]
  rw [enterReleasing_eq, listEmptyTaken, releasing_list h]
  split
  next empty => rw [if_pos empty.2, enterDead, enterState_berth]
  next filled => rw [if_neg fun e => filled ⟨releasing, e⟩, releasing]

/-- R145: no reservation is left. -/
theorem enterReleasing_slot (b : Berth) (s : State) : (enterReleasing b s).slot b ≠ .reserved := by
  have blg : (enterReleasing b s).blg = (freeSlot b (cancelSync (outlet b) s)).blg := by
    simp [enterReleasing]
  rw [State.slot, blg]
  exact freeSlot_not_reserved b _

theorem enterReleasing_log (b : Berth) (s : State) : (enterReleasing b s).blg.log = s.blg.log := by
  simp [enterReleasing, freeSlot_log]

theorem enterReleasing_entries (b : Berth) (s : State) : (enterReleasing b s).evr.entries = s.evr.entries := by
  simp [enterReleasing, listEmptyTaken_entries]

theorem enterReleasing_modu (b : Berth) (s : State) (m : Module) :
    (enterReleasing b s).modu m = (releaseBegun b s).modu m := by
  rw [enterReleasing_eq, listEmptyTaken_modu, enterState_modu]

/-- R46: the modules of the berth's list are in service no more. -/
theorem enterReleasing_modules {m : Module} (hm : m ∈ s.list b) :
    ((enterReleasing b s).modu m).state ∉ [.starting, .syncing, .online] := by
  obtain ⟨c, hc⟩ := exists_other b
  have cancelled : (cancelSync (outlet b) s).list b = s.list b :=
    (cancelSync_aside (b := c) (fun e => hc (outlet_injective e)) s).list b
  have listed : m ∈ (freeSlot b (cancelSync (outlet b) s)).list b := by
    rw [← cancelled] at hm
    simpa [State.list] using hm
  have out := releaseBerth_serving listed
  rw [enterReleasing_modu, releaseBegun]
  intro e
  simp only [List.mem_cons, List.not_mem_nil, or_false] at e
  obtain e | e | e := e <;> rw [e] at out <;> exact Bool.noConfusion out

/-- R90: the outlet's request is cancelled. -/
theorem enterReleasing_idle (b : Berth) (s : State) : (enterReleasing b s).syu.busy (outlet b) = false := by
  have syu : (enterReleasing b s).syu = (releaseBegun b s).syu := by simp [enterReleasing, releaseBegun]
  rw [syu]
  refine (releaseBerth_aside (b := b) b _).idle ?_
  rw [(freeSlot_frame b _).2.2.2.2.2.1]
  exact cancelSync_idle (outlet b) s

/-! ### Its notices -/

theorem releaseBegun_kept (b : Berth) (s : State) :
    Lpu.Kept (fun _ => False) 0 s.lpu (releaseBegun b s).lpu := by
  have released := (releaseBerth_aside (b := b) b (freeSlot b (cancelSync (outlet b) s))).link
  rw [(freeSlot_frame b _).2.1] at released
  exact (cancelSync_kept not_false s).trans (released.mono le_rfl fun _ => False.elim)

theorem listEmptyTaken_kept (x : Target → Prop) (b : Berth) (s : State) :
    Lpu.Kept x 1 s.lpu (listEmptyTaken b s).lpu := by
  unfold listEmptyTaken
  split
  · have entered := enterState_kept x b .dead (driveOutputs (clearCall b (s.modBerth b fun r =>
      { r with demand := r.demand && !r.fromOpening, fromOpening := false, lastLimit := 0 })))
    simpa [enterDead] using entered
  · exact .refl x 1 _

theorem enterDead_noticed (w : EgressWorks s) (o : s.own ≠ none) (room : s.lpu.control.length < 24) (b : Berth) :
    (enterDead b s).lpu.Noticed (s.entry b).gateway (.berth b 1) s.now := by
  have noticed := (enterState_notice (s := driveOutputs (clearCall b (s.modBerth b fun r =>
    { r with demand := r.demand && !r.fromOpening, fromOpening := false, lastLimit := 0 }))) (b := b) (st := .dead)
    w o room).1
  rw [noticeGiven_iff, (enterState_frame b _ _).2.2.2.2.2.2.2.1] at noticed
  exact noticed

theorem enterReleasing_kept (b : Berth) (s : State) :
    Lpu.Kept (fun _ => False) 2 s.lpu (enterReleasing b s).lpu :=
  ((releaseBegun_kept b s).trans (enterState_kept _ b .releasing _)).trans (listEmptyTaken_kept _ b _)

/-- R98, R113: the notices of RELEASING and, with an empty list, of DEAD. -/
theorem enterReleasing_notices (h : BillingRoom s) (w : EgressWorks s) (o : s.own ≠ none)
    (room : s.lpu.control.length + 2 ≤ 24) :
    (enterReleasing b s).lpu.sending ≠ none ∧
      (enterReleasing b s).lpu.Noticed (s.entry b).gateway (.berth b 11) s.now ∧
      (s.list b = [] → (enterReleasing b s).lpu.Noticed (s.entry b).gateway (.berth b 1) s.now) := by
  have begun := releaseBegun_kept b s
  obtain ⟨works, length⟩ := begun.works w
  have entry : (releaseBegun b s).entry b = s.entry b := by simp [State.entry, releaseBegun]
  have now : (releaseBegun b s).now = s.now := by simp [releaseBegun]
  have own : (releaseBegun b s).own ≠ none := by rw [State.own, begun.nid]; exact o
  obtain ⟨noticed, sending⟩ := enterState_notice (b := b) (st := .releasing) works own
    (by have := length (by omega); omega)
  rw [noticeGiven_iff, entry, (enterState_frame b _ _).2.2.2.2.2.2.2.1, now] at noticed
  have entered := begun.trans (enterState_kept (fun _ => False) b .releasing (releaseBegun b s))
  obtain ⟨works', length'⟩ := entered.works w
  have last := (listEmptyTaken_kept (fun _ => False) b (enterState b .releasing (releaseBegun b s))).busy sending
  have fits := length' (by omega)
  have state := congrArg BerthRec.state (enterState_berth b .releasing (releaseBegun b s))
  have list : (enterState b .releasing (releaseBegun b s)).list b = s.list b := releasing_list h b
  have entry' : (enterState b .releasing (releaseBegun b s)).entry b = s.entry b :=
    (enterState_entry b b _ _).trans entry
  have now' : (enterState b .releasing (releaseBegun b s)).now = s.now := by simp [releaseBegun]
  rw [enterReleasing_eq]
  refine ⟨by rw [last.sending]; exact sending, noticed.queued last (by omega), fun empty => ?_⟩
  rw [listEmptyTaken, if_pos ⟨state, list.trans empty⟩, ← entry', ← now']
  exact enterDead_noticed works' (by rw [State.own, entered.nid]; exact o) (by omega) b

end
end Sys2Proof.Machine

end

section
namespace Sys2Proof.Machine

/-! ### What a release hands over is taken without effect on the berth (R53, R76, R90) -/

section
variable {s t u : State} {src : Byte} {tag : BitVec 16} {b c : Berth} {n : Nat}

/-- A hand-off at which nothing but a summary or SYU's channels change once berth `b` is released. -/
def Handoff.Inert (b : Berth) (h : Handoff) : Prop := h.Cancels ∨ h = .summary b

/-- Only the link, which is `l` in `t`, what BSQ keeps of a summary and SYU's channels differ. -/
structure Calm (b : Berth) (l : Lpu) (s t : State) : Prop where
  lpu : t.lpu = l
  mpm : t.mpm = s.mpm
  blg : t.blg = s.blg
  evr : t.evr = s.evr
  state : (t.berth b).state = (s.berth b).state
  idle : s.syu.Spares (outlet b) t.syu

theorem Calm.refl (b : Berth) (s : State) : Calm b s.lpu s s := ⟨rfl, rfl, rfl, rfl, rfl, id⟩

theorem Calm.trans {l l' : Lpu} (h : Calm b l s t) (g : Calm b l' t u) : Calm b l' s u :=
  ⟨g.lpu, g.mpm.trans h.mpm, g.blg.trans h.blg, g.evr.trans h.evr, g.state.trans h.state,
    g.idle ∘ h.idle⟩

/-- R53: a berth in RELEASING or DEAD does not act on a summary. -/
theorem actOnSummary_released (h : (s.berth b).state ∈ [.dead, .releasing]) : actOnSummary b s = s := by
  unfold actOnSummary
  cases e : (s.berth b).state <;> simp_all

theorem summaryTaken_calm (hb : (s.berth b).state ∈ [.dead, .releasing]) :
    Calm b s.lpu s (summaryTaken b s) ∧ (summaryTaken b s).handoffs = s.handoffs := by
  unfold summaryTaken
  split
  · exact ⟨.refl b s, rfl⟩
  · rw [actOnSummary_released (by rw [State.berth_modBerth]; exact hb)]
    exact ⟨⟨rfl, rfl, rfl, rfl, by rw [State.berth_modBerth], id⟩, rfl⟩

theorem serveChannelsTaken_calm (b : Berth) (s : State) : Calm b s.lpu s (serveChannelsTaken s) := by
  refine ⟨by simp, by simp, by simp, by simp, by simp [State.berth], ?_⟩
  exact (serveChannelsTaken_aside (b := b) s).idle

theorem takeHandoff_calm {h : Handoff} (hb : (s.berth b).state ∈ [.dead, .releasing]) (hi : h.Inert b)
    (hs : ∀ x ∈ s.handoffs, x.Inert b) :
    Calm b s.lpu s (takeHandoff h s) ∧ ∀ x ∈ (takeHandoff h s).handoffs, x.Inert b := by
  obtain hc | rfl := hi
  · obtain same | rfl := takeCancelled hc s
    · rw [same]; exact ⟨.refl b s, hs⟩
    · obtain ⟨gs, e, given⟩ := (serveChannelsTaken_aside (b := b) s).handed
      refine ⟨serveChannelsTaken_calm b s, fun x hx => ?_⟩
      rw [show (takeHandoff .serveChannels s).handoffs = s.handoffs ++ gs from e] at hx
      exact (List.mem_append.1 hx).elim (hs x) fun hx => .inl (given x hx)
  · obtain ⟨calm, same⟩ := summaryTaken_calm hb
    exact ⟨calm, fun x hx => hs x (same ▸ hx)⟩

theorem drain_calm (hb : (s.berth b).state ∈ [.dead, .releasing]) (hs : ∀ x ∈ s.handoffs, x.Inert b) (n : Nat) :
    Calm b s.lpu s (drain n s) ∧ ∀ x ∈ (drain n s).handoffs, x.Inert b := by
  induction n generalizing s with
  | zero => exact ⟨.refl b s, hs⟩
  | succ n ih =>
    cases e : s.handoffs with
    | nil => rw [drain_nil _ e]; exact ⟨.refl b s, hs⟩
    | cons h rest =>
      rw [drain_cons n e]
      rw [e, List.forall_mem_cons] at hs
      have rested : Calm b s.lpu s { s with handoffs := rest } := ⟨rfl, rfl, rfl, rfl, rfl, id⟩
      obtain ⟨taken, left⟩ := takeHandoff_calm (s := { s with handoffs := rest }) hb hs.1 hs.2
      obtain ⟨after, still⟩ := ih (by rw [taken.state]; exact hb) left
      rw [taken.lpu] at after
      exact ⟨(rested.trans taken).trans after, still⟩

theorem settle_calm (hb : (s.berth b).state ∈ [.dead, .releasing]) (hs : ∀ x ∈ s.handoffs, x.Inert b) :
    Calm b s.lpu s (settle s) := by
  obtain ⟨lpu, mpm, blg, evr, state, idle⟩ := (drain_calm hb hs Config.settleFuel).1
  exact ⟨lpu, mpm, blg, evr, state, idle⟩

/-- R172: a request is answered while what was handed over is taken without effect. -/
theorem answer_calm (w : EgressWorks s) (hb : (s.berth b).state ∈ [.dead, .releasing]) (hs : ∀ x ∈ s.handoffs, x.Inert b)
    (f : ReplyFrame) (g : Mgu → Mgu) :
    Calm b ({ s.lpu with reservations := s.lpu.reservations - 1 }.replied f) s
      (settle ((enterReserved f (drain Config.settleFuel s)).modMgu g)) := by
  obtain ⟨drained, inert⟩ := drain_calm hb hs Config.settleFuel
  have works : EgressWorks ((drain Config.settleFuel s).modLpu fun l => { l with reservations := l.reservations - 1 }) := by
    rw [egressWorks_iff, State.modLpu_lpu, drained.lpu]
    exact w
  have entered : Calm b ({ s.lpu with reservations := s.lpu.reservations - 1 }.replied f) s
      ((enterReserved f (drain Config.settleFuel s)).modMgu g) := by
    rw [enterReserved, enterReply_eq f works]
    exact ⟨by simp [drained.lpu], drained.mpm, drained.blg, drained.evr, drained.state, drained.idle⟩
  refine entered.trans (entered.lpu ▸ settle_calm (by rw [entered.state]; exact hb) ?_)
  simpa using inert

/-- R13, R14: a reply that has entered is given. -/
theorem replied_given (f : ReplyFrame) {l : Lpu} (h : t.lpu = l.replied f) : ReplyGiven f t := by
  rw [ReplyGiven, h, Lpu.replied]
  split
  · exact .inr ⟨_, rfl⟩
  · exact .inl (by simp)

/-- R14: a notice stands while a reply enters. -/
theorem Lpu.Noticed.replied {d now r : Nat} {body : Notice} {l : Lpu} (h : l.Noticed d body now) (f : ReplyFrame)
    (hs : l.sending ≠ none) : ({ l with reservations := r }.replied f).Noticed d body now := by
  obtain ⟨g, hg⟩ := Option.ne_none_iff_exists'.1 hs
  have eq : { l with reservations := r }.replied f =
      { l with reservations := r, reply := l.reply ++ [⟨f, false⟩] } := by
    simp [Lpu.replied, hg]
  rw [eq]
  exact h.imp id fun ⟨l₀, e⟩ => ⟨{ l₀ with reservations := r, reply := l.reply ++ [⟨f, false⟩] }, by rw [e]; rfl⟩

/-- R113: what a release hands over. -/
theorem enterReleasing_inert (q : Quiet s) (h : BillingRoom s) (listed : ModulesListed s) (b : Berth) :
    ∀ x ∈ (enterReleasing b s).handoffs, x.Inert b := by
  obtain ⟨c, hc⟩ := exists_other b
  obtain ⟨gs, e, given⟩ := (enterReleasing_released hc h).handed
  rw [e, q, List.nil_append]
  intro x hx
  obtain cancels | ⟨d, ⟨m, hm, hd⟩, rfl⟩ := given x hx
  · exact .inl cancels
  · obtain rfl : b = d := listed.2.1 b d m hm hd
    exact .inr rfl

/-- R113, R114: berth `b` of `s` has been released in `t`, with what the command leaves of the other blocks. -/
def Withdrawn (b : Berth) (s t : State) : Prop :=
  (t.berth b).state = (if s.list b = [] then .dead else .releasing) ∧ t.slot b ≠ .reserved ∧
    t.list b = s.list b ∧ (∀ m ∈ s.list b, (t.modu m).state ∉ [.starting, .syncing, .online]) ∧
    t.syu.busy (outlet b) = false ∧
    (s.lpu.control.length + 2 ≤ 24 → NoticeGiven (s.entry b).gateway (.berth b 11) t ∧
      (s.list b = [] → NoticeGiven (s.entry b).gateway (.berth b 1) t)) ∧
    t.blg.log = s.blg.log ∧ t.mlk = s.mlk ∧ t.evr.entries = s.evr.entries ∧ t.now = s.now

/-- R113: a release is left as it was by what answers it. -/
theorem Withdrawn.of_calm (w : EgressWorks s) (o : s.own ≠ none) (room : BillingRoom s) {f : ReplyFrame} {r : Nat}
    (calm : Calm b ({ (enterReleasing b s).lpu with reservations := r }.replied f) (enterReleasing b s) t)
    (mlk : t.mlk = s.mlk) (now : t.now = s.now) : Withdrawn b s t := by
  refine ⟨calm.state.trans (enterReleasing_state room b), ?_, ?_, ?_, calm.idle (enterReleasing_idle b s), ?_, ?_, mlk,
    ?_, now⟩
  · rw [State.slot, calm.blg]; exact enterReleasing_slot b s
  · obtain ⟨c, hc⟩ := exists_other b
    rw [State.list, calm.mpm]
    exact (enterReleasing_released hc room).list b
  · intro m hm
    rw [State.modu, calm.mpm]
    exact enterReleasing_modules hm
  · intro fits
    obtain ⟨sending, releasing, dead⟩ := enterReleasing_notices room w o fits
    rw [noticeGiven_iff, noticeGiven_iff, now, calm.lpu]
    exact ⟨releasing.replied _ sending, fun empty => (dead empty).replied _ sending⟩
  · rw [calm.blg]; exact enterReleasing_log b s
  · rw [calm.evr]; exact enterReleasing_entries b s

/-- R113: once a berth is released, the request is answered and what was handed over is taken. -/
theorem release_answered (q : Quiet s) (w : EgressWorks s) (o : s.own ≠ none) (room : BillingRoom s)
    (listed : ModulesListed s) (b : Berth) (f : ReplyFrame) (g : Mgu → Mgu) :
    ReplyGiven f (settle ((enterReserved f (drain Config.settleFuel (enterReleasing b s))).modMgu g)) ∧
      Withdrawn b s (settle ((enterReserved f (drain Config.settleFuel (enterReleasing b s))).modMgu g)) := by
  have released : ((enterReleasing b s).berth b).state ∈ [.dead, .releasing] := by
    rw [enterReleasing_state room b]; split <;> decide
  have calm := answer_calm ((enterReleasing_kept b s).works w).1 released (enterReleasing_inert q room listed b) f g
  exact ⟨replied_given _ calm.lpu, .of_calm w o room calm (by simp) (by simp)⟩

/-- R114: ABORT in the four states before RAMP_UP. -/
theorem exec_abort_releases (q : Quiet s) (w : EgressWorks s) (h : Served s src) (o : isOperator s src.toNat = true)
    (hs : (s.berth b).state ∈ [.allocating, .energising, .syncing, .deadClose]) (room : BillingRoom s)
    (listed : ModulesListed s) :
    ∃ t, exec (.abort src tag (BitVec.ofNat 8 b.val)) s = .next t ∧ ReplyGiven (reply src tag 3 .done []) t ∧
      Withdrawn b s t := by
  have outcome := release_answered (s := served src (berthReq src tag (BitVec.ofNat 8 b.val) 4) s) q w h.own room
    listed b (reply src tag 3 .done []) fun g => { g with parts := [], queue := [] }
  refine ⟨_, berthCommand_served (cmd := 4) (res := .done) q h o (v := enterReleasing b _) ?_ ?_, outcome⟩
  · rw [performBerth_abort]
    exact abortCmd_releases (s := served src _ s) hs
  · simp [served, accepted, setPrepared]

end
end Sys2Proof.Machine

section

open Sys2Proof Sys2Proof.Machine

/-- Settles O54: every command is carried to its reply through what BSQ does at it; only TRIP and an ABORT that releases
the berth hand anything over. -/
theorem berthCommands : Obligations.BerthCommands := by
  unfold Obligations.BerthCommands
  intro src tag b s q w h o
  refine ⟨fun k hk => berthCommand_beyond q w h o hk, exec_depart_busy q w h o, exec_depart q w h o,
    exec_abort_busy q w h o, exec_abort_rampUp q w h o, fun hs room listed => ?_, exec_trip_busy q w h o,
    exec_trip_tripped q w h o, fun hs => exec_trip q w h o ((active_iff _).2 hs), fun hr => ?_, fun hr t => ?_⟩
  · obtain ⟨t, done, given, state, slot, list, modules, idle, rest⟩ := exec_abort_releases q w h o hs room listed
    exact ⟨t, done, given, state, slot, list, modules, fun _ => idle, rest⟩
  · exact exec_resetTrip_busy q w h o fun taken => hr ((resetTripAllowed_iff s b).1 taken)
  · exact exec_resetTrip q w h o t ((resetTripAllowed_iff s b).2 hr)

end

end

section
namespace Sys2Proof.Machine

/-! ### Table entries read back from the bytes of a write (R15, R173) -/

section
variable {form : List FormItem} {bs rest : List Byte} {ys : List Nat} {k n : Nat}

/-- The bytes of a number, read after others, give it modulo their range. -/
theorem foldl_be (k n a : Nat) :
    (be k n).foldl (fun a b => a * 256 + b.toNat) a = a * 256 ^ k + n % 256 ^ k := by
  induction k generalizing a with
  | zero => simp [be, Nat.mod_one]
  | succ k ih =>
    rw [be, List.foldl_cons, ih, BitVec.toNat_ofNat, Nat.mod_pow_succ (b := 256)]
    ring

/-- A number is read back from bytes that can hold it. -/
theorem fromBe_be (h : n < 256 ^ k) : fromBe (be k n) = n := by
  rw [fromBe, foldl_be, Nat.mod_eq_of_lt h]
  omega

theorem takeNum_be (h : n < 256 ^ k) (bs : List Byte) : takeNum k (be k n ++ bs) = some (n, bs) := by
  rw [takeNum, if_neg (by simp), List.take_left' (be_length k n), List.drop_left' (be_length k n), fromBe_be h]

theorem takeEntry_nil (bs : List Byte) : takeEntry [] bs = some ([], bs) := rfl

/-- An entry whose form begins with a number. -/
theorem takeEntry_num (h : n < 256 ^ k) (e : takeEntry form bs = some (ys, rest)) :
    takeEntry (.num k :: form) (be k n ++ bs) = some (n :: ys, rest) := by
  simp [takeEntry, takeItem, takeNum_be h, e]

/-- R141: the numbers of a schedule, flat: start, band, start, band, … -/
def flatSchedule (es : List (Nat × Nat)) : List Nat := (es.map fun e => [e.1, e.2]).flatten

theorem takeSchedule_map {es : List (Nat × Nat)} (h : ∀ e ∈ es, e.1 < 4294967296 ∧ e.2 < 256) (bs : List Byte) :
    takeSchedule es.length ((es.map fun e => be 4 e.1 ++ be 1 e.2).flatten ++ bs) = some (flatSchedule es, bs) := by
  induction es with
  | nil => rfl
  | cons e es ih =>
    obtain ⟨⟨start, band⟩, later⟩ := List.forall_mem_cons.1 h
    simp only [List.length_cons, List.map_cons, List.flatten_cons, List.append_assoc, takeSchedule,
      takeNum_be (k := 4) start, takeNum_be (k := 1) band, ih later]
    rfl

/-- An entry whose form begins with a schedule. -/
theorem takeEntry_schedule {es : List (Nat × Nat)} (hl : es.length < 256)
    (h : ∀ e ∈ es, e.1 < 4294967296 ∧ e.2 < 256) (e : takeEntry form bs = some (ys, rest)) :
    takeEntry (.schedule :: form) (encList (fun e => be 4 e.1 ++ be 1 e.2) es ++ bs) =
      some (es.length :: flatSchedule es ++ ys, rest) := by
  simp only [takeEntry, takeItem, encList, List.append_assoc, takeNum_be (k := 1) hl, takeSchedule_map h,
    Option.map_some, e]

/-- R173: the entries of a write are read back, each from its own bytes. -/
theorem takeEntries_map {α : Type} {bytes : α → List Byte} {nums : α → List Nat} {xs : List α}
    (h : ∀ x ∈ xs, ∀ bs, takeEntry form (bytes x ++ bs) = some (nums x, bs)) :
    takeEntries form xs.length (xs.map bytes).flatten = some (xs.map nums) := by
  induction xs with
  | nil => rfl
  | cons x xs ih =>
    obtain ⟨first, later⟩ := List.forall_mem_cons.1 h
    simp only [List.length_cons, List.map_cons, List.flatten_cons, takeEntries, first, ih later, Option.map_some]

end
end Sys2Proof.Machine

end

section
namespace Sys2Proof.Machine

/-! ### What an interval end at every berth does to a state (R135, R138) -/

section
variable {s : State} {b : Berth}

/-- R135: a slot after an interval end at its berth. -/
def Mtr.slotAfter (m : Mtr) (b : Berth) : Slot → Slot
  | .openSlot r => .openSlot { r with peak := max r.peak (demandW m.recs[b].demandAcc m.demandS) }
  | x => x

/-- A slot after an interval end depends on its berth's record and on D alone. -/
theorem Mtr.slotAfter_congr {m n : Mtr} (hr : m.recs[b] = n.recs[b]) (hd : m.demandS = n.demandS) :
    m.slotAfter b = n.slotAfter b := by
  funext x
  cases x with
  | openSlot r => simp only [slotAfter, hr, hd]
  | free | reserved => rfl

/-- R135: a metering record after an interval end at its berth, by the berth's slot. -/
def MeterRec.ended (r : MeterRec) : Slot → MeterRec
  | .openSlot _ => { r with demandAcc := 0 }
  | _ => r

/-- R135: an interval end at the berths of `bs`. -/
def endAt (bs : List Berth) (s : State) : State :=
  { s with
    blg := { s.blg with slots := .ofFn fun b => if b ∈ bs then s.mtr.slotAfter b (s.slot b) else s.slot b }
    mtr := { s.mtr with recs := .ofFn fun b => if b ∈ bs then s.mtr.recs[b].ended (s.slot b) else s.mtr.recs[b] } }

theorem endAt_slot (bs : List Berth) (s : State) (b : Berth) :
    (endAt bs s).slot b = if b ∈ bs then s.mtr.slotAfter b (s.slot b) else s.slot b := by
  simp [endAt, State.slot]

theorem endAt_recs (bs : List Berth) (s : State) (b : Berth) :
    (endAt bs s).mtr.recs[b] = if b ∈ bs then s.mtr.recs[b].ended (s.slot b) else s.mtr.recs[b] := by
  simp [endAt]

/-- A state is the one after interval ends if it differs in slots and records only and agrees in each of them. -/
theorem endAt_congr {t : State} {cs : List Berth}
    (rest : { s with blg := { s.blg with slots := t.blg.slots }, mtr := { s.mtr with recs := t.mtr.recs } } = t)
    (hs : ∀ b, t.slot b = (endAt cs s).slot b) (hr : ∀ b : Berth, t.mtr.recs[b] = (endAt cs s).mtr.recs[b]) :
    t = endAt cs s := by
  have slots : t.blg.slots = (endAt cs s).blg.slots := Vector.ext fun i h => hs ⟨i, h⟩
  have recs : t.mtr.recs = (endAt cs s).mtr.recs := Vector.ext fun i h => hr ⟨i, h⟩
  rw [← rest, slots, recs]
  rfl

theorem intervalEndBerth_eq (b : Berth) (s : State) : intervalEndBerth b s = endAt [b] s := by
  unfold intervalEndBerth
  split
  next isOpen =>
    refine endAt_congr rfl (fun c => ?_) fun c => ?_
    · rw [endAt_slot]
      by_cases e : b = c
      · subst e
        rw [if_pos (List.mem_singleton_self _)]
        exact (State.slot_modSlot _ b _).trans (by cases s.slot b <;> rfl)
      · rw [if_neg (by simpa using Ne.symm e)]
        exact State.slot_modSlot_other _ e _
    · rw [endAt_recs]
      show (upd s.mtr.recs b _)[c.val] = _
      by_cases e : b = c
      · subst e
        rw [if_pos (List.mem_singleton_self _), upd_self]
        unfold State.sessionOpen at isOpen
        cases h : s.slot b <;> simp_all [MeterRec.ended]
      · rw [if_neg (by simpa using Ne.symm e), upd_other _ _ e]
        rfl
  next shut =>
    have kept : s.mtr.slotAfter b (s.slot b) = s.slot b ∧ s.mtr.recs[b].ended (s.slot b) = s.mtr.recs[b] := by
      unfold State.sessionOpen at shut
      cases h : s.slot b <;> simp_all [Mtr.slotAfter, MeterRec.ended]
    obtain ⟨slot, record⟩ := kept
    refine endAt_congr rfl (fun c => ?_) fun c => ?_
    · rw [endAt_slot]
      split
      next h => rw [List.mem_singleton.1 h, slot]
      · rfl
    · rw [endAt_recs]
      split
      next h => rw [List.mem_singleton.1 h, record]
      · rfl

/-- Interval ends at different berths do not meet. -/
theorem endAt_endAt {bs : List Berth} (h : b ∉ bs) (s : State) : endAt bs (endAt [b] s) = endAt (b :: bs) s := by
  refine endAt_congr rfl (fun c => ?_) fun c => ?_
  · by_cases e : c = b
    · subst e; simp [endAt_slot, h]
    · have record : (endAt [b] s).mtr.recs[c] = s.mtr.recs[c] := by rw [endAt_recs, if_neg (by simpa using e)]
      have same : (endAt [b] s).mtr.slotAfter c = s.mtr.slotAfter c := Mtr.slotAfter_congr record rfl
      simp [endAt_slot, same, e]
  · by_cases e : c = b
    · subst e; rw [endAt_recs, endAt_recs, endAt_recs]; simp [h]
    · rw [endAt_recs, endAt_recs, endAt_recs, endAt_slot]; simp [e]

theorem foldl_intervalEndBerth {bs : List Berth} (h : bs.Nodup) (s : State) :
    bs.foldl (fun s b => intervalEndBerth b s) s = endAt bs s := by
  induction bs generalizing s with
  | nil => exact endAt_congr rfl (fun c => by simp [endAt_slot]) fun c => by rw [endAt_recs]; simp
  | cons b bs ih =>
    obtain ⟨apart, later⟩ := List.nodup_cons.1 h
    rw [List.foldl_cons, intervalEndBerth_eq, ih later, endAt_endAt apart]

theorem handDemand_eq (s : State) : handDemand s = endAt allBerths s := foldl_intervalEndBerth (by decide) s

theorem mem_allBerths (b : Berth) : b ∈ allBerths := by
  revert b
  decide

end
end Sys2Proof.Machine

end

section
namespace Sys2Proof.Machine

/-! ### Writes of the billing node (R174 to R177) -/

section
variable {s : State} {src first : Byte} {tag : BitVec 16} {t : Table} {es : List (List Nat)} {bytes : List Byte}

theorem performWrite_inUse {first : Nat} (h : writeInUse s t first es = true) :
    performWrite t first es s = (.inUse, s) := if_pos h

theorem performWrite_badValue {first : Nat} (h : writeInUse s t first es = false)
    (v : writeValuesOk s t first es = false) : performWrite t first es s = (.badValue, s) := by
  rw [performWrite, if_neg (by simp [h]), if_pos (by simp [v])]

theorem performWrite_done {first : Nat} (h : writeInUse s t first es = false)
    (v : writeValuesOk s t first es = true) : performWrite t first es s = (.done, applyWrite t first es s) := by
  rw [performWrite, if_neg (by simp [h]), if_neg (by simp [v])]

/-- R138: the metering settings taken touch MTR and BLG alone, and look at nothing else. -/
theorem meteringTaken_eq (gap d : Nat) (s : State) :
    meteringTaken gap d s = if d = s.mtr.demandS then { s with mtr := { s.mtr with gapLimit := gap } }
      else setInterval ((endAt allBerths s).modMtr fun m => { m with gapLimit := gap, demandS := d }) := by
  rw [meteringTaken, handDemand_eq]
  rfl

/-- R172, R177: the owner of a table of the billing node sees nothing of the request's service. -/
theorem applyWrite_served (ht : t.revenue = true) (first : Nat) (es : List (List Nat)) (q : MguReq) (s : State) :
    applyWrite t first es (served src q s) = served src q (applyWrite t first es s) := by
  cases t with
  | gains | tariffs | current => rfl
  | metering =>
    simp only [applyWrite, meteringTaken_eq]
    rw [apply_ite (served src q)]
    rfl
  | streams | grid | modules | reference | breakers | profiles | berths | events => cases ht

theorem performWrite_served (ht : t.revenue = true) (first : Nat) (es : List (List Nat)) (q : MguReq) (s : State) :
    performWrite t first es (served src q s) =
      ((performWrite t first es s).1, served src q (performWrite t first es s).2) := by
  have inUse : writeInUse (served src q s) t first es = writeInUse s t first es := by cases t <;> rfl
  have valuesOk : writeValuesOk (served src q s) t first es = writeValuesOk s t first es := by cases t <;> rfl
  rw [performWrite, performWrite, inUse, valuesOk, applyWrite_served ht]
  split
  · rfl
  · split <;> rfl

/-- R177: a write of the billing node hands nothing over and gives nothing to the link. -/
theorem performWrite_revenue (ht : t.revenue = true) (first : Nat) (es : List (List Nat)) (s : State) :
    (performWrite t first es s).2.handoffs = s.handoffs ∧ (performWrite t first es s).2.lpu = s.lpu := by
  have applied : (applyWrite t first es s).handoffs = s.handoffs ∧ (applyWrite t first es s).lpu = s.lpu := by
    cases t with
    | gains | tariffs | current => exact ⟨rfl, rfl⟩
    | metering => simp [applyWrite]
    | streams | grid | modules | reference | breakers | profiles | berths | events => cases ht
  unfold performWrite
  split
  · exact ⟨rfl, rfl⟩
  · split
    · exact ⟨rfl, rfl⟩
    · exact applied

/-- R174 to R176: a write of the billing node within its table, with the lock open, passes every check before the
owner's own. -/
theorem judge_write (ht : t.revenue = true) (bil : isBilling s src.toNat = true) (lock : LockOpen s) {first count : Nat}
    (range : first + count ≤ t.size) (q : MguReq) (prep : Bool) :
    judge src.toNat 2 prep (.write t first count es) (served src q s) =
      ofOwner (performWrite t first es (served src q s)) := by
  have allowed : admitted (served src q s) src.toNat (Request.sender (.write t first count es)) = true := by
    rw [Request.sender, if_pos ht]
    exact bil
  have passes : askLock (served src q s) = (none, served src q s) := by
    rw [askLock, if_neg (show ¬ (served src q s).mlk.attempts = 0 from lock.1),
      if_neg (show ¬ (served src q s).mlk.lock = .locked from lock.2)]
  unfold judge
  rw [if_neg (by simp [allowed]), if_neg (by simpa [Request.outOfRange, Request.range?] using range),
    if_pos (show Request.guarded (.write t first count es) = true from ht), passes]
  rfl

/-- R173: the form check of a write. -/
theorem parseRequest_write (hne : es ≠ []) (hl : es.length < 256)
    (e : takeEntries t.form es.length bytes = some es) :
    parseRequest 2 (be 1 t.code ++ [first, BitVec.ofNat 8 es.length] ++ bytes) =
      some (.write t first.toNat es.length es) := by
  have count : byteAt (be 1 t.code ++ [first, BitVec.ofNat 8 es.length] ++ bytes) 2 = es.length := by
    rw [be_one]
    exact (BitVec.toNat_ofNat ..).trans (Nat.mod_eq_of_lt hl)
  have index : byteAt (be 1 t.code ++ [first, BitVec.ofNat 8 es.length] ++ bytes) 1 = first.toNat := by rw [be_one]; rfl
  have table : tableOf? (byteAt (be 1 t.code ++ [first, BitVec.ofNat 8 es.length] ++ bytes) 0) = some t := by
    rw [be_one]
    cases t <;> rfl
  have body : (be 1 t.code ++ [first, BitVec.ofNat 8 es.length] ++ bytes).drop 3 = bytes := by rw [be_one]; rfl
  have some_entry := List.length_pos_of_ne_nil hne
  show parseWrite _ = _
  rw [parseWrite, count, index, table, body, if_neg (by simp [be_one]; omega)]
  simp [e]

/-- R172, R177: a write of the billing node with the lock open is answered with what its owner says. -/
theorem write_answered (q : Quiet s) (w : EgressWorks s) (h : Served s src) (bil : isBilling s src.toNat = true)
    (lock : LockOpen s) (ht : t.revenue = true) (hne : es ≠ []) (range : first.toNat + es.length ≤ t.size)
    (e : takeEntries t.form es.length bytes = some es) {res : Result} {u : State}
    (outcome : performWrite t first.toNat es s = (res, u)) :
    done (request src tag 2 (be 1 t.code ++ [first, BitVec.ofNat 8 es.length] ++ bytes)) s =
      .next (answered src tag 2 res [] u) := by
  have small : es.length < 256 := by
    have : t.size ≤ 100 := by cases t <;> decide
    omega
  obtain ⟨handoffs, lpu⟩ := performWrite_revenue ht first.toNat es s
  obtain ⟨-, mgu, -⟩ := performWrite_frame t first.toNat es s
  rw [outcome] at handoffs lpu mgu
  refine request_exact u q w h (by omega) (parseRequest_write hne small e) (fun p => ?_) (handoffs.trans q) lpu mgu
  have owner := performWrite_served (src := src) ht first.toNat es p s
  rw [outcome] at owner
  exact (judge_write ht bil lock range p _).trans (congrArg ofOwner owner)

end
end Sys2Proof.Machine

end

section
namespace Sys2Proof.Machine

/-! ### The tariff sets as a write leaves them (R141) -/

section

/-- R177: an element of a bank after the entries of a write have changed those from `first` on. -/
theorem updAll_get {α : Type} {n : Nat} (g : List Nat → α → α) (v : Vector α n) (first : Nat) (es : List (List Nat))
    {i : Nat} (h : i < n) :
    (updAll g v first es)[i] = if first ≤ i then (es[i - first]?).elim v[i] (g · v[i]) else v[i] := by
  induction es generalizing v first with
  | nil => simp [updAll]
  | cons e es ih =>
    rw [updAll, ih]
    obtain later | rfl | before := lt_trichotomy first i
    · have next : i - first = i - (first + 1) + 1 := by omega
      have other : (if h : first < n then v.set first (g e v[first]) h else v)[i] = v[i] := by
        rw [dif_pos (by omega), Vector.getElem_set_ne _ _ (by omega)]
      rw [if_pos (by omega), if_pos (by omega), next, List.getElem?_cons_succ, other]
    · rw [if_neg (by omega), if_pos le_rfl]
      simp [h]
    · rw [if_neg (by omega), if_neg (by omega)]
      split
      · rw [Vector.getElem_set_ne _ _ (by omega)]
      · rfl

theorem mem_addressedOf_allBerths {first n : Nat} (i : Berth) :
    i ∈ addressedOf allBerths first n ↔ addressedBy first n i := by
  have all : allBerths = List.finRange 4 := by decide
  have length : (((List.finRange 4).drop first).take n).length = min n (4 - first) := by simp
  rw [addressedOf, all, addressedBy]
  constructor
  · intro h
    obtain ⟨k, hk, rfl⟩ := List.mem_iff_getElem.1 h
    rw [length] at hk
    simp only [List.getElem_take, List.getElem_drop, List.getElem_finRange, Fin.cast_mk]
    omega
  · rintro ⟨low, high⟩
    refine List.mem_iff_getElem.2 ⟨i.val - first, by rw [length]; omega, Fin.ext ?_⟩
    simp only [List.getElem_take, List.getElem_drop, List.getElem_finRange, Fin.cast_mk]
    omega

/-- R177: a write to an addressed set that is bound. -/
theorem writeInUse_tariffs {s : State} {first : Nat} {es : List (List Nat)} :
    writeInUse s .tariffs first es = true ↔ ∃ i : Fin 4, addressedBy first es.length i ∧ 0 < s.blg.sets[i].bound := by
  rw [writeInUse, List.any_eq_true]
  exact ⟨fun ⟨i, hi, bound⟩ => ⟨i, (mem_addressedOf_allBerths i).1 hi, of_decide_eq_true bound⟩,
    fun ⟨i, hi, bound⟩ => ⟨i, (mem_addressedOf_allBerths i).2 hi, decide_eq_true bound⟩⟩

/-- The numbers that the bytes of a tariff set carry. -/
def carriedTariff (x : TariffSet × Nat) : List Nat :=
  (if x.1.loaded then 1 else 0) :: x.1.schedule.length :: (flatSchedule x.1.schedule ++
    [x.1.rates[0], x.1.rates[1], x.1.rates[2], x.1.rates[3], x.1.demandRate, x.2])

/-- R15: the fields of a tariff set fit in their bytes. -/
def TariffFits (x : TariffSet × Nat) : Prop :=
  x.1.schedule.length < 256 ∧ (∀ e ∈ x.1.schedule, e.1 < 4294967296 ∧ e.2 < 256) ∧
    (∀ i : Fin 4, x.1.rates[i] < 4294967296) ∧ x.1.demandRate < 4294967296 ∧ x.2 < 256

theorem takeEntry_tariff {x : TariffSet × Nat} (h : TariffFits x) (bs : List Byte) :
    takeEntry Table.tariffs.form (encTariff x.1 x.2 ++ bs) = some (carriedTariff x, bs) := by
  obtain ⟨length, schedule, rates, demand, bound⟩ := h
  have flag : (if x.1.loaded then 1 else 0) < 256 ^ 1 := by split <;> decide
  simp only [encTariff, encFlag, List.append_assoc]
  exact takeEntry_num flag (takeEntry_schedule length schedule (takeEntry_num (rates 0) (takeEntry_num (rates 1)
    (takeEntry_num (rates 2) (takeEntry_num (rates 3) (takeEntry_num demand (takeEntry_num bound (takeEntry_nil bs))))))))

theorem schedulePairs_flat (es : List (Nat × Nat)) (rest : List Nat) :
    schedulePairs es.length (flatSchedule es ++ rest) = es := by
  induction es with
  | nil => rfl
  | cons e es ih => exact congrArg (e :: ·) ih

theorem flatSchedule_length (es : List (Nat × Nat)) : (flatSchedule es).length = 2 * es.length := by
  induction es with
  | nil => rfl
  | cons e es ih => exact (congrArg (· + 2) ih).trans (Nat.mul_succ 2 es.length).symm

theorem fldFlag_tariff (x : TariffSet × Nat) : fldFlag (carriedTariff x) 0 = x.1.loaded := by
  cases h : x.1.loaded <;> simp [fldFlag, fld, carriedTariff, h]

theorem carriedSchedule_tariff (x : TariffSet × Nat) : carriedSchedule (carriedTariff x) = x.1.schedule :=
  schedulePairs_flat _ _

theorem carriedRates_tariff (x : TariffSet × Nat) : carriedRates (carriedTariff x) =
    [x.1.rates[0], x.1.rates[1], x.1.rates[2], x.1.rates[3], x.1.demandRate, x.2] := by
  have begins : 2 + 2 * fld (carriedTariff x) 1 = (flatSchedule x.1.schedule).length + 1 + 1 := by
    rw [flatSchedule_length]
    exact Nat.add_comm ..
  rw [carriedRates, begins, carriedTariff, List.drop_succ_cons, List.drop_succ_cons, List.drop_left]

/-- R141: the set that a tariff entry leaves in place of `old`. -/
theorem toTariff_carried (x : TariffSet × Nat) (old : TariffSet) : toTariff (carriedTariff x) old =
    if x.1.loaded then { x.1 with bound := old.bound } else ⟨false, [], Vector.replicate 4 0, 0, old.bound⟩ := by
  rw [toTariff, fldFlag_tariff, carriedSchedule_tariff, carriedRates_tariff]
  split
  next loaded =>
    have rates : #v[x.1.rates[0], x.1.rates[1], x.1.rates[2], x.1.rates[3]] = x.1.rates := by
      ext i hi
      interval_cases i <;> rfl
    rw [← loaded]
    exact congrArg (fun r => (⟨x.1.loaded, x.1.schedule, r, x.1.demandRate, old.bound⟩ : TariffSet)) rates
  · rfl

theorem startsOk_iff (xs : List Nat) : startsOk xs = true ↔ xs.head? = some 0 ∧ xs.Pairwise (· < ·) := by
  cases xs <;> simp [startsOk]

/-- R141: the checks of a LOADED set. -/
def TariffInRange (t : TariffSet) : Prop :=
  1 ≤ t.schedule.length ∧ t.schedule.length ≤ 8 ∧ (t.schedule.map Prod.fst).head? = some 0 ∧
    (t.schedule.map Prod.fst).Pairwise (· < ·) ∧ (∀ e ∈ t.schedule, e.1 ≤ 86399 ∧ e.2 ≤ 3) ∧
    (∀ i : Fin 4, t.rates[i] ≤ 10000000) ∧ t.demandRate ≤ 100000000

theorem loadedOk_carried (x : TariffSet × Nat) : loadedOk (carriedTariff x) = true ↔ TariffInRange x.1 := by
  have length : fld (carriedTariff x) 1 = x.1.schedule.length := rfl
  rw [loadedOk, length, carriedSchedule_tariff, carriedRates_tariff]
  simp [within, startsOk_iff, TariffInRange, fld, Fin.forall_fin_succ, and_assoc]

theorem tariffOk_carried (x : TariffSet × Nat) :
    tariffOk (carriedTariff x) = true ↔ (x.1.loaded = true → TariffInRange x.1) := by
  have flag : flagOk (fld (carriedTariff x) 0) = true := by
    show flagOk (if x.1.loaded then 1 else 0) = true
    split <;> rfl
  rw [tariffOk, flag, fldFlag_tariff, ← loadedOk_carried]
  cases x.1.loaded <;> simp

theorem currentOk_iff (sets : Vector TariffSet 4) (c : Option (Fin 4)) :
    currentOk sets c = true ↔ ∀ i : Fin 4, c = some i → sets[i].loaded = true := by
  cases c <;> simp [currentOk]

/-- R141: the sets after a write of `ts` from index `first` on. -/
def tariffsAfter (s : State) (first : Nat) (ts : List (TariffSet × Nat)) : Vector TariffSet 4 :=
  Vector.ofFn fun i =>
    if first ≤ i.val then
      match ts[i.val - first]? with
      | none => s.blg.sets[i]
      | some x =>
        if x.1.loaded then { x.1 with bound := s.blg.sets[i].bound }
        else ⟨false, [], Vector.replicate 4 0, 0, s.blg.sets[i].bound⟩
    else s.blg.sets[i]

theorem setsAfter_carried (s : State) (first : Nat) (ts : List (TariffSet × Nat)) :
    setsAfter s first (ts.map carriedTariff) = tariffsAfter s first ts := by
  ext1 i hi
  rw [setsAfter, updAll_get _ _ _ _ hi, tariffsAfter, Vector.getElem_ofFn, List.getElem?_map]
  cases ts[i - first]? with
  | none => rfl
  | some x => simp only [Option.map_some, Option.elim_some, toTariff_carried]; rfl

/-- R141, R143: a write of tariff sets passes its checks. -/
theorem writeValuesOk_tariffs (s : State) (first : Nat) (ts : List (TariffSet × Nat)) :
    writeValuesOk s .tariffs first (ts.map carriedTariff) = true ↔
      (∀ x ∈ ts, x.1.loaded = true → TariffInRange x.1) ∧
        ∀ i : Fin 4, s.blg.current = some i → (tariffsAfter s first ts)[i].loaded = true := by
  simp only [writeValuesOk, Bool.and_eq_true, List.all_map, List.all_eq_true, Function.comp_apply, tariffOk_carried,
    setsAfter_carried, currentOk_iff]

theorem writeInUse_tariffs_unbound {s : State} {first : Nat} {ts : List (TariffSet × Nat)}
    (unbound : ∀ i : Fin 4, addressedBy first ts.length i → s.blg.sets[i].bound = 0) :
    writeInUse s .tariffs first (ts.map carriedTariff) = false := by
  refine Bool.eq_false_iff.2 fun e => ?_
  obtain ⟨i, addressed, bound⟩ := writeInUse_tariffs.1 e
  rw [List.length_map] at addressed
  exact bound.ne' (unbound i addressed)

/-- R141: the addressed sets unbound and the checks passed. -/
theorem performWrite_tariffs_taken {s : State} {first : Nat} {ts : List (TariffSet × Nat)}
    (unbound : ∀ i : Fin 4, addressedBy first ts.length i → s.blg.sets[i].bound = 0)
    (fit : (∀ x ∈ ts, x.1.loaded = true → TariffInRange x.1) ∧
      ∀ i : Fin 4, s.blg.current = some i → (tariffsAfter s first ts)[i].loaded = true) :
    performWrite .tariffs first (ts.map carriedTariff) s =
      (.done, { s with blg := { s.blg with sets := tariffsAfter s first ts } }) := by
  rw [performWrite_done (writeInUse_tariffs_unbound unbound) ((writeValuesOk_tariffs s first ts).2 fit), applyWrite,
    setsAfter_carried]
  rfl

/-- R141: the addressed sets unbound and a check failed. -/
theorem performWrite_tariffs_refused {s : State} {first : Nat} {ts : List (TariffSet × Nat)}
    (unbound : ∀ i : Fin 4, addressedBy first ts.length i → s.blg.sets[i].bound = 0)
    (unfit : ¬ ((∀ x ∈ ts, x.1.loaded = true → TariffInRange x.1) ∧
      ∀ i : Fin 4, s.blg.current = some i → (tariffsAfter s first ts)[i].loaded = true)) :
    performWrite .tariffs first (ts.map carriedTariff) s = (.badValue, s) :=
  performWrite_badValue (writeInUse_tariffs_unbound unbound)
    (Bool.eq_false_iff.2 fun e => unfit ((writeValuesOk_tariffs s first ts).1 e))

end
end Sys2Proof.Machine

end

section
namespace Sys2Proof.Machine

/-! ### The three tables of the billing node's tariffs (R138, R141, R143) -/

section
variable {s u : State} {src : Byte} {tag : BitVec 16} {res : Result}

/-- R137: the metering settings in range. -/
theorem writeValuesOk_metering (s : State) (first gap code : Nat) :
    writeValuesOk s .metering first [[gap, code]] = true ↔ 20000 ≤ gap ∧ gap ≤ 1000000 ∧ code ≤ 4 := by
  simp [writeValuesOk, meteringOk, within, fld, and_assoc]

/-- R137: the demand intervals by their codes. -/
theorem demandOf?_code {code : Nat} (h : code ≤ 4) :
    demandOf? code = some ([300, 600, 900, 1800, 3600].getD code 0) := by
  interval_cases code <;> rfl

/-- R138: metering settings in range are taken by MTR. -/
theorem performWrite_metering {gap code : Nat} (lo : 20000 ≤ gap) (hi : gap ≤ 1000000) (hc : code ≤ 4) (s : State) :
    performWrite .metering 0 [[gap, code]] s =
      (.done, meteringTaken gap ([300, 600, 900, 1800, 3600].getD code 0) s) := by
  rw [performWrite_done rfl ((writeValuesOk_metering ..).2 ⟨lo, hi, hc⟩)]
  show (_, meteringTaken gap ((demandOf? code).getD s.mtr.demandS) s) = _
  rw [demandOf?_code hc]
  rfl

/-- R138: a changed D ends the running interval at every berth and begins one by the clock. -/
theorem meteringTaken_changed {gap d : Nat} (hd : d ≠ s.mtr.demandS) :
    meteringTaken gap d s = setInterval ((endAt allBerths s).modMtr fun m => { m with gapLimit := gap, demandS := d }) := by
  rw [meteringTaken_eq, if_neg hd]

/-- R135, R138: an interval of the old D ends where a session is open. -/
theorem meteringTaken_open {gap d : Nat} (hd : d ≠ s.mtr.demandS) {b : Berth} {r : Session} (h : s.slot b = .openSlot r) :
    (meteringTaken gap d s).slot b = .openSlot { r with
        peak := max r.peak (min (s.mtr.recs[b].demandAcc * 3600 / s.mtr.demandS) Config.u32Max) } ∧
      (meteringTaken gap d s).mtr.recs[b] = { s.mtr.recs[b] with demandAcc := 0 } := by
  rw [meteringTaken_changed hd]
  have slot := endAt_slot allBerths s b
  have record := endAt_recs allBerths s b
  rw [if_pos (mem_allBerths b), h] at slot record
  exact ⟨slot, record⟩

theorem meteringTaken_shut {gap d : Nat} (hd : d ≠ s.mtr.demandS) {b : Berth} (h : s.sessionOpen b = false) :
    (meteringTaken gap d s).slot b = s.slot b ∧ (meteringTaken gap d s).mtr.recs[b] = s.mtr.recs[b] := by
  rw [meteringTaken_changed hd]
  have slot := endAt_slot allBerths s b
  have record := endAt_recs allBerths s b
  rw [if_pos (mem_allBerths b)] at slot record
  unfold State.sessionOpen at h
  cases e : s.slot b with
  | openSlot r => rw [e] at h; cases h
  | free | reserved =>
    rw [e] at slot record
    exact ⟨slot, record⟩

/-- R143: NONE while a slot is RESERVED. -/
theorem writeInUse_current (s : State) (first n : Nat) :
    writeInUse s .current first [[n]] = true ↔ n = 4 ∧ ∃ b, s.slot b = .reserved := by
  have slots : (s.blg.slots.toList.any fun x => x = .reserved) = true ↔ ∃ b, s.slot b = .reserved := by
    rw [Vector.any_toList, Vector.any_eq_true]
    exact ⟨fun ⟨i, h, e⟩ => ⟨⟨i, h⟩, of_decide_eq_true e⟩, fun ⟨b, e⟩ => ⟨b.val, b.isLt, decide_eq_true e⟩⟩
  rw [← slots]
  simp [writeInUse, fld]

/-- R143: an index above 4 or of an EMPTY set. -/
theorem writeValuesOk_current (s : State) (first n : Nat) :
    writeValuesOk s .current first [[n]] = true ↔ n ≤ 4 ∧ currentOk s.blg.sets (berthOf? n) = true := by
  simp [writeValuesOk, fld, toCurrent]

theorem writeInUse_set (i : Fin 4) (s : State) : writeInUse s .current 0 [[i.val]] = false :=
  Bool.eq_false_iff.2 fun e => by have := ((writeInUse_current ..).1 e).1; omega

theorem writeValuesOk_set (i : Fin 4) (s : State) :
    writeValuesOk s .current 0 [[i.val]] = true ↔ s.blg.sets[i].loaded = true := by
  have named : berthOf? i.val = some i := dif_pos i.isLt
  rw [writeValuesOk_current, named]
  exact and_iff_right (by omega)

/-- R143: the index of a LOADED set. -/
theorem performWrite_loaded {n : Nat} {i : Fin 4} (hn : n = i.val) (loaded : s.blg.sets[i].loaded = true) :
    performWrite .current 0 [[n]] s = (.done, { s with blg := { s.blg with current := some i } }) := by
  have named : berthOf? i.val = some i := dif_pos i.isLt
  rw [hn, performWrite_done (writeInUse_set i s) ((writeValuesOk_set i s).2 loaded), ← named]
  rfl

/-- R143: the index of an EMPTY set. -/
theorem performWrite_empty {n : Nat} {i : Fin 4} (hn : n = i.val) (empty : ¬ s.blg.sets[i].loaded = true) :
    performWrite .current 0 [[n]] s = (.badValue, s) := by
  rw [hn, performWrite_badValue (writeInUse_set i s) (Bool.eq_false_iff.2 (mt (writeValuesOk_set i s).1 empty))]

section
variable (q : Quiet s) (w : EgressWorks s) (h : Served s src) (bil : isBilling s src.toNat = true) (lock : LockOpen s)
include q w h bil lock

theorem exec_writeMeteringSettings {gap code : Nat} (hg : gap < 4294967296) (hc : code < 256)
    (outcome : performWrite .metering 0 [[gap, code]] s = (res, u)) :
    exec (.writeMeteringSettings src tag 0 1 (be 4 gap ++ be 1 code)) s = .next (answered src tag 2 res [] u) := by
  have entry : takeEntry Table.metering.form (be 4 gap ++ be 1 code ++ []) = some ([gap, code], []) := by
    rw [List.append_assoc]
    exact takeEntry_num hg (takeEntry_num hc (takeEntry_nil []))
  refine write_answered (t := .metering) (first := 0) (es := [[gap, code]]) q w h bil lock rfl (by simp) le_rfl
    ?_ outcome
  rw [List.append_nil] at entry
  simp [takeEntries, entry]

theorem exec_writeTariffSets {first : Byte} {ts : List (TariffSet × Nat)} (hne : ts ≠ [])
    (range : first.toNat + ts.length ≤ 4) (fits : ∀ x ∈ ts, TariffFits x)
    (outcome : performWrite .tariffs first.toNat (ts.map carriedTariff) s = (res, u)) :
    exec (.writeTariffSets src tag first (BitVec.ofNat 8 ts.length) (ts.map fun x => encTariff x.1 x.2).flatten) s =
      .next (answered src tag 2 res [] u) := by
  have entries := takeEntries_map fun x hx => takeEntry_tariff (fits x hx)
  rw [← List.length_map (f := carriedTariff)] at entries range ⊢
  exact write_answered (t := .tariffs) q w h bil lock rfl (by simpa using hne) range entries outcome

theorem exec_writeCurrentSetIndex {c : Byte} (outcome : performWrite .current 0 [[c.toNat]] s = (res, u)) :
    exec (.writeCurrentSetIndex src tag 0 1 [c]) s = .next (answered src tag 2 res [] u) := by
  refine write_answered (t := .current) (first := 0) (es := [[c.toNat]]) q w h bil lock rfl (by simp) le_rfl
    ?_ outcome
  simp [takeEntries, takeEntry, takeItem, takeNum, fromBe, Table.form]

end
end
end Sys2Proof.Machine

section

open Sys2Proof Sys2Proof.Machine

/-- Settles O50: each write is answered with what its owner says of the entries it carries. -/
theorem tariffsWritten : Obligations.TariffsWritten := by
  unfold Obligations.TariffsWritten
  intro src tag s q w h bil lock
  refine ⟨fun gap code hg hc => ⟨fun bad => ?_, fun lo hi known same => ?_, fun lo hi known changed => ?_⟩,
    fun first ts hne range fits => ⟨fun bound => ?_, fun unbound => ⟨fun fit => ?_, fun unfit => ?_⟩⟩,
    fun i => ?_, fun reserved => ?_, fun unreserved => ?_, fun c hc => ?_⟩
  · exact exec_writeMeteringSettings q w h bil lock hg hc
      (performWrite_badValue rfl (Bool.eq_false_iff.2 (mt (writeValuesOk_metering ..).1 bad)))
  · rw [exec_writeMeteringSettings q w h bil lock hg hc (performWrite_metering lo hi known s), meteringTaken_eq,
      if_pos same]
  · refine ⟨_, exec_writeMeteringSettings q w h bil lock hg hc (performWrite_metering lo hi known s), ?_⟩
    refine ⟨?_, ?_, ?_, ?_, ?_, ?_, ?_, ?_, ?_, fun b r hr => meteringTaken_open changed hr,
      fun b hb => meteringTaken_shut changed hb⟩
    all_goals rw [meteringTaken_changed changed]; rfl
  · have inUse := (writeInUse_tariffs (es := ts.map carriedTariff)).2 (by simpa using bound)
    exact exec_writeTariffSets q w h bil lock hne range fits (performWrite_inUse inUse)
  · exact exec_writeTariffSets q w h bil lock hne range fits (performWrite_tariffs_taken unbound fit)
  · exact exec_writeTariffSets q w h bil lock hne range fits (performWrite_tariffs_refused unbound unfit)
  · have index : (BitVec.ofNat 8 i.val).toNat = i.val := (BitVec.toNat_ofNat ..).trans (Nat.mod_eq_of_lt (by omega))
    split
    next loaded => exact exec_writeCurrentSetIndex q w h bil lock (performWrite_loaded index loaded)
    next empty => exact exec_writeCurrentSetIndex q w h bil lock (performWrite_empty index empty)
  · exact exec_writeCurrentSetIndex (c := 4) q w h bil lock
      (performWrite_inUse ((writeInUse_current ..).2 ⟨rfl, reserved⟩))
  · have free : writeInUse s .current 0 [[4]] = false :=
      Bool.eq_false_iff.2 fun e => ((writeInUse_current ..).1 e).2.elim unreserved
    exact exec_writeCurrentSetIndex (c := 4) q w h bil lock
      (performWrite_done free ((writeValuesOk_current ..).2 ⟨le_rfl, rfl⟩))
  · have free : writeInUse s .current 0 [[c.toNat]] = false :=
      Bool.eq_false_iff.2 fun e => by have := ((writeInUse_current ..).1 e).1; omega
    have beyond : writeValuesOk s .current 0 [[c.toNat]] = false :=
      Bool.eq_false_iff.2 fun e => by have := ((writeValuesOk_current ..).1 e).1; omega
    exact exec_writeCurrentSetIndex q w h bil lock (performWrite_badValue free beyond)

end

end

section
namespace Sys2Proof.Machine

/-! ### Trip outputs and connected berths from one state to the next (R119, R122, R168) -/

/-- `t` comes from `s` with the emergency-stop input as it was: the trip outputs follow the demands if they did before,
and while the input is asserted no berth has become connected. -/
structure TripsFollow (s t : State) : Prop where
  estop : t.pins.estop = s.pins.estop
  outputs : TripOutputs s → TripOutputs t
  connected : s.pins.estop = true → ∀ b, (t.berth b).state.connected = true → (s.berth b).state.connected = true

section
variable {b : Berth} {g : BerthRec → BerthRec} {s t u : State}

theorem TripsFollow.refl (s : State) : TripsFollow s s := ⟨rfl, id, fun _ _ => id⟩

theorem TripsFollow.trans (h : TripsFollow s t) (k : TripsFollow t u) : TripsFollow s u where
  estop := k.estop.trans h.estop
  outputs := k.outputs ∘ h.outputs
  connected e b c := h.connected e b (k.connected (h.estop.trans e) b c)

theorem TripsFollow.disconnected (h : TripsFollow s t) (e : s.pins.estop = true)
    (off : (s.berth b).state.connected = false) : (t.berth b).state.connected = false := by
  have kept := h.connected e b
  rw [off] at kept
  exact Bool.eq_false_iff.2 fun c => Bool.noConfusion (kept c)

theorem TripsFollow.estopHolds (h : TripsFollow s t) (e : EstopHolds s) : EstopHolds t := by
  intro asserted b
  rw [h.estop] at asserted
  exact h.disconnected asserted (e asserted b)

/-- Work of the kind over a list. -/
theorem TripsFollow.foldl {α : Type} {f : State → α → State} (h : ∀ t x, TripsFollow t (f t x)) (xs : List α)
    (s : State) : TripsFollow s (xs.foldl f s) := by
  induction xs generalizing s with
  | nil => exact .refl s
  | cons x xs ih => exact (h s x).trans (ih _)

/-- Nothing changes that the trip outputs or the rule of the emergency stop look at. -/
theorem TripsFollow.of_records (hp : t.pins.estop = s.pins.estop) (he : t.evr.outputs = s.evr.outputs)
    (hb : ∀ b, (t.berth b).state = (s.berth b).state ∧ (t.berth b).demand = (s.berth b).demand) : TripsFollow s t where
  estop := hp
  outputs h b := by
    have demand : t.bsq.recs[b].demand = s.bsq.recs[b].demand := (hb b).2
    rw [he, hp, demand]
    exact h b
  connected _ b c := by rwa [← (hb b).1]

/-- The inputs, BSQ and EVR are left alone. -/
theorem TripsFollow.of_same (h : t.pins = s.pins ∧ t.bsq = s.bsq ∧ t.evr = s.evr) : TripsFollow s t := by
  obtain ⟨hp, hb, he⟩ := h
  exact .of_records (by rw [hp]) (by rw [he]) fun b => by rw [State.berth, hb]; exact ⟨rfl, rfl⟩

/-- A berth record's change that keeps its demand and, under an emergency stop, does not connect the berth. -/
theorem modBerth_connected
    (hc : s.pins.estop = true → (g (s.berth b)).state.connected = true → (s.berth b).state.connected = true)
    (hd : (g (s.berth b)).demand = (s.berth b).demand) : TripsFollow s (s.modBerth b g) where
  estop := rfl
  outputs h c := by
    have demand : ((s.modBerth b g).berth c).demand = (s.berth c).demand := by
      by_cases e : b = c
      · subst e; rw [State.berth_modBerth, hd]
      · rw [State.berth_modBerth_other _ e]
    have same : (s.modBerth b g).bsq.recs[c].demand = s.bsq.recs[c].demand := demand
    rw [same]
    exact h c
  connected e c h := by
    by_cases k : b = c
    · subst k
      rw [State.berth_modBerth] at h
      exact hc e h
    · rwa [State.berth_modBerth_other _ k] at h

/-- A berth record's change that keeps its state and its demand. -/
theorem modBerth_follows (b : Berth) {g : BerthRec → BerthRec} (s : State)
    (h : ∀ r, (g r).state = r.state ∧ (g r).demand = r.demand := by exact fun _ => ⟨rfl, rfl⟩) :
    TripsFollow s (s.modBerth b g) :=
  modBerth_connected (fun _ => by rw [(h _).1]; exact id) (h _).2

theorem driveOutputs_outputs (s : State) : TripOutputs (driveOutputs s) := fun b => driveOutputs_get s b

/-- R119: outputs driven from demands that have changed, in no other state than before. -/
theorem driveOutputs_follows (hp : t.pins.estop = s.pins.estop) (hs : ∀ b, (t.berth b).state = (s.berth b).state) :
    TripsFollow s (driveOutputs t) where
  estop := hp
  outputs _ := driveOutputs_outputs t
  connected _ b h := by
    have state : ((driveOutputs t).berth b).state = (s.berth b).state := hs b
    rwa [state] at h

theorem State.state_modBerth (b c : Berth) {g : BerthRec → BerthRec} (s : State)
    (h : ∀ r, (g r).state = r.state := by exact fun _ => rfl) :
    ((s.modBerth b g).berth c).state = (s.berth c).state := by
  by_cases e : b = c
  · subst e; rw [State.berth_modBerth, h]
  · rw [State.berth_modBerth_other _ e]

/-! ### Changes of state (R98) -/

theorem changeState_bsq (b : Berth) (st : BerthState) (s : State) :
    (changeState b st s).bsq = (s.modBerth b fun r => { r with state := st }).bsq := by
  unfold changeState
  dsimp only
  (repeat' split) <;> simp

/-- R122: a berth enters a state that is not connected, or is connected already, or the input is released. -/
theorem changeState_follows {st : BerthState}
    (h : s.pins.estop = true → st.connected = true → (s.berth b).state.connected = true) :
    TripsFollow s (changeState b st s) :=
  (modBerth_connected (g := fun r => { r with state := st }) h rfl).trans
    (.of_records (by simp) (by simp) fun c => by rw [State.berth, changeState_bsq]; exact ⟨rfl, rfl⟩)

theorem berthNotice_follows (b : Berth) (s : State) : TripsFollow s (berthNotice b s) := .of_same (by simp)

theorem enterState_follows {st : BerthState}
    (h : s.pins.estop = true → st.connected = true → (s.berth b).state.connected = true) :
    TripsFollow s (enterState b st s) :=
  (changeState_follows h).trans (berthNotice_follows b _)

/-- R122: a berth leaves the connected states. -/
theorem enterState_disconnects {st : BerthState} (h : st.connected = false) (s : State) :
    TripsFollow s (enterState b st s) :=
  enterState_follows fun _ c => by rw [h] at c; exact Bool.noConfusion c

end

section
variable {b : Berth} {s : State}

/-! ### Holds and the ramp timers (R104, R105, R107) -/

theorem syncTimer_record (now : Nat) (r : BerthRec) :
    (r.syncTimer now).state = r.state ∧ (r.syncTimer now).demand = r.demand := by
  obtain ⟨rt, e, -⟩ := syncTimer_eq now r
  rw [e]
  exact ⟨rfl, rfl⟩

theorem setShipHold_follows (b : Berth) (v : Option Nat) (s : State) : TripsFollow s (setShipHold b v s) :=
  modBerth_follows b s (by exact fun _ => syncTimer_record _ _)

theorem setEventHold_follows (b : Berth) (v : Bool) (s : State) : TripsFollow s (setEventHold b v s) :=
  modBerth_follows b s (by exact fun _ => syncTimer_record _ _)

theorem startRamp_follows (b : Berth) (s : State) : TripsFollow s (startRamp b s) :=
  modBerth_follows b s (by exact fun _ => syncTimer_record _ _)

theorem startRamp_state (b : Berth) (s : State) : ((startRamp b s).berth b).state = (s.berth b).state :=
  s.state_modBerth b b (by exact fun _ => (syncTimer_record _ _).1)

theorem stopRamp_follows (b : Berth) (s : State) : TripsFollow s (stopRamp b s) :=
  (setShipHold_follows b none s).trans (modBerth_follows b _)

theorem enterRampUp_follows (h : (s.berth b).state.connected = true) : TripsFollow s (enterRampUp b s) :=
  ((startRamp_follows b s).trans (modBerth_follows b _)).trans
    (enterState_follows fun _ _ => by rw [State.berth_modBerth]; exact (startRamp_state b s).symm ▸ h)

theorem enterRampDown_follows (h : (s.berth b).state.connected = true) : TripsFollow s (enterRampDown b s) :=
  ((startRamp_follows b s).trans (modBerth_follows b _)).trans
    (enterState_follows fun _ _ => by rw [State.berth_modBerth]; exact (startRamp_state b s).symm ▸ h)

/-! ### Releasing and tripping (R113, R115) -/

theorem clearCall_state (b c : Berth) (s : State) : ((clearCall b s).berth c).state = (s.berth c).state := by
  have eq : (clearCall b s).berth c =
      (s.modBerth b fun r => { r with deadShip := false, energised := false }).berth c := by
    simp [clearCall, State.berth]
  rw [eq]
  exact s.state_modBerth b c

/-- R113, R121: a berth returns to DEAD with its demand as `g` leaves it. -/
theorem returnToDead_follows {g : BerthRec → BerthRec} (s : State)
    (h : ∀ r, (g r).state = r.state := by exact fun _ => rfl) :
    TripsFollow s (enterState b .dead (driveOutputs (clearCall b (s.modBerth b g)))) :=
  (driveOutputs_follows (by simp) fun c => (clearCall_state b c _).trans (s.state_modBerth b c h)).trans
    (enterState_disconnects rfl _)

theorem listEmptyTaken_follows (b : Berth) (s : State) : TripsFollow s (listEmptyTaken b s) := by
  unfold listEmptyTaken
  split
  · exact returnToDead_follows s
  · exact .refl s

theorem enterReleasing_follows (b : Berth) (s : State) : TripsFollow s (enterReleasing b s) :=
  ((TripsFollow.of_same (by simp)).trans (enterState_disconnects rfl _)).trans (listEmptyTaken_follows b _)

theorem setPSet_follows (b : Berth) (v : Nat) (s : State) : TripsFollow s (setPSet b v s) := .of_same (by simp)

theorem stopTimers_follows (b : Berth) (s : State) : TripsFollow s (stopTimers b s) :=
  ((stopRamp_follows b s).trans (modBerth_follows b _)).trans (setPSet_follows b 0 _)

theorem tripCommanded_follows (b : Berth) (s : State) : TripsFollow s (tripCommanded b s) :=
  (driveOutputs_follows (s := s) (t := s.modBerth b fun r => { r with demand := true, fromOpening := false }) rfl
    fun c => s.state_modBerth b c).trans (.of_same (by simp [tripCommanded]))

theorem tripEnded_follows (b : Berth) (why : TripReason) (s : State) : TripsFollow s (tripEnded b why s) :=
  (((tripCommanded_follows b s).trans (.of_same (by simp))).trans (stopTimers_follows b _)).trans
    (modBerth_follows b _)

theorem tripBerth_follows (b : Berth) (why : TripReason) (s : State) : TripsFollow s (tripBerth b why s) := by
  cases h : (s.berth b).state.active with
  | false => rw [tripBerth_inactive h]; exact .refl s
  | true => rw [tripBerth_eq h]; exact (tripEnded_follows b why s).trans (enterState_disconnects rfl _)

theorem BerthState.connected_active {st : BerthState} (h : st.connected = true) : st.active = true := by
  revert h
  cases st <;> decide

/-- R115: a trip leaves its berth in no connected state. -/
theorem tripBerth_disconnects (b : Berth) (why : TripReason) (s : State) :
    ((tripBerth b why s).berth b).state.connected = false := by
  cases h : (s.berth b).state.active with
  | false =>
    rw [tripBerth_inactive h]
    exact Bool.eq_false_iff.2 fun c => by rw [BerthState.connected_active c] at h; exact Bool.noConfusion h
  | true => rw [(tripBerth_tripped h why).1]; rfl

/-! ### Connection (R99 to R103) -/

theorem acceptConnect_follows (b : Berth) (deadShip : Bool) (h : s.pins.estop = false) :
    TripsFollow s (acceptConnect b deadShip s) := by
  have prepared : ∀ t, TripsFollow t (prepareRecord b deadShip t) :=
    fun t => modBerth_follows b t
  refine ((TripsFollow.of_same (by simp)).trans (prepared _)).trans (enterState_follows fun e => ?_)
  rw [show (prepareRecord b deadShip (createRef b (allocate b (reserveSlot b s)))).pins = s.pins by simp, h] at e
  exact Bool.noConfusion e

theorem connectCmd_follows (b : Berth) (deadShip : Bool) (s : State) : TripsFollow s (connectCmd b deadShip s).2 := by
  have evaluated : TripsFollow s (evalLogFull s) := .of_same (by simp)
  unfold connectCmd
  split
  · exact .refl s
  next dead =>
    have released : s.pins.estop = false := by
      rw [not_or, Bool.not_eq_true] at dead
      exact dead.2
    split
    · exact .refl s
    split
    · exact .refl s
    split
    · exact .of_same (by simp)
    dsimp only
    split
    · exact evaluated
    split
    · exact evaluated
    · have accepted := acceptConnect_follows (s := evalLogFull s) b deadShip (by simpa using released)
      dsimp only
      exact evaluated.trans accepted

theorem energisedTest_follows (b : Berth) (s : State) : TripsFollow s (energisedTest b s) := by
  unfold energisedTest
  dsimp only
  split
  next h =>
    have connected : (s.berth b).state.connected = true := by rw [h.1]; rfl
    split
    · exact (TripsFollow.of_same (by simp)).trans (enterState_follows fun _ _ => by simpa [State.berth] using connected)
    · exact (TripsFollow.of_same (by simp)).trans (enterState_follows fun _ _ => by simpa [State.berth] using connected)
  · exact .refl s

theorem energisedTaken_follows (b : Berth) (s : State) : TripsFollow s (energisedTaken b s) := by
  unfold energisedTaken
  split
  · exact (modBerth_follows b s).trans (energisedTest_follows b _)
  · exact .refl s

theorem loseSource_follows (b : Berth) (s : State) : TripsFollow s (loseSource b s) :=
  (TripsFollow.of_same (by simp)).trans (enterReleasing_follows b _)

theorem actOnSummary_follows (b : Berth) (s : State) : TripsFollow s (actOnSummary b s) := by
  unfold actOnSummary
  dsimp only
  split
  next allocating =>
    split
    · exact (enterState_follows fun _ _ => by rw [allocating]; rfl).trans (energisedTest_follows b _)
    · exact .refl s
  · split
    · exact loseSource_follows b s
    · exact energisedTest_follows b s
  case h_3 | h_4 =>
    split
    · exact loseSource_follows b s
    · exact .refl s
  case h_5 | h_6 | h_7 | h_8 =>
    split
    · exact tripBerth_follows b _ s
    · exact .refl s
  all_goals exact .refl s

theorem summaryTaken_follows (b : Berth) (s : State) : TripsFollow s (summaryTaken b s) := by
  unfold summaryTaken
  split
  · exact .refl s
  · exact (modBerth_follows b s).trans (actOnSummary_follows b _)

theorem firstFailureTaken_follows (b : Berth) (s : State) : TripsFollow s (firstFailureTaken b s) := by
  unfold firstFailureTaken
  split
  · exact (TripsFollow.of_same (by simp)).trans (enterReleasing_follows b _)
  · exact .refl s

theorem openSession_berth (b c : Berth) (s : State) : (openSession b s).berth c = s.berth c := by
  simp [State.berth]

theorem openSession_follows (b : Berth) (s : State) : TripsFollow s (openSession b s) := .of_same (by simp)

theorem outletResultTaken_follows (b : Berth) (r : SyncResult) (s : State) :
    TripsFollow s (outletResultTaken b r s) := by
  unfold outletResultTaken
  split
  next syncing =>
    cases r with
    | success =>
      exact (openSession_follows b s).trans (enterRampUp_follows (by rw [openSession_berth, syncing]; rfl))
    | failedWait => exact enterReleasing_follows b s
    | failedAttempts => exact enterReleasing_follows b s
    | cancelled => exact .refl s
  · exact .refl s

theorem outletOutcomeTaken_follows (b : Berth) (o : DeadOutcome) (s : State) :
    TripsFollow s (outletOutcomeTaken b o s) := by
  have failed : TripsFollow s (enterReleasing b (s.post (.raise (evSyncFail b)))) :=
    (TripsFollow.of_same (by simp)).trans (enterReleasing_follows b _)
  unfold outletOutcomeTaken
  split
  next closing =>
    cases o with
    | confirmed =>
      exact (openSession_follows b s).trans (enterState_follows fun _ _ => by rw [openSession_berth, closing]; rfl)
    | refused => exact failed
    | notConfirmed => exact failed
  · exact .refl s

end
end Sys2Proof.Machine
end

section
namespace Sys2Proof.Machine

section
variable {b : Berth} {s : State}

/-! ### Work of other blocks that BSQ and EVR call for -/

theorem command_follows (c : BreakerCmd) (t : Target) (s : State) : TripsFollow s (command c t s) := .of_same (by simp)

theorem giveShpn_follows (dest : Nat) (body : Notice) (s : State) : TripsFollow s (giveShpn dest body s) :=
  .of_same (by simp)

theorem closeSession_follows (b : Berth) (why : EndReason) (s : State) : TripsFollow s (closeSession b why s) :=
  .of_same (by simp)

theorem advanceTo_follows (due : Nat) (s : State) : TripsFollow s (s.advanceTo due) := .of_same (by simp)

theorem post_follows (h : Handoff) (s : State) : TripsFollow s (s.post h) := .of_same (by simp)

/-! ### The ramps (R104 to R112) -/

theorem rampDoneTest_follows (b : Berth) (s : State) : TripsFollow s (rampDoneTest b s) := by
  unfold rampDoneTest
  split
  · exact (modBerth_follows b s).trans (giveShpn_follows _ _ _)
  · exact .refl s

theorem capacityTest_follows (b : Berth) (s : State) : TripsFollow s (capacityTest b s) := by
  have raised := post_follows (.raise (evCapacityLimit b)) s
  unfold capacityTest
  dsimp only
  split
  · split
    · exact raised
    · exact (raised.trans (modBerth_follows b _)).trans (giveShpn_follows _ _ _)
  · exact modBerth_follows b s

theorem startOpening_follows (b : Berth) (s : State) : TripsFollow s (startOpening b s) := modBerth_follows b s

theorem startOpening_state (b : Berth) (s : State) : ((startOpening b s).berth b).state = (s.berth b).state :=
  s.state_modBerth b b

theorem openTest_follows (h : (s.berth b).state.connected = true) : TripsFollow s (openTest b s) := by
  unfold openTest
  split
  · refine (((command_follows .openCmd (outlet b) s).trans (startOpening_follows b _)).trans (stopRamp_follows b _)).trans
      (enterState_follows fun _ _ => ?_)
    have state : ((command .openCmd (outlet b) s).berth b).state = (s.berth b).state := by simp [State.berth]
    rw [stopRamp_berth]
    dsimp only
    rwa [startOpening_state, state]
  · exact .refl s

theorem rampPeriodTaken_follows (b : Berth) (s : State) : TripsFollow s (rampPeriodTaken b s) := by
  unfold rampPeriodTaken
  split
  · exact .refl s
  next due _ =>
    have moved := (advanceTo_follows due s).trans
      (modBerth_follows b (g := fun r => { r with rampDue := some (due + Config.rampPeriodMs) }) _)
    dsimp only
    split
    · exact ((moved.trans (setPSet_follows b _ _)).trans (rampDoneTest_follows b _)).trans (capacityTest_follows b _)
    next down =>
      refine (moved.trans (setPSet_follows b _ _)).trans (openTest_follows ?_)
      have state : ∀ v (t : State), (setPSet b v t).berth b = t.berth b := fun v t => by simp [State.berth]
      rw [state, down]
      rfl
    · exact moved

theorem rampTimeoutTaken_follows (b : Berth) (s : State) : TripsFollow s (rampTimeoutTaken b s) := by
  unfold rampTimeoutTaken
  split
  · exact ((advanceTo_follows _ s).trans (modBerth_follows b _)).trans (post_follows _ _)
  · exact .refl s

theorem shipHoldEndTaken_follows (b : Berth) (s : State) : TripsFollow s (shipHoldEndTaken b s) := by
  unfold shipHoldEndTaken
  split
  · exact .refl s
  · exact (advanceTo_follows _ s).trans (setShipHold_follows b none _)

theorem holdLimitTaken_follows (b : Berth) (s : State) : TripsFollow s (holdLimitTaken b s) := by
  unfold holdLimitTaken
  split
  · exact (((advanceTo_follows _ s).trans (setShipHold_follows b none _)).trans (modBerth_follows b _)).trans
      (post_follows _ _)
  · exact .refl s

theorem generatorWaitTaken_follows (b : Berth) (s : State) : TripsFollow s (generatorWaitTaken b s) := by
  unfold generatorWaitTaken
  split
  · exact .refl s
  · exact ((advanceTo_follows _ s).trans (modBerth_follows b _)).trans (post_follows _ _)

/-- R112: an outlet that does not open in time has its berth's trip demand set, and its output driven with it. -/
theorem openingTaken_follows (b : Berth) (s : State) : TripsFollow s (openingTaken b s) := by
  unfold openingTaken
  split
  · exact .refl s
  next due _ =>
    dsimp only
    have raised := (advanceTo_follows due s).trans (post_follows (.raise (evBreakerNoConfirm b)) _)
    have driven := driveOutputs_follows (s := (s.advanceTo due).post (.raise (evBreakerNoConfirm b)))
      (t := ((s.advanceTo due).post (.raise (evBreakerNoConfirm b))).modBerth b
        fun r => { r with demand := true, fromOpening := true }) rfl fun c => State.state_modBerth b c _
    exact ((raised.trans driven).trans (command_follows .trip (outlet b) _)).trans (startOpening_follows b _)

/-! ### Ship messages and berth commands (R96, R105 to R110, R114 to R121) -/

theorem holdTaken_follows (b : Berth) (quanta : Nat) (s : State) : TripsFollow s (holdTaken b quanta s) := by
  unfold holdTaken
  split
  · exact .refl s
  split
  · exact setShipHold_follows b _ s
  · exact setShipHold_follows b _ s

theorem genOffTaken_follows (b : Berth) (s : State) : TripsFollow s (genOffTaken b s) := by
  unfold genOffTaken
  split
  next ramping =>
    refine (stopRamp_follows b s).trans (enterState_follows fun _ _ => ?_)
    rw [stopRamp_berth]
    dsimp only
    rw [ramping]
    rfl
  · exact .refl s

theorem genOnTaken_follows (b : Berth) (s : State) : TripsFollow s (genOnTaken b s) := by
  unfold genOnTaken
  split
  next waiting =>
    refine ((modBerth_follows b s).trans (setPSet_follows b _ _)).trans (enterRampDown_follows ?_)
    have state : ∀ v (t : State), (setPSet b v t).berth b = t.berth b := fun v t => by simp [State.berth]
    rw [state, State.berth_modBerth]
    dsimp only
    rw [waiting]
    rfl
  · exact .refl s

theorem shipMessage_follows (b : Berth) (m : ShipMsg) (s : State) : TripsFollow s (shipMessage b m s) := by
  cases m with
  | state ready deadBus gens load ident => exact .of_records rfl rfl fun _ => ⟨rfl, rfl⟩
  | hold q => exact holdTaken_follows b q s
  | genOff => exact genOffTaken_follows b s
  | genOn => exact genOnTaken_follows b s
  | shedAck kw => exact modBerth_follows b s

theorem departCmd_follows (b : Berth) (s : State) : TripsFollow s (departCmd b s).2 := by
  unfold departCmd
  split
  next shore =>
    dsimp only
    refine (modBerth_follows b s).trans (enterState_follows fun _ _ => ?_)
    rw [State.berth_modBerth]
    dsimp only
    rw [shore]
    rfl
  · exact .refl s

theorem abortCmd_follows (b : Berth) (s : State) : TripsFollow s (abortCmd b s).2 := by
  unfold abortCmd
  split
  case h_1 | h_2 | h_3 | h_4 =>
    dsimp only
    exact enterReleasing_follows b s
  case h_5 up =>
    dsimp only
    exact enterRampDown_follows (by rw [up]; rfl)
  all_goals exact .refl s

theorem tripCmd_follows (b : Berth) (s : State) : TripsFollow s (tripCmd b s).2 := by
  unfold tripCmd
  split
  · exact .refl s
  · exact .refl s
  · exact tripBerth_follows b _ s

theorem resetTripCmd_follows (b : Berth) (s : State) : TripsFollow s (resetTripCmd b s).2 := by
  unfold resetTripCmd
  split
  · exact returnToDead_follows s
  · exact .refl s

theorem outletPosition_follows (b : Berth) (p : Position) (s : State) : TripsFollow s (outletPosition b p s) := by
  unfold outletPosition
  split
  · exact .refl s
  split
  · split
    · exact ((modBerth_follows b s).trans (closeSession_follows b _ _)).trans (enterReleasing_follows b _)
    · exact .refl s
  split
  · exact (tripBerth_follows b _ s).trans (post_follows _ _)
  · exact .refl s

/-! ### The pilot loops and the repeat of the emergency stop (R117, R122) -/

theorem pilotChange_follows (b : Berth) (asserted : Bool) (s : State) : TripsFollow s (pilotChange b asserted s) := by
  have level : TripsFollow s (s.modPins fun p => { p with pilot := upd p.pilot b fun _ => asserted }) :=
    .of_records rfl rfl fun _ => ⟨rfl, rfl⟩
  unfold pilotChange
  split
  · exact .refl s
  dsimp only
  split
  · exact (level.trans (tripBerth_follows b _ _)).trans (post_follows _ _)
  · exact level

theorem estopRepeatTaken_follows (s : State) : TripsFollow s (estopRepeatTaken s) := by
  unfold estopRepeatTaken
  split
  · exact .refl s
  · exact .of_records rfl rfl fun _ => ⟨rfl, rfl⟩

/-! ### The Event Router (R159 to R167) -/

theorem recomputeHold_follows (b : Berth) (s : State) : TripsFollow s (recomputeHold b s) := by
  have flagged : ∀ v, TripsFollow s (s.modEvr fun r => { r with holds := upd r.holds b fun _ => v }) :=
    fun _ => .of_records rfl rfl fun _ => ⟨rfl, rfl⟩
  unfold recomputeHold
  dsimp only
  split
  · exact .refl s
  · exact (flagged _).trans (setEventHold_follows b _ _)

theorem recomputeHolds_follows (s : State) : TripsFollow s (recomputeHolds s) :=
  .foldl (fun t c => recomputeHold_follows c t) allBerths s

theorem modEntry_follows (e : EventIx) (g : EventEntry → EventEntry) (s : State) : TripsFollow s (s.modEntry e g) :=
  .of_records rfl rfl fun _ => ⟨rfl, rfl⟩

theorem giveNotes_follows (e : EventIx) (s : State) : TripsFollow s (giveNotes e s) := .of_same (by simp)

theorem tripEvent_follows (b : Berth) (s : State) : TripsFollow s (tripEvent b s) := tripBerth_follows b _ s

theorem applyAction_follows (e : EventIx) (s : State) : TripsFollow s (applyAction e s) := by
  unfold applyAction
  split
  · exact .of_same (by simp)
  · exact tripEvent_follows _ s
  · split
    · exact .refl s
    · exact tripEvent_follows _ s
  · exact .foldl (fun t c => tripEvent_follows c t) allBerths s
  · exact .of_same (by simp)
  · exact .refl s

theorem raiseEntry_follows (e : EventIx) (s : State) : TripsFollow s (raiseEntry e s) := by
  unfold raiseEntry
  split
  · exact modEntry_follows e _ s
  dsimp only
  split
  · exact (((modEntry_follows e _ s).trans (giveNotes_follows e _)).trans (recomputeHolds_follows _)).trans
      (applyAction_follows e _)
  · exact modEntry_follows e _ s

theorem enableEntry_follows (e : EventIx) (s : State) : TripsFollow s (enableEntry e s) := by
  unfold enableEntry
  split
  · exact .refl s
  dsimp only
  split
  · exact ((modEntry_follows e _ s).trans (giveNotes_follows e _)).trans (recomputeHolds_follows _)
  · exact modEntry_follows e _ s

theorem disableEntry_follows (e : EventIx) (s : State) : TripsFollow s (disableEntry e s) :=
  (modEntry_follows e _ s).trans (recomputeHolds_follows _)

theorem clearEntry_follows (e : EventIx) (s : State) : TripsFollow s (clearEntry e s) := by
  have cleared := (modEntry_follows e (fun x => { x with raw := false, count := 0, clock := none }) s).trans
    (recomputeHolds_follows _)
  unfold clearEntry
  dsimp only
  split
  · exact cleared.trans (raiseEntry_follows e _)
  · exact cleared

/-! ### Hand-offs -/

theorem takeHandoff_follows (h : Handoff) (s : State) : TripsFollow s (takeHandoff h s) := by
  cases h with
  | raise e => exact raiseEntry_follows e s
  | summary b => exact summaryTaken_follows b s
  | firstFailure b => exact firstFailureTaken_follows b s
  | listEmpty b => exact listEmptyTaken_follows b s
  | outletResult b r => exact outletResultTaken_follows b r s
  | outletOutcome b o => exact outletOutcomeTaken_follows b o s
  | contactorResult m r => exact .of_same (by simp [takeHandoff])
  | contactorOutcome m b o => exact .of_same (by simp [takeHandoff])
  | energised b => exact energisedTaken_follows b s
  | pollSkipped m n => exact .of_same (by simp [takeHandoff])
  | serveChannels => exact .of_same (by simp [takeHandoff])

theorem drain_follows (n : Nat) (s : State) : TripsFollow s (drain n s) :=
  drain_keeps (P := TripsFollow s) (fun _ _ h => h.trans (.of_same ⟨rfl, rfl, rfl⟩))
    (fun x t h => h.trans (takeHandoff_follows x t)) n (.refl s)

theorem settle_follows (s : State) : TripsFollow s (settle s) :=
  settle_keeps (P := TripsFollow s) (fun _ _ _ h => h.trans (.of_same ⟨rfl, rfl, rfl⟩))
    (fun x t h => h.trans (takeHandoff_follows x t)) (.refl s)

/-! ### Breaker status and table writes (R72, R95, R158, R177) -/

theorem bstaTaken_follows (t : Target) (p : Position) (s : State) : TripsFollow s (bstaTaken t p s) := by
  have reported : TripsFollow s (ownReport t p (s.breaker t).lastPosition (recordPosition t p s)) :=
    .of_same (by simp)
  unfold bstaTaken
  dsimp only
  split
  · exact reported.trans (outletPosition_follows _ p _)
  · exact reported.trans (.of_same (by simp))

/-- R95: a write takes a berth between UNUSED and DEAD only. -/
theorem berthWritten_follows (old new : BerthEntry) (b : Berth) (s : State) :
    TripsFollow s (berthWritten old new b s) := by
  have changed : ∀ {t : State} {st : BerthState}, st.connected = false → TripsFollow s t →
      TripsFollow s (changeState b st t) := fun off h => h.trans (changeState_follows fun _ c => by
        rw [off] at c; exact Bool.noConfusion c)
  have ship : TripsFollow s
      (if old.configured && (!new.configured || old.gateway ≠ new.gateway) then s.setShip b none else s) := by
    split
    · exact .of_records rfl rfl fun _ => ⟨rfl, rfl⟩
    · exact .refl s
  unfold berthWritten
  dsimp only
  split
  · exact changed rfl ship
  split
  · exact changed rfl ship
  · exact ship

theorem applyBerths_follows (first : Nat) (es : List (List Nat)) (s : State) :
    TripsFollow s (applyBerths first es s) := by
  have stored : ∀ t, TripsFollow s (s.modBsq fun q => { q with table := t }) :=
    fun _ => .of_records rfl rfl fun _ => ⟨rfl, rfl⟩
  exact (stored _).trans (.foldl (fun t b => berthWritten_follows _ _ b t) _ _)

theorem applyEvents_follows (first : Nat) (es : List (List Nat)) (s : State) :
    TripsFollow s (applyEvents first es s) := by
  have stored : ∀ x : Evr → Vector EventEntry 100, TripsFollow s (s.modEvr fun r => { r with entries := x r }) :=
    fun _ => .of_records rfl rfl fun _ => ⟨rfl, rfl⟩
  have noted : ∀ old e t, TripsFollow t (eventWritten old e t) := fun _ _ _ => .of_same (by simp)
  exact ((stored _).trans (.foldl (fun t e => noted _ e t) _ _)).trans (recomputeHolds_follows _)

theorem applyWrite_follows (t : Table) (first : Nat) (es : List (List Nat)) (s : State) :
    TripsFollow s (applyWrite t first es s) := by
  cases t with
  | berths => exact applyBerths_follows first es s
  | events => exact applyEvents_follows first es s
  | _ => exact .of_same (by simp [applyWrite])

end
end Sys2Proof.Machine
end

section
namespace Sys2Proof.Machine

/-! ### The emergency stop and the resets (R122, R124) -/

/-- R122, R168: the trip outputs follow, and no berth is connected while the emergency-stop input is asserted. -/
def TripsSafe (s : State) : Prop := TripOutputs s ∧ EstopHolds s

section
variable {s t : State}

theorem TripsFollow.safe (h : TripsFollow s t) (safe : TripsSafe s) : TripsSafe t :=
  ⟨h.outputs safe.1, h.estopHolds safe.2⟩

/-- With the input released the rule of the emergency stop asks nothing. -/
theorem estopHolds_of_released (h : s.pins.estop = false) : EstopHolds s := by
  intro asserted
  rw [h] at asserted
  exact Bool.noConfusion asserted

/-- R122: what stays of a trip of every berth of a list. -/
theorem tripBerths_disconnect (why : TripReason) (bs : List Berth) (h : s.pins.estop = true) {b : Berth}
    (hb : b ∈ bs) : ((bs.foldl (fun s c => tripBerth c why s) s).berth b).state.connected = false := by
  have kept : ∀ (cs : List Berth) (t : State), t.pins.estop = true → (t.berth b).state.connected = false →
      ((cs.foldl (fun s c => tripBerth c why s) t).berth b).state.connected = false := by
    intro cs t asserted off
    exact (TripsFollow.foldl (fun t c => tripBerth_follows c why t) cs t).disconnected asserted off
  induction bs generalizing s with
  | nil => exact absurd hb List.not_mem_nil
  | cons c cs ih =>
    have asserted : (tripBerth c why s).pins.estop = true := by rw [(tripBerth_follows c why s).estop]; exact h
    obtain rfl | hb := List.mem_cons.1 hb
    · exact kept cs _ asserted (tripBerth_disconnects b why s)
    · exact ih asserted hb

/-- R122: an assertion drives the outputs first and trips every berth, whatever the state it meets. -/
theorem estopTaken_safe (s : State) : TripsSafe (estopTaken s) := by
  have driven := driveOutputs_outputs (s.modPins fun p => { p with estop := true })
  have stopped : ∀ u, TripsFollow u (syuEstop u) := fun u => .of_same (by simp)
  have tripped := TripsFollow.foldl (fun t c => tripBerth_follows c .estop t) allBerths
  have raised : ∀ u n, TripsFollow u ((u.post (.raise evEstop)).modBsq fun q => { q with estopRepeat := n }) :=
    fun _ _ => .of_records rfl rfl fun _ => ⟨rfl, rfl⟩
  unfold estopTaken
  dsimp only
  refine ⟨(((stopped _).trans (tripped _)).trans (raised _ _)).outputs driven, fun _ b => ?_⟩
  have asserted : (syuEstop (driveOutputs (s.modPins fun p => { p with estop := true }))).pins.estop = true :=
    (stopped _).estop
  exact (raised _ _).disconnected ((tripped _).estop.trans asserted)
    (tripBerths_disconnect .estop allBerths asserted (mem_allBerths b))

theorem estopAsserted_safe (h : TripsSafe s) : TripsSafe (estopAsserted s) := by
  unfold estopAsserted
  split
  · exact h
  · exact estopTaken_safe s

theorem estopReleased_safe (s : State) : TripsSafe (estopReleased s) :=
  ⟨driveOutputs_outputs _, estopHolds_of_released rfl⟩

/-- R122, R124: a reset ends by driving the outputs, and by the assertion when the input is found asserted. -/
theorem estopAtEnd_safe (s : State) : TripsSafe (estopAtEnd s) := by
  unfold estopAtEnd
  split
  · exact estopTaken_safe s
  next released => exact ⟨driveOutputs_outputs s, estopHolds_of_released (Bool.not_eq_true _ ▸ released)⟩

theorem resetEnd_safe (s : State) : TripsSafe (resetEnd s) := estopAtEnd_safe _

theorem coldReset_safe (nid opn bln : BitVec 6) (s : State) : TripsSafe (coldReset nid opn bln s) := resetEnd_safe _

theorem warmReset_safe (nid opn bln : BitVec 6) (loss reset : Nat) (s : State) :
    TripsSafe (warmReset nid opn bln loss reset s) := resetEnd_safe _

theorem restartBlocks_safe (s : State) : TripsSafe (restartBlocks s) := by
  unfold restartBlocks
  dsimp only
  split
  · exact (post_follows _ _).safe (resetEnd_safe _)
  · exact resetEnd_safe _

/-! ### Management requests (R172 to R181) -/

theorem performWrite_follows (t : Table) (first : Nat) (es : List (List Nat)) (s : State) :
    TripsFollow s (performWrite t first es s).2 := by
  unfold performWrite
  split
  · exact .refl s
  split
  · exact .refl s
  · dsimp only
    exact applyWrite_follows t first es s

theorem performBerth_follows (b cmd : Nat) (s : State) : TripsFollow s (performBerth b cmd s).2 := by
  unfold performBerth
  split
  · exact connectCmd_follows _ _ s
  · exact connectCmd_follows _ _ s
  · exact departCmd_follows _ s
  · exact abortCmd_follows _ s
  · exact tripCmd_follows _ s
  · exact resetTripCmd_follows _ s
  · exact .refl s

theorem performEvent_follows {g : EventIx → State → State} (h : ∀ e t, TripsFollow t (g e t)) (i : Nat) (s : State) :
    TripsFollow s (performEvent g i s).2 := by
  unfold performEvent
  split
  · exact .refl s
  · exact h _ s

theorem performRestart_safe (h : TripsSafe s) : TripsSafe (performRestart s).2 := by
  have reserved : ∀ t, TripsFollow t (reservePlace t) := fun t => .of_same (by simp)
  unfold performRestart
  split
  · exact (reserved _).safe (restartBlocks_safe s)
  · exact h

theorem perform_safe (src : Nat) (prep : Bool) (r : Request) (h : TripsSafe s) :
    TripsSafe (perform src prep r s).2 := by
  cases r with
  | write t first count es => exact (performWrite_follows t first es s).safe h
  | berth b cmd => exact (performBerth_follows b cmd s).safe h
  | eventClear i => exact (performEvent_follows clearEntry_follows i s).safe h
  | eventSet i => exact (performEvent_follows raiseEntry_follows i s).safe h
  | eventEnable i => exact (performEvent_follows enableEntry_follows i s).safe h
  | eventDisable i => exact (performEvent_follows disableEntry_follows i s).safe h
  | restart => exact performRestart_safe h
  | _ => exact (TripsFollow.of_same (by simp [perform, ofOwner])).safe h

theorem askLock_follows (s : State) : TripsFollow s (askLock s).2 := .of_same (by simp)

theorem judge_safe (src kind : Nat) (prep : Bool) (r : Request) (h : TripsSafe s) :
    TripsSafe (judge src kind prep r s).2 := by
  have captured : TripsFollow s (captureRange src kind r s) := .of_same (by simp)
  have asked := (askLock_follows s).safe h
  unfold judge
  split
  · exact h
  split
  · exact captured.safe h
  split
  · split
    next refused => rw [refused] at asked; exact asked
    next taken => rw [taken] at asked; exact perform_safe src prep r asked
  · exact perform_safe src prep r h

theorem serve_safe (q : MguReq) (h : TripsSafe s) : TripsSafe (serve q s).2 := by
  have noted : TripsFollow s (setPrepared q.source false s) := .of_same (by simp)
  unfold serve
  split
  · exact h
  · exact judge_safe _ _ _ _ (noted.safe h)

theorem serveHead_safe (q : MguReq) (h : TripsSafe s) : TripsSafe (serveHead q s) := by
  have answered : ∀ a t, TripsFollow t (enterAnswer q a t) := fun a t => .of_same (by simp)
  exact (answered _ _).safe ((drain_follows _ _).safe (serve_safe q h))

theorem serveAll_safe (n : Nat) (h : TripsSafe s) : TripsSafe (serveAll n s) := by
  induction n generalizing s with
  | zero => exact h
  | succ n ih =>
    unfold serveAll
    split
    · exact h
    split
    · exact ih (serveHead_safe _ h)
    · exact h

theorem arrive_safe (q : MguReq) (h : TripsSafe s) : TripsSafe (arrive q s) := by
  have queued : TripsFollow s ((reservePlace s).modMgu fun g => { g with queue := g.queue ++ [q] }) :=
    .of_same (by simp)
  have refused : TripsFollow s (refuseArrival q s) := .of_same (by simp)
  unfold arrive
  split
  · dsimp only
    split
    · exact serveAll_safe _ (queued.safe h)
    · exact queued.safe h
  · exact refused.safe h

theorem nextPart_safe (h : TripsSafe s) : TripsSafe (nextPart s) := by
  have entered : ∀ q, TripsFollow s (endService (enterParts q s.mgu.parts s)) := fun q => .of_same (by simp)
  unfold nextPart
  split
  · exact h
  split
  · exact h
  · exact serveAll_safe _ ((entered _).safe h)

/-! ### Received frames (R6, R7) -/

theorem checked_safe {α : Type} {sourceOk : Bool} {form : Option α} {k : α → State → State}
    (hk : ∀ x, TripsSafe (k x s)) (h : TripsSafe s) : TripsSafe (checked sourceOk form k s) := by
  have ignored : TripsFollow s (sourceIgnored s) := .of_same (by simp)
  have discarded : TripsFollow s (formDiscard s) := .of_same (by simp)
  unfold checked
  split
  · exact ignored.safe h
  split
  · exact discarded.safe h
  · exact hk _

theorem consumeShpm_safe (src : Nat) (p : List Byte) (h : TripsSafe s) : TripsSafe (consumeShpm src p s) := by
  have ignored : TripsFollow s (sourceIgnored s) := .of_same (by simp)
  unfold consumeShpm
  split
  · exact ignored.safe h
  · exact checked_safe (fun m => (shipMessage_follows _ m s).safe h) h

theorem consume_safe (toAll : Bool) (kind src : Nat) (p : List Byte) (h : TripsSafe s) :
    TripsSafe (consume toAll kind src p s) := by
  have measured : TripsFollow s (consumeMeas src p s) := .of_same (by simp)
  have replied : TripsFollow s (consumePrpy src p s) := .of_same (by simp)
  unfold consume
  split
  · exact measured.safe h
  split
  · exact checked_safe (fun x => (bstaTaken_follows x.1 x.2 s).safe h) h
  split
  · exact replied.safe h
  split
  · exact consumeShpm_safe src p h
  split
  · exact checked_safe (fun q => arrive_safe (requestOf src q) h) h
  · exact h

theorem handOff_safe (kind : Nat) (src : Byte) (p : List Byte) (h : TripsSafe s) : TripsSafe (handOff kind src p s) := by
  unfold handOff
  split
  · exact consume_safe false kind _ p h
  · exact h

theorem frameTaken_safe (bytes : List Byte) (h : TripsSafe s) : TripsSafe (frameTaken bytes s) := by
  have cut : TripsFollow s (cutOverlong s) := .of_same (by simp)
  have counted : ∀ g t, TripsFollow t (t.count g) := fun g t => .of_same (by simp)
  have forwarded : ∀ t, TripsFollow t (forwardFrame bytes t) := fun t => .of_same (by simp)
  have good : TripsSafe (goodFrame s) := (TripsFollow.of_same (by simp)).safe h
  unfold frameTaken
  split
  · exact cut.safe h
  split
  · exact (counted _ s).safe h
  next r _ =>
    unfold routeFrame
    split
    · exact (forwarded _).safe good
    split
    · exact (counted _ _).safe good
    split
    · exact consume_safe false _ _ _ good
    split
    · exact consume_safe true _ _ _ ((forwarded _).safe good)
    · exact (forwarded _).safe good

/-! ### Commands -/

theorem done_safe {g : State → State} (hg : ∀ u, TripsSafe u → TripsSafe (g u)) (h : TripsSafe s)
    (e : done g s = .next t) : TripsSafe t := by
  have cleared : TripsFollow s { s with handoffs := [] } := .of_same ⟨rfl, rfl, rfl⟩
  obtain rfl : whole g s = t := Host.Outcome.next.inj e
  exact (settle_follows _).safe (hg _ (cleared.safe h))

/-- A command whose work only follows. -/
theorem done_follows {g : State → State} (hg : ∀ u, TripsFollow u (g u)) (h : TripsSafe s) (e : done g s = .next t) :
    TripsSafe t := done_safe (fun u => (hg u).safe) h e

/-- A command that leaves the inputs, BSQ and EVR to what its work hands over. -/
theorem done_same {g : State → State} (h : TripsSafe s) (e : done g s = .next t)
    (hg : ∀ u, (g u).pins = u.pins ∧ (g u).bsq = u.bsq ∧ (g u).evr = u.evr := by simp) : TripsSafe t :=
  done_follows (fun u => .of_same (hg u)) h e

/-- Every other command is the hand-off of a received frame, a management request included. -/
theorem exec_safe (c : Instr) (h : TripsSafe s) (e : exec c s = .next t) : TripsSafe t := by
  cases c with
  | coldReset nid opn bln => exact done_safe (fun u _ => coldReset_safe nid opn bln u) h e
  | warmReset nid opn bln loss reset => exact done_safe (fun u _ => warmReset_safe nid opn bln loss reset u) h e
  | pilotInputChange b asserted => exact done_follows (pilotChange_follows b asserted) h e
  | estopAssert => exact done_safe (fun _ => estopAsserted_safe) h e
  | estopRelease => exact done_safe (fun u _ => estopReleased_safe u) h e
  | estopRepeatTimerExpiry => exact done_follows estopRepeatTaken_follows h e
  | frameReceptionEnd bytes => exact done_safe (fun _ => frameTaken_safe bytes) h e
  | rampPeriod b => exact done_follows (rampPeriodTaken_follows b) h e
  | shipHoldEnd b => exact done_follows (shipHoldEndTaken_follows b) h e
  | holdLimitReached b => exact done_follows (holdLimitTaken_follows b) h e
  | rampTimeoutExpiry b => exact done_follows (rampTimeoutTaken_follows b) h e
  | generatorWaitExpiry b => exact done_follows (generatorWaitTaken_follows b) h e
  | openingTimerExpiry b => exact done_follows (openingTaken_follows b) h e
  | nextReplyPart => exact done_safe (fun _ => nextPart_safe) h e
  | overlongCut | ingressLossTimerExpiry | egressFree | promotion | heldLimitExpiry p | staleLimitExpiry p
  | stalenessRepeatTimerExpiry b side | scanSlot | pollReplyTimerExpiry | startLimitExpiry m
  | stopLimitExpiry m | rfgPeriod | overloadTimerExpiry b | syncWaitTimerExpiry k | watchTimerExpiry k
  | confirmTimerExpiry k | backoffTimerExpiry k | deadBusConfirmTimerExpiry k | clockTick | demandIntervalEnd =>
    exact done_same h e
  | _ => exact done_safe (fun _ => handOff_safe _ _ _) h e

/-- An empty queue lets the part's own event that is due be done, or time pass. -/
theorem idle_safe (h : TripsSafe s) (e : idle s = .next t) : TripsSafe t := by
  unfold idle at e
  split at e
  · exact exec_safe _ h e
  · obtain rfl := Host.Outcome.next.inj e
    exact (TripsFollow.of_same ⟨rfl, rfl, rfl⟩).safe h

theorem step_safe (h : TripsSafe s) (e : step s = .next t) : TripsSafe t := by
  unfold step at e
  split at e
  · exact idle_safe h e
  next rest _ =>
    have unqueued : TripsFollow s { s with pending := rest } := .of_same ⟨rfl, rfl, rfl⟩
    exact exec_safe _ (unqueued.safe h) e

end
end Sys2Proof.Machine

section

open Sys2Proof Sys2Proof.Machine

/-- Settles O4: block work keeps the outputs to the demands and connects no berth under an emergency stop; an assertion
and a reset drive the outputs anew and trip what is connected. -/
theorem tripsKept : Obligations.TripsKept := by
  unfold Obligations.TripsKept
  intro s t outputs holds e
  exact step_safe ⟨outputs, holds⟩ e

end

end

section

/-! The theorems of this section are elaborated one after another: side by side, those that wait for one another hold
more threads than the check's memory has stacks for. -/
set_option Elab.async false


section
namespace Sys2Proof.Machine

/-! ### What outlasts the work of one command

`Work P` says that `P` outlasts each piece of block work that a command is made of, the owners' actions on requests, the
rest of management service and the resets left aside; a property of blocks that a piece leaves alone outlasts it by the frame lemmas, which `simp` finds. -/

/-- The block work under which `P` stays: hand-offs taken, the MGU's checks, and the commands that reach one block. -/
structure Work (P : State → Prop) : Prop where
  handed : ∀ s hs n, P s → P { s with handoffs := hs, overrun := n } := by simp
  take : ∀ h s, P s → P (takeHandoff h s) := by simp
  setPrepared : ∀ src v s, P s → P (setPrepared src v s) := by simp
  captureRange : ∀ src kind r s, P s → P (captureRange src kind r s) := by simp
  askLock : ∀ s, P s → P (askLock s).2 := by simp
  count : ∀ g s, P s → P (s.count g) := by simp
  goodFrame : ∀ s, P s → P (goodFrame s) := by simp
  forwardFrame : ∀ bytes s, P s → P (forwardFrame bytes s) := by simp
  measTaken : ∀ src p s, P s → P (measTaken src p s) := by simp
  replyTaken : ∀ src y s, P s → P (replyTaken src y s) := by simp
  shipMessage : ∀ b m s, P s → P (shipMessage b m s) := by simp
  pilotChange : ∀ b v s, P s → P (pilotChange b v s) := by simp
  estopAsserted : ∀ s, P s → P (estopAsserted s) := by simp
  estopReleased : ∀ s, P s → P (estopReleased s) := by simp
  estopRepeatTaken : ∀ s, P s → P (estopRepeatTaken s) := by simp
  cutOverlong : ∀ s, P s → P (cutOverlong s) := by simp
  ingressLoss : ∀ s, P s → P (ingressLoss s) := by simp
  egressFreed : ∀ s, P s → P (egressFreed s) := by simp
  promote : ∀ s, P s → P (promote s) := by simp
  heldExpiry : ∀ p s, P s → P (heldExpiry p s) := by simp
  staleExpiry : ∀ p s, P s → P (staleExpiry p s) := by simp
  staleRepeat : ∀ b side s, P s → P (staleRepeat b side s) := by simp
  scanSlot : ∀ s, P s → P (scanSlot s) := by simp
  pollReplyExpiry : ∀ s, P s → P (pollReplyExpiry s) := by simp
  startExpiry : ∀ m s, P s → P (startExpiry m s) := by simp
  stopExpiry : ∀ m s, P s → P (stopExpiry m s) := by simp
  period : ∀ s, P s → P (period s) := by simp
  overloadExpiry : ∀ b s, P s → P (overloadExpiry b s) := by simp
  syncWaitExpiry : ∀ t s, P s → P (syncWaitExpiry t s) := by simp
  watchExpiry : ∀ c s, P s → P (watchExpiry c s) := by simp
  confirmExpiry : ∀ c s, P s → P (confirmExpiry c s) := by simp
  backoffExpiry : ∀ c s, P s → P (backoffExpiry c s) := by simp
  deadBusConfirmExpiry : ∀ t s, P s → P (deadBusConfirmExpiry t s) := by simp
  rampPeriodTaken : ∀ b s, P s → P (rampPeriodTaken b s) := by simp
  shipHoldEndTaken : ∀ b s, P s → P (shipHoldEndTaken b s) := by simp
  holdLimitTaken : ∀ b s, P s → P (holdLimitTaken b s) := by simp
  rampTimeoutTaken : ∀ b s, P s → P (rampTimeoutTaken b s) := by simp
  generatorWaitTaken : ∀ b s, P s → P (generatorWaitTaken b s) := by simp
  openingTaken : ∀ b s, P s → P (openingTaken b s) := by simp
  tick : ∀ s, P s → P (tick s) := by simp
  intervalEndTaken : ∀ s, P s → P (intervalEndTaken s) := by simp

/-- R173: what the form check has seen to: a write carries an entry. -/
def Request.formed : Request → Prop
  | .write _ _ _ es => es ≠ []
  | _ => True

theorem takeEntries_ne_nil {form : List FormItem} {n : Nat} {bs : List Byte} {es : List (List Nat)} (h : n ≠ 0)
    (e : takeEntries form n bs = some es) : es ≠ [] := by
  obtain ⟨n, rfl⟩ := Nat.exists_eq_succ_of_ne_zero h
  unfold takeEntries at e
  split at e
  · cases e
  · obtain ⟨es, -, rfl⟩ := Option.map_eq_some_iff.mp e
    exact List.cons_ne_nil _ _

theorem parseWrite_formed {p : List Byte} {r : Request} (e : parseWrite p = some r) : r.formed := by
  unfold parseWrite at e
  split at e
  · cases e
  next count =>
    split at e
    · cases e
    · obtain ⟨es, taken, rfl⟩ := Option.map_eq_some_iff.mp e
      exact takeEntries_ne_nil (fun z => count (.inr z)) taken

theorem exactly_formed {n : Nat} {r x : Request} {p : List Byte} (h : r.formed) (e : exactly n r p = some x) :
    x.formed := by
  unfold exactly at e
  split at e
  · exact Option.some.inj e ▸ h
  · cases e

theorem parseRead_formed {p : List Byte} {r : Request} (e : parseRead p = some r) : r.formed := by
  unfold parseRead at e
  split at e
  · obtain ⟨t, -, rfl⟩ := Option.map_eq_some_iff.mp e
    trivial
  · cases e

theorem parseCoded_formed {mk : CodeId → Code → Request} (h : ∀ i code, (mk i code).formed) {p : List Byte} {r : Request}
    (e : parseCoded mk p = some r) : r.formed := by
  unfold parseCoded at e
  split at e
  · obtain ⟨i, -, rfl⟩ := Option.map_eq_some_iff.mp e
    exact h _ _
  · cases e

theorem parseSetCode_formed {p : List Byte} {r : Request} (e : parseSetCode p = some r) : r.formed := by
  unfold parseSetCode at e
  split at e <;> cases e <;> trivial

theorem parseRequest_formed {kind : Nat} {p : List Byte} {r : Request} (e : parseRequest kind p = some r) : r.formed := by
  unfold parseRequest at e
  split at e
  case h_1 => exact parseRead_formed e
  case h_2 => exact parseWrite_formed e
  case h_13 | h_19 => exact parseCoded_formed (fun _ _ => by exact trivial) e
  case h_15 => exact parseSetCode_formed e
  case h_21 => cases e
  all_goals exact exactly_formed (by exact trivial) e

/-- `R` is what is left of `P` after a command: a breaker status report may take the rest away. -/
structure Ends (P R : State → Prop) : Prop where
  weak : ∀ s, P s → R s
  settled : ∀ s, R s → R (settle s)
  bstaTaken : ∀ t p s, P s → R (bstaTaken t p s) := by simp

/-- `P` outlasts the owner's action on request `r`. -/
def Performs (P : State → Prop) (r : Request) : Prop := ∀ src prep s, P s → P (perform src prep r s).2

/-- The steps of management service under which `P` stays (R171, R172, R178, R181). -/
structure Service (P : State → Prop) : Prop where
  performs : ∀ r : Request, r.formed → Performs P r
  reservePlace : ∀ s, P s → P (reservePlace s) := by simp
  enterReply : ∀ f v s, P s → P (enterReply f v s) := by simp
  enterReserved : ∀ f s, P s → P (enterReserved f s) := by simp
  modMgu : ∀ g s, P s → P (s.modMgu g) := by simp

section
variable {P : State → Prop} {s : State}

theorem drain_lasts (w : Work P) (n : Nat) (h : P s) : P (drain n s) :=
  drain_keeps (fun s hs => w.handed s hs s.overrun) w.take n h

theorem settle_lasts (w : Work P) (h : P s) : P (settle s) := settle_keeps w.handed w.take h

/-! ### Management service -/

theorem judge_lasts (w : Work P) (src kind : Nat) (prep : Bool) {r : Request} (p : Performs P r) (h : P s) :
    P (judge src kind prep r s).2 := by
  have asked := w.askLock s h
  unfold judge
  split
  · exact h
  split
  · exact w.captureRange src kind r s h
  split
  · split
    next refused => rw [refused] at asked; exact asked
    next taken => rw [taken] at asked; exact p src prep _ asked
  · exact p src prep _ h

theorem serve_lasts (w : Work P) (q : MguReq) (p : ∀ r, parseRequest q.kind.toNat q.params = some r → Performs P r)
    (h : P s) : P (serve q s).2 := by
  unfold serve
  split
  · exact h
  next r e => exact judge_lasts w _ _ _ (p r e) (w.setPrepared q.source false s h)

theorem enterParts_lasts (v : Service P) (q : MguReq) (ds : List (List Byte)) (h : P s) : P (enterParts q ds s) := by
  induction ds generalizing s with
  | nil => exact v.modMgu _ s h
  | cons d ds ih =>
    unfold enterParts
    split
    · exact ih (v.enterReserved _ _ (v.reservePlace s h))
    · exact v.modMgu _ s h

theorem endService_lasts (v : Service P) (h : P s) : P (endService s) := by
  unfold endService
  split
  · exact v.modMgu _ s h
  · exact h

theorem serveHead_lasts (w : Work P) (v : Service P) (q : MguReq) (h : P s) : P (serveHead q s) :=
  endService_lasts v (enterParts_lasts v q _ (v.enterReserved _ _
    (drain_lasts w _ (serve_lasts w q (fun r e => v.performs r (parseRequest_formed e)) h))))

theorem serveAll_lasts (w : Work P) (v : Service P) (n : Nat) (h : P s) : P (serveAll n s) := by
  induction n generalizing s with
  | zero => exact h
  | succ n ih =>
    unfold serveAll
    split
    · exact h
    split
    · exact ih (serveHead_lasts w v _ h)
    · exact h

theorem arrive_lasts (w : Work P) (v : Service P) (q : MguReq) (h : P s) : P (arrive q s) := by
  have queued : P ((reservePlace s).modMgu fun g => { g with queue := g.queue ++ [q] }) :=
    v.modMgu _ _ (v.reservePlace s h)
  unfold arrive refuseArrival
  split
  · dsimp only
    split
    · exact serveAll_lasts w v _ queued
    · exact queued
  split
  · exact v.modMgu _ s h
  · exact v.enterReply _ _ s h

theorem nextPart_lasts (w : Work P) (v : Service P) (h : P s) : P (nextPart s) := by
  unfold nextPart
  split
  · exact h
  split
  · exact h
  · exact serveAll_lasts w v _ (endService_lasts v (enterParts_lasts v _ _ h))

/-! ### Received frames (R6, R7) -/

variable {R : State → Prop}

theorem checked_ends (w : Work P) (z : Ends P R) {α : Type} {sourceOk : Bool} {form : Option α} {k : α → State → State}
    (hk : ∀ x, R (k x s)) (h : P s) : R (checked sourceOk form k s) := by
  unfold checked
  split
  · exact z.weak _ (w.count _ s h)
  split
  · exact z.weak _ (w.count _ s h)
  · exact hk _

/-- Every consumed frame but an MREQ is block work. -/
theorem consume_ends (w : Work P) (z : Ends P R) {toAll : Bool} {kind src : Nat} {p : List Byte}
    (mreq : kind = kindMreq → toAll = false → R (consumeMreq src p s)) (h : P s) : R (consume toAll kind src p s) := by
  unfold consume
  split
  · exact checked_ends w z (fun x => z.weak _ (w.measTaken src x s h)) h
  split
  · exact checked_ends w z (fun x => z.bstaTaken x.1 x.2 s h) h
  split
  · exact checked_ends w z (fun y => z.weak _ (w.replyTaken src y s h)) h
  split
  · unfold consumeShpm
    split
    · exact z.weak _ (w.count _ s h)
    · exact checked_ends w z (fun m => z.weak _ (w.shipMessage _ m s h)) h
  split
  next e => exact mreq e.1 (by simpa using e.2)
  · exact z.weak s h

theorem consumeMreq_lasts (w : Work P) (v : Service P) (src : Nat) (p : List Byte) (h : P s) : P (consumeMreq src p s) := by
  unfold consumeMreq checked
  split
  · exact w.count _ s h
  split
  · exact w.count _ s h
  · exact arrive_lasts w v _ h

theorem frameTaken_ends (w : Work P) (z : Ends P R) (mreq : ∀ src p u, P u → R (consumeMreq src p u)) (bytes : List Byte)
    (h : P s) : R (frameTaken bytes s) := by
  have good := w.goodFrame s h
  have passed : ∀ b, P (forwardFrame b (goodFrame s)) := fun b => w.forwardFrame b _ good
  unfold frameTaken
  split
  · exact z.weak _ (w.cutOverlong s h)
  split
  · exact z.weak _ (w.count _ s h)
  next r _ =>
    unfold routeFrame
    split
    · exact z.weak _ (passed _)
    split
    · exact z.weak _ (w.count _ _ good)
    split
    · exact consume_ends w z (fun _ _ => mreq _ _ _ good) good
    split
    · exact consume_ends w z (fun _ _ => mreq _ _ _ (passed _)) (passed _)
    · exact z.weak _ (passed _)

/-! ### Commands -/

theorem done_ends (w : Work P) (z : Ends P R) {g : State → State} {t : State} (hg : ∀ u, P u → R (g u)) (h : P s)
    (e : done g s = .next t) : R t := by
  obtain rfl : whole g s = t := Host.Outcome.next.inj e
  exact z.settled _ (hg _ (w.handed s [] s.overrun h))

theorem done_lasts (w : Work P) (z : Ends P R) {g : State → State} {t : State} (hg : ∀ u, P u → P (g u)) (h : P s)
    (e : done g s = .next t) : R t :=
  done_ends w z (fun u hu => z.weak _ (hg u hu)) h e

/-- What is left of `P` after a command that is block work; what else a command can be is left to the hypotheses. -/
theorem exec_ends (w : Work P) (z : Ends P R) {c : Instr} {t : State}
    (cold : ∀ nid opn bln, c = .coldReset nid opn bln → ∀ u, P u → R (coldReset nid opn bln u))
    (warm : ∀ nid opn bln loss reset, c = .warmReset nid opn bln loss reset →
      ∀ u, P u → R (warmReset nid opn bln loss reset u))
    (frame : ∀ bytes, c = .frameReceptionEnd bytes → ∀ u, P u → R (frameTaken bytes u))
    (part : c = .nextReplyPart → ∀ u, P u → R (nextPart u))
    (arrival : ∀ src p, c = .mreqArrival src p → ∀ u, P u → R (consumeMreq src.toNat p u))
    (asked : ∀ src tag kind params, kind < 256 → (kind = 11 → ∃ n, c = .logRemoveOldest src tag n) →
      (kind = 19 → ∃ i code, c = .billingClear src tag i code) → ∀ u, P u →
      R (consumeMreq src.toNat (be 2 tag.toNat ++ be 1 kind ++ params) u))
    (h : P s) (e : exec c s = .next t) : R t := by
  have mreq : ∀ {src p}, (∀ u, P u → R (consumeMreq (BitVec.toNat (w := 8) src) p u)) →
      ∀ u, P u → R (handOff kindMreq src p u) := fun hm u hu => by
    unfold handOff
    split
    · exact consume_ends w z (fun _ _ => hm u hu) hu
    · exact z.weak u hu
  have other : ∀ {kind src p}, kind ≠ kindMreq → ∀ u, P u → R (handOff kind src p u) := fun no u hu => by
    unfold handOff
    split
    · exact consume_ends w z (fun is _ => absurd is no) hu
    · exact z.weak u hu
  cases c with
  | coldReset nid opn bln => exact done_ends w z (cold _ _ _ rfl) h e
  | warmReset nid opn bln loss reset => exact done_ends w z (warm _ _ _ _ _ rfl) h e
  | pilotInputChange b asserted => exact done_lasts w z (w.pilotChange b asserted) h e
  | estopAssert => exact done_lasts w z w.estopAsserted h e
  | estopRelease => exact done_lasts w z w.estopReleased h e
  | estopRepeatTimerExpiry => exact done_lasts w z w.estopRepeatTaken h e
  | frameReceptionEnd bytes => exact done_ends w z (frame bytes rfl) h e
  | overlongCut => exact done_lasts w z w.cutOverlong h e
  | ingressLossTimerExpiry => exact done_lasts w z w.ingressLoss h e
  | egressFree => exact done_lasts w z w.egressFreed h e
  | promotion => exact done_lasts w z w.promote h e
  | heldLimitExpiry p => exact done_lasts w z (w.heldExpiry p) h e
  | staleLimitExpiry p => exact done_lasts w z (w.staleExpiry p) h e
  | stalenessRepeatTimerExpiry b side => exact done_lasts w z (w.staleRepeat b side) h e
  | scanSlot => exact done_lasts w z w.scanSlot h e
  | pollReplyTimerExpiry => exact done_lasts w z w.pollReplyExpiry h e
  | startLimitExpiry m => exact done_lasts w z (w.startExpiry m) h e
  | stopLimitExpiry m => exact done_lasts w z (w.stopExpiry m) h e
  | rfgPeriod => exact done_lasts w z w.period h e
  | overloadTimerExpiry b => exact done_lasts w z (w.overloadExpiry b) h e
  | syncWaitTimerExpiry k => exact done_lasts w z (w.syncWaitExpiry k) h e
  | watchTimerExpiry k => exact done_lasts w z (w.watchExpiry k) h e
  | confirmTimerExpiry k => exact done_lasts w z (w.confirmExpiry k) h e
  | backoffTimerExpiry k => exact done_lasts w z (w.backoffExpiry k) h e
  | deadBusConfirmTimerExpiry k => exact done_lasts w z (w.deadBusConfirmExpiry k) h e
  | rampPeriod b => exact done_lasts w z (w.rampPeriodTaken b) h e
  | shipHoldEnd b => exact done_lasts w z (w.shipHoldEndTaken b) h e
  | holdLimitReached b => exact done_lasts w z (w.holdLimitTaken b) h e
  | rampTimeoutExpiry b => exact done_lasts w z (w.rampTimeoutTaken b) h e
  | generatorWaitExpiry b => exact done_lasts w z (w.generatorWaitTaken b) h e
  | openingTimerExpiry b => exact done_lasts w z (w.openingTaken b) h e
  | clockTick => exact done_lasts w z w.tick h e
  | demandIntervalEnd => exact done_lasts w z w.intervalEndTaken h e
  | nextReplyPart => exact done_ends w z (part rfl) h e
  | mreqArrival src p => exact done_ends w z (mreq (arrival src p rfl)) h e
  | measFrame | bstaFrame | prpyFrame | shipState | hold | genOff | genOn | shedAck =>
    exact done_ends w z (other (by decide)) h e
  | logRemoveOldest => exact done_ends w z (mreq (asked _ _ 11 _ (by simp) (fun _ => ⟨_, rfl⟩) (by simp))) h e
  | billingClear => exact done_ends w z (mreq (asked _ _ 19 _ (by simp) (by simp) fun _ => ⟨_, _, rfl⟩)) h e
  | _ => exact done_ends w z (mreq (asked _ _ _ _ (by simp) (by simp) (by simp))) h e

/-- R171, R172, R178, R181: `P` outlasts a command if it outlasts block work and service, and a reset where the command is one. -/
theorem exec_lasts (w : Work P) (v : Service P) {c : Instr} {t : State}
    (cold : ∀ nid opn bln, c = .coldReset nid opn bln → ∀ u, P u → P (coldReset nid opn bln u))
    (warm : ∀ nid opn bln loss reset, c = .warmReset nid opn bln loss reset →
      ∀ u, P u → P (warmReset nid opn bln loss reset u))
    (h : P s) (e : exec c s = .next t) (bsta : ∀ t p s, P s → P (bstaTaken t p s) := by simp) : P t :=
  have z : Ends P P := ⟨fun _ h => h, fun _ => settle_lasts w, bsta⟩
  exec_ends w z cold warm (fun bytes _ _ => frameTaken_ends w z (fun src p _ => consumeMreq_lasts w v src p) bytes)
    (fun _ _ => nextPart_lasts w v) (fun _ _ _ _ => consumeMreq_lasts w v _ _)
    (fun _ _ _ _ _ _ _ _ => consumeMreq_lasts w v _ _) h e

/-- A step is a command, or time passing. -/
theorem step_keeps (exec_kept : ∀ c s t, P s → exec c s = .next t → P t)
    (now : ∀ s n, P s → P { s with now := n }) (pending : ∀ s cs, P s → P { s with pending := cs }) {t : State}
    (h : P s) (e : step s = .next t) : P t := by
  unfold step idle at e
  split at e
  · split at e
    · exact exec_kept _ _ _ h e
    · obtain rfl := Host.Outcome.next.inj e
      exact now _ _ h
  next c rest _ => exact exec_kept _ _ _ (pending _ rest h) e

/-- The same with the resets taken together. -/
theorem step_lasts (w : Work P) (v : Service P)
    (cold : ∀ nid opn bln u, P u → P (coldReset nid opn bln u))
    (warm : ∀ nid opn bln loss reset u, P u → P (warmReset nid opn bln loss reset u))
    (now : ∀ s n, P s → P { s with now := n } := by simp)
    (pending : ∀ s cs, P s → P { s with pending := cs } := by simp) {t : State}
    (h : P s) (e : step s = .next t) (bsta : ∀ t p s, P s → P (bstaTaken t p s) := by simp) : P t :=
  step_keeps (fun _ _ _ h e => exec_lasts w v (fun nid opn bln _ => cold nid opn bln)
    (fun nid opn bln loss reset _ => warm nid opn bln loss reset) h e bsta) now pending h e

end
end Sys2Proof.Machine
end

section
namespace Sys2Proof.Machine

/-! ### The lock (R183 to R189) -/

/-- What `LockSound` says of the lock alone. -/
def Mlk.Sound (k : Mlk) : Prop :=
  (k.operatorCode = none ↔ k.lock = .unprotected) ∧ k.attempts ≤ Config.lockAttempts ∧
    (k.exhausted = true ↔ k.attempts = 0) ∧ (k.attempts = 0 → k.lock ≠ .unlocked) ∧
    (k.metrologyCode = none ↔ k.revision = Config.revisionUnset)

/-- No attempt of `k` has been given back in `k'`, and neither condition cleared. -/
def Mlk.Stricter (k k' : Mlk) : Prop :=
  k'.attempts ≤ k.attempts ∧ (k.exhausted = true → k'.exhausted = true) ∧ (k.frozen = true → k'.frozen = true)

/-- What a management request can do to the lock (R185 to R189). -/
inductive Mlk.Next (k : Mlk) : Mlk → Prop
  | same : Mlk.Next k k
  | missed : k.attempts ≠ 0 → Mlk.Next k k.missed
  | opened : k.attempts ≠ 0 → k.lock ≠ .unprotected → Mlk.Next k { k with lock := .unlocked }
  | closed : k.lock ≠ .unprotected → Mlk.Next k { k with lock := .locked }
  | operatorSet (code : Code) (strict : Bool) :
      Mlk.Next k { k with operatorCode := some code, strict := strict, lock := .locked }
  | metrologySet (code : Code) {revision : Nat} : revision ≤ 65533 →
      Mlk.Next k { k with metrologyCode := some code, revision := revision }
  | operatorRemoved : Mlk.Next k k.removeOperator
  | frozen : Mlk.Next k { k with frozen := true }

section
variable {k k' : Mlk} {s : State}

theorem Mlk.Next.sound (n : k.Next k') (h : k.Sound) : k'.Sound := by
  obtain ⟨operator, attempts, exhausted, shut, metrology⟩ := h
  cases n with
  | same => exact ⟨operator, attempts, exhausted, shut, metrology⟩
  | missed left =>
    refine ⟨?_, by simp only [Mlk.missed]; omega, ?_, ?_, metrology⟩
    · rw [show k.missed.operatorCode = k.operatorCode from rfl, operator]
      simp only [Mlk.missed]
      split <;> simp_all
    · simp only [Mlk.missed, Bool.or_eq_true, decide_eq_true_eq, exhausted]; omega
    · simp only [Mlk.missed]; intro z; split <;> simp_all
  | opened left protected_ => exact ⟨by simp_all, attempts, exhausted, fun z => absurd z left, metrology⟩
  | closed protected_ => exact ⟨by simp_all, attempts, exhausted, fun _ => by simp, metrology⟩
  | operatorSet code strict => exact ⟨by simp, attempts, exhausted, fun _ => by simp, metrology⟩
  | metrologySet code low =>
    exact ⟨operator, attempts, exhausted, shut, by simp only [Config.revisionUnset, reduceCtorEq, false_iff]; omega⟩
  | operatorRemoved => exact ⟨by simp [Mlk.removeOperator], attempts, exhausted, fun _ => by simp [Mlk.removeOperator], metrology⟩
  | frozen => exact ⟨operator, attempts, exhausted, shut, metrology⟩

theorem Mlk.Next.stricter (n : k.Next k') : k.Stricter k' := by
  cases n with
  | missed left => exact ⟨Nat.sub_le _ _, fun h => by simp [Mlk.missed, h], id⟩
  | frozen => exact ⟨le_rfl, id, fun _ => rfl⟩
  | _ => exact ⟨le_rfl, id, id⟩

theorem Mlk.Stricter.trans {k'' : Mlk} (h : k.Stricter k') (g : k'.Stricter k'') : k.Stricter k'' :=
  ⟨g.1.trans h.1, g.2.1 ∘ h.2.1, g.2.2 ∘ h.2.2⟩

theorem Mlk.warm_sound (h : k.Sound) : k.warm.Sound := by
  obtain ⟨operator, -, -, -, metrology⟩ := h
  refine ⟨?_, le_rfl, by simp [Mlk.warm], by simp [Mlk.warm], metrology⟩
  rw [show k.warm.operatorCode = k.operatorCode from rfl, operator]
  simp only [Mlk.warm]
  split <;> simp_all

/-! ### Requests -/

theorem codeMismatch_mlk (s : State) : (codeMismatch s).2.mlk = s.mlk.missed := by
  simp only [codeMismatch]
  split <;> simp

/-- R185: a lock request is refused, or judged with attempts left. -/
theorem judged_next {frozenMatters : Bool} {own : State → Result × State}
    (h : s.mlk.attempts ≠ 0 → s.mlk.Next (own s).2.mlk) : s.mlk.Next (judged frozenMatters own s).2.mlk := by
  unfold judged
  split
  · exact .same
  next left =>
    split
    · exact .same
    · exact h left

theorem codeMismatch_next (left : s.mlk.attempts ≠ 0) : s.mlk.Next (codeMismatch s).2.mlk := by
  rw [codeMismatch_mlk]
  exact .missed left

theorem unlockReq_next (i : CodeId) (code : Code) (s : State) : s.mlk.Next (unlockReq i code s).2.mlk :=
  judged_next fun left => by
    unfold unlockOwn
    split
    · exact .same
    next shut =>
      split
      · exact .same
      split
      · exact .same
      split
      · exact .opened left shut
      · exact codeMismatch_next left

theorem relockReq_next (s : State) : s.mlk.Next (relockReq s).2.mlk :=
  judged_next fun _ => by
    unfold relockOwn
    split
    · exact .same
    next shut => exact .closed shut

theorem setOperatorReq_next (code : Code) (level : Nat) (s : State) : s.mlk.Next (setOperatorReq code level s).2.mlk :=
  judged_next fun _ => by
    unfold setOperatorOwn
    split
    · exact .same
    split
    · exact .same
    · exact .operatorSet _ _

theorem setMetrologyReq_next (code : Code) (revision : Nat) (current : Option Code) (s : State) :
    s.mlk.Next (setMetrologyReq code revision current s).2.mlk :=
  judged_next fun left => by
    unfold setMetrologyOwn
    split
    · exact .same
    split
    · exact .same
    next low =>
      split
      · exact codeMismatch_next left
      · exact .metrologySet _ (by omega)

theorem removeCodeReq_next (code : Code) (s : State) : s.mlk.Next (removeCodeReq code s).2.mlk :=
  judged_next fun left => by
    unfold removeCodeOwn
    split
    · exact .same
    · exact .same
    split
    · exact .operatorRemoved
    · exact codeMismatch_next left

theorem freezeReq_next (s : State) : s.mlk.Next (freezeReq s).2.mlk :=
  judged_next fun _ => by
    unfold freezeOwn
    split
    · exact .same
    · exact .frozen

theorem billingClearReq_next (prep : Bool) (i : CodeId) (code : Code) (s : State) :
    s.mlk.Next (billingClearReq prep i code s).2.mlk :=
  judged_next fun left => by
    unfold billingClearOwn
    split
    · exact .same
    split
    · exact .same
    split
    · exact .same
    split
    · exact .same
    split
    · simpa [billingClearTaken, zeroUnbilled] using Mlk.Next.operatorRemoved
    · exact codeMismatch_next left

theorem performEvent_mlk {g : EventIx → State → State} (h : ∀ e t, (g e t).mlk = t.mlk) (i : Nat) (s : State) :
    (performEvent g i s).2.mlk = s.mlk := by
  unfold performEvent
  split
  · rfl
  · exact h _ s

theorem perform_next (src : Nat) (prep : Bool) (r : Request) (s : State) : s.mlk.Next (perform src prep r s).2.mlk := by
  cases r with
  | unlock i code => exact unlockReq_next i code s
  | relock => exact relockReq_next s
  | setOperator code level => exact setOperatorReq_next code level s
  | setMetrology code revision current => exact setMetrologyReq_next code revision current s
  | removeCode code => exact removeCodeReq_next code s
  | freeze => exact freezeReq_next s
  | billingClear i code => exact billingClearReq_next prep i code s
  | _ =>
    have same : ∀ {k}, k = s.mlk → s.mlk.Next k := fun e => e ▸ .same
    exact same (by simp [perform, ofOwner, performEvent_mlk])

/-- No block work changes the lock. -/
theorem lock_work {Q : Mlk → Prop} : Work fun s => Q s.mlk where

/-- A property of the lock that its requests keep outlasts management service. -/
theorem lock_service {Q : Mlk → Prop} (h : ∀ k k', k.Next k' → Q k → Q k') : Service fun s => Q s.mlk where
  performs r _ src prep s := h _ _ (perform_next src prep r s)

theorem coldReset_mlk (nid opn bln : BitVec 6) (s : State) : (coldReset nid opn bln s).mlk = Mlk.cold := by
  simp [coldReset, State.coldWith]

theorem warmReset_mlk (nid opn bln : BitVec 6) (loss reset : Nat) (s : State) :
    (warmReset nid opn bln loss reset s).mlk = s.mlk.warm := by
  simp [warmReset]

end
end Sys2Proof.Machine

section
open Sys2Proof Sys2Proof.Machine

/-- Settles O7: every request changes the lock in one of eight ways, and each keeps its parts in agreement and gives no
attempt back; no other block touches it. -/
theorem lockSoundKept : Obligations.LockSoundKept := by
  refine ⟨fun s t sound e => ?_, fun c s t notCold notWarm e => ?_⟩
  · refine step_lasts (P := fun s => s.mlk.Sound) lock_work (lock_service fun _ _ n => n.sound) (fun _ _ _ u _ => ?_)
      (fun _ _ _ _ _ u h => ?_) (by simp) (by simp) sound e
    · rw [coldReset_mlk]
      simp [Mlk.Sound, Mlk.cold]
    · rw [warmReset_mlk]
      exact Mlk.warm_sound h
  · exact exec_lasts (P := fun u => s.mlk.Stricter u.mlk) lock_work (lock_service fun _ _ n h => h.trans n.stricter)
      (fun nid opn bln r => absurd r (notCold nid opn bln))
      (fun nid opn bln loss reset r => absurd r (notWarm nid opn bln loss reset)) ⟨le_rfl, id, id⟩ e

end
end

section
namespace Sys2Proof.Machine

/-! ### What outlasts each change that the blocks make

`Stays P` says that `P` outlasts the single changes out of which the blocks' work is composed, each under what the model
has checked before it makes the change. A property of blocks that a change leaves alone outlasts it by the frame lemmas. -/

/-- The single changes under which `P` stays. -/
structure Stays (P : State → Prop) : Prop where
  handed : ∀ s hs n, P s → P { s with handoffs := hs, overrun := n } := by simp
  later : ∀ s n, s.now ≤ n → P s → P { s with now := n } := by simp
  modPins : ∀ g s, P s → P (s.modPins g) := by simp
  -- the LPU
  command : ∀ c t s, P s → P (command c t s) := by simp
  giveShpn : ∀ d n s, P s → P (giveShpn d n s) := by simp
  givePoll : ∀ d m n s, P s → P (givePoll d m n s) := by simp
  giveSetp : ∀ f s, P s → P (giveSetp f s) := by simp
  forwardFrame : ∀ bytes s, P s → P (forwardFrame bytes s) := by simp
  egressFreed : ∀ s, P s → P (egressFreed s) := by simp
  promoted : ∀ s, P s → P (s.modLpu fun l => { l with control := promoteFirst l.control }) := by simp
  -- SCL and RFG
  modScl : ∀ g s, P s → P (s.modScl g) := by simp
  modRfg : ∀ g s, P s → P (s.modRfg g) := by simp
  -- SYU
  modSyu : ∀ g s, (g s.syu).queue = s.syu.queue → (g s.syu).chans = s.syu.chans →
    (g s.syu).deadBus = s.syu.deadBus →
    (∀ t : Target, (g s.syu).breakers[t].lastPosition = s.syu.breakers[t].lastPosition) → P s → P (s.modSyu g) := by simp
  enqueue : ∀ r s, s.syu.busy r.target = false → P s → P (s.modSyu fun y => { y with queue := y.queue ++ [r] }) := by simp
  dequeue : ∀ t s, P s → P (s.modSyu fun y => { y with queue := y.queue.filter fun r => r.target ≠ t }) := by simp
  fillChannel : ∀ c s, P s → P (fillChannel c s) := by simp
  emptyChan : ∀ c s, P s → P (s.modChan c fun _ => none) := by simp
  modChan : ∀ c w w' s, s.syu.chans[c] = some w → w'.req = w.req → P s → P (s.modChan c fun _ => some w') := by simp
  channelsSeeStale : ∀ p s, P s → P (channelsSeeStale p s) := by simp
  addDeadClose : ∀ d s, s.syu.busy d.target = false → P s → P (s.modSyu fun y => { y with deadBus := y.deadBus ++ [d] }) := by
    simp
  dropDeadClose : ∀ t s, P s → P (dropDeadClose t s) := by simp
  applyBreakers : ∀ first es s, writeInUse s .breakers first es = false → P s → P (applyBreakers first es s) := by simp
  -- MPM
  modMpm : ∀ g s, (g s.mpm).recs = s.mpm.recs → (g s.mpm).lists = s.mpm.lists → P s → P (s.modMpm g) := by simp
  modModule : ∀ m g s, (g (s.modu m)).state.allocated = (s.modu m).state.allocated → P s → P (s.modModule m g) := by simp
  leaveList : ∀ m st s, st.allocated = false → P s → P (leaveList m st s) := by simp
  takeModule : ∀ b first m s, (s.modu m).state = .standby → P s → P (takeModule b first m s) := by simp
  applyModules : ∀ first es s, writeInUse s .modules first es = false → P s → P (applyModules first es s) := by simp
  -- BSQ and EVR
  outputs : ∀ v s, P s → P (s.modEvr fun e => { e with outputs := v }) := by simp
  modEntry : ∀ e g s, (∀ b, holdsBerth (g (s.event e)) e b = holdsBerth (s.event e) e b) →
    (∀ x, x.raw = true → (g x).raw = true) → P s → P (s.modEntry e g) := by simp
  -- MTR and BLG
  evalLogFull : ∀ s, P s → P (evalLogFull s) := by simp
  meterRecord : ∀ b r s, P s → P (meterRecord b r s) := by simp
  ticked : ∀ s, s.mtr.endDue = false → P s → P (s.modMtr fun m =>
    { m.advanceClock 1 with
      tickDue := m.tickDue + Config.clockTickMs, endDue := (m.advanceClock 1).second % m.demandS = 0 }) := by simp
  intervalEndTaken : ∀ s, P s → P (intervalEndTaken s) := by simp
  clockSetTaken : ∀ day second s, day ≤ 65535 → second ≤ 86399 → P s → P (clockSetTaken day second s) := by simp
  meteringTaken : ∀ gap code s, P s → P (meteringTaken gap ((demandOf? code).getD s.mtr.demandS) s) := by simp
  writeTariffs : ∀ first es s, writeInUse s .tariffs first es = false → writeValuesOk s .tariffs first es = true →
    P s → P (s.modBlg fun g => { g with sets := setsAfter s first es }) := by simp
  writeCurrent : ∀ es s, es ≠ [] → writeInUse s .current 0 es = false → writeValuesOk s .current 0 es = true →
    P s → P (s.modBlg fun g => { g with current := toCurrent (es.headD []) }) := by simp
  -- MGU and MLK
  modMgu : ∀ g s, (g s.mgu).queue = s.mgu.queue → (g s.mgu).parts = s.mgu.parts → P s → P (s.modMgu g) := by simp
  unlockReq : ∀ i code s, P s → P (unlockReq i code s).2 := by simp
  relockReq : ∀ s, P s → P (relockReq s).2 := by simp
  setOperatorReq : ∀ code level s, P s → P (setOperatorReq code level s).2 := by simp
  setMetrologyReq : ∀ code revision cur s, P s → P (setMetrologyReq code revision cur s).2 := by simp
  removeCodeReq : ∀ code s, P s → P (removeCodeReq code s).2 := by simp
  freezeReq : ∀ s, P s → P (freezeReq s).2 := by simp

/-- The changes that no hand-off leads to: counts and the loss timer of reception, and the latches and enables that EVENT
requests clear. -/
structure Marks (P : State → Prop) : Prop where
  counted : ∀ c due loss s, P s →
    P (s.modLpu fun l => { l with counters := c, lossDue := due, lossIndicator := loss }) := by simp
  recomputed : ∀ e g s, P s → P (recomputeHolds (s.modEntry e g)) := by simp

/-- The single changes of berth records and slots under which `P` stays. -/
structure Berths (P : State → Prop) : Prop where
  modBerth : ∀ b g s, (∀ r, (g r).eventHold = r.eventHold) → P s → P (s.modBerth b g) := by simp
  modBsq : ∀ g s, (g s.bsq).recs = s.bsq.recs → P s → P (s.modBsq g) := by simp
  reserveSlot : ∀ b s, s.blg.slotCheck = true → s.blg.current ≠ none → P s → P (reserveSlot b s) := by simp
  freeSlot : ∀ b s, P s → P (freeSlot b s) := by simp
  openSession : ∀ b s, P s → P (openSession b s) := by simp
  closeSession : ∀ b why s, P s → P (closeSession b why s) := by simp

/-- The work of BSQ under which `P` stays, each piece whole: what other blocks hand it, its inputs, messages and timers. -/
structure Sequence (P : State → Prop) : Prop where
  tripBerth : ∀ b why s, P s → P (tripBerth b why s)
  listEmptyTaken : ∀ b s, P s → P (listEmptyTaken b s)
  energisedTaken : ∀ b s, P s → P (energisedTaken b s)
  summaryTaken : ∀ b s, P s → P (summaryTaken b s)
  firstFailureTaken : ∀ b s, P s → P (firstFailureTaken b s)
  outletResultTaken : ∀ b r s, P s → P (outletResultTaken b r s)
  outletOutcomeTaken : ∀ b o s, P s → P (outletOutcomeTaken b o s)
  outletPosition : ∀ b p s, P s → P (outletPosition b p s)
  shipMessage : ∀ b m s, P s → P (shipMessage b m s)
  pilotChange : ∀ b v s, P s → P (pilotChange b v s)
  estopTaken : ∀ s, P s → P (estopTaken s)
  estopReleased : ∀ s, P s → P (estopReleased s)
  estopRepeatTaken : ∀ s, P s → P (estopRepeatTaken s)
  rampPeriodTaken : ∀ b s, P s → P (rampPeriodTaken b s)
  shipHoldEndTaken : ∀ b s, P s → P (shipHoldEndTaken b s)
  holdLimitTaken : ∀ b s, P s → P (holdLimitTaken b s)
  rampTimeoutTaken : ∀ b s, P s → P (rampTimeoutTaken b s)
  generatorWaitTaken : ∀ b s, P s → P (generatorWaitTaken b s)
  openingTaken : ∀ b s, P s → P (openingTaken b s)
  applyBerths : ∀ first es s, writeInUse s .berths first es = false → P s → P (applyBerths first es s)

/-- The changes that give NOTE frames (R160), where `P` outlasts them too. -/
structure Notes (P : State → Prop) : Prop where
  noted : ∀ e g s, (∀ x, x.raw = true → (g x).raw = true) → P s → P (recomputeHolds (giveNotes e (s.modEntry e g))) := by
    simp
  applyEvents : ∀ first es s, P s → P (applyEvents first es s) := by simp

/-- The requests that remove billing records, where `P` outlasts them too. -/
structure Removals (P : State → Prop) : Prop where
  performLogRemove : ∀ n s, P s → P (performLogRemove n s).2 := by simp
  billingClearReq : ∀ prep i code s, P s → P (billingClearReq prep i code s).2 := by simp

theorem ModuleState.serving_allocated {st : ModuleState} (h : st.serving = true) : st.allocated = true := by
  revert h
  cases st <;> decide

section
variable {P : State → Prop} {s : State} (k : Stays P)
include k

/-! ### Hand-offs, time and counts -/

theorem post_stays (h : Handoff) (hs : P s) : P (s.post h) := k.handed s (s.handoffs ++ [h]) s.overrun hs

theorem advanceTo_stays (n : Nat) (hs : P s) : P (s.advanceTo n) := k.later s _ (Nat.le_max_left _ _) hs

omit k in
theorem count_stays (m : Marks P) (g : LinkCounters → LinkCounters) (hs : P s) : P (s.count g) :=
  m.counted (g s.lpu.counters) s.lpu.lossDue s.lpu.lossIndicator s hs

omit k in
theorem goodFrame_stays (m : Marks P) (hs : P s) : P (goodFrame s) :=
  m.counted { s.lpu.counters with good := count1 s.lpu.counters.good } (s.now + Config.ingressLossMs) false s hs

theorem cutOverlong_stays (m : Marks P) (hs : P s) : P (cutOverlong s) := post_stays k _ (count_stays m _ hs)

theorem ingressLoss_stays (m : Marks P) (hs : P s) : P (ingressLoss s) :=
  post_stays k _ (m.counted s.lpu.counters _ true _ (advanceTo_stays k s.lpu.lossDue hs))

theorem promote_stays (m : Marks P) (hs : P s) : P (promote s) := by
  unfold promote
  split
  · exact hs
  · exact post_stays k _ (count_stays m _ (k.promoted _ (advanceTo_stays k _ hs)))

omit k in
theorem foldl_stays {α : Type} {f : State → α → State} (hf : ∀ t x, P t → P (f t x)) (xs : List α) (hs : P s) :
    P (xs.foldl f s) := by
  induction xs generalizing s with
  | nil => exact hs
  | cons x xs ih => exact ih (hf _ _ hs)

/-! ### SCL (chapter 2) -/

theorem setStaleCond_stays (b : Berth) (side : Side) (v : Option Nat) (hs : P s) : P (setStaleCond b side v s) := by
  unfold setStaleCond
  split <;> exact k.modScl _ s hs

theorem beginStale_stays (b : Berth) (side : Side) (hs : P s) : P (beginStale b side s) :=
  post_stays k _ (setStaleCond_stays k _ _ _ hs)

theorem watchBegin_stays (b : Berth) (side : Side) (hs : P s) : P (watchBegin b side s) := by
  unfold watchBegin
  split
  · exact beginStale_stays k _ _ hs
  · exact hs

theorem watchBegins_stays (b : Berth) (hs : P s) : P (watchBegins b s) :=
  watchBegin_stays k _ _ (watchBegin_stays k _ _ hs)

theorem watchEnds_stays (b : Berth) (hs : P s) : P (watchEnds b s) :=
  setStaleCond_stays k _ _ _ (setStaleCond_stays k _ _ _ hs)

theorem staleRepeat_stays (b : Berth) (side : Side) (hs : P s) : P (staleRepeat b side s) := by
  unfold staleRepeat
  split
  · exact hs
  · exact beginStale_stays k _ _ (advanceTo_stays k _ hs)

theorem staleTest_stays (p : Point) (hs : P s) : P (staleTest p s) := by
  unfold staleTest
  split
  · exact hs
  split
  · exact beginStale_stays k _ _ hs
  · exact hs

theorem heldExpiry_stays (p : Point) (hs : P s) : P (heldExpiry p s) := by
  unfold heldExpiry
  split
  · split
    · exact k.modScl _ _ (advanceTo_stays k _ hs)
    · exact hs
  · exact hs

theorem staleExpiry_stays (p : Point) (hs : P s) : P (staleExpiry p s) := by
  unfold staleExpiry
  split
  · split
    · exact hs
    · exact staleTest_stays k _ (k.channelsSeeStale _ _ (k.modScl _ _ (advanceTo_stays k _ hs)))
  · exact hs

theorem pointStoreReset_stays (hs : P s) : P (pointStoreReset s) :=
  foldl_stays (fun _ p h => staleTest_stays k p (k.channelsSeeStale p _ h)) allPoints (k.modScl _ s hs)

theorem staleEnds_stays (p : Point) (hs : P s) : P (staleEnds p s) := by
  unfold staleEnds
  split
  · exact hs
  · exact setStaleCond_stays k _ _ _ hs

/-! ### SYU (chapter 5) -/

theorem modBerthRef_stays (b : Berth) (g : BerthRef → BerthRef) (hs : P s) : P (s.modBerthRef b g) := k.modRfg _ s hs

theorem modModuleRef_stays (m : Module) (g : ModuleRef → ModuleRef) (hs : P s) : P (s.modModuleRef m g) :=
  k.modRfg _ s hs

theorem releasePair_stays (t : Target) (hs : P s) : P (releasePair t s) := by
  unfold releasePair
  split
  · exact modBerthRef_stays k _ _ hs
  · exact modModuleRef_stays k _ _ hs

theorem endRequest_stays (req : SyncReq) (r : SyncResult) (hs : P s) : P (endRequest req r s) := by
  unfold endRequest giveResult
  split <;> exact post_stays k _ (releasePair_stays k _ hs)

theorem failRequest_stays (req : SyncReq) (r : SyncResult) (hs : P s) : P (failRequest req r s) :=
  endRequest_stays k _ _ (post_stays k _ hs)

theorem giveOutcome_stays (t : Target) (b : Berth) (o : DeadOutcome) (hs : P s) : P (giveOutcome t b o s) := by
  unfold giveOutcome
  split <;> exact post_stays k _ hs

theorem serveChannelsTaken_stays (hs : P s) : P (serveChannelsTaken s) := by
  unfold serveChannelsTaken
  split
  · exact k.fillChannel _ _ (k.fillChannel _ _ hs)
  split
  · exact hs
  · exact post_stays k _ hs

theorem idleChannel_stays (c : Chan) (hs : P s) : P (idleChannel c s) := post_stays k _ (k.emptyChan c s hs)

theorem requestSync_stays (t : Target) (b : Berth) (q : Requester) (hs : P s) : P (requestSync t b q s) := by
  unfold requestSync
  split
  · exact hs
  next idle =>
    split
    · exact failRequest_stays k _ _ hs
    · exact post_stays k _ (k.enqueue _ _ (Bool.eq_false_iff.2 idle) hs)

theorem failAttempt_stays (c : Chan) (hs : P s) : P (failAttempt c s) := by
  unfold failAttempt
  split
  · exact hs
  next w held =>
    split
    · exact idleChannel_stays k c (failRequest_stays k _ _ hs)
    · exact k.modChan c w _ s held rfl hs

theorem syncWaitExpiry_stays (t : Target) (hs : P s) : P (syncWaitExpiry t s) := by
  unfold syncWaitExpiry
  split
  · exact hs
  · exact failRequest_stays k _ _ (k.dequeue _ _ (advanceTo_stays k _ hs))

theorem watchExpiry_stays (c : Chan) (hs : P s) : P (watchExpiry c s) := by
  unfold watchExpiry
  split
  · exact hs
  · exact failAttempt_stays k c (advanceTo_stays k _ hs)

theorem backoffExpiry_stays (c : Chan) (hs : P s) : P (backoffExpiry c s) := by
  unfold backoffExpiry
  split
  · exact hs
  next due found =>
    obtain ⟨w, held, -⟩ := Option.bind_eq_some_iff.1 found
    have begun : (s.advanceTo due).modChan c (Option.map (ChanWork.begin (s.advanceTo due).now)) =
        (s.advanceTo due).modChan c fun _ => some (w.begin (s.advanceTo due).now) := by
      have held' : s.syu.chans[c.val] = some w := held
      simp [State.modChan, State.modSyu, upd, held']
    dsimp only
    rw [begun]
    exact k.modChan c w _ _ held rfl (advanceTo_stays k due hs)

theorem enterClosing_stays (c : Chan) (hs : P s) : P (enterClosing c s) := by
  unfold enterClosing
  split
  · exact hs
  next w held => exact k.modChan c w _ _ (by simpa using held) rfl (k.command _ _ s hs)

theorem closeFailed_stays (c : Chan) (hs : P s) : P (closeFailed c s) := by
  unfold closeFailed
  split
  · exact hs
  · exact failAttempt_stays k c (post_stays k _ (k.command _ _ s hs))

theorem confirmExpiry_stays (c : Chan) (hs : P s) : P (confirmExpiry c s) := by
  unfold confirmExpiry
  split
  · exact hs
  · exact closeFailed_stays k c (advanceTo_stays k _ hs)

theorem modBreaker_stays (t : Target) (g : BreakerEntry → BreakerEntry) (same : ∀ e, (g e).lastPosition = e.lastPosition)
    (hs : P s) : P (s.modBreaker t g) := by
  refine k.modSyu (fun c => { c with breakers := upd c.breakers t g }) s rfl rfl rfl (fun u => ?_) hs
  by_cases e : t = u
  · subst e
    show (upd s.syu.breakers t g)[t.val].lastPosition = _
    rw [upd_self]
    exact same _
  · exact congrArg BreakerEntry.lastPosition (upd_other _ _ e)

theorem setCloseHeld_stays (t : Target) (v : Bool) (hs : P s) : P (s.setCloseHeld t v) :=
  k.modSyu (fun y => { y with closeHeld := upd y.closeHeld t fun _ => v }) s rfl rfl rfl (fun _ => rfl) hs

theorem measureClose_stays (t : Target) (n : Nat) (hs : P s) : P (measureClose t n s) :=
  setCloseHeld_stays k _ _ (modBreaker_stays k _ _ (fun _ => rfl) hs)

theorem handPair_stays (t : Target) (f : Int) (v : Nat) (hs : P s) : P (handPair t f v s) := by
  unfold handPair takeBerthPair takeModulePair
  split
  · split
    · exact modBerthRef_stays k _ _ hs
    · exact hs
  · split
    · exact modModuleRef_stays k _ _ hs
    · exact hs

theorem steer_stays (c : Chan) (hs : P s) : P (steer c s) := by
  unfold steer
  split
  · exact hs
  next w held => exact handPair_stays k _ _ _ (k.modChan c w _ s held rfl hs)

theorem evaluateChannel_stays (c : Chan) (hs : P s) : P (evaluateChannel c s) := by
  unfold evaluateChannel
  split
  · exact hs
  next w held =>
    split
    · dsimp only
      split
      · refine k.modChan c w _ s held ?_ hs
        unfold judgeAdjusting
        split <;> rfl
      · have noted : ∀ x : ChanWork, x.req = w.req → (s.modChan c fun _ => some x).syu.chans[c] = some x := by
          intro x _
          simp [State.modChan, upd]
        unfold judgeWatching
        have seen := k.modChan c w { w with eval := some (evaluate w.profile (s.breaker w.req.target).tc
          (s.point w.req.matchPoint) (s.point w.req.refPoint)) } s held rfl hs
        split
        · exact k.modChan c _ _ _ (noted _ rfl) rfl seen
        split
        · exact enterClosing_stays k c seen
        · exact seen
      · exact hs
      · exact hs
    · exact hs

theorem channelRecord_stays (p : Point) (c : Chan) (hs : P s) : P (channelRecord p c s) := by
  unfold channelRecord
  split
  · exact hs
  split
  · exact evaluateChannel_stays k c (steer_stays k c hs)
  · exact hs

theorem requestDeadBus_stays (t : Target) (b : Berth) (q : Requester) (hs : P s) : P (requestDeadBus t b q s) := by
  unfold requestDeadBus
  split
  next allowed =>
    have idle : s.syu.busy t = false := by
      unfold deadBusAllowed at allowed
      simp only [Bool.and_eq_true, Bool.not_eq_true'] at allowed
      exact allowed.1.1.1.1.2
    exact k.addDeadClose _ _ (by simpa using idle) (k.command _ _ s hs)
  · exact giveOutcome_stays k _ _ _ hs

theorem deadCloseFailed_stays (d : DeadClose) (hs : P s) : P (deadCloseFailed d s) :=
  giveOutcome_stays k _ _ _ (k.dropDeadClose _ _ (post_stays k _ (k.command _ _ s hs)))

theorem deadBusConfirmExpiry_stays (t : Target) (hs : P s) : P (deadBusConfirmExpiry t s) := by
  unfold deadBusConfirmExpiry
  split
  · exact hs
  · exact deadCloseFailed_stays k _ (advanceTo_stays k _ hs)

theorem cancelQueued_stays (t : Target) (hs : P s) : P (cancelQueued t s) := by
  unfold cancelQueued
  split
  · exact hs
  · exact endRequest_stays k _ _ (k.dequeue _ _ hs)

theorem cancelChannel_stays (t : Target) (c : Chan) (hs : P s) : P (cancelChannel t c s) := by
  unfold cancelChannel
  split
  · exact hs
  split
  · refine idleChannel_stays k c (endRequest_stays k _ _ ?_)
    split
    · exact k.command _ _ s hs
    · exact hs
  · exact hs

theorem cancelDeadClose_stays (t : Target) (hs : P s) : P (cancelDeadClose t s) := by
  unfold cancelDeadClose
  split
  · exact k.dropDeadClose _ _ (k.command _ _ s hs)
  · exact hs

theorem cancelSync_stays (t : Target) (hs : P s) : P (cancelSync t s) :=
  cancelDeadClose_stays k t (cancelChannel_stays k t 1 (cancelChannel_stays k t 0 (cancelQueued_stays k t hs)))

theorem estopChannel_stays (c : Chan) (hs : P s) : P (estopChannel c s) := by
  unfold estopChannel
  split
  · exact hs
  next w held =>
    split
    · exact idleChannel_stays k c (endRequest_stays k _ _ (k.command _ _ s hs))
    · exact k.modChan c w _ s held rfl hs
    · exact hs
    · exact hs

theorem syuEstop_stays (hs : P s) : P (syuEstop s) :=
  foldl_stays (fun _ _ h => giveOutcome_stays k _ _ _ (k.dropDeadClose _ _ (k.command _ _ _ h))) _
    (estopChannel_stays k 1 (estopChannel_stays k 0 hs))

/-! ### MPM (chapter 3) -/

theorem tellLeft_stays (b : Option Berth) (hs : P s) : P (tellLeft b s) := by
  unfold tellLeft
  split
  · exact hs
  split
  · exact post_stays k _ (post_stays k _ hs)
  · exact post_stays k _ hs

theorem tellFailure_stays (v : Bool) (b : Option Berth) (hs : P s) : P (tellFailure v b s) := by
  unfold tellFailure
  split
  · exact hs
  split
  · exact post_stays k _ hs
  · exact hs

theorem stopModule_stays (m : Module) (serving : (s.modu m).state.serving = true) (hs : P s) : P (stopModule m s) := by
  have stopping := k.modModule m (ModuleRec.stopping s.now (s.mpm.table[m].stopLimit * 1000)) s
    (ModuleState.serving_allocated serving).symm hs
  exact k.command _ _ _ (cancelSync_stays k _ (modModuleRef_stays k _ _ stopping))

theorem release_stays (m : Module) (hs : P s) : P (release m s) := by
  cases serving : (s.modu m).state.serving with
  | false => rw [release_idle serving]; exact hs
  | true =>
    obtain e | ⟨c, -, e⟩ := release_serving serving
    · rw [e]; exact stopModule_stays k m serving hs
    · rw [e]; exact post_stays k _ (stopModule_stays k m serving hs)

theorem releaseBerth_stays (b : Berth) (hs : P s) : P (releaseBerth b s) :=
  foldl_stays (fun _ m h => release_stays k m h) _ hs

theorem replaceModule_stays (b : Berth) (hs : P s) : P (replaceModule b s) := by
  unfold replaceModule
  split
  · split
    · exact hs
    next m _ found =>
      have standby : m ∈ standbyModules s := found ▸ List.mem_cons_self
      exact k.takeModule _ _ _ _ (by simpa using (List.mem_filter.1 standby).2) hs
  · exact hs

theorem replaceAfter_stays (v : Bool) (b : Option Berth) (hs : P s) : P (replaceAfter v b s) := by
  unfold replaceAfter
  split
  · exact hs
  split
  · exact replaceModule_stays k _ hs
  · exact hs

theorem lose_stays (m : Module) (hs : P s) : P (lose m s) := by
  have left := post_stays k (.raise (evModuleLost m)) (k.leaveList m .lost s rfl hs)
  unfold lose
  dsimp only
  split
  · exact tellLeft_stays k _ (tellFailure_stays k _ _ (replaceAfter_stays k _ _ (k.command _ _ _
      (cancelSync_stays k _ left))))
  · exact left

theorem miss_stays (m : Module) (hs : P s) : P (miss m s) := by
  have missed := k.modModule m (fun r => { r with missCount := satAdd 255 r.missCount 1, answered := false }) _ rfl
    (k.modMpm (fun c => { c with poll := none }) s rfl rfl hs)
  unfold miss
  dsimp only
  split
  · exact lose_stays k m missed
  · exact missed

theorem pollSkippedTaken_stays (m : Module) (n : Nat) (hs : P s) : P (pollSkippedTaken m n s) := by
  unfold pollSkippedTaken
  split
  · exact hs
  split
  · exact miss_stays k m hs
  · exact hs

theorem pollReplyExpiry_stays (hs : P s) : P (pollReplyExpiry s) := by
  unfold pollReplyExpiry
  split
  · exact miss_stays k _ (advanceTo_stays k _ hs)
  · exact hs

theorem startExpiry_stays (m : Module) (hs : P s) : P (startExpiry m s) := by
  unfold startExpiry
  split
  · exact tellLeft_stays k _ (tellFailure_stays k _ _ (k.command _ _ _ (cancelSync_stays k _
      (post_stays k _ (k.leaveList m .blocked _ rfl (advanceTo_stays k _ hs))))))
  · exact hs

theorem stopCheck_stays (m : Module) (hs : P s) : P (stopCheck m s) := by
  unfold stopCheck
  dsimp only
  split
  · exact tellLeft_stays k _ (k.leaveList m _ s (by split <;> rfl) hs)
  · exact hs

theorem stopExpiry_stays (m : Module) (hs : P s) : P (stopExpiry m s) := by
  unfold stopExpiry
  split
  · exact tellLeft_stays k _ (k.command _ _ _ (post_stays k _ (k.leaveList m .blocked _ rfl (advanceTo_stays k _ hs))))
  · exact hs

theorem queueDeferred_stays (b : Berth) (m : Module) (hs : P s) : P (queueDeferred b m s) := by
  unfold queueDeferred
  split
  · exact requestSync_stays k _ _ _ (k.modModule m _ s rfl hs)
  · exact hs

theorem becomeOnline_stays (b : Berth) (m : Module) (listed : (s.modu m).state.allocated = true) (hs : P s) :
    P (becomeOnline b m s) := by
  have online := modModuleRef_stays k m (fun r => { r with own := none })
    (k.modModule m (fun r => { r with state := .online, startDue := none }) s listed.symm hs)
  unfold becomeOnline
  refine post_stays k _ ?_
  split
  · exact foldl_stays (fun _ x h => queueDeferred_stays k b x h) _ online
  · exact online

theorem becomeSyncing_stays (b : Berth) (m : Module) (listed : (s.modu m).state.allocated = true) (hs : P s) :
    P (becomeSyncing b m s) := by
  have syncing := k.modModule m (fun r => { r with state := .syncing, startDue := none }) s listed.symm hs
  unfold becomeSyncing
  dsimp only
  split
  · exact requestSync_stays k _ _ _ syncing
  · exact k.modModule m _ _ rfl syncing

theorem startCheck_stays (m : Module) (hs : P s) : P (startCheck m s) := by
  unfold startCheck
  dsimp only
  split
  next starting _ =>
    have listed : (s.modu m).state.allocated = true := by rw [starting]; rfl
    split
    · exact hs
    split
    · split
      · exact becomeOnline_stays k _ m listed hs
      · exact hs
    · exact becomeSyncing_stays k _ m listed hs
  · exact hs

theorem contactorOutcome_stays (m : Module) (b : Berth) (o : DeadOutcome) (hs : P s) :
    P (contactorOutcome m b o s) := by
  unfold contactorOutcome
  dsimp only
  split
  · split
    · exact startCheck_stays k m (k.modModule m _ s rfl hs)
    · exact post_stays k _ (release_stays k m hs)
    · exact post_stays k _ (release_stays k m hs)
  · exact hs

theorem contactorResult_stays (m : Module) (r : SyncResult) (hs : P s) : P (contactorResult m r s) := by
  unfold contactorResult
  split
  next syncing _ =>
    split
    · exact becomeOnline_stays k _ m (by rw [syncing]; rfl) hs
    · exact release_stays k m hs
    · exact release_stays k m hs
    · exact hs
  · exact hs

theorem askFirstClose_stays (b : Berth) (m : Module) (hs : P s) : P (askFirstClose b m s) := by
  unfold askFirstClose
  split
  · exact requestDeadBus_stays k _ _ _ hs
  · exact contactorOutcome_stays k _ _ _ hs

omit k in
/-- R40: another module is taken, and those still in STANDBY are in STANDBY yet. -/
theorem takeModule_state_other {m x : Module} (h : m ≠ x) (b : Berth) (first : Bool) (s : State) :
    ((takeModule b first m s).modu x).state = (s.modu x).state := by
  unfold takeModule clearModuleRef
  show ((State.modModule _ m _).modu x).state = _
  rw [State.modu_modModule_other _ h]
  rfl

theorem takeModules_stays (b : Berth) (ms : List Module) (apart : ms.Nodup)
    (standby : ∀ m ∈ ms, (s.modu m).state = .standby) (hs : P s) :
    P (ms.foldl (fun s x => takeModule b false x s) s) := by
  induction ms generalizing s with
  | nil => exact hs
  | cons m ms ih =>
    obtain ⟨new, rest⟩ := List.nodup_cons.1 apart
    refine ih rest (fun x hx => ?_) (k.takeModule _ _ _ _ (standby m List.mem_cons_self) hs)
    rw [takeModule_state_other (fun e : m = x => new (e ▸ hx))]
    exact standby x (List.mem_cons_of_mem m hx)

omit k in
theorem pickModules_sublist (rating : Module → Nat) (need : Nat) (ms : List Module) :
    (pickModules rating need ms).Sublist ms := by
  induction ms generalizing need with
  | nil => exact .slnil
  | cons m ms ih =>
    unfold pickModules
    split
    · exact List.nil_sublist _
    · exact (ih _).cons_cons m

theorem allocate_stays (b : Berth) (hs : P s) : P (allocate b s) := by
  unfold allocate
  split
  · exact hs
  next m ms picked =>
    have sub := picked ▸ pickModules_sublist (fun m => s.mpm.table[m].rating) (s.entry b).contract (standbyModules s)
    have apart : (m :: ms).Nodup := sub.nodup ((by decide : allModules.Nodup).filter _)
    have standby : ∀ x ∈ m :: ms, (s.modu x).state = .standby := fun x hx => by
      simpa using (List.mem_filter.1 (sub.subset hx)).2
    obtain ⟨new, rest⟩ := List.nodup_cons.1 apart
    refine post_stays k _ (askFirstClose_stays k b m (takeModules_stays k b ms rest (fun x hx => ?_)
      (k.takeModule b true m s (standby m List.mem_cons_self) hs)))
    rw [takeModule_state_other (fun e : m = x => new (e ▸ hx))]
    exact standby x (List.mem_cons_of_mem m hx)

theorem contactorPosition_stays (m : Module) (p : Position) (hs : P s) : P (contactorPosition m p s) := by
  unfold contactorPosition
  split
  · split
    · exact release_stays k m (post_stays k _ hs)
    · split
      · exact stopCheck_stays k m (k.modModule m _ s rfl hs)
      · exact hs
    all_goals exact hs
  · exact hs

theorem scanSlot_stays (hs : P s) : P (scanSlot s) := by
  have due := k.modMpm (fun c => { c with scanDue := c.scanDue + Config.scanSlotMs }) _ rfl rfl
    (advanceTo_stays k s.mpm.scanDue hs)
  unfold scanSlot
  dsimp only
  split
  · exact due
  split
  · exact due
  · exact k.givePoll _ _ _ _ (k.modMpm _ _ rfl rfl due)

theorem recordReply_stays (y : Reply) (hs : P s) : P (recordReply y s) := by
  have recorded : ∀ g : ModuleRec → ModuleRec, (∀ r, (g r).state = r.state) →
      P ((s.modMpm fun c => { c with poll := none }).modModule y.module g) :=
    fun g hg => k.modModule y.module g _ (by rw [hg]) (k.modMpm _ s rfl rfl hs)
  have raised : ∀ (v : Bool) (e : EventIx) (t : State), P t → P (if v then t.post (.raise e) else t) := by
    intro v e t h
    split
    · exact post_stays k _ h
    · exact h
  exact raised _ _ _ (raised _ _ _ (recorded _ fun _ => rfl))

theorem replyTaken_stays (src : Nat) (y : Reply) (hs : P s) : P (replyTaken src y s) := by
  unfold replyTaken
  split
  · have recorded := recordReply_stays k y hs
    unfold replyRules
    dsimp only
    split
    · exact startCheck_stays k _ (k.modModule _ _ _ rfl recorded)
    · exact stopCheck_stays k _ (k.modModule _ _ _ rfl recorded)
    · split
      · exact recorded
      · exact post_stays k _ recorded
    · exact recorded
  · exact k.modMpm _ s rfl rfl hs

theorem blockModule_stays (m : Module) (hs : P s) : P (blockModule m s) := by
  unfold blockModule
  dsimp only
  split
  · exact k.leaveList m .blocked s rfl hs
  · exact k.leaveList m .blocked s rfl hs
  iterate 3 exact tellFailure_stays k _ _ (replaceAfter_stays k _ _ (k.modModule m _ _ rfl (release_stays k m hs)))
  · exact k.modModule m _ s rfl hs
  all_goals exact hs

theorem performModule_stays (m cmd : Nat) (hs : P s) : P (performModule m cmd s).2 := by
  unfold performModule blockCmd unblockCmd readmitCmd
  split
  · split
    · exact hs
    · exact blockModule_stays k _ hs
  · split
    case h_2 => exact k.leaveList _ .standby s rfl hs
    case h_3 =>
      split
      · exact k.modModule _ _ s rfl hs
      · exact hs
    all_goals exact hs
  · split
    case h_2 =>
      split
      · exact k.leaveList _ .standby s rfl hs
      · exact hs
    all_goals exact hs
  · exact hs

end
end Sys2Proof.Machine
end

section
namespace Sys2Proof.Machine

section
variable {P : State → Prop} {s : State} (k : Stays P)
include k

/-! ### RFG (chapter 4) -/

theorem modPoint_stays (p : Point) (g : PointRec → PointRec) (hs : P s) : P (s.modPoint p g) :=
  k.modScl (fun c => { c with points := upd c.points p g }) s hs

theorem clearBands_stays (b : Berth) (hs : P s) : P (clearBands b s) := modPoint_stays k (shPoint b) _ hs

theorem createRef_stays (b : Berth) (hs : P s) : P (createRef b s) := by
  unfold createRef
  exact k.modRfg _ _ hs

theorem discardRef_stays (b : Berth) (hs : P s) : P (discardRef b s) :=
  k.modRfg (fun c => { c with berths := upd c.berths b fun _ => none }) s hs

theorem takeSettings_stays (hs : P s) : P (takeSettings s) := k.modRfg (fun c => { c with inForce := c.settings }) s hs

theorem setPSet_stays (b : Berth) (v : Nat) (hs : P s) : P (setPSet b v s) := modBerthRef_stays k _ _ hs

theorem shedAction_stays (b : Berth) (hs : P s) : P (shedAction b s) := by
  have noted : P (if shedAmount s b ≠ 0 then s.modBerthRef b fun r => { r with lastShed := shedAmount s b } else s) := by
    split
    · exact modBerthRef_stays k _ _ hs
    · exact hs
  unfold shedAction
  dsimp only
  split
  · exact noted
  · exact k.giveShpn _ _ _ noted

theorem periodMove_stays (b : Berth) (hs : P s) : P (periodMove b s) := by
  unfold periodMove
  split
  · exact hs
  dsimp only
  split
  · exact post_stays k _ (modBerthRef_stays k _ _ hs)
  · exact modBerthRef_stays k _ _ hs

theorem periodOverload_stays (b : Berth) (hs : P s) : P (periodOverload b s) := by
  unfold periodOverload
  split
  · exact hs
  split
  · split
    · split
      · exact post_stays k _ hs
      · exact hs
    · exact k.giveShpn _ _ _ (modBerthRef_stays k _ _ hs)
  · exact modBerthRef_stays k _ _ hs

theorem periodSetp_stays (b : Berth) (m : Module) (hs : P s) : P (periodSetp b m s) := by
  unfold periodSetp
  split
  · exact hs
  · exact k.giveSetp _ _ (modModuleRef_stays k _ _ hs)

theorem periodBerth_stays (b : Berth) (hs : P s) : P (periodBerth b s) :=
  foldl_stays (fun _ m h => periodSetp_stays k b m h) _
    (periodOverload_stays k b (modBerthRef_stays k _ _ (periodMove_stays k b hs)))

theorem period_stays (hs : P s) : P (period s) := by
  have moved := foldl_stays (fun _ b h => periodBerth_stays k b h) allBerths
    (takeSettings_stays k (advanceTo_stays k s.rfg.periodDue hs))
  unfold period
  exact k.modRfg _ _ moved

theorem overloadExpiry_stays (b : Berth) (hs : P s) : P (overloadExpiry b s) := by
  unfold overloadExpiry
  split
  · exact hs
  split
  · exact hs
  · exact post_stays k _ (modBerthRef_stays k _ _ (advanceTo_stays k _ hs))

theorem driveOutputs_stays (hs : P s) : P (driveOutputs s) := k.outputs _ s hs

theorem berthNotice_stays (b : Berth) (hs : P s) : P (berthNotice b s) := k.giveShpn _ _ s hs

end

/-! ### BSQ, from its single changes (chapter 6) -/

section
variable {P : State → Prop} {s : State} (k : Stays P) (f : Berths P)
include k f

omit k in
theorem setShip_stays (b : Berth) (v : Option ShipRec) (hs : P s) : P (s.setShip b v) :=
  f.modBsq (fun c => { c with ships := upd c.ships b fun _ => v }) s rfl hs

omit k in
theorem setEstopRepeat_stays (v : Option Nat) (hs : P s) : P (s.modBsq fun q => { q with estopRepeat := v }) :=
  f.modBsq (fun q => { q with estopRepeat := v }) s rfl hs

omit f in
theorem watchChange_stays (b : Berth) (old new : BerthState) (hs : P s) : P (watchChange b old new s) := by
  unfold watchChange
  split
  · exact watchBegins_stays k b hs
  split
  · exact watchEnds_stays k b hs
  · exact hs

theorem changeState_stays (b : Berth) (st : BerthState) (hs : P s) : P (changeState b st s) := by
  have watched := watchChange_stays k b (s.berth b).state st (f.modBerth b (fun r => { r with state := st }) s (fun _ => rfl) hs)
  unfold changeState
  dsimp only
  split
  · refine modBerthRef_stays k _ _ ?_
    split
    · exact clearBands_stays k b watched
    · exact watched
  · split
    · exact clearBands_stays k b watched
    · exact watched

theorem enterState_stays (b : Berth) (st : BerthState) (hs : P s) : P (enterState b st s) :=
  berthNotice_stays k b (changeState_stays k f b st hs)

omit k f in
theorem syncTimer_eventHold (now : Nat) (r : BerthRec) : (r.syncTimer now).eventHold = r.eventHold := by
  obtain ⟨rt, e, -⟩ := syncTimer_eq now r
  rw [e]

omit k in
theorem setShipHold_stays (b : Berth) (v : Option Nat) (hs : P s) : P (setShipHold b v s) :=
  f.modBerth b _ s (fun _ => syncTimer_eventHold _ _) hs

omit k in
theorem startRamp_stays (b : Berth) (hs : P s) : P (startRamp b s) :=
  f.modBerth b _ s (fun _ => syncTimer_eventHold _ _) hs

omit k in
theorem stopRamp_stays (b : Berth) (hs : P s) : P (stopRamp b s) :=
  f.modBerth b _ _ (fun _ => rfl) (setShipHold_stays f b none hs)

theorem enterRampUp_stays (b : Berth) (hs : P s) : P (enterRampUp b s) :=
  enterState_stays k f b _ (f.modBerth b _ _ (fun _ => rfl) (startRamp_stays f b hs))

theorem enterRampDown_stays (b : Berth) (hs : P s) : P (enterRampDown b s) :=
  enterState_stays k f b _ (f.modBerth b _ _ (fun _ => rfl) (startRamp_stays f b hs))

theorem clearCall_stays (b : Berth) (hs : P s) : P (clearCall b s) :=
  discardRef_stays k b (f.modBerth b (fun r => { r with deadShip := false, energised := false }) s (fun _ => rfl) hs)

/-- R113, R121: a berth returns to DEAD, its record cleared by `g`. -/
theorem returnToDead_stays (b : Berth) {g : BerthRec → BerthRec} (hg : ∀ r, (g r).eventHold = r.eventHold) (hs : P s) :
    P (enterState b .dead (driveOutputs (clearCall b (s.modBerth b g)))) :=
  enterState_stays k f b _ (driveOutputs_stays k (clearCall_stays k f b (f.modBerth b g s hg hs)))

theorem listEmptyTaken_stays (b : Berth) (hs : P s) : P (listEmptyTaken b s) := by
  unfold listEmptyTaken
  split
  · exact returnToDead_stays k f b (fun _ => rfl) hs
  · exact hs

theorem enterReleasing_stays (b : Berth) (hs : P s) : P (enterReleasing b s) :=
  listEmptyTaken_stays k f b (enterState_stays k f b _ (releaseBerth_stays k b (f.freeSlot b _ (cancelSync_stays k _ hs))))

omit k in
theorem endBilling_stays (b : Berth) (why : EndReason) (hs : P s) : P (endBilling b why s) :=
  f.freeSlot b _ (f.closeSession b why s hs)

theorem stopTimers_stays (b : Berth) (hs : P s) : P (stopTimers b s) :=
  setPSet_stays k b 0 (f.modBerth b _ _ (fun _ => rfl) (stopRamp_stays f b hs))

theorem tripBerth_stays (b : Berth) (why : TripReason) (hs : P s) : P (tripBerth b why s) := by
  unfold tripBerth
  split
  · have commanded := k.command .trip (outlet b) _ (cancelSync_stays k (outlet b) (driveOutputs_stays k
      (f.modBerth b (fun r => { r with demand := true, fromOpening := false }) s (fun _ => rfl) hs)))
    exact enterState_stays k f b _ (f.modBerth b _ _ (fun _ => rfl)
      (stopTimers_stays k f b (endBilling_stays f b why.endReason (releaseBerth_stays k b commanded))))
  · exact hs

omit k in
theorem prepareRecord_stays (b : Berth) (deadShip : Bool) (hs : P s) : P (prepareRecord b deadShip s) := by
  unfold prepareRecord
  exact f.modBerth b _ s (fun _ => rfl) hs

theorem acceptConnect_stays (b : Berth) (deadShip : Bool) (room : s.blg.slotCheck = true) (tariff : s.blg.current ≠ none)
    (hs : P s) : P (acceptConnect b deadShip s) :=
  enterState_stays k f b _ (prepareRecord_stays f b deadShip
    (createRef_stays k b (allocate_stays k b (f.reserveSlot b s room tariff hs))))

omit k f in
theorem evalLogFull_slotCheck (s : State) : (evalLogFull s).blg.slotCheck = s.blg.slotCheck := by
  unfold evalLogFull
  split <;> rfl

omit k f in
theorem evalLogFull_current (s : State) : (evalLogFull s).blg.current = s.blg.current := by
  unfold evalLogFull
  split <;> rfl

omit k f in
theorem current_of_tariffLoaded (h : tariffLoaded s = true) : s.blg.current ≠ none := by
  unfold tariffLoaded at h
  split at h
  · cases h
  next e => simp [e]

theorem connectCmd_stays (b : Berth) (deadShip : Bool) (hs : P s) : P (connectCmd b deadShip s).2 := by
  have evaluated := k.evalLogFull s hs
  have slots := evalLogFull_slotCheck s
  unfold connectCmd
  split
  · exact hs
  split
  · exact hs
  split
  · exact hs
  split
  · exact post_stays k _ hs
  next loaded =>
  rw [Bool.not_eq_true', Bool.not_eq_false] at loaded
  have tariff := current_of_tariffLoaded loaded
  rw [← evalLogFull_current] at tariff
  dsimp only
  split
  · exact evaluated
  next room =>
    rw [Bool.not_eq_true', Bool.not_eq_false, ← slots] at room
    split
    · exact evaluated
    · dsimp only
      exact acceptConnect_stays k f b deadShip room tariff evaluated

theorem energisedTest_stays (b : Berth) (hs : P s) : P (energisedTest b s) := by
  unfold energisedTest
  dsimp only
  split
  · split
    · exact enterState_stays k f b _ (requestDeadBus_stays k _ _ _ hs)
    · exact enterState_stays k f b _ (requestSync_stays k _ _ _ hs)
  · exact hs

theorem energisedTaken_stays (b : Berth) (hs : P s) : P (energisedTaken b s) := by
  unfold energisedTaken
  split
  · exact energisedTest_stays k f b (f.modBerth b _ s (fun _ => rfl) hs)
  · exact hs

theorem loseSource_stays (b : Berth) (hs : P s) : P (loseSource b s) :=
  enterReleasing_stays k f b (post_stays k _ (cancelSync_stays k _ hs))

theorem actOnSummary_stays (b : Berth) (hs : P s) : P (actOnSummary b s) := by
  unfold actOnSummary
  dsimp only
  split
  · split
    · exact energisedTest_stays k f b (enterState_stays k f b _ hs)
    · exact hs
  · split
    · exact loseSource_stays k f b hs
    · exact energisedTest_stays k f b hs
  case h_3 | h_4 =>
    split
    · exact loseSource_stays k f b hs
    · exact hs
  case h_5 | h_6 | h_7 | h_8 =>
    split
    · exact tripBerth_stays k f b _ hs
    · exact hs
  all_goals exact hs

theorem summaryTaken_stays (b : Berth) (hs : P s) : P (summaryTaken b s) := by
  unfold summaryTaken
  split
  · exact hs
  · exact actOnSummary_stays k f b (f.modBerth b _ s (fun _ => rfl) hs)

theorem firstFailureTaken_stays (b : Berth) (hs : P s) : P (firstFailureTaken b s) := by
  unfold firstFailureTaken
  split
  · exact enterReleasing_stays k f b (post_stays k _ hs)
  · exact hs

theorem outletResultTaken_stays (b : Berth) (r : SyncResult) (hs : P s) : P (outletResultTaken b r s) := by
  unfold outletResultTaken
  split
  · split
    · exact enterRampUp_stays k f b (f.openSession b s hs)
    · exact enterReleasing_stays k f b hs
    · exact enterReleasing_stays k f b hs
    · exact hs
  · exact hs

theorem outletOutcomeTaken_stays (b : Berth) (o : DeadOutcome) (hs : P s) : P (outletOutcomeTaken b o s) := by
  unfold outletOutcomeTaken
  split
  · split
    · exact enterState_stays k f b _ (f.openSession b s hs)
    · exact enterReleasing_stays k f b (post_stays k _ hs)
    · exact enterReleasing_stays k f b (post_stays k _ hs)
  · exact hs

theorem rampDoneTest_stays (b : Berth) (hs : P s) : P (rampDoneTest b s) := by
  unfold rampDoneTest
  split
  · exact k.giveShpn _ _ _ (f.modBerth b _ s (fun _ => rfl) hs)
  · exact hs

theorem capacityTest_stays (b : Berth) (hs : P s) : P (capacityTest b s) := by
  have raised := post_stays k (.raise (evCapacityLimit b)) hs
  unfold capacityTest
  dsimp only
  split
  · split
    · exact raised
    · exact k.giveShpn _ _ _ (f.modBerth b _ _ (fun _ => rfl) raised)
  · exact f.modBerth b _ s (fun _ => rfl) hs

omit k in
theorem startOpening_stays (b : Berth) (hs : P s) : P (startOpening b s) := f.modBerth b _ s (fun _ => rfl) hs

theorem openTest_stays (b : Berth) (hs : P s) : P (openTest b s) := by
  unfold openTest
  split
  · exact enterState_stays k f b _ (stopRamp_stays f b (startOpening_stays f b (k.command _ _ s hs)))
  · exact hs

theorem rampPeriodTaken_stays (b : Berth) (hs : P s) : P (rampPeriodTaken b s) := by
  unfold rampPeriodTaken
  split
  · exact hs
  next due _ =>
    have moved := f.modBerth b (fun r => { r with rampDue := some (due + Config.rampPeriodMs) }) _ (fun _ => rfl)
      (advanceTo_stays k due hs)
    dsimp only
    split
    · exact capacityTest_stays k f b (rampDoneTest_stays k f b (setPSet_stays k b _ moved))
    · exact openTest_stays k f b (setPSet_stays k b _ moved)
    · exact moved

theorem rampTimeoutTaken_stays (b : Berth) (hs : P s) : P (rampTimeoutTaken b s) := by
  unfold rampTimeoutTaken
  split
  · exact post_stays k _ (f.modBerth b _ _ (fun _ => rfl) (advanceTo_stays k _ hs))
  · exact hs

theorem shipHoldEndTaken_stays (b : Berth) (hs : P s) : P (shipHoldEndTaken b s) := by
  unfold shipHoldEndTaken
  split
  · exact hs
  · exact setShipHold_stays f b none (advanceTo_stays k _ hs)

theorem holdLimitTaken_stays (b : Berth) (hs : P s) : P (holdLimitTaken b s) := by
  unfold holdLimitTaken
  split
  · exact post_stays k _ (f.modBerth b _ _ (fun _ => rfl) (setShipHold_stays f b none (advanceTo_stays k _ hs)))
  · exact hs

theorem generatorWaitTaken_stays (b : Berth) (hs : P s) : P (generatorWaitTaken b s) := by
  unfold generatorWaitTaken
  split
  · exact hs
  · exact post_stays k _ (f.modBerth b _ _ (fun _ => rfl) (advanceTo_stays k _ hs))

theorem openingTaken_stays (b : Berth) (hs : P s) : P (openingTaken b s) := by
  unfold openingTaken
  split
  · exact hs
  next due _ =>
    have demanded := f.modBerth b (fun r => { r with demand := true, fromOpening := true }) _ (fun _ => rfl)
      (post_stays k (.raise (evBreakerNoConfirm b)) (advanceTo_stays k due hs))
    exact startOpening_stays f b (k.command _ _ _ (driveOutputs_stays k demanded))

theorem shipMessage_stays (b : Berth) (m : ShipMsg) (hs : P s) : P (shipMessage b m s) := by
  cases m with
  | state ready deadBus gens load ident => exact setShip_stays f b _ hs
  | hold q =>
    unfold shipMessage holdTaken
    dsimp only
    split
    · exact hs
    split
    · exact setShipHold_stays f b _ hs
    · exact setShipHold_stays f b _ hs
  | genOff =>
    unfold shipMessage genOffTaken
    dsimp only
    split
    · exact enterState_stays k f b _ (stopRamp_stays f b hs)
    · exact hs
  | genOn =>
    unfold shipMessage genOnTaken
    dsimp only
    split
    · exact enterRampDown_stays k f b (setPSet_stays k b _ (f.modBerth b _ s (fun _ => rfl) hs))
    · exact hs
  | shedAck kw => exact f.modBerth b _ s (fun _ => rfl) hs

theorem departCmd_stays (b : Berth) (hs : P s) : P (departCmd b s).2 := by
  have timed := f.modBerth b (fun r => { r with genDue := some (s.now + (s.entry b).genWait * 1000) }) s (fun _ => rfl) hs
  unfold departCmd
  split
  · dsimp only
    exact enterState_stays k f b _ timed
  · exact hs

theorem abortCmd_stays (b : Berth) (hs : P s) : P (abortCmd b s).2 := by
  unfold abortCmd
  split
  case h_1 | h_2 | h_3 | h_4 =>
    dsimp only
    exact enterReleasing_stays k f b hs
  case h_5 =>
    dsimp only
    exact enterRampDown_stays k f b hs
  all_goals exact hs

theorem tripCmd_stays (b : Berth) (hs : P s) : P (tripCmd b s).2 := by
  unfold tripCmd
  split
  · exact hs
  · exact hs
  · exact tripBerth_stays k f b .operator hs

theorem resetTripCmd_stays (b : Berth) (hs : P s) : P (resetTripCmd b s).2 := by
  have cleared := returnToDead_stays k f b (g := fun r => { r with demand := false, fromOpening := false, reason := none })
    (fun _ => rfl) hs
  unfold resetTripCmd
  split
  · exact cleared
  · exact hs

theorem performBerth_stays (b cmd : Nat) (hs : P s) : P (performBerth b cmd s).2 := by
  unfold performBerth
  split
  · exact connectCmd_stays k f _ _ hs
  · exact connectCmd_stays k f _ _ hs
  · exact departCmd_stays k f _ hs
  · exact abortCmd_stays k f _ hs
  · exact tripCmd_stays k f _ hs
  · exact resetTripCmd_stays k f _ hs
  · exact hs

theorem outletPosition_stays (b : Berth) (p : Position) (hs : P s) : P (outletPosition b p s) := by
  unfold outletPosition
  split
  · exact hs
  split
  · split
    · exact enterReleasing_stays k f b (f.closeSession b _ _ (f.modBerth b _ s (fun _ => rfl) hs))
    · exact hs
  split
  · exact post_stays k _ (tripBerth_stays k f b _ hs)
  · exact hs

theorem pilotChange_stays (b : Berth) (v : Bool) (hs : P s) : P (pilotChange b v s) := by
  have level := k.modPins (fun p => { p with pilot := upd p.pilot b fun _ => v }) s hs
  unfold pilotChange
  split
  · exact hs
  dsimp only
  split
  · exact post_stays k _ (tripBerth_stays k f b _ level)
  · exact level

theorem estopTaken_stays (hs : P s) : P (estopTaken s) :=
  setEstopRepeat_stays f _ (post_stays k _ (foldl_stays (fun _ b h => tripBerth_stays k f b .estop h) allBerths
    (syuEstop_stays k (driveOutputs_stays k
      (k.modPins (fun p => { p with estop := true }) s hs)))))

theorem estopReleased_stays (hs : P s) : P (estopReleased s) :=
  driveOutputs_stays k (setEstopRepeat_stays f none (k.modPins (fun p => { p with estop := false }) s hs))

theorem estopRepeatTaken_stays (hs : P s) : P (estopRepeatTaken s) := by
  unfold estopRepeatTaken
  split
  · exact hs
  · exact post_stays k _ (setEstopRepeat_stays f _ (advanceTo_stays k _ hs))

theorem applyBerths_stays (first : Nat) (es : List (List Nat)) (hs : P s) : P (applyBerths first es s) := by
  have written := f.modBsq (fun q => { q with table := putAll s.bsq.table first (es.map toBerthEntry) }) s rfl hs
  unfold applyBerths
  refine foldl_stays (fun t b h => ?_) _ written
  have ship : ∀ v : Bool, P (if v then t.setShip b none else t) := by
    intro v
    split
    · exact setShip_stays f b none h
    · exact h
  unfold berthWritten
  dsimp only
  split
  · exact changeState_stays k f b _ (ship _)
  split
  · exact changeState_stays k f b _ (ship _)
  · exact ship _

/-- What outlasts the single changes of berth records and slots outlasts all that BSQ does. -/
theorem Stays.sequence : Sequence P where
  tripBerth b why _ hs := tripBerth_stays k f b why hs
  listEmptyTaken b _ hs := listEmptyTaken_stays k f b hs
  energisedTaken b _ hs := energisedTaken_stays k f b hs
  summaryTaken b _ hs := summaryTaken_stays k f b hs
  firstFailureTaken b _ hs := firstFailureTaken_stays k f b hs
  outletResultTaken b r _ hs := outletResultTaken_stays k f b r hs
  outletOutcomeTaken b o _ hs := outletOutcomeTaken_stays k f b o hs
  outletPosition b p _ hs := outletPosition_stays k f b p hs
  shipMessage b m _ hs := shipMessage_stays k f b m hs
  pilotChange b v _ hs := pilotChange_stays k f b v hs
  estopTaken _ hs := estopTaken_stays k f hs
  estopReleased _ hs := estopReleased_stays k f hs
  estopRepeatTaken _ hs := estopRepeatTaken_stays k f hs
  rampPeriodTaken b _ hs := rampPeriodTaken_stays k f b hs
  shipHoldEndTaken b _ hs := shipHoldEndTaken_stays k f b hs
  holdLimitTaken b _ hs := holdLimitTaken_stays k f b hs
  rampTimeoutTaken b _ hs := rampTimeoutTaken_stays k f b hs
  generatorWaitTaken b _ hs := generatorWaitTaken_stays k f b hs
  openingTaken b _ hs := openingTaken_stays k f b hs
  applyBerths first es _ _ hs := applyBerths_stays k f first es hs

end

section
variable {P : State → Prop} {s : State} (k : Stays P) (q : Sequence P)
include k q

/-! ### EVR (chapter 9) -/


theorem applyAction_stays (e : EventIx) (hs : P s) : P (applyAction e s) := by
  unfold applyAction tripEvent
  split
  · exact shedAction_stays k _ hs
  · exact q.tripBerth _ _ _ hs
  · split
    · exact hs
    · exact q.tripBerth _ _ _ hs
  · exact foldl_stays (fun _ b h => q.tripBerth b _ _ h) allBerths hs
  · exact blockModule_stays k _ hs
  · exact hs

theorem raiseEntry_stays (n : Notes P) (e : EventIx) (hs : P s) : P (raiseEntry e s) := by
  unfold raiseEntry
  split
  · exact k.modEntry e (fun x => { x with count := satAdd 255 x.count 1 }) s (fun _ => rfl) (fun _ => id) hs
  have noted := n.noted e (fun x => { x with raw := true, count := 0, clock := some s.clock }) s (fun _ _ => rfl) hs
  dsimp only
  split
  · exact applyAction_stays k q e noted
  next disabled =>
    refine k.modEntry e (fun x => { x with raw := true, count := 0, clock := some s.clock }) s (fun b => ?_) (fun _ _ => rfl) hs
    simp [holdsBerth, disabled]

omit q in
theorem enableEntry_stays (n : Notes P) (e : EventIx) (hs : P s) : P (enableEntry e s) := by
  unfold enableEntry
  split
  · exact hs
  have noted := n.noted e (fun x => { x with enabled := true }) s (fun _ => id) hs
  dsimp only
  split
  · exact noted
  next clear =>
    refine k.modEntry e (fun x => { x with enabled := true }) s (fun b => ?_) (fun _ => id) hs
    simp [holdsBerth, clear]

theorem clearEntry_stays (n : Notes P) (m : Marks P) (e : EventIx) (hs : P s) : P (clearEntry e s) := by
  have cleared := m.recomputed e (fun x => { x with raw := false, count := 0, clock := none }) s hs
  unfold clearEntry
  dsimp only
  split
  · exact raiseEntry_stays k q n e cleared
  · exact cleared

omit k q in
theorem performEvent_stays {g : EventIx → State → State} (hg : ∀ e, P (g e s)) (i : Nat) (hs : P s) :
    P (performEvent g i s).2 := by
  unfold performEvent
  split
  · exact hs
  · exact hg _

/-! ### Hand-offs -/

theorem takeHandoff_stays (n : Notes P) (h : Handoff) (hs : P s) : P (takeHandoff h s) := by
  cases h with
  | raise e => exact raiseEntry_stays k q n e hs
  | summary b => exact q.summaryTaken b _ hs
  | firstFailure b => exact q.firstFailureTaken b _ hs
  | listEmpty b => exact q.listEmptyTaken b _ hs
  | outletResult b r => exact q.outletResultTaken b r _ hs
  | outletOutcome b o => exact q.outletOutcomeTaken b o _ hs
  | contactorResult m r => exact contactorResult_stays k m r hs
  | contactorOutcome m b o => exact contactorOutcome_stays k m b o hs
  | energised b => exact q.energisedTaken b _ hs
  | pollSkipped m i => exact pollSkippedTaken_stays k m i hs
  | serveChannels => exact serveChannelsTaken_stays k hs

/-! ### Received frames -/

omit q in
theorem failUncommanded_stays (t : Target) (c : Chan) (hs : P s) : P (failUncommanded t c s) := by
  unfold failUncommanded
  split
  · exact hs
  split
  · exact failAttempt_stays k c hs
  · exact hs

omit q in
theorem ownReport_stays (t : Target) (p : Position) (prev : Option Position) (hs : P s) : P (ownReport t p prev s) := by
  unfold ownReport
  split
  · unfold deadCloseReport
    split
    · exact giveOutcome_stays k _ _ _ (k.dropDeadClose _ _ (measureClose_stays k _ _ hs))
    · exact deadCloseFailed_stays k _ hs
    · exact hs
    · exact hs
  · unfold closingReport
    split
    · exact idleChannel_stays k _ (endRequest_stays k _ _ (measureClose_stays k _ _ hs))
    · exact closeFailed_stays k _ hs
    · exact hs
    · exact hs
  · split
    · exact failUncommanded_stays k t 1 (failUncommanded_stays k t 0 (k.command _ _ _ (post_stays k _ hs)))
    · exact hs

theorem bstaTaken_stays (t : Target) (p : Position) (recorded : P (recordPosition t p s)) : P (bstaTaken t p s) := by
  have reported := ownReport_stays k t p (s.breaker t).lastPosition recorded
  unfold bstaTaken
  dsimp only
  split
  · exact q.outletPosition _ p _ reported
  · exact contactorPosition_stays k _ p reported

omit q in
theorem bandCheck_stays (p : Point) (v f : Bool) (ev ef : EventIx) (hs : P s) : P (bandCheck p v f ev ef s) := by
  have raised : ∀ (x : Bool) (e : EventIx) (t : State), P t → P (if x then t.post (.raise e) else t) := by
    intro x e t h
    split
    · exact post_stays k _ h
    · exact h
  exact raised _ _ _ (raised _ _ _ (k.modScl _ s hs))

omit q in
theorem bandChecks_stays (p : Point) (hs : P s) : P (bandChecks p s) := by
  unfold bandChecks
  dsimp only
  split
  · exact bandCheck_stays k _ _ _ _ _ hs
  split
  · split
    · exact bandCheck_stays k _ _ _ _ _ hs
    · exact hs
  · exact hs

omit q in
theorem validRecord_stays (p : Point) (e : StreamEntry) (x : MeasRecord) (hs : P s) : P (validRecord p e x s) := by
  have read := channelRecord_stays k p 1 (channelRecord_stays k p 0 (staleEnds_stays k p
    (k.modScl (fun c => { c with points := upd c.points p (storeValues x s.scl.gains[p] s.now) }) s hs)))
  refine bandChecks_stays k p ?_
  unfold meterHandOff
  split
  · exact k.meterRecord _ _ _ read
  · exact read

omit q in
theorem takeRecord_stays (src : Nat) (x : MeasRecord) (hs : P s) : P (takeRecord src x s) := by
  unfold takeRecord
  split
  · exact k.modScl _ s hs
  split
  · exact hs
  unfold matchedRecord
  split
  · exact k.modScl _ s hs
  · dsimp only
    split
    · exact validRecord_stays k _ _ _ (k.modScl _ s hs)
    · exact k.modScl _ s hs

omit q in
theorem measTaken_stays (src : Nat) (p : List Byte) (hs : P s) : P (measTaken src p s) :=
  foldl_stays (fun _ x h => takeRecord_stays k src x h) _ hs

/-! ### Management requests (chapter 10) -/

theorem performWrite_stays (n : Notes P) (t : Table) (first : Nat) {es : List (List Nat)} (formed : es ≠ []) (hs : P s) :
    P (performWrite t first es s).2 := by
  unfold performWrite
  split
  · exact hs
  next free =>
    split
    · exact hs
    next ok =>
      rw [Bool.not_eq_true] at free
      rw [Bool.not_eq_true', Bool.not_eq_false] at ok
      cases t with
      | streams => exact pointStoreReset_stays k (k.modScl (fun c => { c with streams := putAll c.streams first (es.map toStream) }) s hs)
      | gains => exact k.modScl (fun c => { c with gains := putAll c.gains first (es.map fun e => fld e 0) }) s hs
      | grid => exact k.modScl (fun c => { c with grid := toGrid (es.headD []) }) s hs
      | modules => exact k.applyModules first es s free hs
      | reference => exact k.modRfg (fun c => { c with settings := toRefSettings (es.headD []) }) s hs
      | breakers => exact k.applyBreakers first es s free hs
      | profiles =>
        exact k.modSyu (fun y => { y with profiles := putAll y.profiles first (es.map toProfile) }) s rfl rfl rfl (fun _ => rfl) hs
      | berths => exact q.applyBerths first es s free hs
      | metering => exact k.meteringTaken _ _ s hs
      | tariffs => exact k.writeTariffs first es s free ok hs
      | current => exact k.writeCurrent es s formed free ok hs
      | events => exact n.applyEvents first es s hs

end
end Sys2Proof.Machine
end

section
namespace Sys2Proof.Machine

section
variable {P : State → Prop} {s : State} (k : Stays P)
include k

/-! ### MTR, MLK and the owners' actions -/

omit k in
theorem intervalEndTaken_endDue (s : State) : (intervalEndTaken s).mtr.endDue = false := by
  unfold intervalEndTaken
  split
  · rfl
  next due => simpa using due

theorem tick_stays (hs : P s) : P (tick s) :=
  k.ticked _ (intervalEndTaken_endDue _) (k.intervalEndTaken _ (advanceTo_stays k s.mtr.tickDue hs))

theorem askLock_stays (hs : P s) : P (askLock s).2 := by
  unfold askLock
  split
  · exact post_stays k _ hs
  split
  · exact hs
  · exact hs

theorem setPrepared_stays (src : Nat) (v : Bool) (hs : P s) : P (setPrepared src v s) := k.modMgu _ s rfl rfl hs

theorem captureRange_stays (src kind : Nat) (r : Request) (hs : P s) : P (captureRange src kind r s) := by
  unfold captureRange
  split
  next t first count _ _ =>
    exact post_stays k _ (k.modMgu (fun g => { g with capture := some ⟨src, kind, t.code, first, count⟩ }) s rfl rfl hs)
  · exact hs

theorem performClock_stays (day second : Nat) (hs : P s) : P (performClock day second s).2 := by
  unfold performClock
  split
  next ok => exact k.clockSetTaken day second s ok.1 ok.2 hs
  · exact hs

theorem performStatus_stays (view : Nat) (hs : P s) : P (performStatus view s).2 := by
  have emptied := k.modMgu (fun g => { g with capture := none }) s rfl rfl hs
  unfold performStatus
  split
  · exact hs
  dsimp only
  split
  · exact emptied
  · exact hs

theorem clearPrepareReq_stays (src : Nat) (hs : P s) : P (clearPrepareReq src s).2 := by
  unfold clearPrepareReq judged
  split
  · exact post_stays k _ hs
  split
  · exact hs
  · exact setPrepared_stays k src true hs

end

section
variable {P : State → Prop} {s : State} (k : Stays P) (q : Sequence P)
include k q

omit k in
theorem estopAsserted_stays (hs : P s) : P (estopAsserted s) := by
  unfold estopAsserted
  split
  · exact hs
  · exact q.estopTaken s hs

/-- What outlasts the single changes outlasts the owners' actions on every request but RESTART and the removals. -/
theorem perform_stays (x : Notes P) (m : Marks P) {r : Request} (berth : ∀ b cmd s, P s → P (performBerth b cmd s).2)
    (formed : r.formed) (restart : r = .restart → Performs P .restart)
    (remove : ∀ n, r = .logRemove n → Performs P (.logRemove n))
    (clear : ∀ i code, r = .billingClear i code → Performs P (.billingClear i code)) : Performs P r := by
  intro src prep s hs
  cases r with
  | read t first count => exact hs
  | write t first _ es => exact performWrite_stays k q x t first formed hs
  | berth b cmd => exact berth b cmd s hs
  | module m cmd => exact performModule_stays k m cmd hs
  | eventClear i => exact performEvent_stays (fun e => clearEntry_stays k q x m e hs) i hs
  | eventSet i => exact performEvent_stays (fun e => raiseEntry_stays k q x e hs) i hs
  | eventEnable i => exact performEvent_stays (fun e => enableEntry_stays k x e hs) i hs
  | eventDisable i => exact performEvent_stays (fun e => m.recomputed e _ s hs) i hs
  | clockSet day second => exact performClock_stays k day second hs
  | logRead => exact hs
  | logRemove n => exact remove n rfl src prep s hs
  | status v => exact performStatus_stays k v hs
  | unlock i code => exact k.unlockReq i code s hs
  | relock => exact k.relockReq s hs
  | setOperator code level => exact k.setOperatorReq code level s hs
  | setMetrology code rev cur => exact k.setMetrologyReq code rev cur s hs
  | removeCode code => exact k.removeCodeReq code s hs
  | freeze => exact k.freezeReq s hs
  | clearPrepare => exact clearPrepareReq_stays k src hs
  | billingClear i code => exact clear i code rfl src prep s hs
  | restart => exact restart rfl src prep s hs

/-- What outlasts the single changes outlasts the work of every command. -/
theorem Stays.work (x : Notes P) (m : Marks P) : Work P where
  handed := k.handed
  take h _ hs := takeHandoff_stays k q x h hs
  setPrepared src v _ hs := setPrepared_stays k src v hs
  captureRange src kind r _ hs := captureRange_stays k src kind r hs
  askLock _ hs := askLock_stays k hs
  count g _ hs := count_stays m g hs
  goodFrame _ hs := goodFrame_stays m hs
  forwardFrame := k.forwardFrame
  measTaken src p _ hs := measTaken_stays k src p hs
  replyTaken src y _ hs := replyTaken_stays k src y hs
  shipMessage := q.shipMessage
  pilotChange := q.pilotChange
  estopAsserted _ hs := estopAsserted_stays q hs
  estopReleased := q.estopReleased
  estopRepeatTaken := q.estopRepeatTaken
  cutOverlong _ hs := cutOverlong_stays k m hs
  ingressLoss _ hs := ingressLoss_stays k m hs
  egressFreed := k.egressFreed
  promote _ hs := promote_stays k m hs
  heldExpiry p _ hs := heldExpiry_stays k p hs
  staleExpiry p _ hs := staleExpiry_stays k p hs
  staleRepeat b side _ hs := staleRepeat_stays k b side hs
  scanSlot _ hs := scanSlot_stays k hs
  pollReplyExpiry _ hs := pollReplyExpiry_stays k hs
  startExpiry m _ hs := startExpiry_stays k m hs
  stopExpiry m _ hs := stopExpiry_stays k m hs
  period _ hs := period_stays k hs
  overloadExpiry b _ hs := overloadExpiry_stays k b hs
  syncWaitExpiry t _ hs := syncWaitExpiry_stays k t hs
  watchExpiry c _ hs := watchExpiry_stays k c hs
  confirmExpiry c _ hs := confirmExpiry_stays k c hs
  backoffExpiry c _ hs := backoffExpiry_stays k c hs
  deadBusConfirmExpiry t _ hs := deadBusConfirmExpiry_stays k t hs
  rampPeriodTaken := q.rampPeriodTaken
  shipHoldEndTaken := q.shipHoldEndTaken
  holdLimitTaken := q.holdLimitTaken
  rampTimeoutTaken := q.rampTimeoutTaken
  generatorWaitTaken := q.generatorWaitTaken
  openingTaken := q.openingTaken
  tick _ hs := tick_stays k hs
  intervalEndTaken := k.intervalEndTaken

/-! ### The resets -/

/-- What the blocks do at the end of a reset is work as any other. -/
theorem resetEnd_stays (hs : P s) : P (resetEnd s) := by
  have opened : P (openContactors s) := foldl_stays (fun t m h => by
    unfold openContactor
    split
    · exact k.command _ _ t h
    · exact h) _ hs
  have told : P (deadNotices (openContactors s)) := foldl_stays (fun t b h => by
    unfold deadNotice
    split
    · exact berthNotice_stays k b h
    · exact h) _ opened
  have told := k.evalLogFull _ told
  unfold resetEnd estopAtEnd
  split
  · exact q.estopTaken _ told
  · exact driveOutputs_stays k told

theorem coldReset_stays {nid opn bln : BitVec 6} (hs : P (.coldWith s.pins nid opn bln s.now s.overrun s.pending)) :
    P (coldReset nid opn bln s) := resetEnd_stays k q hs

theorem warmReset_stays {nid opn bln : BitVec 6} {loss reset : Nat}
    (hs : P (setInterval
      ((warmBlocks nid opn bln (passTicks reset (supplyCloses (discardResidues (passTicks loss s))))).modMlk Mlk.warm))) :
    P (warmReset nid opn bln loss reset s) := resetEnd_stays k q hs

/-- R181: RESTART, where it is taken. -/
theorem performRestart_stays
    (hr : restartAllowed s = true →
      P (setInterval (warmBlocks s.lpu.nid s.mgu.opn s.mgu.bln (supplyCloses (discardResidues s)))))
    (reserve : ∀ t, P t → P (reservePlace t)) (hs : P s) : P (performRestart s).2 := by
  unfold performRestart
  split
  next allowed =>
    refine reserve _ ?_
    have ended := resetEnd_stays k q (hr allowed)
    unfold restartBlocks
    dsimp only
    split
    · exact post_stays k _ ended
    · exact ended
  · exact hs

/-- What outlasts the single changes, the removals and the restart of the blocks outlasts management service. -/
theorem Stays.service (x : Notes P) (m : Marks P) (y : Removals P) (berth : ∀ b cmd s, P s → P (performBerth b cmd s).2)
    (restart : ∀ s, restartAllowed s = true → P s →
      P (setInterval (warmBlocks s.lpu.nid s.mgu.opn s.mgu.bln (supplyCloses (discardResidues s)))))
    (reservePlace : ∀ s, P s → P (reservePlace s) := by simp)
    (enterReply : ∀ f v s, P s → P (enterReply f v s) := by simp)
    (enterReserved : ∀ f s, P s → P (enterReserved f s) := by simp)
    (modMgu : ∀ g s, P s → P (s.modMgu g) := by simp) : Service P where
  performs _ formed := perform_stays k q x m berth formed
    (fun _ _ _ s hs => performRestart_stays k q (fun allowed => restart s allowed hs) reservePlace hs)
    (fun n _ _ _ s hs => y.performLogRemove n s hs) (fun i code _ _ prep s hs => y.billingClearReq prep i code s hs)
  reservePlace := reservePlace
  enterReply := enterReply
  enterReserved := enterReserved
  modMgu := modMgu

end

/-! ### What outlasts every single change -/

/-- The single changes of every kind under which `P` stays. -/
structure Lasts (P : State → Prop) : Prop extends Stays P, Berths P, Marks P where
  reported : ∀ t p s, P s → P (s.modBreaker t fun e => { e with lastPosition := some p }) := by simp

section
variable {P : State → Prop} {s : State} (k : Lasts P)
include k

theorem Lasts.sequence : Sequence P := k.toStays.sequence k.toBerths

theorem Lasts.bstaTaken (t : Target) (p : Position) (s : State) (hs : P s) : P (bstaTaken t p s) := by
  refine bstaTaken_stays k.toStays k.sequence t p ?_
  have reported := k.reported t p s hs
  unfold recordPosition
  dsimp only
  split
  · exact setCloseHeld_stays k.toStays t false reported
  · exact reported

theorem Lasts.performBerth (b cmd : Nat) (s : State) (hs : P s) : P (performBerth b cmd s).2 :=
  performBerth_stays k.toStays k.toBerths b cmd hs

theorem Lasts.work (x : Notes P) : Work P := Stays.work k.toStays k.sequence x k.toMarks

theorem Lasts.service (x : Notes P) (y : Removals P)
    (restart : ∀ s, restartAllowed s = true → P s →
      P (setInterval (warmBlocks s.lpu.nid s.mgu.opn s.mgu.bln (supplyCloses (discardResidues s)))))
    (reservePlace : ∀ s, P s → P (reservePlace s) := by simp)
    (enterReply : ∀ f v s, P s → P (enterReply f v s) := by simp)
    (enterReserved : ∀ f s, P s → P (enterReserved f s) := by simp)
    (modMgu : ∀ g s, P s → P (s.modMgu g) := by simp) : Service P :=
  Stays.service k.toStays k.sequence x k.toMarks y k.performBerth restart reservePlace enterReply enterReserved modMgu

end
end Sys2Proof.Machine
end

section
namespace Sys2Proof.Machine

/-! ### Completion -/

/-- Every command is the work of one block, done whole. -/
theorem exec_whole (c : Instr) (s : State) : ∃ g, exec c s = .next (whole g s) := by
  cases c <;> exact ⟨_, rfl⟩

/-- The queue stays and device time is not turned back. -/
theorem later_stays (cs : List Instr) (n : Nat) : Lasts fun u => u.pending = cs ∧ n ≤ u.now where
  later := by
    intro s n' later ⟨queue, now⟩
    exact ⟨queue, now.trans later⟩

theorem later_service (cs : List Instr) (n : Nat) : Service fun u => u.pending = cs ∧ n ≤ u.now :=
  (later_stays cs n).service {} {} fun _ _ h => by simpa [warmBlocks] using h

end Sys2Proof.Machine
end

section
open Sys2Proof Sys2Proof.Machine

/-- Settles O2: a command is a block's work followed by the hand-offs, and nothing in either touches the queue or turns
device time back. -/
theorem everyCommandCompletes : Obligations.EveryCommandCompletes := by
  intro c s
  obtain ⟨g, e⟩ := exec_whole c s
  have stays := later_stays s.pending s.now
  have kept := exec_lasts (stays.work {}) (later_service s.pending s.now) (c := c)
    (fun nid opn bln _ u h => coldReset_stays stays.toStays stays.sequence (by simpa [State.coldWith] using h))
    (fun nid opn bln loss reset _ u h => warmReset_stays stays.toStays stays.sequence (by
      obtain ⟨queue, now⟩ := h
      simp [passTicks, warmBlocks, queue]
      omega)) ⟨rfl, le_rfl⟩ e stays.bstaTaken
  exact ⟨_, e, kept.1, rfl, kept.2⟩

end

section
namespace Sys2Proof.Machine

/-! ### How the Billing Unit changes (chapter 8)

Every operation of BLG is a run of the changes of `Blg.Next`; what each of them keeps outlasts all billing work. -/

/-- R141: the schedules name bands 0 to 3. -/
def Blg.BandsNamed (g : Blg) : Prop := ∀ i : Fin 4, ∀ e ∈ g.sets[i].schedule, e.2 ≤ 3

/-- A change of BLG that removes no record. -/
inductive Blg.Next (g : Blg) : Blg → Prop
  /-- R146: the LOG_FULL condition is evaluated. -/
  | flag (v : Bool) : g.Next { g with logFull := v }
  /-- R145: a slot is reserved. -/
  | reserved (b : Berth) (free : g.slots[b] = .free) (room : g.slotCheck = true) (tariff : g.current ≠ none) :
    g.Next { g with slots := upd g.slots b fun _ => .reserved }
  /-- R145: a reservation is freed. -/
  | freed (b : Berth) (held : g.slots[b] = .reserved) : g.Next { g with slots := upd g.slots b fun _ => .free }
  /-- R148: a session opens in a reserved slot and binds to its set. -/
  | opened (b : Berth) (r : Session) (held : g.slots[b] = .reserved) (new : r.addsUp) :
    g.Next { g with
      slots := upd g.slots b fun _ => .openSlot r
      sets := upd g.sets r.set fun t => { t with bound := t.bound + 1 } }
  /-- R129, R130, R135: an open session takes energy, time or a peak. -/
  | counted (b : Berth) (r r' : Session) (held : g.slots[b] = .openSlot r) (set : r'.set = r.set)
    (adds : g.BandsNamed → r.addsUp → r'.addsUp) : g.Next { g with slots := upd g.slots b fun _ => .openSlot r' }
  /-- R150, R152: a session closes; its record, numbered, ends the log. -/
  | closed (b : Berth) (r r' : Session) (held : g.slots[b] = .openSlot r) (number : r'.number = some g.counter)
    (adds : r.addsUp → r'.addsUp) :
    g.Next { g with
      slots := upd g.slots b fun _ => .free
      log := g.log ++ [r']
      counter := g.counter + 1
      sets := upd g.sets r.set fun t => { t with bound := t.bound - 1 } }
  /-- R141: tariff sets are written. -/
  | tariffs (v : Vector TariffSet 4) (bound : ∀ i : Fin 4, v[i].bound = g.sets[i].bound)
    (named : g.BandsNamed → ∀ i : Fin 4, ∀ e ∈ v[i].schedule, e.2 ≤ 3) (loaded : currentOk v g.current = true) :
    g.Next { g with sets := v }
  /-- R143: the current-set index is written. -/
  | current (c : Option (Fin 4)) (loaded : currentOk g.sets c = true)
    (unused : c = none → ∀ b : Berth, g.slots[b] ≠ .reserved) : g.Next { g with current := c }

/-- BLG after a run of changes. -/
def Blg.Moves : Blg → Blg → Prop := Relation.ReflTransGen Blg.Next

theorem Blg.Next.moves {g h : Blg} (n : g.Next h) : g.Moves h := .single n

theorem Blg.Moves.refl (g : Blg) : g.Moves g := Relation.ReflTransGen.refl

theorem Blg.Moves.trans {g h k : Blg} (m : g.Moves h) (n : h.Moves k) : g.Moves k := Relation.ReflTransGen.trans m n

theorem Blg.Moves.keeps {Q : Blg → Prop} (next : ∀ g h, g.Next h → Q g → Q h) {g h : Blg} (m : g.Moves h) (hg : Q g) :
    Q h := by
  induction m with
  | refl => exact hg
  | tail _ n ih => exact next _ _ n ih

/-- R129, R130, R135: an open session takes energy, time or a peak. -/
inductive Blg.Count (g : Blg) : Blg → Prop
  | mk (b : Berth) (r r' : Session) (held : g.slots[b] = .openSlot r) (set : r'.set = r.set)
    (adds : g.BandsNamed → r.addsUp → r'.addsUp) : g.Count { g with slots := upd g.slots b fun _ => .openSlot r' }

/-- BLG after a run of such changes. -/
def Blg.Counts : Blg → Blg → Prop := Relation.ReflTransGen Blg.Count

theorem Blg.Counts.refl (g : Blg) : g.Counts g := Relation.ReflTransGen.refl

theorem Blg.Counts.trans {g h k : Blg} (m : g.Counts h) (n : h.Counts k) : g.Counts k := Relation.ReflTransGen.trans m n

theorem Blg.Counts.moves {g h : Blg} (m : g.Counts h) : g.Moves h := by
  induction m with
  | refl => exact .refl g
  | tail _ n ih =>
    obtain ⟨b, r, r', held, set, adds⟩ := n
    exact ih.trans (Blg.Next.counted b r r' held set adds).moves

section
variable {s : State}

/-! ### The operations of BLG -/

theorem evalLogFull_moves (s : State) : s.blg.Moves (evalLogFull s).blg := by
  unfold evalLogFull
  split
  · exact (Blg.Next.flag true).moves
  · exact (Blg.Next.flag false).moves

theorem Blg.Moves.evaluated {g : Blg} {s : State} (m : g.Moves s.blg) : g.Moves (evalLogFull s).blg :=
  m.trans (evalLogFull_moves s)

/-- Work of other blocks before billing work makes no difference to BLG. -/
theorem Blg.Counts.after {g : Blg} {s t : State} (m : s.blg.Counts t.blg) (same : s.blg = g) : g.Counts t.blg := same ▸ m

theorem Blg.Moves.after {g : Blg} {s t : State} (m : s.blg.Moves t.blg) (same : s.blg = g) : g.Moves t.blg := same ▸ m

theorem reserveSlot_moves (b : Berth) (room : s.blg.slotCheck = true) (tariff : s.blg.current ≠ none) :
    s.blg.Moves (reserveSlot b s).blg := by
  unfold reserveSlot
  split
  next free => exact (Blg.Next.reserved b free room tariff).moves.evaluated
  · exact .refl _

theorem freeSlot_moves (b : Berth) (s : State) : s.blg.Moves (freeSlot b s).blg := by
  unfold freeSlot
  split
  next held => exact (Blg.Next.freed b held).moves.evaluated
  · exact .refl _

theorem openSession_moves (b : Berth) (s : State) : s.blg.Moves (openSession b s).blg := by
  unfold openSession
  split
  next set held _ =>
    exact (Blg.Next.opened b (newSession b (shipIdentOf s b) set s.clock) held rfl).moves
  · exact .refl _

theorem closeSession_moves (b : Berth) (why : EndReason) (s : State) : s.blg.Moves (closeSession b why s).blg := by
  unfold closeSession
  split
  next r held =>
    exact (Blg.Next.closed b r (closedRecord s b why r) held rfl id).moves.evaluated
  · exact .refl _

theorem modSession_counts (b : Berth) {g : Session → Session} {s : State} (set : ∀ r, (g r).set = r.set)
    (adds : ∀ r, s.slot b = .openSlot r → s.blg.BandsNamed → r.addsUp → (g r).addsUp) :
    s.blg.Counts (modSession b g s).blg := by
  have changed : ∀ (y : Slot) (f : Slot → Slot), f (s.slot b) = y → upd s.blg.slots b f = upd s.blg.slots b fun _ => y :=
    fun y f h => congrArg (fun z => s.blg.slots.set b z) h
  have same : (upd s.blg.slots b fun _ => s.slot b) = s.blg.slots := by simp [upd, State.slot]
  have unchanged : ∀ y, s.slot b = y → (∀ r, y ≠ .openSlot r) → s.blg.Counts (modSession b g s).blg := fun y held no => by
    simp only [modSession, State.modSlot_blg]
    rw [changed (s.slot b) _ (by
      rw [held]
      cases y with
      | openSlot r => exact absurd rfl (no r)
      | free => rfl
      | reserved => rfl), same]
    exact .refl _
  cases held : s.slot b with
  | openSlot r =>
    simp only [modSession, State.modSlot_blg]
    rw [changed (.openSlot (g r)) _ (by rw [held])]
    exact .single (.mk b r (g r) held (set r) (adds r held))
  | free => exact unchanged _ held (by simp)
  | reserved => exact unchanged _ held (by simp)

/-! ### Where the watt-hours go (R129 to R131) -/

/-- R142: the band of an instant is one that the schedule names. -/
theorem bandOf_le (schedule : List (Nat × Nat)) (sec : Nat) (named : ∀ e ∈ schedule, e.2 ≤ 3) : bandOf schedule sec ≤ 3 := by
  have run : ∀ (es : List (Nat × Nat)) (band : Nat), (∀ e ∈ es, e.2 ≤ 3) → band ≤ 3 →
      es.foldl (fun band e => if e.1 ≤ sec then e.2 else band) band ≤ 3 := by
    intro es
    induction es with
    | nil => exact fun _ _ h => h
    | cons e es ih =>
      intro band named le
      refine ih _ (fun x hx => named x (List.mem_cons_of_mem _ hx)) ?_
      dsimp only
      split
      · exact named e List.mem_cons_self
      · exact le
  exact run schedule 0 named (by omega)

/-- R129, R149: what enters one of the four bands enters the total. -/
theorem addImport_addsUp {r : Session} {band : Nat} (named : band ≤ 3) (wh : Nat) (h : r.addsUp) :
    (r.addImport band wh).addsUp := by
  unfold Session.addsUp at h ⊢
  obtain rfl | rfl | rfl | rfl : band = 0 ∨ band = 1 ∨ band = 2 ∨ band = 3 := by omega
  all_goals simp [Session.addImport, h]; omega

theorem carryImport_counts (b : Berth) (wh : Nat) (s : State) : s.blg.Counts (carryImport b wh s).blg := by
  unfold carryImport
  split
  · exact .refl _
  split
  next r held =>
    refine modSession_counts b (fun _ => rfl) fun x same named h => ?_
    exact addImport_addsUp (bandOf_le _ _ (named r.set)) wh h
  · exact .refl _

theorem carryReturned_counts (b : Berth) (wh : Nat) (s : State) : s.blg.Counts (carryReturned b wh s).blg := by
  unfold carryReturned
  split
  · exact modSession_counts b (fun _ => rfl) fun _ _ _ h => h
  · exact .refl _

theorem carryUnmetered_counts (b : Berth) (ms : Nat) (s : State) : s.blg.Counts (carryUnmetered b ms s).blg := by
  unfold carryUnmetered
  split
  · exact modSession_counts b (fun _ => rfl) fun _ _ _ h => h
  · exact .refl _

theorem addUnmetered_counts (b : Berth) (us : Nat) (s : State) : s.blg.Counts (addUnmetered b us s).blg :=
  (carryUnmetered_counts b _ _).after rfl

theorem integrate_counts (b : Berth) (inc : Int) (s : State) : s.blg.Counts (integrate b inc s).blg := by
  unfold integrate
  exact ((carryImport_counts b _ _).trans (carryReturned_counts b _ _)).after rfl

theorem meterRecord_counts (b : Berth) (r : RevenueRecord) (s : State) : s.blg.Counts (meterRecord b r s).blg := by
  unfold meterRecord
  generalize meterCase s.mtr.recs[b].baseline s.mtr.gapLimit r = c
  cases c with
  | start => exact .refl _
  | restart =>
    unfold meterWork
    dsimp only
    split
    · exact .refl _
    · exact addUnmetered_counts b _ s
  | backward => exact .refl _
  | gap dt =>
    unfold meterWork
    exact ((integrate_counts b _ _).trans (addUnmetered_counts b _ _)).after rfl
  | normal dt => exact integrate_counts b _ s

theorem intervalEndBerth_counts (b : Berth) (s : State) : s.blg.Counts (intervalEndBerth b s).blg := by
  unfold intervalEndBerth
  split
  · exact modSession_counts b (fun _ => rfl) fun _ _ _ h => h
  · exact .refl _

theorem handDemand_counts (s : State) : s.blg.Counts (handDemand s).blg :=
  foldl_stays (P := fun t => s.blg.Counts t.blg) (fun t b h => h.trans (intervalEndBerth_counts b t)) _ (.refl _)

theorem setInterval_blg (s : State) : (setInterval s).blg = s.blg := rfl

theorem intervalEndTaken_counts (s : State) : s.blg.Counts (intervalEndTaken s).blg := by
  unfold intervalEndTaken
  split
  · rw [setInterval_blg]
    exact handDemand_counts s
  · exact .refl _

theorem clockSetTaken_counts (day second : Nat) (s : State) : s.blg.Counts (clockSetTaken day second s).blg := by
  rw [clockSetTaken, setInterval_blg, State.modMtr_blg]
  exact handDemand_counts s

theorem meteringTaken_counts (gap d : Nat) (s : State) : s.blg.Counts (meteringTaken gap d s).blg := by
  unfold meteringTaken
  split
  · exact .refl _
  · rw [setInterval_blg, State.modMtr_blg]
    exact handDemand_counts s

theorem foldl_moves {α : Type} {f : State → α → State} (step : ∀ (t : State) (x : α), t.blg.Moves (f t x).blg) (xs : List α) (s : State) :
    s.blg.Moves (xs.foldl f s).blg := by
  induction xs generalizing s with
  | nil => exact .refl _
  | cons x xs ih => exact (step s x).trans (ih _)

theorem supplyCloses_moves (s : State) : s.blg.Moves (supplyCloses s).blg :=
  foldl_moves (fun t b => closeSession_moves b .supply t) _ s

/-! ### Writes of the tariff sets and the current-set index (R141, R143) -/

theorem toTariff_bound (e : List Nat) (old : TariffSet) : (toTariff e old).bound = old.bound := by
  unfold toTariff
  split <;> rfl

theorem toTariff_named {e : List Nat} (ok : tariffOk e = true) (old : TariffSet) : ∀ x ∈ (toTariff e old).schedule, x.2 ≤ 3 := by
  unfold toTariff
  split
  next loaded =>
    simp only [tariffOk, loaded, loadedOk, Bool.not_true, Bool.false_or, Bool.and_eq_true, List.all_eq_true,
      decide_eq_true_eq] at ok
    exact fun x hx => (ok.2.1.1.2 x hx).2
  · simp [TariffSet.empty]

/-- R177: an entry of a table after a write is as it was, or comes from one of the entries written. -/
theorem updAll_entry {α : Type} {n : Nat} (g : List Nat → α → α) (v : Vector α n) (first : Nat) (es : List (List Nat))
    (i : Fin n) : (updAll g v first es)[i] = v[i] ∨ ∃ e ∈ es, (updAll g v first es)[i] = g e v[i] := by
  have at_i := updAll_get g v first es i.isLt
  by_cases h : first ≤ i.val
  · rw [if_pos h] at at_i
    cases he : es[i.val - first]? with
    | none => exact .inl (by simpa [he] using at_i)
    | some e => exact .inr ⟨e, List.mem_of_getElem? he, by simpa [he] using at_i⟩
  · exact .inl (by simpa [h] using at_i)

theorem writeTariffs_moves {first : Nat} {es : List (List Nat)} (ok : writeValuesOk s .tariffs first es = true) :
    s.blg.Moves { s.blg with sets := setsAfter s first es } := by
  obtain ⟨good, loaded⟩ : (∀ e ∈ es, tariffOk e = true) ∧ currentOk (setsAfter s first es) s.blg.current = true := by
    simpa [writeValuesOk] using ok
  have entry : ∀ i : Fin 4, (setsAfter s first es)[i] = s.blg.sets[i] ∨
      ∃ e ∈ es, (setsAfter s first es)[i] = toTariff e s.blg.sets[i] := updAll_entry toTariff s.blg.sets first es
  refine (Blg.Next.tariffs _ (fun i => ?_) (fun named i => ?_) loaded).moves
  · obtain same | ⟨e, -, new⟩ := entry i
    · rw [same]
    · rw [new, toTariff_bound]
  · obtain same | ⟨e, mem, new⟩ := entry i
    · rw [same]
      exact named i
    · rw [new]
      exact toTariff_named (good e mem) _

/-- R143: the current-set index is emptied only while no slot is RESERVED. -/
theorem writeCurrent_unused {es : List (List Nat)} (entry : es ≠ []) (free : writeInUse s .current 0 es = false)
    (ok : writeValuesOk s .current 0 es = true) (empty : toCurrent (es.headD []) = none) (b : Berth) :
    s.blg.slots[b] ≠ .reserved := by
  intro held
  obtain ⟨e, es, rfl⟩ := List.exists_cons_of_ne_nil entry
  obtain ⟨⟨small, -⟩, -⟩ : (fld e 0 ≤ 4 ∧ currentOk s.blg.sets (toCurrent e) = true) ∧ _ := by
    simpa only [writeValuesOk, List.all_cons, Bool.and_eq_true, decide_eq_true_eq] using ok
  have four : fld e 0 = 4 := by
    by_contra other
    simp [toCurrent, berthOf?, show fld e 0 < 4 by omega] at empty
  have mem : Slot.reserved ∈ s.blg.slots.toList := by
    rw [← held]
    simp
  simp only [writeInUse, List.any_cons, four, decide_true, Bool.true_or, Bool.true_and, List.any_eq_false] at free
  exact free _ mem (by simp)

theorem writeCurrent_moves {es : List (List Nat)} (entry : es ≠ []) (free : writeInUse s .current 0 es = false)
    (ok : writeValuesOk s .current 0 es = true) : s.blg.Moves { s.blg with current := toCurrent (es.headD []) } := by
  have loaded : currentOk s.blg.sets (toCurrent (es.headD [])) = true := by
    obtain ⟨e, es, rfl⟩ := List.exists_cons_of_ne_nil entry
    simp only [writeValuesOk, List.all_cons, Bool.and_eq_true] at ok
    exact ok.1.2
  exact (Blg.Next.current _ loaded (writeCurrent_unused entry free ok)).moves

end

/-- What every change of BLG keeps outlasts all billing work that removes no record. -/
theorem billing_stays {Q : Blg → Prop} (next : ∀ g h, g.Next h → Q g → Q h) : Lasts fun s => Q s.blg where
  evalLogFull s := (evalLogFull_moves s).keeps next
  reserveSlot b _ room tariff := (reserveSlot_moves b room tariff).keeps next
  freeSlot b s := (freeSlot_moves b s).keeps next
  openSession b s := (openSession_moves b s).keeps next
  closeSession b why s := (closeSession_moves b why s).keeps next
  meterRecord b r s := (meterRecord_counts b r s).moves.keeps next
  intervalEndTaken s := (intervalEndTaken_counts s).moves.keeps next
  clockSetTaken day second s _ _ := (clockSetTaken_counts day second s).moves.keeps next
  meteringTaken gap code s := (meteringTaken_counts gap _ s).moves.keeps next
  writeTariffs _ _ _ _ ok := (writeTariffs_moves ok).keeps next
  writeCurrent _ _ entry free ok := (writeCurrent_moves entry free ok).keeps next

end Sys2Proof.Machine
end

section
namespace Sys2Proof.Machine

/-! ### What a step keeps of BLG -/

section
variable {s t : State} {b : Berth}

/-- R150: a session is closed, and no other slot is opened. -/
theorem closeSession_slot_open {c : Berth} {why : EndReason} {r : Session} (h : (closeSession b why s).slot c = .openSlot r) :
    c ≠ b ∧ s.slot c = .openSlot r := by
  by_cases e : c = b
  · exact absurd (e ▸ h) (closeSession_slot b why s r)
  · have same := (closeSession_aside (P := fun _ => True) (Ne.symm e) trivial why s).slot
    exact ⟨e, same ▸ h⟩

/-- R157: no session is open after the closes of a reset. -/
theorem supplyCloses_slot (s : State) (b : Berth) (r : Session) : (supplyCloses s).slot b ≠ .openSlot r := by
  have run : ∀ (bs : List Berth) (s : State),
      (bs.foldl (fun s b => closeSession b .supply s) s).slot b = .openSlot r → b ∉ bs ∧ s.slot b = .openSlot r := by
    intro bs
    induction bs with
    | nil => exact fun s h => ⟨List.not_mem_nil, h⟩
    | cons c bs ih =>
      intro s h
      obtain ⟨out, h⟩ := ih _ h
      obtain ⟨ne, h⟩ := closeSession_slot_open h
      exact ⟨by simp [ne, out], h⟩
  exact fun h => (run allBerths s h).1 (mem_allBerths b)

/-- A property of BLG that its changes, the removals and the resets keep outlasts every step. -/
theorem billing_step {Q : Blg → Prop} (next : ∀ g h, g.Next h → Q g → Q h) (cold : Q .cold)
    (warm : ∀ g : Blg, (∀ (b : Berth) r, g.slots[b] ≠ .openSlot r) → Q g → Q g.warm)
    (remove : ∀ (g : Blg) r rest, g.log = r :: rest → Q g → Q { g with log := rest })
    (clear : ∀ g, Q g → Q { g with log := [] }) (h : Q s.blg) (e : step s = .next t) : Q t.blg := by
  have k := billing_stays next
  have warmed : ∀ u v : State, u.blg = v.blg → Q v.blg → Q (supplyCloses u).blg.warm := fun u v same h =>
    warm _ (supplyCloses_slot u) (((supplyCloses_moves u).after same).keeps next h)
  have removals : Removals fun s => Q s.blg := {
    performLogRemove := fun n s h => by
      unfold performLogRemove
      split
      · exact h
      next r rest e =>
        split
        · exact (evalLogFull_moves _).keeps next (remove s.blg r rest e h)
        · exact h
    billingClearReq := fun prep i code s h => by
      have mismatch : Q (codeMismatch s).2.blg := by simpa using h
      have cleared : Q (billingClearTaken s).blg := (evalLogFull_moves _).keeps next (clear s.blg h)
      unfold billingClearReq judged billingClearOwn
      repeat' split
      all_goals assumption }
  exact step_lasts (k.work {}) (k.service {} removals fun u _ h => warmed (discardResidues u) u rfl h)
    (fun nid opn bln u h => coldReset_stays k.toStays k.sequence cold)
    (fun nid opn bln loss reset u h => warmReset_stays k.toStays k.sequence (warmed (discardResidues (passTicks loss u)) u rfl h))
    (fun _ _ h => h) (fun _ _ h => h) h e k.bstaTaken

/-! ### Room, order and sums -/

/-- R145: what a slot that changes does to the number of slots taken. -/
theorem taken_upd (g : Blg) (b : Berth) (y : Slot) :
    ({ g with slots := upd g.slots b fun _ => y } : Blg).taken + (if g.slots[b] = .free then 0 else 1) =
      g.taken + if y = .free then 0 else 1 := by
  have lt : b.val < g.slots.toList.length := by simp
  have here : g.slots.toList[b.val] = g.slots[b.val] := by simp
  have eq : (upd g.slots b fun _ => y).toList = g.slots.toList.set b.val y := Vector.toList_set (xs := g.slots) b.isLt
  have counted : g.slots[b.val] ≠ .free → 0 < g.slots.toList.countP fun x => x != .free := fun taken =>
    List.countP_pos_iff.2 ⟨_, List.getElem_mem lt, by simpa [here] using taken⟩
  simp only [Blg.taken, eq, List.countP_set lt, here]
  generalize g.slots.toList.countP (fun x => x != .free) = n at counted ⊢
  by_cases old : g.slots[b.val] = .free <;> by_cases new : y = .free <;> simp [old, new]
  all_goals have := counted old; omega

/-- R145, R152: the room and the order of the log, of BLG alone. -/
def Blg.Roomy (g : Blg) : Prop :=
  (g.sum ≤ Config.billingPlaces ∧ g.counter + g.taken ≤ Config.u32Max + 1) ∧
    (g.log.map fun r => r.number.getD 0).Pairwise (· < ·) ∧ ∀ r ∈ g.log, ∃ n, r.number = some n ∧ n < g.counter

/-- A slot that does not become taken keeps the room. -/
theorem Blg.Roomy.upd {g : Blg} (h : g.Roomy) (b : Berth) (y : Slot) (less : g.slots[b] = .free → y = .free)
    (sets : Vector TariffSet 4) : ({ g with slots := upd g.slots b fun _ => y, sets := sets } : Blg).Roomy := by
  obtain ⟨⟨places, numbers⟩, order⟩ := h
  have count := taken_upd g b y
  have le : (if y = .free then 0 else 1) ≤ if g.slots[b] = .free then 0 else 1 := by
    split
    · split <;> omega
    next new => rw [if_neg (mt less new)]
  have fewer : ({ g with slots := Sys2Proof.upd g.slots b fun _ => y } : Blg).taken ≤ g.taken := by omega
  refine ⟨⟨?_, ?_⟩, order⟩
  · exact (Nat.add_le_add_right fewer g.log.length).trans places
  · exact (Nat.add_le_add_left fewer g.counter).trans numbers

theorem Blg.Next.roomy {g h : Blg} (n : g.Next h) (room : g.Roomy) : h.Roomy := by
  cases n with
  | flag v => exact room
  | tariffs v bound named loaded => exact room
  | current c loaded unused => exact room
  | freed b held => exact room.upd b .free (fun _ => rfl) g.sets
  | opened b r held new => exact room.upd b _ (by simp [held]) _
  | counted b r r' held set adds => exact room.upd b _ (by simp [held]) g.sets
  | reserved b free check tariff =>
    obtain ⟨-, order⟩ := room
    have count := taken_upd g b .reserved
    rw [free] at count
    simp only [Blg.slotCheck, Bool.and_eq_true, decide_eq_true_eq] at check
    obtain ⟨places, numbers⟩ := check
    have places : g.taken + g.log.length < Config.billingPlaces := places
    simp only [if_true, if_false, reduceCtorEq, Nat.add_zero] at count
    refine ⟨⟨?_, ?_⟩, order⟩
    · show Blg.taken _ + g.log.length ≤ _
      omega
    · show g.counter + Blg.taken _ ≤ _
      omega
  | closed b r r' held number adds =>
    obtain ⟨⟨places, numbers⟩, order, below⟩ := room
    have count := taken_upd g b .free
    rw [held] at count
    simp at count
    refine ⟨⟨?_, ?_⟩, ?_, ?_⟩
    · have places : g.taken + g.log.length ≤ Config.billingPlaces := places
      show Blg.taken { g with slots := upd g.slots b fun _ => .free } + (g.log ++ [r']).length ≤ _
      rw [List.length_append, List.length_singleton]
      omega
    · show g.counter + 1 + Blg.taken { g with slots := upd g.slots b fun _ => .free } ≤ _
      omega
    · rw [List.map_append, List.pairwise_append]
      refine ⟨order, List.pairwise_singleton _ _, ?_⟩
      intro x hx y hy
      obtain ⟨z, mem, rfl⟩ := List.mem_map.1 hx
      obtain ⟨k, is, lt⟩ := below z mem
      obtain rfl : y = g.counter := by simpa [number] using hy
      simpa [is] using lt
    · intro z hz
      obtain old | new := List.mem_append.1 hz
      · obtain ⟨k, is, lt⟩ := below z old
        exact ⟨k, is, Nat.lt_succ_of_lt lt⟩
      · obtain rfl := List.mem_singleton.1 new
        exact ⟨_, number, Nat.lt_succ_self _⟩

/-- A log of fewer records keeps room and order. -/
theorem Blg.Roomy.fewer {g : Blg} (h : g.Roomy) {log : List Session} (less : log.length ≤ g.log.length)
    (sub : log.Sublist g.log) : ({ g with log := log } : Blg).Roomy := by
  obtain ⟨⟨places, numbers⟩, order, below⟩ := h
  exact ⟨⟨(Nat.add_le_add_left less g.taken).trans places, numbers⟩, order.sublist (sub.map _),
    fun r hr => below r (sub.subset hr)⟩

/-- Slots all freed keep room and order. -/
theorem Blg.Roomy.warm {g : Blg} (h : g.Roomy) : g.warm.Roomy := by
  obtain ⟨⟨places, numbers⟩, order⟩ := h
  have none : g.warm.taken = 0 := by simp [Blg.taken, Blg.warm]
  have places : g.taken + g.log.length ≤ Config.billingPlaces := places
  refine ⟨⟨?_, ?_⟩, order⟩
  · show g.warm.taken + g.log.length ≤ _
    omega
  · show g.counter + g.warm.taken ≤ _
    omega

/-- R141, R149: the sums and the bands, of BLG alone. -/
def Blg.AddsUp (g : Blg) : Prop :=
  g.BandsNamed ∧ (∀ (b : Berth) r, g.slots[b] = .openSlot r → r.addsUp) ∧ ∀ r ∈ g.log, r.addsUp

/-- A slot that gets no session, or one that adds up, keeps the sums. -/
theorem Blg.AddsUp.upd {g : Blg} (h : g.AddsUp) (b : Berth) (y : Slot) (new : ∀ r, y = .openSlot r → r.addsUp) :
    ∀ (c : Berth) r, (upd g.slots b fun _ => y)[c] = .openSlot r → r.addsUp := by
  intro c r held
  by_cases e : b = c
  · subst e
    exact new r (by simpa using held)
  · exact h.2.1 c r (by rw [← held]; exact (upd_other _ _ e).symm)

/-- R141: a set's bound count has no say in its schedule. -/
theorem Blg.BandsNamed.bound {g : Blg} (h : g.BandsNamed) (i : Fin 4) (f : Nat → Nat) :
    ∀ j : Fin 4, ∀ e ∈ (upd g.sets i fun t => { t with bound := f t.bound })[j].schedule, e.2 ≤ 3 := by
  intro j e mem
  by_cases same : i = j
  · subst same
    exact h i e (by simpa using mem)
  · have other : (upd g.sets i fun t => { t with bound := f t.bound })[j] = g.sets[j] := upd_other _ _ same
    exact h j e (other ▸ mem)

theorem Blg.Next.addsUp {g h : Blg} (n : g.Next h) (sums : g.AddsUp) : h.AddsUp := by
  have ⟨named, sessions, log⟩ := sums
  cases n with
  | flag v => exact sums
  | current c loaded unused => exact sums
  | tariffs v bound new loaded => exact ⟨new named, sessions, log⟩
  | reserved b free check tariff => exact ⟨named, sums.upd b _ (by simp), log⟩
  | freed b held => exact ⟨named, sums.upd b _ (by simp), log⟩
  | opened b r held new => exact ⟨named.bound r.set (· + 1), sums.upd b _ (by simpa using new), log⟩
  | counted b r r' held set adds =>
    exact ⟨named, sums.upd b _ (by simpa using adds named (sessions b r held)), log⟩
  | closed b r r' held number adds =>
    refine ⟨named.bound r.set (· - 1), sums.upd b _ (by simp), fun x hx => ?_⟩
    obtain old | new := List.mem_append.1 hx
    · exact log x old
    · exact List.mem_singleton.1 new ▸ adds (sessions b r held)

theorem Blg.cold_roomy : Blg.cold.Roomy := by simp [Blg.Roomy, Blg.cold, Blg.sum, Blg.taken]

theorem Blg.cold_addsUp : Blg.cold.AddsUp := by
  refine ⟨fun i x hx => ?_, fun b r held => ?_, by simp [Blg.cold]⟩
  · simp [Blg.cold, TariffSet.empty] at hx
  · simp [Blg.cold] at held

end
end Sys2Proof.Machine
end

section
namespace Sys2Proof.Machine

/-! ### The log only grows (R152) -/

section
variable {s t : State}

/-- The kinds of the requests that remove records (R152, R189). -/
def MguReq.keepsLog (q : MguReq) : Prop := q.kind.toNat ≠ 11 ∧ q.kind.toNat ≠ 19

theorem exactly_eq {n : Nat} {r x : Request} {p : List Byte} (e : exactly n r p = some x) : r = x := by
  unfold exactly at e
  split at e
  · exact Option.some.inj e
  · cases e

theorem parseCoded_eq {mk : CodeId → Code → Request} {p : List Byte} {r : Request} (e : parseCoded mk p = some r) :
    ∃ i code, r = mk i code := by
  unfold parseCoded at e
  split at e
  · obtain ⟨i, -, rfl⟩ := Option.map_eq_some_iff.mp e
    exact ⟨_, _, rfl⟩
  · cases e

/-- R173: only a request of one of these kinds removes records. -/
theorem parseRequest_keepsLog {q : MguReq} {r : Request} (h : q.keepsLog) (e : parseRequest q.kind.toNat q.params = some r) :
    (∀ n, r ≠ .logRemove n) ∧ ∀ i code, r ≠ .billingClear i code := by
  obtain ⟨notRemove, notClear⟩ := h
  unfold parseRequest at e
  split at e
  case h_1 =>
    unfold parseRead at e
    split at e
    · obtain ⟨t, -, rfl⟩ := Option.map_eq_some_iff.mp e
      simp
    · cases e
  case h_2 =>
    unfold parseWrite at e
    split at e
    · cases e
    split at e
    · cases e
    · obtain ⟨es, -, rfl⟩ := Option.map_eq_some_iff.mp e
      simp
  case h_11 is => exact absurd is notRemove
  case h_19 is => exact absurd is notClear
  case h_13 =>
    obtain ⟨i, code, rfl⟩ := parseCoded_eq e
    simp
  case h_15 =>
    unfold parseSetCode at e
    split at e <;> cases e <;> simp
  case h_21 => cases e
  all_goals
    obtain rfl := exactly_eq e
    simp

/-- The log is `log` with records appended. -/
def Blg.Grown (log : List Session) (g : Blg) : Prop := ∃ more, g.log = log ++ more

theorem Blg.Next.grown {log : List Session} {g h : Blg} (n : g.Next h) (grown : g.Grown log) : h.Grown log := by
  obtain ⟨more, e⟩ := grown
  cases n with
  | closed b r r' held number adds => exact ⟨more ++ [r'], by simp [e]⟩
  | _ => exact ⟨more, e⟩

theorem Blg.Grown.warm {log : List Session} {g : Blg} (h : g.Grown log) : g.warm.Grown log := h

theorem supplyCloses_grown {log : List Session} (s : State) (h : s.blg.Grown log) : (supplyCloses s).blg.Grown log :=
  (supplyCloses_moves s).keeps (fun _ _ n => n.grown) h

/-- The requests queued are among `qs`. -/
theorem queue_stays (qs : List MguReq) : Lasts fun s => s.mgu.queue ⊆ qs where
  modMgu g s queue _ h := by
    show (g s.mgu).queue ⊆ qs
    rwa [queue]

theorem queue_service (qs : List MguReq) (r : Request) (formed : r.formed) : Performs (fun s => s.mgu.queue ⊆ qs) r :=
  perform_stays (queue_stays qs).toStays (queue_stays qs).sequence {} (queue_stays qs).toMarks (queue_stays qs).performBerth formed
    (fun _ _ _ s h => performRestart_stays (queue_stays qs).toStays (queue_stays qs).sequence (fun _ => List.nil_subset qs) (by simp) h)
    (fun n _ _ _ s h => by simpa [perform] using h) (fun i code _ _ prep s h => by simpa [perform, ofOwner] using h)

theorem serve_queue (q : MguReq) (s : State) : (serve q s).2.mgu.queue ⊆ s.mgu.queue :=
  serve_lasts ((queue_stays _).work {}) q (fun r e => queue_service _ r (parseRequest_formed e)) (List.Subset.refl _)

theorem enterParts_queue (q : MguReq) (ds : List (List Byte)) (s : State) : (enterParts q ds s).mgu.queue = s.mgu.queue := by
  induction ds generalizing s with
  | nil => rfl
  | cons d ds ih =>
    unfold enterParts
    split
    · simp [ih]
    · rfl

theorem endService_queue (s : State) : (endService s).mgu.queue ⊆ s.mgu.queue := by
  unfold endService
  split
  · exact List.drop_subset 1 s.mgu.queue
  · exact List.Subset.refl _

theorem serveHead_queue (q : MguReq) (s : State) : (serveHead q s).mgu.queue ⊆ s.mgu.queue := by
  refine List.Subset.trans (endService_queue _) ?_
  rw [enterParts_queue]
  simpa using serve_queue q s

/-- R172: serving requests that remove no record only makes the log grow. -/
theorem serveHead_grown {log : List Session} {q : MguReq} (keeps : q.keepsLog) (h : s.blg.Grown log) :
    (serveHead q s).blg.Grown log := by
  have k : Lasts fun s => s.blg.Grown log := billing_stays fun _ _ n => n.grown
  have served : (serve q s).2.blg.Grown log := serve_lasts (k.work {}) q (fun r e => by
    obtain ⟨notRemove, notClear⟩ := parseRequest_keepsLog keeps e
    refine perform_stays k.toStays k.sequence {} k.toMarks k.performBerth (parseRequest_formed e)
      (fun _ _ _ s h => performRestart_stays k.toStays k.sequence (fun _ => ?_) (by simp) h)
      (fun n is => absurd is (notRemove n)) (fun i code is => absurd is (notClear i code))
    exact (supplyCloses_grown (discardResidues s) h).warm) h
  have drained := drain_lasts (k.work {}) Config.settleFuel served
  simpa [serveHead, enterAnswer] using drained

theorem serveAll_grown {log : List Session} (n : Nat) (keeps : ∀ q ∈ s.mgu.queue, q.keepsLog) (h : s.blg.Grown log) :
    (serveAll n s).blg.Grown log := by
  induction n generalizing s with
  | zero => exact h
  | succ n ih =>
    unfold serveAll
    split
    · exact h
    next q rest e =>
      split
      · exact ih (fun x hx => keeps x (serveHead_queue q s hx))
          (serveHead_grown (keeps q (e ▸ List.mem_cons_self)) h)
      · exact h

theorem arrive_grown {log : List Session} {q : MguReq} (keeps : q.keepsLog) (h : s.blg.Grown log) :
    (arrive q s).blg.Grown log := by
  unfold arrive
  split
  · dsimp only
    split
    next empty =>
      refine serveAll_grown _ (fun x hx => ?_) (by simpa using h)
      rw [List.isEmpty_iff] at empty
      obtain rfl : x = q := by simpa [empty] using hx
      exact keeps
    · simpa using h
  · unfold refuseArrival
    split
    · simpa using h
    · simpa using h

end
end Sys2Proof.Machine
end

section
open Sys2Proof Sys2Proof.Machine

/-- Settles O5: BLG moves by eight kinds of change, each of which keeps room, order and sums and appends to the log at
most; of what is left, the removals and the resets keep room, order and sums too. -/
theorem billingKept : Obligations.BillingKept := by
  refine ⟨fun s t room ordered e => ?_, fun s t sums e => ?_, fun c s t cold frame arrival part remove clear e => ?_⟩
  · refine billing_step (Q := Blg.Roomy) (fun _ _ n => n.roomy) ?_ (fun g _ h => ?_) (fun g r rest log h => ?_)
      (fun g h => ?_) ⟨room, ordered⟩ e
    · exact Blg.cold_roomy
    · exact h.warm
    · exact h.fewer (by simp [log]) (List.sublist_cons_self r rest |>.trans (by rw [log]))
    · exact h.fewer (by simp) (List.nil_sublist _)
  · refine billing_step (Q := Blg.AddsUp) (fun _ _ n => n.addsUp) ?_ (fun g _ h => ?_) (fun g r rest log h => ?_)
      (fun g h => ?_) sums e
    · exact Blg.cold_addsUp
    · refine ⟨h.1, fun b r held => ?_, h.2.2⟩
      simp [Blg.warm] at held
    · exact ⟨h.1, h.2.1, fun x hx => h.2.2 x (log ▸ List.mem_cons_of_mem _ hx)⟩
    · exact ⟨h.1, h.2.1, by simp⟩
  · have k : Lasts fun u => u.blg.Grown s.blg.log := billing_stays fun _ _ n => n.grown
    have warm : ∀ nid opn bln loss reset u, u.blg.Grown s.blg.log →
        (warmReset nid opn bln loss reset u).blg.Grown s.blg.log := fun nid opn bln loss reset u h =>
      warmReset_stays k.toStays k.sequence (supplyCloses_grown (discardResidues (passTicks loss u)) h).warm
    have start : s.blg.Grown s.blg.log := ⟨[], (List.append_nil _).symm⟩
    have z : Ends (fun u => u.blg.Grown s.blg.log) (fun u => u.blg.Grown s.blg.log) :=
      ⟨fun _ h => h, fun _ => settle_lasts (k.work {}), k.bstaTaken⟩
    refine exec_ends (k.work {}) z (fun _ _ _ is => absurd is (cold _ _ _))
      (fun nid opn bln loss reset _ => warm nid opn bln loss reset)
      (fun _ is => absurd is (frame _)) (fun is => absurd is part) (fun _ _ is => absurd is (arrival _ _)) ?_
      start e
    intro src tag kind params small removes clears u h
    unfold consumeMreq checked
    split
    · simpa using h
    split
    · simpa using h
    next q e =>
      split at e
      · obtain rfl := Option.some.inj e
        beta_reduce
        rw [requestOf_eq]
        have read : (BitVec.ofNat 8 kind).toNat = kind := by simpa using Nat.mod_eq_of_lt small
        refine arrive_grown ⟨fun is => ?_, fun is => ?_⟩ h
        · obtain ⟨n, rfl⟩ := removes (read ▸ is)
          exact remove _ _ _ rfl
        · obtain ⟨i, code, rfl⟩ := clears (read ▸ is)
          exact clear _ _ _ _ rfl
      · cases e

end

section
namespace Sys2Proof.Machine

/-! ### The event holds (R162) -/

/-- A property that `Lasts` and `Notes` have, and that holds after each kind of reset, outlasts every step. -/
theorem Lasts.outlasts {P : State → Prop} (k : Lasts P) (x : Notes P) (v : Service P)
    (cold : ∀ nid opn bln s, P s → P (.coldWith s.pins nid opn bln s.now s.overrun s.pending))
    (warm : ∀ nid opn bln loss reset s, P s → P (setInterval
      ((warmBlocks nid opn bln (passTicks reset (supplyCloses (discardResidues (passTicks loss s))))).modMlk Mlk.warm)))
    (now : ∀ s n, P s → P { s with now := n } := by simp)
    (pending : ∀ s cs, P s → P { s with pending := cs } := by simp) {s t : State} (h : P s) (e : step s = .next t) : P t :=
  step_lasts (k.work x) v (fun nid opn bln u h => coldReset_stays k.toStays k.sequence (cold nid opn bln u h))
    (fun nid opn bln loss reset u h => warmReset_stays k.toStays k.sequence (warm nid opn bln loss reset u h)) now pending h e k.bstaTaken

section
variable {s : State}

/-- R162: BSQ has been handed EVR's hold of every berth. -/
def HoldsHanded (v : Evr) (q : Bsq) : Prop := ∀ b : Berth, q.recs[b].eventHold = v.holds[b]

/-- R162: EVR's hold of berth `b` is what the table gives. -/
def Evr.holdCurrent (v : Evr) (b : Berth) : Prop := v.holds[b] = eventHold v.entries b

/-- R162, of the two blocks alone. -/
def HoldsAgree (v : Evr) (q : Bsq) : Prop := ∀ b : Berth, v.holdCurrent b ∧ q.recs[b].eventHold = v.holds[b]

/-- R162: a flag recomputed is current and handed over, and the others stay as they are. -/
theorem recomputeHold_current (b : Berth) (handed : HoldsHanded s.evr s.bsq) :
    HoldsHanded (recomputeHold b s).evr (recomputeHold b s).bsq ∧
      ∀ c, c = b ∨ s.evr.holdCurrent c → (recomputeHold b s).evr.holdCurrent c := by
  unfold recomputeHold
  dsimp only
  split
  next same =>
    refine ⟨handed, ?_⟩
    rintro c (rfl | current)
    · exact same
    · exact current
  · refine ⟨fun c => ?_, fun c current => ?_⟩
    · by_cases e : b = c
      · subst e
        simp [setEventHold, syncTimer_eventHold]
      · have flag : (upd s.evr.holds b fun _ => eventHold s.evr.entries b)[c] = s.evr.holds[c] := upd_other _ _ e
        have kept : ∀ f, (upd s.bsq.recs b f)[c].eventHold = s.bsq.recs[c].eventHold := fun f =>
          congrArg BerthRec.eventHold (upd_other _ _ e)
        exact (kept _).trans ((handed c).trans flag.symm)
    · by_cases e : b = c
      · subst e
        simp [setEventHold, Evr.holdCurrent]
      · have old : s.evr.holdCurrent c := current.resolve_left (Ne.symm e)
        have flag : (upd s.evr.holds b fun _ => eventHold s.evr.entries b)[c] = s.evr.holds[c] := upd_other _ _ e
        exact flag.trans old

/-- R162: after a recomputation every hold is current and handed over. -/
theorem recomputeHolds_agree (handed : HoldsHanded s.evr s.bsq) :
    HoldsAgree (recomputeHolds s).evr (recomputeHolds s).bsq := by
  have run : ∀ (bs : List Berth) (s : State), HoldsHanded s.evr s.bsq →
      let t := bs.foldl (fun s b => recomputeHold b s) s
      HoldsHanded t.evr t.bsq ∧ ∀ c, c ∈ bs ∨ s.evr.holdCurrent c → t.evr.holdCurrent c := by
    intro bs
    induction bs with
    | nil => exact fun s h => ⟨h, fun c current => current.resolve_left List.not_mem_nil⟩
    | cons b bs ih =>
      intro s h
      obtain ⟨handed, current⟩ := recomputeHold_current b h
      obtain ⟨handed, later⟩ := ih _ handed
      refine ⟨handed, fun c old => later c ?_⟩
      obtain mem | was := old
      · obtain rfl | mem := List.mem_cons.1 mem
        · exact .inr (current c (.inl rfl))
        · exact .inl mem
      · exact .inr (current c (.inr was))
  obtain ⟨handed, current⟩ := run allBerths s handed
  exact fun b => ⟨current b (.inl (mem_allBerths b)), handed b⟩

/-- A change of entries that leaves what each berth's entries hold keeps the table's hold. -/
theorem eventHold_congr {x y : Vector EventEntry 100} {b : Berth}
    (h : ∀ e : EventIx, holdsBerth x[e] e b = holdsBerth y[e] e b) : eventHold x b = eventHold y b := by
  unfold eventHold
  congr 1
  exact funext fun e => h e

theorem holdsAgree_stays : Lasts fun s => HoldsAgree s.evr s.bsq where
  modBerth b g s same h c := by
    obtain ⟨current, handed⟩ := h c
    refine ⟨current, ?_⟩
    by_cases e : b = c
    · subst e
      show (upd s.bsq.recs b g)[b.val].eventHold = _
      rw [upd_self, same]
      exact handed
    · have other : (upd s.bsq.recs b g)[c] = s.bsq.recs[c] := upd_other _ _ e
      show (upd s.bsq.recs b g)[c].eventHold = _
      rw [other]
      exact handed
  modBsq g s same h c := by
    show _ ∧ (g s.bsq).recs[c].eventHold = _
    rw [same]
    exact h c
  outputs _ _ h := h
  modEntry e g s same _ h b := by
    obtain ⟨current, handed⟩ := h b
    refine ⟨current.trans (eventHold_congr fun f => ?_).symm, handed⟩
    by_cases is : e = f
    · subst is
      show holdsBerth (upd s.evr.entries e g)[e.val] e b = _
      rw [upd_self]
      exact same b
    · show holdsBerth (upd s.evr.entries e g)[f] f b = _
      rw [show (upd s.evr.entries e g)[f] = s.evr.entries[f] from upd_other _ _ is]
  recomputed _ _ _ h := recomputeHolds_agree fun b => (h b).2

theorem holdsAgree_notes : Notes fun s => HoldsAgree s.evr s.bsq where
  noted e g s _ h := recomputeHolds_agree (s := giveNotes e (s.modEntry e g)) fun b => by simpa using (h b).2
  applyEvents first es s h := by
    refine recomputeHolds_agree fun b => ?_
    have evr : ∀ (u : State) (old : EventIx → EventEntry) (xs : List EventIx),
        (xs.foldl (fun s1 e => eventWritten (old e) e s1) u).evr = u.evr := by simp
    have bsq : ∀ (u : State) (old : EventIx → EventEntry) (xs : List EventIx),
        (xs.foldl (fun s1 e => eventWritten (old e) e s1) u).bsq = u.bsq := by simp
    rw [evr, bsq]
    exact (h b).2

theorem eventHold_clear (x : Vector EventEntry 100) (b : Berth) (none : ∀ e : EventIx, x[e].raw = false) :
    eventHold x b = false := by
  have none (e : EventIx) : x[e.val].raw = false := none e
  simp [eventHold, holdsBerth, none]

theorem holdsAgree_cold : HoldsAgree .cold .cold := fun b => by
  refine ⟨?_, ?_⟩
  · simp [Evr.holdCurrent, Evr.cold, eventHold_clear, EventEntry.cold]
  · simp [Bsq.cold, Evr.cold, BerthRec.cleared]

theorem holdsAgree_warm (v : Evr) (q : Bsq) : HoldsAgree v.warm q.warm := fun b => by
  refine ⟨?_, ?_⟩
  · simp [Evr.holdCurrent, Evr.warm, Evr.cold, eventHold_clear]
  · simp [Bsq.warm, Evr.warm, Evr.cold, BerthRec.cleared]

end
end Sys2Proof.Machine
end

section
open Sys2Proof Sys2Proof.Machine

/-- Settles O12: whatever changes an entry so that it may hold another berth recomputes the four flags, and a flag that
changes is handed to BSQ. -/
theorem holdsCurrentKept : Obligations.HoldsCurrentKept := by
  intro s t h e
  exact holdsAgree_stays.outlasts holdsAgree_notes
    (holdsAgree_stays.service holdsAgree_notes {} fun s _ _ => holdsAgree_warm _ _)
    (fun _ _ _ _ _ => holdsAgree_cold) (fun _ _ _ _ _ s _ => holdsAgree_warm _ _) (fun _ _ h => h) (fun _ _ h => h) h e

end

section
namespace Sys2Proof.Machine

/-! ### The meter's ranges (chapter 7) -/

/-- R125, R131: the residues and the remainder of one metering record. -/
def MeterRec.InRange (r : MeterRec) : Prop :=
  r.importResidue < Config.wattHour ∧ r.returnedResidue < Config.wattHour ∧ r.unmeteredRem < 1000

/-- R129, R131: the unbilled registers of one berth. -/
def Unbilled.Fits (u : Unbilled) : Prop :=
  u.importWh ≤ Config.u64Max ∧ u.returnedWh ≤ Config.u64Max ∧ u.unmeteredMs ≤ Config.u64Max

/-- R125, R131, R132, R137: the meter's ranges but for the running interval. -/
structure Mtr.InRange (m : Mtr) : Prop where
  recs : ∀ b : Berth, m.recs[b].InRange
  unbilled : ∀ b : Berth, m.unbilled[b].Fits
  day : m.day ≤ 65535
  second : m.second ≤ 86399
  demandS : m.demandS ∈ [300, 600, 900, 1800, 3600]

/-- R134, R135: the running interval contains the second of day, unless its end is due. -/
def Mtr.IntervalRuns (m : Mtr) : Prop :=
  (m.endDue = true → m.second % m.demandS = 0) ∧
    (m.endDue = false → m.intervalStart = m.second / m.demandS * m.demandS ∧
      m.intervalEnd = (m.second / m.demandS * m.demandS + m.demandS) % 86400)

/-- The meter's ranges, of MTR alone. -/
def Mtr.Sound (m : Mtr) : Prop := m.InRange ∧ m.IntervalRuns

theorem meterSound_iff (s : State) : MeterSound s ↔ s.mtr.Sound := by
  constructor
  · rintro ⟨recs, unbilled, day, second, demandS, due, runs⟩
    exact ⟨⟨recs, unbilled, day, second, demandS⟩, due, runs⟩
  · rintro ⟨⟨recs, unbilled, day, second, demandS⟩, due, runs⟩
    exact ⟨recs, unbilled, day, second, demandS, due, runs⟩

theorem forall_upd {α : Type} {n : Nat} {p : α → Prop} {v : Vector α n} (h : ∀ j : Fin n, p v[j]) (i : Fin n) {f : α → α}
    (hf : p v[i] → p (f v[i])) : ∀ j : Fin n, p (upd v i f)[j] := by
  intro j
  by_cases e : i = j
  · subst e
    show p (upd v i f)[i.val]
    rw [upd_self]
    exact hf (h i)
  · rw [show (upd v i f)[j] = v[j] from upd_other v f e]
    exact h j

theorem Mtr.Sound.record {m : Mtr} (h : m.Sound) (b : Berth) {g : MeterRec → MeterRec}
    (hg : m.recs[b].InRange → (g m.recs[b]).InRange) : ({ m with recs := upd m.recs b g } : Mtr).Sound :=
  ⟨{ h.1 with recs := forall_upd h.1.recs b hg }, h.2⟩

theorem Mtr.Sound.register {m : Mtr} (h : m.Sound) (b : Berth) {g : Unbilled → Unbilled}
    (hg : m.unbilled[b].Fits → (g m.unbilled[b]).Fits) : ({ m with unbilled := upd m.unbilled b g } : Mtr).Sound :=
  ⟨{ h.1 with unbilled := forall_upd h.1.unbilled b hg }, h.2⟩

section
variable {s : State}

/-- R134: an interval set from the clock contains the second of day. -/
theorem setInterval_sound (h : s.mtr.InRange) : (setInterval s).mtr.Sound :=
  ⟨{ h with }, fun due => absurd due (by simp [setInterval]), fun _ => ⟨rfl, rfl⟩⟩

/-! ### Sessions and watt-hours -/

theorem openSession_sound (b : Berth) (h : s.mtr.Sound) : (openSession b s).mtr.Sound := by
  unfold openSession
  split
  · exact h.record b id
  · exact h

/-- R136, R150: a close leaves the meter as it is, but for the demand accumulator. -/
theorem closeSession_mtr (b : Berth) (why : EndReason) (s : State) :
    (closeSession b why s).mtr = s.mtr ∨
      (closeSession b why s).mtr = { s.mtr with recs := upd s.mtr.recs b fun m => { m with demandAcc := 0 } } := by
  unfold closeSession
  split
  · exact .inr (by simp [unbindSet])
  · exact .inl rfl

theorem closeSession_sound (b : Berth) (why : EndReason) (h : s.mtr.Sound) : (closeSession b why s).mtr.Sound := by
  obtain e | e := closeSession_mtr b why s
  · rwa [e]
  · rw [e]
    exact h.record b id

theorem supplyCloses_inRange (h : s.mtr.InRange) : (supplyCloses s).mtr.InRange :=
  foldl_stays (P := fun s => s.mtr.InRange) (fun t b h => by
    obtain e | e := closeSession_mtr b .supply t
    · rwa [e]
    · rw [e]
      exact { h with recs := forall_upd h.recs b id }) _ h

theorem satAdd_le (max n k : Nat) : satAdd max n k ≤ max := Nat.min_le_right _ _

theorem carryImport_sound (b : Berth) (wh : Nat) (h : s.mtr.Sound) : (carryImport b wh s).mtr.Sound := by
  unfold carryImport
  split
  · exact h
  split
  · exact h.record b id
  · exact h.register b fun u => ⟨satAdd_le _ _ _, u.2⟩

theorem carryReturned_sound (b : Berth) (wh : Nat) (h : s.mtr.Sound) : (carryReturned b wh s).mtr.Sound := by
  unfold carryReturned
  split
  · exact h
  · exact h.register b fun u => ⟨u.1, satAdd_le _ _ _, u.2.2⟩

theorem carryUnmetered_sound (b : Berth) (ms : Nat) (h : s.mtr.Sound) : (carryUnmetered b ms s).mtr.Sound := by
  unfold carryUnmetered
  split
  · exact h
  · exact h.register b fun u => ⟨u.1, u.2.1, satAdd_le _ _ _⟩

theorem addUnmetered_sound (b : Berth) (us : Nat) (h : s.mtr.Sound) : (addUnmetered b us s).mtr.Sound := by
  unfold addUnmetered
  exact carryUnmetered_sound b _ (s := s.modMeter b _)
    (h.record b fun r => ⟨r.1, r.2.1, Nat.mod_lt _ (by omega)⟩)

theorem integrate_sound (b : Berth) (inc : Int) (h : s.mtr.Sound) : (integrate b inc s).mtr.Sound := by
  unfold integrate
  exact carryReturned_sound b _ (carryImport_sound b _ (s := s.modMeter b _)
    (h.record b fun r => ⟨Nat.mod_lt _ (by decide), Nat.mod_lt _ (by decide), r.2.2⟩))

theorem meterRecord_sound (b : Berth) (r : RevenueRecord) (h : s.mtr.Sound) : (meterRecord b r s).mtr.Sound := by
  have worked : (meterWork b r (meterCase s.mtr.recs[b].baseline s.mtr.gapLimit r) s).mtr.Sound := by
    generalize meterCase s.mtr.recs[b].baseline s.mtr.gapLimit r = c
    cases c with
    | start => exact h
    | restart =>
      unfold meterWork
      dsimp only
      split
      · exact h.record b id
      · exact (addUnmetered_sound b _ h).record b id
    | backward => exact h.record b id
    | gap dt =>
      unfold meterWork
      exact addUnmetered_sound b _ (integrate_sound b _ (s := s.modMeter b _) (h.record b id))
    | normal dt => exact integrate_sound b _ h
  exact worked.record b id

/-! ### The clock and the intervals -/

theorem handDemand_sound (h : s.mtr.Sound) : (handDemand s).mtr.Sound :=
  foldl_stays (P := fun s => s.mtr.Sound) (fun t b h => by
    unfold intervalEndBerth
    split
    · exact h.record b id
    · exact h) _ h

theorem intervalEndTaken_sound (h : s.mtr.Sound) : (intervalEndTaken s).mtr.Sound := by
  unfold intervalEndTaken
  split
  · exact setInterval_sound (handDemand_sound h).1
  · exact h

theorem clockSetTaken_sound {day second : Nat} (hd : day ≤ 65535) (hs : second ≤ 86399) (h : s.mtr.Sound) :
    (clockSetTaken day second s).mtr.Sound := by
  have handed := (handDemand_sound h).1
  exact setInterval_sound { handed with day := hd, second := hs }

theorem demandOf_mem {code d : Nat} (h : demandOf? code = some d) : d ∈ [300, 600, 900, 1800, 3600] := by
  unfold demandOf? at h
  split at h <;> cases h <;> simp

theorem meteringTaken_sound (gap : Nat) {d : Nat} (length : d ∈ [300, 600, 900, 1800, 3600]) (h : s.mtr.Sound) :
    (meteringTaken gap d s).mtr.Sound := by
  have handed := (handDemand_sound h).1
  have gapOnly : ({ s.mtr with gapLimit := gap } : Mtr).Sound := ⟨{ h.1 with }, h.2⟩
  have changed : ({ (handDemand s).mtr with gapLimit := gap, demandS := d } : Mtr).InRange :=
    { handed with demandS := length }
  unfold meteringTaken
  split
  · exact gapOnly
  · exact setInterval_sound changed

theorem demandLength_mem (code : Nat) (h : s.mtr.Sound) :
    (demandOf? code).getD s.mtr.demandS ∈ [300, 600, 900, 1800, 3600] := by
  cases e : demandOf? code with
  | none => exact h.1.demandS
  | some d => exact demandOf_mem e

theorem advanceClock_inRange {m : Mtr} (n : Nat) (h : m.InRange) : (m.advanceClock n).InRange :=
  { h with
    day := by simp only [Mtr.advanceClock]; omega
    second := by simp only [Mtr.advanceClock]; omega }

/-- R132, R135: a tick within an interval stays in it; one that ends it makes its end due. -/
theorem ticked_sound {m : Mtr} (due : Nat) (h : m.Sound) (notDue : m.endDue = false) :
    ({ m.advanceClock 1 with tickDue := due, endDue := (m.advanceClock 1).second % m.demandS = 0 } : Mtr).Sound := by
  have range := h.1
  obtain ⟨start, stop⟩ := h.2.2 notDue
  refine ⟨{ advanceClock_inRange 1 range with }, of_decide_eq_true, fun runs => ?_⟩
  have second := range.second
  have within : (m.second + 1) % 86400 % m.demandS ≠ 0 := of_decide_eq_false runs
  have same : (m.second + 1) % 86400 / m.demandS = m.second / m.demandS := by
    have lengths := range.demandS
    simp only [List.mem_cons, List.not_mem_nil, or_false] at lengths
    obtain e | e | e | e | e := lengths <;> rw [e] at within ⊢ <;> omega
  simp only [Mtr.advanceClock, same]
  exact ⟨start, stop⟩

theorem meterSound_stays : Lasts fun s => s.mtr.Sound where
  openSession b _ := openSession_sound b
  closeSession b why _ := closeSession_sound b why
  meterRecord b r _ := meterRecord_sound b r
  ticked _ notDue h := ticked_sound _ h notDue
  intervalEndTaken _ := intervalEndTaken_sound
  clockSetTaken _ _ _ hd hs := clockSetTaken_sound hd hs
  meteringTaken gap code _ h := meteringTaken_sound gap (demandLength_mem code h) h

theorem Mtr.cold_sound (now : Nat) : (Mtr.cold now).Sound :=
  ⟨⟨fun b => by simp [Mtr.cold, MeterRec.cold, MeterRec.InRange, Config.wattHour],
    fun b => by simp [Mtr.cold, Unbilled.Fits], by simp [Mtr.cold], by simp [Mtr.cold], by simp [Mtr.cold]⟩,
    by simp [Mtr.cold], by simp [Mtr.cold]⟩

end
end Sys2Proof.Machine
end

section
open Sys2Proof Sys2Proof.Machine

/-- Settles O13: every change of a metering record, a register or the clock stays in range, and an interval is set anew
wherever the second of day leaves it. -/
theorem meterSoundKept : Obligations.MeterSoundKept := by
  have cleared : Removals fun s => s.mtr.Sound := {
    billingClearReq := fun prep i code s h => by
      have mismatch : (codeMismatch s).2.mtr.Sound := by simpa using h
      have taken : (billingClearTaken s).mtr.Sound := by
        have emptied : (billingClearTaken s).mtr = { s.mtr with unbilled := Vector.replicate 4 ⟨0, 0, 0⟩ } := by
          simp [billingClearTaken, zeroUnbilled, emptyLog]
        rw [emptied]
        exact ⟨{ h.1 with unbilled := fun b => by simp [Unbilled.Fits] }, h.2⟩
      unfold billingClearReq judged billingClearOwn
      repeat' split
      all_goals assumption }
  have k := meterSound_stays
  have closed : ∀ s : State, s.mtr.InRange → (supplyCloses (discardResidues s)).mtr.InRange := fun s h =>
    supplyCloses_inRange { h with recs := fun b => by simp [MeterRec.InRange, discardResidues] }
  have ticks : ∀ (n : Nat) (s : State), s.mtr.InRange → (passTicks n s).mtr.InRange := fun n s h =>
    { advanceClock_inRange n h with }
  have warm : ∀ m : Mtr, m.InRange → m.warm.InRange := fun m h =>
    { h with recs := fun b => by simp [Mtr.warm, MeterRec.cold, MeterRec.InRange, Config.wattHour] }
  intro s t h e
  refine (meterSound_iff t).2 (k.outlasts {} (k.service {} cleared fun u _ h => ?_)
    (fun _ _ _ _ _ => Mtr.cold_sound _) (fun nid opn bln loss reset u h => ?_) (fun _ _ h => h) (fun _ _ h => h)
    ((meterSound_iff s).1 h) e)
  · exact setInterval_sound (warm _ (closed u h.1))
  · exact setInterval_sound (warm _ (ticks reset _ (closed _ (ticks loss u h.1))))

end

section
namespace Sys2Proof.Machine

/-! ### The LPU's queues (R8, R10 to R14) -/

/-- R8, R10, R11: the queues within their places, of the LPU alone. -/
structure Lpu.Fits (l : Lpu) : Prop where
  forward : l.forward.length ≤ Config.forwardPlaces
  protect : l.protect.length ≤ Config.protectPlaces
  list : l.commandList = [] ∨ l.protect.length = Config.protectPlaces
  once : ((l.protect ++ l.commandList).map fun c => c.target).Nodup
  control : l.control.length ≤ Config.controlPlaces
  setp : ∀ m, l.control.countP (ControlPlace.isSetpFor m) ≤ 1

theorem linkBounds_iff (s : State) : LinkBounds s ↔ s.lpu.Fits :=
  ⟨fun ⟨a, b, c, d, e, f⟩ => ⟨a, b, c, d, e, f⟩, fun ⟨a, b, c, d, e, f⟩ => ⟨a, b, c, d, e, f⟩⟩

/-- R14: what egress does to the queues as it begins a frame, or finds none. -/
structure Lpu.Begins (l l' : Lpu) : Prop where
  forward : l'.forward.Sublist l.forward
  control : l'.control.Sublist l.control
  reply : l'.reply.Sublist l.reply
  reservations : l'.reservations = l.reservations
  commands : (l'.protect = l.protect ∧ l'.commandList = l.commandList) ∨
    ∃ c rest, l.protect = c :: rest ∧ l'.protect = rest ++ l.commandList.take 1 ∧
      l'.commandList = l.commandList.drop 1
  works : l'.sending ≠ none ∨ l' = l ∧ l.protect = [] ∧ l.control = [] ∧ l.forward = [] ∧ l.reply = []

section
variable {l l' : Lpu} {s : State}

theorem Lpu.Fits.begins (h : l.Fits) (b : l.Begins l') : l'.Fits := by
  obtain ⟨forward, protect, list, once, control, setp⟩ := h
  have others : l'.forward.length ≤ Config.forwardPlaces ∧ l'.control.length ≤ Config.controlPlaces ∧
      ∀ m, l'.control.countP (ControlPlace.isSetpFor m) ≤ 1 :=
    ⟨b.forward.length_le.trans forward, b.control.length_le.trans control,
      fun m => (b.control.countP_le).trans (setp m)⟩
  obtain ⟨e₁, e₂⟩ | ⟨c, rest, e, e₁, e₂⟩ := b.commands
  · exact ⟨others.1, e₁ ▸ protect, e₁ ▸ e₂ ▸ list, e₁ ▸ e₂ ▸ once, others.2.1, others.2.2⟩
  · rw [e] at protect list once
    have moved : l'.protect ++ l'.commandList = rest ++ l.commandList := by
      rw [e₁, e₂, List.append_assoc, List.take_append_drop]
    have sizes : l'.protect.length = rest.length + (l.commandList.take 1).length := by rw [e₁, List.length_append]
    simp only [List.length_cons] at protect list
    rw [List.length_take] at sizes
    refine ⟨others.1, by omega, ?_, ?_, others.2.1, others.2.2⟩
    · obtain none | full := list
      · exact .inl (by rw [e₂, none]; rfl)
      · by_cases none : l.commandList = []
        · exact .inl (by rw [e₂, none]; rfl)
        · have := List.length_pos_of_ne_nil none
          exact .inr (by omega)
    · rw [moved]
      exact (List.nodup_cons.1 once).2

theorem takePromoted_sublist {ps rest : List ControlPlace} {p : ControlPlace} (h : takePromoted ps = some (p, rest)) :
    rest.Sublist ps := by
  induction ps generalizing p rest with
  | nil => cases h
  | cons x xs ih =>
    unfold takePromoted at h
    split at h
    · cases h
      exact List.sublist_cons_self _ _
    · obtain ⟨⟨q, qs⟩, taken, e⟩ := Option.map_eq_some_iff.1 h
      cases e
      exact (ih taken).cons_cons _

theorem sendControl_lpu (p : ControlPlace) (rest : List ControlPlace) (s : State) :
    (sendControl p rest s).lpu.forward = s.lpu.forward ∧ (sendControl p rest s).lpu.control = rest ∧
      (sendControl p rest s).lpu.reply = s.lpu.reply ∧ (sendControl p rest s).lpu.reservations = s.lpu.reservations ∧
      (sendControl p rest s).lpu.protect = s.lpu.protect ∧ (sendControl p rest s).lpu.commandList = s.lpu.commandList ∧
      (sendControl p rest s).lpu.sending ≠ none := by
  simp [sendControl, sendOwn_eq, Lpu.begun]

/-- R14: the frame that egress begins leaves its queue. -/
theorem beginNext_begins (s : State) : s.lpu.Begins (beginNext s).lpu := by
  have controlBegun : ∀ {p rest}, rest.Sublist s.lpu.control → s.lpu.Begins (sendControl p rest s).lpu := by
    intro p rest sub
    obtain ⟨forward, control, reply, reservations, protect, list, sending⟩ := sendControl_lpu p rest s
    exact ⟨by rw [forward], by rw [control]; exact sub, by rw [reply], reservations, .inl ⟨protect, list⟩, .inl sending⟩
  unfold beginNext
  split
  next c rest e => exact ⟨.refl _, .refl _, .refl _, rfl, .inr ⟨c, rest, e, rfl, rfl⟩, .inl (by simp [sendProtect, sendOwn_eq, Lpu.begun])⟩
  next noCommand =>
    split
    next e => exact controlBegun (takePromoted_sublist e)
    split
    next e => exact ⟨e ▸ List.sublist_cons_self _ _, .refl _, .refl _, rfl, .inl ⟨rfl, rfl⟩, .inl (by simp [sendForward])⟩
    next noForward =>
      split
      next e => exact controlBegun (e ▸ List.sublist_cons_self _ _)
      next noControl =>
        split
        next e =>
          exact ⟨.refl _, .refl _, e ▸ List.sublist_cons_self _ _, rfl, .inl ⟨rfl, rfl⟩,
            .inl (by simp [sendReply, sendOwn_eq, Lpu.begun])⟩
        next noReply =>
          exact ⟨.refl _, .refl _, .refl _, rfl, .inl ⟨rfl, rfl⟩, .inr ⟨rfl, noCommand, noControl, noForward, noReply⟩⟩

/-- R8, R10, R11, R14, together. -/
def Lpu.Good (l : Lpu) : Prop := l.Fits ∧ l.Works

/-- R14: egress, free, begins what waits. -/
theorem beginNext_good (h : s.lpu.Fits) : (beginNext s).lpu.Good := by
  have b := beginNext_begins s
  refine ⟨h.begins b, fun free => ?_⟩
  obtain busy | ⟨same, protect, control, forward, reply⟩ := b.works
  · exact absurd free busy
  · rw [same]
    refine ⟨protect, h.list.resolve_right ?_, control, forward, reply⟩
    simp [protect]

/-- R14: a frame that enters a queue within its places waits behind no free egress. -/
theorem kick_good (h : s.lpu.Fits) : (kick s).lpu.Good := by
  unfold kick
  split
  · exact beginNext_good h
  next busy => exact ⟨h, fun free => absurd free (by simpa using busy)⟩

/-! ### Frames given -/

theorem replaceCmd_target (c : Bcmd) (xs : List Bcmd) :
    (replaceCmd c xs).map (fun c => c.target) = xs.map fun c => c.target := by
  unfold replaceCmd
  rw [List.map_map]
  refine List.map_congr_left fun x _ => ?_
  simp only [Function.comp_apply]
  split
  next e => exact e.symm
  · rfl

theorem replaceCmd_length (c : Bcmd) (xs : List Bcmd) : (replaceCmd c xs).length = xs.length := List.length_map _

theorem not_mem_of_hasCmd {t : Target} {xs : List Bcmd} (h : hasCmd t xs = false) : t ∉ xs.map fun c => c.target := by
  intro mem
  obtain ⟨x, hx, e⟩ := List.mem_map.1 mem
  simp only [hasCmd, List.any_eq_false, decide_eq_true_eq] at h
  exact h x hx e

theorem nodup_add {xs : List Bcmd} {c : Bcmd} (once : (xs.map fun c => c.target).Nodup)
    (new : c.target ∉ xs.map fun c => c.target) : ((xs ++ [c]).map fun c => c.target).Nodup := by
  rw [List.map_append]
  exact once.append (List.nodup_singleton _) (List.disjoint_singleton.2 new)

/-- R10: a command accepted keeps the places and stands for its breaker alone. -/
theorem Lpu.Fits.acceptCmd (h : l.Fits) (c : Bcmd) : (l.acceptCmd c).Fits := by
  obtain ⟨forward, protect, list, once, control, setp⟩ := h
  unfold Lpu.acceptCmd
  split
  · refine ⟨forward, ?_, ?_, ?_, control, setp⟩
    · simpa [replaceCmd_length] using protect
    · simpa [replaceCmd_length] using list
    · simpa [replaceCmd_target] using once
  next notProtect =>
  split
  · refine ⟨forward, protect, list.imp_left fun e => ?_, ?_, control, setp⟩
    · simp [e, replaceCmd]
    · simpa [replaceCmd_target] using once
  next notList =>
  have new : c.target ∉ (l.protect ++ l.commandList).map fun c => c.target := by
    rw [List.map_append, List.mem_append, not_or]
    exact ⟨not_mem_of_hasCmd (by simpa using notProtect), not_mem_of_hasCmd (by simpa using notList)⟩
  split
  next room =>
    have empty : l.commandList = [] := list.resolve_right (by omega)
    rw [empty, List.append_nil] at new once
    refine ⟨forward, by simpa using room, .inl empty, ?_, control, setp⟩
    rw [empty, List.append_nil]
    exact nodup_add once new
  next full =>
    have places : l.protect.length = Config.protectPlaces := by omega
    refine ⟨forward, protect, .inr places, ?_, control, setp⟩
    rw [← List.append_assoc]
    exact nodup_add once new

/-- Frames that leave CONTROL keep its places. -/
theorem Lpu.Fits.control_sublist (h : l.Fits) {ps : List ControlPlace} (sub : ps.Sublist l.control) :
    ({ l with control := ps } : Lpu).Fits :=
  { h with control := sub.length_le.trans h.control, setp := fun m => sub.countP_le.trans (h.setp m) }

/-- R11: a frame enters CONTROL, which has room for it and no SETP of its module. -/
theorem Lpu.Fits.enter (h : l.Fits) {p : ControlPlace} (room : l.control.length < Config.controlPlaces)
    (new : ∀ m, p.isSetpFor m = true → l.control.any (ControlPlace.isSetpFor m) = false) :
    ({ l with control := l.control ++ [p] } : Lpu).Fits := by
  refine { h with control := by simpa using room, setp := fun m => ?_ }
  rw [List.countP_append, List.countP_singleton]
  split
  next is =>
    have none := new m is
    rw [List.any_eq_false] at none
    rw [List.countP_eq_zero.2 none]
  next => simpa using h.setp m

/-- R11: the places after a displacement. -/
theorem eraseP_room {ps : List ControlPlace} {f : ControlPlace → Bool} (some : ps.any f = true)
    (places : ps.length ≤ Config.controlPlaces) : (ps.eraseP f).length < Config.controlPlaces := by
  obtain ⟨p, mem, is⟩ := List.any_eq_true.1 some
  rw [List.length_eraseP_of_mem mem is]
  have := List.length_pos_of_mem mem
  omega

/-- R11: the frame `f` enters CONTROL where it has room, or in the place of one that `x` picks. -/
theorem entered_good {f : ControlFrame} (h : s.lpu.Fits) (room : s.lpu.control.length < Config.controlPlaces)
    (new : ∀ m p, p.frame = f → ControlPlace.isSetpFor m p = true → s.lpu.control.any (ControlPlace.isSetpFor m) = false) :
    (kick (enterControl f s)).lpu.Good :=
  kick_good (h.enter room fun m => new m _ rfl)

theorem count_good (c : LinkCounters) (h : l.Good) : ({ l with counters := c } : Lpu).Good :=
  ⟨{ h.1 with }, h.2⟩

theorem giveBcmd_good (c : Bcmd) (h : s.lpu.Good) : (giveBcmd c s).lpu.Good := by
  unfold giveBcmd
  split
  · exact h
  · exact kick_good (h.1.acceptCmd c)

/-- A frame that is no SETP. -/
def ControlFrame.notSetp : ControlFrame → Bool
  | .setp _ => false
  | _ => true

theorem notSetp_new {f : ControlFrame} (h : f.notSetp = true) {xs : List ControlPlace} :
    ∀ m p, p.frame = f → ControlPlace.isSetpFor m p = true → xs.any (ControlPlace.isSetpFor m) = false := by
  rintro m p rfl is
  unfold ControlPlace.isSetpFor at is
  split at is
  next e => rw [e] at h; cases h
  · cases is

theorem displaceShpn_fits (h : s.lpu.Fits) : (displaceShpn s).lpu.Fits :=
  { h.control_sublist (List.eraseP_sublist (p := ControlPlace.isShpn)) with }

theorem displacePoll_fits (h : s.lpu.Fits) (some : s.lpu.control.any ControlPlace.isPoll = true) :
    (displacePoll s).lpu.Fits ∧ (displacePoll s).lpu.control.length < Config.controlPlaces ∧
      (displacePoll s).lpu.control.Sublist s.lpu.control := by
  have found : ∃ d m n e v, s.lpu.control.find? ControlPlace.isPoll = Option.some ⟨.poll d m n, e, v⟩ := by
    obtain ⟨p, hp⟩ := Option.isSome_iff_exists.1 (List.find?_isSome.2 (List.any_eq_true.1 some))
    have is := List.find?_some hp
    obtain ⟨frame, e, v⟩ := p
    cases frame with
    | poll d m n => exact ⟨d, m, n, e, v, hp⟩
    | _ => cases is
  obtain ⟨d, m, n, e, v, found⟩ := found
  unfold displacePoll
  rw [found]
  exact ⟨{ h.control_sublist (List.eraseP_sublist (p := ControlPlace.isPoll)) with }, eraseP_room some h.control,
    List.eraseP_sublist⟩

theorem giveShpn_good (d : Nat) (body : Notice) (h : s.lpu.Good) : (giveShpn d body s).lpu.Good := by
  unfold giveShpn
  split
  · exact count_good _ h
  split
  next room => exact entered_good h.1 (by simpa [Lpu.controlFull] using room) (notSetp_new rfl)
  split
  next some => exact entered_good (displaceShpn_fits h.1) (eraseP_room some h.1.control) (notSetp_new rfl)
  · exact count_good _ h

theorem givePoll_good (d : Nat) (m : Module) (n : Nat) (h : s.lpu.Good) : (givePoll d m n s).lpu.Good := by
  unfold givePoll
  split
  · exact count_good _ h
  split
  next room => exact entered_good h.1 (by simpa [Lpu.controlFull] using room) (notSetp_new rfl)
  split
  next some => exact entered_good (displaceShpn_fits h.1) (eraseP_room some h.1.control) (notSetp_new rfl)
  · exact count_good _ h

/-- R11: a SETP takes the place of the one of its module that waits. -/
theorem replaceSetp_good (f : Setp) (h : l.Good) :
    ({ l with
      control := l.control.map fun p => if p.isSetpFor f.module then { p with frame := .setp f } else p } : Lpu).Good := by
  refine ⟨{ h.1 with control := by simpa using h.1.control, setp := fun m => ?_ }, fun free => ?_⟩
  · rw [List.countP_map]
    refine le_of_eq_of_le (List.countP_congr fun p _ => ?_) (h.1.setp m)
    simp only [Function.comp_apply]
    split
    next is =>
      have module : p.isSetpFor m = decide (f.module = m) := by
        unfold ControlPlace.isSetpFor at is ⊢
        split at is
        next g e => simp_all
        · cases is
      rw [module]
      rfl
    · rfl
  · obtain ⟨protect, list, control, rest⟩ := h.2 free
    exact ⟨protect, list, by simp [control], rest⟩

theorem giveSetp_good (f : Setp) (h : s.lpu.Good) : (giveSetp f s).lpu.Good := by
  have new : ∀ {xs : List ControlPlace}, xs.Sublist s.lpu.control → s.lpu.control.any (ControlPlace.isSetpFor f.module) = false →
      ∀ m p, p.frame = .setp f → ControlPlace.isSetpFor m p = true → xs.any (ControlPlace.isSetpFor m) = false := by
    intro xs sub none m p e is
    obtain rfl : f.module = m := by simpa [ControlPlace.isSetpFor, e] using is
    rw [List.any_eq_false] at none ⊢
    exact fun x hx => none x (sub.subset hx)
  unfold giveSetp
  split
  · exact h
  split
  · exact replaceSetp_good f h
  next none =>
    rw [Bool.not_eq_true] at none
    split
    next room => exact entered_good h.1 (by simpa [Lpu.controlFull] using room) (new (.refl _) none)
    split
    next some => exact entered_good (displaceShpn_fits h.1) (eraseP_room some h.1.control) (new List.eraseP_sublist none)
    split
    next some =>
      have ⟨fits, room, sub⟩ := displacePoll_fits h.1 some
      exact entered_good fits room (new sub none)
    · exact h

theorem enterReply_good (f : ReplyFrame) (r : Bool) (h : s.lpu.Good) : (enterReply f r s).lpu.Good :=
  kick_good { h.1 with }

theorem giveNote_good (f : ReplyFrame) (h : s.lpu.Good) : (giveNote f s).lpu.Good := by
  unfold giveNote
  split
  · exact count_good _ h
  · exact enterReply_good f false h

theorem forwardFrame_good (bytes : List Byte) (h : s.lpu.Good) : (forwardFrame bytes s).lpu.Good := by
  unfold forwardFrame
  split
  next room => exact kick_good { h.1 with forward := by simpa using room }
  · exact count_good _ h

theorem egressFreed_good (h : s.lpu.Good) : (egressFreed s).lpu.Good := beginNext_good { h.1 with }

/-! ### Promotion (R12) -/

theorem promoteFirst_length (ps : List ControlPlace) : (promoteFirst ps).length = ps.length := by
  induction ps with
  | nil => rfl
  | cons p ps ih =>
    unfold promoteFirst
    split
    · simp [ih]
    · rfl

theorem promoteFirst_setp (m : Module) (ps : List ControlPlace) :
    (promoteFirst ps).countP (ControlPlace.isSetpFor m) = ps.countP (ControlPlace.isSetpFor m) := by
  induction ps with
  | nil => rfl
  | cons p ps ih =>
    unfold promoteFirst
    split
    · simp only [List.countP_cons, ih]
    · simp only [List.countP_cons]
      rfl

theorem promoted_good (h : l.Good) : ({ l with control := promoteFirst l.control } : Lpu).Good := by
  refine ⟨{ h.1 with control := by simpa [promoteFirst_length] using h.1.control, setp := fun m => ?_ }, fun free => ?_⟩
  · simpa [promoteFirst_setp] using h.1.setp m
  · obtain ⟨protect, list, control, rest⟩ := h.2 free
    exact ⟨protect, list, by simp [control, promoteFirst], rest⟩

end
end Sys2Proof.Machine
end

section
namespace Sys2Proof.Machine

theorem giveNotes_lpu {Q : Lpu → Prop} (note : ∀ f s, Q s.lpu → Q (giveNote f s).lpu) (e : EventIx) {s : State} (h : Q s.lpu) :
    Q (giveNotes e s).lpu :=
  foldl_stays (P := fun s => Q s.lpu) (fun t _ h => note _ t h) _ h

/-- R160: what a NOTE leaves of the LPU, the changes that give NOTEs leave. -/
theorem lpu_notes {Q : Lpu → Prop} (note : ∀ f s, Q s.lpu → Q (giveNote f s).lpu) : Notes fun s => Q s.lpu where
  noted e g s _ h := by simpa using giveNotes_lpu note e (s := s.modEntry e g) h
  applyEvents first es s h := by
    unfold applyEvents
    simp only [recomputeHolds_frame]
    refine foldl_stays (P := fun s => Q s.lpu) (fun t e h => ?_) _ h
    unfold eventWritten
    split
    · exact giveNotes_lpu note e h
    · exact h

theorem good_stays : Lasts fun s => s.lpu.Good where
  counted c due loss s h := ⟨{ h.1 with }, h.2⟩
  command c t s := giveBcmd_good _
  giveShpn d n _ := giveShpn_good d n
  givePoll d m n _ := givePoll_good d m n
  giveSetp f _ := giveSetp_good f
  forwardFrame bytes _ := forwardFrame_good bytes
  egressFreed _ := egressFreed_good
  promoted _ := promoted_good

theorem Lpu.cold_good (nid : BitVec 6) (now : Nat) : (Lpu.cold nid now).Good :=
  ⟨⟨by simp [Lpu.cold], by simp [Lpu.cold], by simp [Lpu.cold], by simp [Lpu.cold], by simp [Lpu.cold],
    by simp [Lpu.cold]⟩, fun _ => by simp [Lpu.cold]⟩

end Sys2Proof.Machine
end

section
open Sys2Proof Sys2Proof.Machine

/-- Settles O8: every frame given enters a queue with room for it or takes the place of another, and egress, free, begins
what waits. -/
theorem linkKept : Obligations.LinkKept := by
  have k := good_stays
  have notes : Notes fun s => s.lpu.Good := lpu_notes fun f _ => giveNote_good f
  intro s t bounds works e
  have good : t.lpu.Good := k.outlasts notes
    (k.service notes {} (fun _ _ _ => Lpu.cold_good _ _) (fun _ h => ⟨{ h.1 with }, h.2⟩) (fun f v _ => enterReply_good f v)
      (fun f s h => enterReply_good f false (s := s.modLpu _) ⟨{ h.1 with }, h.2⟩))
    (fun _ _ _ _ _ => Lpu.cold_good _ _) (fun _ _ _ _ _ _ _ => Lpu.cold_good _ _) (fun _ _ h => h) (fun _ _ h => h)
    ⟨(linkBounds_iff s).1 bounds, works⟩ e
  exact ⟨(linkBounds_iff t).2 good.1, good.2⟩

end

section
namespace Sys2Proof.Machine

/-! ### Requests, reservations and the REPLY queue (R13, R171, R178) -/

/-- R14: nothing enters the REPLY queue, and no reservation is made or used. -/
structure Lpu.Drains (l l' : Lpu) : Prop where
  reply : l'.reply.Sublist l.reply
  reservations : l'.reservations = l.reservations

/-- R13: `n` reservations, and the REPLY queue within its places. -/
structure Lpu.Holds (n : Nat) (l : Lpu) : Prop where
  reservations : l.reservations = n
  ordinary : l.ordinary + n ≤ Config.replyPlaces
  refusal : (l.reply.countP fun p => p.refusal) ≤ 1

section
variable {l l' : Lpu} {s : State} {n : Nat}

theorem Lpu.Drains.refl (l : Lpu) : l.Drains l := ⟨.refl _, rfl⟩

theorem Lpu.Drains.same (reply : l'.reply = l.reply) (reservations : l'.reservations = l.reservations) : l.Drains l' :=
  ⟨reply ▸ .refl _, reservations⟩

theorem Lpu.Drains.trans {k : Lpu} (h : l.Drains k) (g : k.Drains l') : l.Drains l' :=
  ⟨g.reply.trans h.reply, g.reservations.trans h.reservations⟩

theorem Lpu.Begins.drains (b : l.Begins l') : l.Drains l' := ⟨b.reply, b.reservations⟩

theorem Lpu.Holds.drains (h : l.Holds n) (d : l.Drains l') : l'.Holds n :=
  ⟨d.reservations.trans h.reservations, (Nat.add_le_add_right d.reply.countP_le n).trans h.ordinary,
    d.reply.countP_le.trans h.refusal⟩

theorem kick_drains (s : State) : s.lpu.Drains (kick s).lpu := by
  unfold kick
  split
  · exact (beginNext_begins s).drains
  · exact .refl _

/-- What enters another queue, and egress after it. -/
theorem kicked_drains {t : State} (reply : t.lpu.reply = l.reply) (reservations : t.lpu.reservations = l.reservations) :
    l.Drains (kick t).lpu :=
  (Lpu.Drains.same reply reservations).trans (kick_drains t)

theorem acceptCmd_drains (c : Bcmd) (l : Lpu) : l.Drains (l.acceptCmd c) := by
  unfold Lpu.acceptCmd
  (repeat' split) <;> exact .same rfl rfl

theorem giveBcmd_drains (c : Bcmd) (s : State) : s.lpu.Drains (giveBcmd c s).lpu := by
  unfold giveBcmd
  split
  · exact .refl _
  · exact (acceptCmd_drains c s.lpu).trans (kick_drains (s.modLpu (Lpu.acceptCmd c)))

theorem entered_drains (f : ControlFrame) (s : State) : s.lpu.Drains (kick (enterControl f s)).lpu := kicked_drains rfl rfl

theorem displacePoll_drains (s : State) : s.lpu.Drains (displacePoll s).lpu := by
  unfold displacePoll
  split <;> exact .same rfl rfl

theorem giveShpn_drains (d : Nat) (body : Notice) (s : State) : s.lpu.Drains (giveShpn d body s).lpu := by
  unfold giveShpn
  split
  · exact .same rfl rfl
  split
  · exact entered_drains _ s
  split
  · exact kicked_drains rfl rfl
  · exact .same rfl rfl

theorem givePoll_drains (d : Nat) (m : Module) (n : Nat) (s : State) : s.lpu.Drains (givePoll d m n s).lpu := by
  unfold givePoll
  split
  · exact .same rfl rfl
  split
  · exact entered_drains _ s
  split
  · exact kicked_drains rfl rfl
  · exact .same rfl rfl

theorem giveSetp_drains (f : Setp) (s : State) : s.lpu.Drains (giveSetp f s).lpu := by
  unfold giveSetp
  split
  · exact .refl _
  split
  · exact .same rfl rfl
  split
  · exact entered_drains _ s
  split
  · exact kicked_drains rfl rfl
  split
  · exact (displacePoll_drains s).trans (entered_drains _ _)
  · exact .refl _

theorem forwardFrame_drains (bytes : List Byte) (s : State) : s.lpu.Drains (forwardFrame bytes s).lpu := by
  unfold forwardFrame
  split
  · exact kicked_drains rfl rfl
  · exact .same rfl rfl

theorem egressFreed_drains (s : State) : s.lpu.Drains (egressFreed s).lpu := by
  unfold egressFreed
  have begun := beginNext_begins (s.modLpu fun l => { l with sending := none })
  exact ⟨begun.reply, begun.reservations⟩

/-! ### Frames of the REPLY queue -/

/-- R13: the MGU may reserve while a place is free. -/
theorem Lpu.Holds.placeFree (h : l.Holds n) (free : l.placeFree = true) : l.ordinary + n < Config.replyPlaces := by
  have := h.reservations
  simp only [Lpu.placeFree, decide_eq_true_eq] at free
  omega

/-- R13: a frame enters an ordinary place that is free, or one reserved. -/
theorem enterReply_holds (f : ReplyFrame) (h : s.lpu.Holds n) (free : s.lpu.ordinary + n < Config.replyPlaces) :
    (enterReply f false s).lpu.Holds n := by
  refine Lpu.Holds.drains (l := { s.lpu with reply := s.lpu.reply ++ [⟨f, false⟩] }) ⟨h.reservations, ?_, ?_⟩
    (kicked_drains rfl rfl)
  · show List.countP _ (s.lpu.reply ++ _) + n ≤ _
    rw [List.countP_append]
    have : s.lpu.ordinary = List.countP (fun p => !p.refusal) s.lpu.reply := rfl
    simp only [List.countP_singleton, Bool.not_false, if_true]
    omega
  · show List.countP _ (s.lpu.reply ++ _) ≤ _
    rw [List.countP_append]
    simpa using h.refusal

/-- R13: BUSY enters the refusal place, when it is free. -/
theorem enterRefusal_holds (f : ReplyFrame) (h : s.lpu.Holds n) (free : s.lpu.refusalTaken = false) :
    (enterReply f true s).lpu.Holds n := by
  refine Lpu.Holds.drains (l := { s.lpu with reply := s.lpu.reply ++ [⟨f, true⟩] }) ⟨h.reservations, ?_, ?_⟩
    (kicked_drains rfl rfl)
  · show List.countP _ (s.lpu.reply ++ _) + n ≤ _
    rw [List.countP_append]
    exact h.ordinary
  · show List.countP _ (s.lpu.reply ++ _) ≤ _
    rw [Lpu.refusalTaken, List.any_eq_false] at free
    rw [List.countP_append, List.countP_eq_zero.2 free]
    simp

theorem giveNote_holds (f : ReplyFrame) (h : s.lpu.Holds n) : (giveNote f s).lpu.Holds n := by
  unfold giveNote
  split
  · exact ⟨h.reservations, h.ordinary, h.refusal⟩
  next free =>
    refine enterReply_holds f h ?_
    rw [Bool.or_eq_true, not_or, Bool.not_eq_true', Bool.not_eq_false] at free
    exact h.placeFree free.2

/-- R13: an MREP that has a reservation enters. -/
theorem enterReserved_holds (f : ReplyFrame) (h : s.lpu.Holds (n + 1)) : (enterReserved f s).lpu.Holds n := by
  refine enterReply_holds f ⟨?_, ?_, h.refusal⟩ ?_
  · show s.lpu.reservations - 1 = n
    rw [h.reservations]
    omega
  · have := h.ordinary
    show s.lpu.ordinary + n ≤ _
    omega
  · have := h.ordinary
    show s.lpu.ordinary + n < _
    omega

theorem reservePlace_holds (h : s.lpu.Holds n) (free : s.lpu.ordinary + n < Config.replyPlaces) :
    (reservePlace s).lpu.Holds (n + 1) :=
  ⟨congrArg (· + 1) h.reservations, free, h.refusal⟩

/-! ### The work of other blocks -/

/-- What a drained LPU keeps, the single changes keep, but for those that give NOTEs. -/
theorem drained_stays {Q : List MguReq → List (List Byte) → Lpu → Prop} (h : ∀ q p l l', l.Drains l' → Q q p l → Q q p l') :
    Lasts fun s => Q s.mgu.queue s.mgu.parts s.lpu := by
  have drained : ∀ {s t : State}, s.lpu.Drains t.lpu → t.mgu = s.mgu → Q s.mgu.queue s.mgu.parts s.lpu →
      Q t.mgu.queue t.mgu.parts t.lpu := fun d e hs => e ▸ h _ _ _ _ d hs
  exact {
    counted := fun _ _ _ _ => drained (.same rfl rfl) rfl
    command := fun c t s => drained (giveBcmd_drains _ s) (by simp)
    giveShpn := fun d n s => drained (giveShpn_drains d n s) (by simp)
    givePoll := fun d m n s => drained (givePoll_drains d m n s) (by simp)
    giveSetp := fun f s => drained (giveSetp_drains f s) (by simp)
    forwardFrame := fun bytes s => drained (forwardFrame_drains bytes s) (by simp)
    egressFreed := fun s => drained (egressFreed_drains s) (by simp)
    promoted := fun _ => drained (.same rfl rfl) rfl
    modMgu := fun g s queue parts hs => by
      show Q (g s.mgu).queue (g s.mgu).parts s.lpu
      rwa [queue, parts] }

/-- A property of the request queue, the parts that wait and the number of reservations, with the places kept. -/
def HoldsWith (Q : List MguReq → List (List Byte) → Nat → Prop) (s : State) : Prop :=
  ∃ n, Q s.mgu.queue s.mgu.parts n ∧ s.lpu.Holds n

section
variable {Q : List MguReq → List (List Byte) → Nat → Prop}

theorem holdsWith_stays : Lasts (HoldsWith Q) :=
  drained_stays (Q := fun q p l => ∃ n, Q q p n ∧ l.Holds n) fun _ _ _ _ d ⟨n, hq, h⟩ => ⟨n, hq, h.drains d⟩

theorem holdsWith_notes : Notes (HoldsWith Q) where
  noted e g s raw := fun ⟨n, hq, h⟩ => ⟨n, by simpa using hq, (lpu_notes fun f _ => giveNote_holds f).noted e g s raw h⟩
  applyEvents first es s := fun ⟨n, hq, h⟩ =>
    ⟨n, by simpa using hq, (lpu_notes fun f _ => giveNote_holds f).applyEvents first es s h⟩

end

/-! ### Service -/

/-- R172, R181: but for RESTART, the service of a request leaves the queue, the parts and the places as they are. -/
theorem serve_holdsWith {Q : List MguReq → List (List Byte) → Nat → Prop} {q : MguReq}
    (notRestart : parseRequest q.kind.toNat q.params ≠ some .restart) (h : HoldsWith Q s) : HoldsWith Q (serve q s).2 := by
  refine serve_lasts (holdsWith_stays.work holdsWith_notes) q (fun r e => ?_) h
  refine perform_stays holdsWith_stays.toStays holdsWith_stays.sequence holdsWith_notes holdsWith_stays.toMarks
    holdsWith_stays.performBerth
    (parseRequest_formed e) (fun is => absurd (is ▸ e) notRestart)
    (fun n _ _ _ s h => ?_) (fun i code _ _ prep s h => ?_)
  · simpa [perform, HoldsWith] using h
  · simpa [perform, ofOwner, HoldsWith] using h

/-- Nothing waits in the REPLY queue, and nothing is reserved. -/
def Lpu.NoReply (l : Lpu) : Prop := l.reply = [] ∧ l.reservations = 0

/-- R181: the blocks begin again with nothing in the REPLY queue. -/
theorem restartBlocks_noReply (s : State) : (restartBlocks s).mgu.queue = [] ∧ (restartBlocks s).mgu.parts = [] ∧
    (restartBlocks s).lpu.NoReply := by
  have k : Lasts fun s => s.mgu.queue = [] ∧ s.mgu.parts = [] ∧ s.lpu.NoReply :=
    drained_stays (Q := fun q p l => q = [] ∧ p = [] ∧ l.NoReply) fun q p l l' d ⟨hq, hp, reply, zero⟩ =>
      ⟨hq, hp, List.sublist_nil.1 (reply ▸ d.reply), d.reservations.trans zero⟩
  have ended := resetEnd_stays k.toStays k.sequence (s := setInterval (warmBlocks s.lpu.nid s.mgu.opn s.mgu.bln
    (supplyCloses (discardResidues s)))) ⟨rfl, rfl, rfl, rfl⟩
  unfold restartBlocks
  dsimp only
  split
  · exact post_stays k.toStays _ ended
  · exact ended

/-- The places that the requests of the queue hold: one each, but none for the one whose reply has begun to enter. -/
def reserved (queue : List MguReq) (parts : List (List Byte)) : Nat :=
  if parts = [] then queue.length else queue.length - 1

/-- R171, R172: between the services of one event. -/
def Serving : State → Prop :=
  HoldsWith fun queue parts n => queue.length ≤ Config.requestPlaces ∧ (queue = [] → parts = []) ∧ n = reserved queue parts

theorem serving_of_replies (h : RepliesReserved s) (parts : s.mgu.parts ≠ []) : Serving s := by
  obtain ⟨length, waits, reservations, places, refusal⟩ := h
  refine ⟨s.mgu.queue.length - 1, ⟨length, fun e => absurd (waits.2 e) parts, ?_⟩, reservations, ?_, refusal⟩
  · simp [reserved, parts]
  · exact reservations ▸ places

/-- R172: service ends with no request left, or one that waits with parts of its reply. -/
theorem replies_of_serving (h : Serving s) (ended : s.mgu.queue = [] ∨ s.mgu.parts ≠ []) : RepliesReserved s := by
  obtain ⟨n, ⟨length, empty, rfl⟩, held⟩ := h
  have count : reserved s.mgu.queue s.mgu.parts = s.mgu.queue.length - 1 := by
    obtain none | some := ended
    · simp [reserved, none]
    · simp [reserved, some]
  refine ⟨length, ⟨fun none => ended.resolve_right (not_not.2 none), empty⟩, ?_, ?_, held.refusal⟩
  · rw [held.reservations, count]
  · rw [held.reservations]
    exact held.ordinary

/-- R178: parts enter while places are free, each through a reservation of its own. -/
theorem enterParts_holds {n : Nat} (q : MguReq) (ds : List (List Byte)) (h : s.lpu.Holds n) :
    (enterParts q ds s).lpu.Holds n := by
  induction ds generalizing s with
  | nil => exact h
  | cons d ds ih =>
    unfold enterParts
    split
    next free => exact ih (enterReserved_holds _ (reservePlace_holds h (h.placeFree free)))
    · exact h

/-- R172: the request at the head, whose reply has entered, leaves the queue, or waits with its parts. -/
theorem endService_serving {n : Nat} (length : s.mgu.queue.length ≤ Config.requestPlaces)
    (empty : s.mgu.queue = [] → s.mgu.parts = []) (e : n = s.mgu.queue.length - 1) (h : s.lpu.Holds n) :
    Serving (endService s) ∧ ((endService s).mgu.parts ≠ [] ∨ (endService s).mgu.queue = s.mgu.queue.drop 1) := by
  unfold endService
  split
  next none =>
    rw [List.isEmpty_iff] at none
    refine ⟨⟨n, ⟨?_, fun _ => none, ?_⟩, h⟩, .inr rfl⟩
    · show (s.mgu.queue.drop 1).length ≤ _
      rw [List.length_drop]
      omega
    · simp [reserved, none, e]
  next some =>
    rw [List.isEmpty_iff] at some
    exact ⟨⟨n, ⟨length, empty, by simp [reserved, some, e]⟩, h⟩, .inl some⟩

theorem enterParts_waits (q : MguReq) (ds : List (List Byte)) (s : State) (queued : s.mgu.queue ≠ []) :
    (enterParts q ds s).mgu.queue = [] → (enterParts q ds s).mgu.parts = [] := by
  rw [enterParts_queue]
  exact fun e => absurd e queued

theorem serve_restart {q : MguReq} (restart : parseRequest q.kind.toNat q.params = some .restart) (s : State) :
    ((serve q s).2 = setPrepared q.source false s) ∨
      (∃ u, (serve q s).2 = reservePlace (restartBlocks u)) ∧ (serve q s).1 = plain .done := by
  unfold serve
  rw [restart]
  dsimp only
  unfold judge
  split
  · exact .inl rfl
  split
  next out => simp [Request.outOfRange, Request.range?] at out
  split
  next guarded => simp [Request.guarded] at guarded
  unfold perform performRestart
  dsimp only
  split
  · exact .inr ⟨⟨_, rfl⟩, rfl⟩
  · exact .inl rfl

/-- The queue, and the number of reservations. -/
def Exactly (qs : List MguReq) (k : Nat) (queue : List MguReq) (_ : List (List Byte)) (n : Nat) : Prop := queue = qs ∧ n = k

/-- R181: the reply of RESTART is the only one left, and no request waits. -/
theorem enterAnswer_restarted {q : MguReq} {rest : List MguReq} (queue : s.mgu.queue = []) (h : s.lpu.Holds 1) :
    Serving (enterAnswer q (plain .done) s) ∧ ((enterAnswer q (plain .done) s).mgu.parts ≠ [] ∨
      (enterAnswer q (plain .done) s).mgu.queue.length ≤ rest.length) := by
  have entered := enterReserved_holds (n := 0) (replyOf q .done []) h
  have empty : (enterReserved (replyOf q .done []) s).mgu.queue = [] := by simpa using queue
  obtain ⟨serving, next⟩ := endService_serving (s := enterParts q [] (enterReserved (replyOf q .done []) s)) (n := 0)
    (by rw [enterParts_queue, empty]; simp) (fun _ => rfl) (by rw [enterParts_queue, empty]; rfl)
    (enterParts_holds q [] entered)
  rw [enterParts_queue, empty] at next
  refine ⟨serving, next.imp_right fun e => ?_⟩
  show (endService (enterParts q [] (enterReserved (replyOf q .done []) s))).mgu.queue.length ≤ _
  rw [e]
  simp

/-- R172: the head is served: its reply enters, and it leaves the queue or waits with parts. -/
theorem serveHead_serving {q : MguReq} {rest : List MguReq} (e : s.mgu.queue = q :: rest) (parts : s.mgu.parts = [])
    (h : Serving s) : Serving (serveHead q s) ∧
      ((serveHead q s).mgu.parts ≠ [] ∨ (serveHead q s).mgu.queue.length ≤ rest.length) := by
  obtain ⟨n, ⟨length, -, count⟩, held⟩ := h
  rw [e, parts] at count
  rw [e] at length
  obtain rfl : n = rest.length + 1 := count
  have answered : ∀ (t : State) (a : Answer), t.mgu.queue = q :: rest → t.lpu.Holds (rest.length + 1) →
      Serving (enterAnswer q a t) ∧ ((enterAnswer q a t).mgu.parts ≠ [] ∨ (enterAnswer q a t).mgu.queue.length ≤ rest.length) := by
    intro t a queue holds
    have entered := enterReserved_holds (replyOf q a.result (a.parts.headD [])) holds
    have queued : (enterReserved (replyOf q a.result (a.parts.headD [])) t).mgu.queue ≠ [] := by simp [queue]
    have queue : (enterReserved (replyOf q a.result (a.parts.headD [])) t).mgu.queue = q :: rest := by simpa using queue
    obtain ⟨serving, next⟩ := endService_serving (n := rest.length) (by rw [enterParts_queue, queue]; exact length)
      (enterParts_waits q a.parts.tail _ queued) (by rw [enterParts_queue, queue]; rfl)
      (enterParts_holds q a.parts.tail entered)
    rw [enterParts_queue, queue] at next
    exact ⟨serving, next.imp_right fun e => by rw [enterAnswer, e]; rfl⟩
  have work : ∀ qs k, Work (HoldsWith (Exactly qs k)) := fun _ _ => holdsWith_stays.work holdsWith_notes
  have start : HoldsWith (Exactly (q :: rest) (rest.length + 1)) s := ⟨_, ⟨e, rfl⟩, held⟩
  have finish : HoldsWith (Exactly (q :: rest) (rest.length + 1)) (serve q s).2 → Serving (serveHead q s) ∧
      ((serveHead q s).mgu.parts ≠ [] ∨ (serveHead q s).mgu.queue.length ≤ rest.length) := fun h => by
    obtain ⟨n, ⟨queue, rfl⟩, holds⟩ := drain_lasts (work _ _) Config.settleFuel h
    exact answered _ (serve q s).1 queue holds
  by_cases restart : parseRequest q.kind.toNat q.params = some .restart
  · obtain same | ⟨⟨u, done⟩, plain⟩ := serve_restart restart s
    · exact finish (by rw [same]; exact start)
    · have begun : HoldsWith (Exactly [] 1) (serve q s).2 := by
        obtain ⟨queue, -, reply, zero⟩ := restartBlocks_noReply u
        rw [done]
        refine ⟨1, ⟨by simpa using queue, rfl⟩, reservePlace_holds (n := 0) ⟨zero, ?_, ?_⟩ ?_⟩
        all_goals simp [Lpu.ordinary, reply]
      obtain ⟨n, ⟨queue, rfl⟩, holds⟩ := drain_lasts (work _ _) Config.settleFuel begun
      unfold serveHead
      dsimp only
      rw [plain]
      exact enterAnswer_restarted queue holds
  · exact finish (serve_holdsWith restart start)

theorem serveAll_waiting (n : Nat) (parts : s.mgu.parts ≠ []) : serveAll n s = s := by
  cases n with
  | zero => rfl
  | succ n =>
    unfold serveAll
    split
    · rfl
    · rw [if_neg (by simpa using parts)]

/-- R172: requests are served until none is left or one waits. -/
theorem serveAll_replies {n : Nat} (h : Serving s) (fuel : s.mgu.parts ≠ [] ∨ s.mgu.queue.length < n) :
    RepliesReserved (serveAll n s) := by
  induction n generalizing s with
  | zero => exact replies_of_serving h (.inr (fuel.resolve_right (Nat.not_lt_zero _)))
  | succ n ih =>
    by_cases parts : s.mgu.parts = []
    · unfold serveAll
      split
      next e => exact replies_of_serving h (.inl e)
      next q rest e =>
        rw [if_pos (by simp [parts])]
        obtain ⟨serving, next⟩ := serveHead_serving e parts h
        have fuel : rest.length < n := by
          have := fuel.resolve_left (not_not.2 parts)
          rw [e, List.length_cons] at this
          omega
        exact ih serving (next.imp_right fun le => by omega)
    · rw [serveAll_waiting _ parts]
      exact replies_of_serving h (.inr parts)

/-- R171: a request arrives. -/
theorem arrive_replies (q : MguReq) (h : RepliesReserved s) : RepliesReserved (arrive q s) := by
  obtain ⟨length, waits, reservations, places, refusal⟩ := h
  have held : s.lpu.Holds (s.mgu.queue.length - 1) := ⟨reservations, reservations ▸ places, refusal⟩
  unfold arrive
  split
  next accepted =>
    simp only [arrivalAccepted, Bool.and_eq_true, decide_eq_true_eq] at accepted
    have reserved := reservePlace_holds held (held.placeFree accepted.2)
    dsimp only
    split
    next empty =>
      rw [List.isEmpty_iff] at empty
      refine serveAll_replies ⟨1, ⟨?_, ?_, ?_⟩, ?_⟩ (.inr ?_)
      · simp [empty]
      · simp [empty]
      · simp [Machine.reserved, empty, waits.2 empty]
      · simpa [empty] using reserved
      · simp [empty]
    next some =>
      rw [List.isEmpty_iff] at some
      have pos := List.length_pos_of_ne_nil some
      refine ⟨?_, ?_, ?_, ?_, reserved.refusal⟩
      · show (s.mgu.queue ++ [q]).length ≤ _
        simpa using accepted.1
      · show s.mgu.parts = [] ↔ s.mgu.queue ++ [q] = []
        simpa [waits] using some
      · show (reservePlace s).lpu.reservations = (s.mgu.queue ++ [q]).length - 1
        rw [reserved.reservations, List.length_append, List.length_singleton]
        omega
      · have := reserved.ordinary
        rw [← reserved.reservations] at this
        exact this
  · unfold refuseArrival
    split
    · exact ⟨length, waits, reservations, places, refusal⟩
    next free =>
      have entered := enterRefusal_holds (replyOf q .busy []) held (by simpa using free)
      refine ⟨by simpa using length, by simpa using waits, ?_, ?_, entered.refusal⟩
      · simpa using entered.reservations
      · rw [entered.reservations]
        exact entered.ordinary

/-- R178: the next part of a reply enters. -/
theorem nextPart_replies (h : RepliesReserved s) : RepliesReserved (nextPart s) := by
  have ⟨length, waits, reservations, places, refusal⟩ := h
  unfold nextPart
  split
  · exact h
  next q rest e =>
    split
    · exact h
    next parts =>
      have held : s.lpu.Holds (s.mgu.queue.length - 1) := ⟨reservations, reservations ▸ places, refusal⟩
      obtain ⟨serving, -⟩ := endService_serving (s := enterParts q s.mgu.parts s) (by rw [enterParts_queue]; exact length)
        (enterParts_waits q _ s (by simp [e])) (by rw [enterParts_queue]) (enterParts_holds q _ held)
      refine serveAll_replies serving (.inr ?_)
      obtain ⟨n, ⟨le, -⟩, -⟩ := serving
      exact Nat.lt_succ_of_le le

theorem consumeMreq_replies (src : Nat) (p : List Byte) (h : RepliesReserved s) : RepliesReserved (consumeMreq src p s) := by
  have counted : ∀ g, RepliesReserved (s.count g) := fun g => h
  unfold consumeMreq checked
  split
  · exact counted _
  split
  · exact counted _
  · exact arrive_replies _ h

/-- The agreement, in the form that outlasts block work. -/
def Agreeing (queue : List MguReq) (parts : List (List Byte)) (n : Nat) : Prop :=
  queue.length ≤ Config.requestPlaces ∧ (parts = [] ↔ queue = []) ∧ n = queue.length - 1

theorem replies_iff (s : State) : RepliesReserved s ↔ HoldsWith Agreeing s := by
  constructor
  · rintro ⟨length, waits, reservations, places, refusal⟩
    exact ⟨_, ⟨length, waits, rfl⟩, reservations, reservations ▸ places, refusal⟩
  · rintro ⟨n, ⟨length, waits, rfl⟩, held⟩
    refine ⟨length, waits, held.reservations, ?_, held.refusal⟩
    rw [held.reservations]
    exact held.ordinary

theorem replies_none {s : State} (queue : s.mgu.queue = []) (parts : s.mgu.parts = []) (reply : s.lpu.reply = [])
    (zero : s.lpu.reservations = 0) : RepliesReserved s := by
  simp [RepliesReserved, queue, parts, reply, zero, Lpu.ordinary]

end
end Sys2Proof.Machine
end

section
open Sys2Proof Sys2Proof.Machine

/-- Settles O9: block work only drains the REPLY queue or gives it NOTEs while a place is free; an arrival, a service and
a further part trade requests, reservations and frames one for one. -/
theorem repliesReservedKept : Obligations.RepliesReservedKept := by
  have k : Lasts RepliesReserved := by
    rw [show RepliesReserved = HoldsWith Agreeing from funext fun s => propext (replies_iff s)]
    exact holdsWith_stays
  have notes : Notes RepliesReserved := by
    rw [show RepliesReserved = HoldsWith Agreeing from funext fun s => propext (replies_iff s)]
    exact holdsWith_notes
  have w := k.work notes
  have mreq : ∀ src p u, RepliesReserved u → RepliesReserved (consumeMreq src p u) := fun src p _ =>
    consumeMreq_replies src p
  intro s t h e
  refine step_keeps (P := RepliesReserved) (fun c s t h e => ?_) (fun _ _ h => h) (fun _ _ h => h) h e
  have z : Ends RepliesReserved RepliesReserved := ⟨fun _ h => h, fun _ => settle_lasts w, k.bstaTaken⟩
  exact exec_ends w z (fun _ _ _ _ u h => coldReset_stays k.toStays k.sequence (replies_none rfl rfl rfl rfl))
    (fun _ _ _ _ _ _ u h => warmReset_stays k.toStays k.sequence (replies_none rfl rfl rfl rfl))
    (fun bytes _ u h => frameTaken_ends w z mreq bytes h) (fun _ u h => nextPart_replies h)
    (fun src p _ u h => consumeMreq_replies _ p h) (fun src tag kind params _ _ _ u h => consumeMreq_replies _ _ h) h e

end

section
namespace Sys2Proof.Machine

/-! ### Breakers that SYU has taken up (R74) -/

/-- The breaker of a channel's attempt, if it has one. -/
def chanTarget (w : Option ChanWork) : Option Target := w.map fun w => w.req.target

/-- The breakers of the requests, the attempts and the dead-bus closes. -/
def Syu.takenUp (y : Syu) : List Target :=
  (y.queue.map fun r => r.target) ++ y.chans.toList.filterMap chanTarget ++ y.deadBus.map fun d => d.target

/-- R74, of SYU alone. -/
def Syu.Once (y : Syu) : Prop := y.takenUp.Nodup

section
variable {y : Syu} {s : State}

theorem not_mem_takenUp {t : Target} (free : y.busy t = false) : t ∉ y.takenUp := by
  obtain ⟨queue, chans, dead⟩ := Syu.busy_eq_false.1 free
  simp only [Syu.takenUp, List.mem_append, List.mem_map, List.mem_filterMap, not_or, not_exists, not_and]
  refine ⟨⟨queue, fun w mem is => ?_⟩, dead⟩
  obtain ⟨w, rfl, e⟩ := Option.map_eq_some_iff.1 is
  obtain ⟨i, hi, at_i⟩ := List.mem_iff_getElem.1 mem
  exact chans ⟨i, by simpa using hi⟩ w (by simpa using at_i) e

/-- The breakers of the channels, with that of channel `c` in its place. -/
theorem chans_upd (v : Vector (Option ChanWork) 2) (c : Chan) : ∃ before after, ∀ f : Option ChanWork → Option ChanWork,
    (upd v c f).toList.filterMap chanTarget = before ++ (chanTarget (f v[c])).toList ++ after := by
  refine ⟨(v.toList.take c.val).filterMap chanTarget, (v.toList.drop (c.val + 1)).filterMap chanTarget, fun f => ?_⟩
  have listed : (upd v c f).toList = v.toList.set c.val (f v[c]) := Vector.toList_set (xs := v) c.isLt
  have one : [f v[c]].filterMap chanTarget = (chanTarget (f v[c])).toList := by
    generalize f v[c] = w
    cases w <;> rfl
  rw [listed, List.set_eq_take_append_cons_drop, if_pos (by simp; omega), List.append_cons, List.filterMap_append,
    List.filterMap_append, one]

theorem chans_self (v : Vector (Option ChanWork) 2) (c : Chan) : upd v c id = v := by simp [upd]

/-- A channel that takes up no other breaker keeps the breakers once. -/
theorem Syu.Once.chan (h : y.Once) (c : Chan) {f : Option ChanWork → Option ChanWork}
    (sub : (chanTarget (f y.chans[c])).toList.Sublist (chanTarget y.chans[c]).toList) :
    ({ y with chans := upd y.chans c f } : Syu).Once := by
  obtain ⟨before, after, split⟩ := chans_upd y.chans c
  refine List.Nodup.sublist ?_ h
  have old := split id
  rw [chans_self] at old
  simp only [Syu.takenUp, split f, old]
  exact ((List.Sublist.refl _).append (((List.Sublist.refl _).append sub).append (.refl _))).append (.refl _)

/-- R76: a channel takes the oldest request. -/
theorem fillChannel_once (c : Chan) (h : s.syu.Once) : (fillChannel c s).syu.Once := by
  unfold fillChannel
  split
  next req rest idle queue =>
    obtain ⟨before, after, split⟩ := chans_upd s.syu.chans c
    have old := split id
    rw [chans_self, id_eq, idle] at old
    have was : s.syu.takenUp = req.target :: ((rest.map fun r => r.target) ++ before) ++ (after ++ s.syu.deadBus.map fun d => d.target) := by
      simp [Syu.takenUp, queue, old, chanTarget]
    have is : ∀ w : ChanWork, w.req = req →
        ({ s.syu with queue := rest, chans := upd s.syu.chans c fun _ => some w } : Syu).takenUp =
          ((rest.map fun r => r.target) ++ before) ++ req.target :: (after ++ s.syu.deadBus.map fun d => d.target) :=
      fun w e => by simp [Syu.takenUp, split, chanTarget, e]
    have once : s.syu.takenUp.Nodup := h
    rw [was, List.cons_append] at once
    show Syu.takenUp _ |>.Nodup
    rw [State.modSyu_syu, is _ rfl]
    exact List.nodup_middle.2 once
  · exact h

/-- What leaves queue, channels and dead-bus closes alone takes up no breaker. -/
theorem Syu.Once.same {y z : Syu} (h : y.Once) (queue : z.queue = y.queue) (chans : z.chans = y.chans)
    (dead : z.deadBus = y.deadBus) : z.Once := by
  unfold Syu.Once
  rw [Syu.takenUp, queue, chans, dead]
  exact h

theorem once_stays : Lasts fun s => s.syu.Once where
  modSyu _ _ queue chans dead _ h := h.same queue chans dead
  reported _ _ _ h := h.same rfl rfl rfl
  applyBreakers first es s _ h := by
    refine foldl_stays (P := fun s => s.syu.Once) (fun t b h => ?_) _ (h.same rfl rfl rfl)
    unfold breakerWritten
    split
    · exact h
    · exact h.same rfl rfl rfl
  enqueue r s free h := by
    have once := List.nodup_cons.2 ⟨not_mem_takenUp free, h⟩
    have is : ({ s.syu with queue := s.syu.queue ++ [r] } : Syu).takenUp = (s.syu.queue.map fun r => r.target) ++
        r.target :: (s.syu.chans.toList.filterMap chanTarget ++ s.syu.deadBus.map fun d => d.target) := by
      simp [Syu.takenUp]
    show Syu.takenUp _ |>.Nodup
    rw [State.modSyu_syu, is]
    refine List.nodup_middle.2 ?_
    rwa [← List.append_assoc]
  dequeue t s h := by
    refine List.Nodup.sublist ?_ h
    exact ((List.filter_sublist.map _).append (.refl _)).append (.refl _)
  fillChannel c _ h := fillChannel_once c h
  emptyChan c _ h := h.chan c (by simp [chanTarget])
  modChan c w w' s at_c same h := h.chan c (by rw [at_c]; simp [chanTarget, same])
  channelsSeeStale p s h := by
    have same : ∀ w, chanTarget (Option.map (ChanWork.sawStale p) w) = chanTarget w := by
      rintro (_ | w)
      · rfl
      · simp only [chanTarget, Option.map_some, ChanWork.sawStale]
        split <;> rfl
    have is : (channelsSeeStale p s).syu.takenUp = s.syu.takenUp := by
      simp only [channelsSeeStale, Syu.takenUp, State.modSyu_syu, Vector.toList_map, List.filterMap_map]
      rw [show chanTarget ∘ Option.map (ChanWork.sawStale p) = chanTarget from funext same]
    show Syu.takenUp _ |>.Nodup
    rw [is]
    exact h
  addDeadClose d s free h := by
    have once := List.nodup_cons.2 ⟨not_mem_takenUp free, h⟩
    have is : ({ s.syu with deadBus := s.syu.deadBus ++ [d] } : Syu).takenUp = s.syu.takenUp ++ d.target :: [] := by
      simp [Syu.takenUp]
    show Syu.takenUp _ |>.Nodup
    rw [State.modSyu_syu, is]
    refine List.nodup_middle.2 ?_
    rwa [List.append_nil]
  dropDeadClose t s h := by
    refine List.Nodup.sublist ?_ h
    exact ((List.Sublist.refl _)).append (List.filter_sublist.map _)

theorem Syu.cold_once : Syu.cold.Once := by
  have idle : [none, none].filterMap chanTarget = [] := rfl
  simp [Syu.Once, Syu.takenUp, Syu.cold, idle]

end
end Sys2Proof.Machine
end

section
open Sys2Proof Sys2Proof.Machine

/-- Settles O10: a breaker is taken up only while SYU holds nothing for it, and passes from the queue to a channel. -/
theorem syncOnceKept : Obligations.SyncOnceKept := by
  have warm : ∀ y : Syu, y.warm.Once := fun y => Syu.cold_once
  intro s t h e
  exact once_stays.outlasts {} (once_stays.service {} {} fun _ _ _ => warm _) (fun _ _ _ _ _ => Syu.cold_once)
    (fun _ _ _ _ _ _ _ => warm _) (fun _ _ h => h) (fun _ _ h => h) (show s.syu.Once from h) e

end

section
namespace Sys2Proof.Machine

/-! ### Allocation lists (R34) -/

/-- R34, of the module records and the lists alone. -/
structure Listed (recs : Vector ModuleRec 8) (lists : Vector (List Module) 4) : Prop where
  once : ∀ b : Berth, lists[b].Nodup
  apart : ∀ (b c : Berth) m, m ∈ lists[b] → m ∈ lists[c] → b = c
  allocated : ∀ m : Module, recs[m].state.allocated = true ↔ ∃ b : Berth, m ∈ lists[b]

theorem modulesListed_iff (s : State) : ModulesListed s ↔ Listed s.mpm.recs s.mpm.lists :=
  ⟨fun ⟨a, b, c⟩ => ⟨a, b, c⟩, fun ⟨a, b, c⟩ => ⟨a, b, c⟩⟩

section
variable {recs : Vector ModuleRec 8} {lists : Vector (List Module) 4} {s t : State}

theorem upd_fin {α : Type} {n : Nat} (v : Vector α n) (i j : Fin n) (f : α → α) :
    (upd v i f)[j] = if i = j then f v[j] else v[j] := by
  split
  next e =>
    subst e
    exact upd_self v i f
  next e => exact upd_other v f e

/-- A module record that changes without a change of allocation. -/
theorem Listed.record (h : Listed recs lists) (m : Module) {g : ModuleRec → ModuleRec}
    (same : (g recs[m]).state.allocated = recs[m].state.allocated) : Listed (upd recs m g) lists := by
  refine { h with allocated := fun k => ?_ }
  rw [← h.allocated k, upd_fin]
  split
  next e => rw [← e, same]
  · exact Iff.rfl

/-- R34: a module leaves its list as it becomes unallocated. -/
theorem Listed.leave (h : Listed recs lists) (m : Module) {g : ModuleRec → ModuleRec}
    (out : (g recs[m]).state.allocated = false) :
    Listed (upd recs m g) (lists.map fun l => l.filter fun x => x ≠ m) := by
  have mem : ∀ (b : Berth) k, k ∈ (lists.map fun l => l.filter fun x => x ≠ m)[b] ↔ k ∈ lists[b] ∧ k ≠ m := by
    intro b k
    simp
  refine ⟨fun b => ?_, fun b c k hb hc => ?_, fun k => ?_⟩
  · have : (lists.map fun l => l.filter fun x => x ≠ m)[b] = lists[b].filter fun x => x ≠ m := by simp
    rw [this]
    exact (h.once b).filter _
  · exact h.apart b c k ((mem b k).1 hb).1 ((mem c k).1 hc).1
  · simp only [mem]
    rw [upd_fin]
    split
    next e =>
      subst e
      rw [out]
      simp
    next e =>
      rw [h.allocated k]
      exact ⟨fun ⟨b, hb⟩ => ⟨b, hb, Ne.symm e⟩, fun ⟨b, hb, _⟩ => ⟨b, hb⟩⟩

/-- R34: an unallocated module enters a list. -/
theorem Listed.enter (h : Listed recs lists) (b : Berth) (m : Module) {g : ModuleRec → ModuleRec}
    (free : recs[m].state.allocated = false) (listed : (g recs[m]).state.allocated = true) :
    Listed (upd recs m g) (upd lists b fun l => l ++ [m]) := by
  have none : ∀ c : Berth, m ∉ lists[c] := fun c mem => by
    have := (h.allocated m).2 ⟨c, mem⟩
    rw [free] at this
    cases this
  have mem : ∀ (c : Berth) k, k ∈ (upd lists b fun l => l ++ [m])[c] ↔ k ∈ lists[c] ∨ b = c ∧ k = m := by
    intro c k
    rw [upd_fin]
    split
    next e => simp [e]
    next e => simp [e]
  refine ⟨fun c => ?_, fun c d k hc hd => ?_, fun k => ?_⟩
  · rw [upd_fin]
    split
    · exact (h.once c).append (List.nodup_singleton m) (List.disjoint_singleton.2 (none c))
    · exact h.once c
  · obtain hc | ⟨rfl, e⟩ := (mem c k).1 hc
    · obtain hd | ⟨rfl, e⟩ := (mem d k).1 hd
      · exact h.apart c d k hc hd
      · exact absurd (e ▸ hc) (none c)
    · obtain hd | ⟨rfl, -⟩ := (mem d k).1 hd
      · exact absurd (e ▸ hd) (none d)
      · rfl
  · simp only [mem]
    rw [upd_fin]
    split
    next e =>
      subst e
      exact ⟨fun _ => ⟨b, .inr ⟨rfl, rfl⟩⟩, fun _ => listed⟩
    next e =>
      rw [h.allocated k]
      exact ⟨fun ⟨c, hc⟩ => ⟨c, .inl hc⟩, fun ⟨c, hc⟩ => ⟨c, hc.resolve_right fun x => e x.2.symm⟩⟩

/-! ### What egress leaves of MPM -/

theorem Sends.listed (h : Sends s t) (l : Listed s.mpm.recs s.mpm.lists) : Listed t.mpm.recs t.mpm.lists := by
  obtain ⟨_, _, _, rfl⟩ := h
  exact l

theorem enterControl_sends (f : ControlFrame) (s : State) : Sends s (kick (enterControl f s)) :=
  (Sends.modLpu _ s).trans (kick_sends _)

theorem pollSkipped_listed (m : Module) (n : Nat) (l : Listed s.mpm.recs s.mpm.lists) :
    Listed (pollSkipped m n s).mpm.recs (pollSkipped m n s).mpm.lists := l

theorem givePoll_listed (d : Nat) (m : Module) (n : Nat) (l : Listed s.mpm.recs s.mpm.lists) :
    Listed (givePoll d m n s).mpm.recs (givePoll d m n s).mpm.lists := by
  unfold givePoll
  split
  · exact l
  split
  · exact (enterControl_sends _ s).listed l
  split
  · exact (enterControl_sends _ (displaceShpn s)).listed l
  · exact l

theorem displacePoll_listed (l : Listed s.mpm.recs s.mpm.lists) :
    Listed (displacePoll s).mpm.recs (displacePoll s).mpm.lists := by
  unfold displacePoll
  split
  · exact l
  · exact l

theorem giveSetp_listed (f : Setp) (l : Listed s.mpm.recs s.mpm.lists) :
    Listed (giveSetp f s).mpm.recs (giveSetp f s).mpm.lists := by
  unfold giveSetp
  split
  · exact l
  split
  · exact l
  split
  · exact (enterControl_sends _ s).listed l
  split
  · exact (enterControl_sends _ (displaceShpn s)).listed l
  split
  · exact (enterControl_sends _ _).listed (displacePoll_listed l)
  · exact l

theorem forwardFrame_listed (bytes : List Byte) (s : State) :
    Listed s.mpm.recs s.mpm.lists → Listed (forwardFrame bytes s).mpm.recs (forwardFrame bytes s).mpm.lists := by
  intro l
  unfold forwardFrame
  split
  · exact ((Sends.modLpu _ s).trans (kick_sends _)).listed l
  · exact l

/-! ### A write of the module table -/

theorem moduleWritten_listed {old new : ModuleEntry} {m : Module} (free : (s.modu m).state.allocated = false)
    (l : Listed s.mpm.recs s.mpm.lists) :
    Listed (moduleWritten old new m s).mpm.recs (moduleWritten old new m s).mpm.lists ∧
      ∀ k, ((moduleWritten old new m s).modu k).state.allocated = (s.modu k).state.allocated := by
  have changed : ∀ g : ModuleRec → ModuleRec, (g (s.modu m)).state.allocated = false →
      Listed (upd s.mpm.recs m g) s.mpm.lists ∧
        ∀ k : Module, (upd s.mpm.recs m g)[k].state.allocated = (s.modu k).state.allocated := by
    intro g out
    refine ⟨l.record m (out.trans free.symm), fun k => ?_⟩
    rw [upd_fin]
    split
    next e =>
      subst e
      exact out.trans free.symm
    · rfl
  have same : Listed s.mpm.recs s.mpm.lists ∧ ∀ k, (s.modu k).state.allocated = (s.modu k).state.allocated := ⟨l, fun _ => rfl⟩
  unfold moduleWritten
  split
  · split
    · exact changed (fun _ => .cleared .standby) rfl
    · exact same
  split
  · exact changed (fun r => { r with state := .absent }) rfl
  split
  · exact changed _ free
  · exact same

theorem applyModules_listed {first : Nat} {es : List (List Nat)} (free : writeInUse s .modules first es = false)
    (l : Listed s.mpm.recs s.mpm.lists) :
    Listed (applyModules first es s).mpm.recs (applyModules first es s).mpm.lists := by
  simp only [writeInUse, List.any_eq_false, Bool.not_eq_true] at free
  have run : ∀ (ms : List Module) (old new : Module → ModuleEntry) (t : State),
      (∀ m ∈ ms, (t.modu m).state.allocated = false) → Listed t.mpm.recs t.mpm.lists →
      Listed (ms.foldl (fun s m => moduleWritten (old m) (new m) m s) t).mpm.recs
        (ms.foldl (fun s m => moduleWritten (old m) (new m) m s) t).mpm.lists := by
    intro ms old new
    induction ms with
    | nil => exact fun _ _ l => l
    | cons m ms ih =>
      intro t free l
      obtain ⟨l, same⟩ := moduleWritten_listed (old := old m) (new := new m) (free m List.mem_cons_self) l
      exact ih _ (fun k hk => (same k).trans (free k (List.mem_cons_of_mem _ hk))) l
  unfold applyModules
  exact run _ _ _ _ free l

theorem listed_stays : Lasts fun s => Listed s.mpm.recs s.mpm.lists where
  command c t s := (command_sends c t s).listed
  giveShpn d n s := (giveShpn_sends d n s).listed
  givePoll d m n _ := givePoll_listed d m n
  giveSetp f _ := giveSetp_listed f
  forwardFrame bytes s := forwardFrame_listed bytes s
  egressFreed s := Sends.listed ((Sends.modLpu _ s).trans (beginNext_sends _))
  modMpm g s recs lists h := by
    show Listed (g s.mpm).recs (g s.mpm).lists
    rwa [recs, lists]
  modModule m g s same h := h.record m same
  leaveList m st s out h := h.leave m (g := fun r =>
    { r with
      state := st, first := false, startIssued := false, deferred := false, blockPending := false, startDue := none
      stopDue := none }) out
  takeModule b first m s free h := by
    have standby : s.mpm.recs[m].state = .standby := free
    exact h.enter b m (g := fun r =>
      { r with
        state := .starting, first := first, startIssued := !first, deferred := false, blockPending := false
        startDue := some (s.now + s.mpm.table[m].startLimit * 1000), stopDue := none, closedNoted := false
        runningSeen := false }) (by rw [standby]; rfl) rfl
  applyModules _ _ _ := applyModules_listed

theorem giveNotes_sends (e : EventIx) (s : State) : Sends s (giveNotes e s) :=
  foldl_stays (P := Sends s) (fun t _ h => h.trans (giveNote_sends _ t)) _ (.refl s)

theorem listed_notes : Notes fun s => Listed s.mpm.recs s.mpm.lists where
  noted e g s _ h := by simpa using (giveNotes_sends e (s.modEntry e g)).listed h
  applyEvents first es s h := by
    unfold applyEvents
    simp only [recomputeHolds_frame]
    refine foldl_stays (P := fun s => Listed s.mpm.recs s.mpm.lists) (fun t e h => ?_) _ h
    unfold eventWritten
    split
    · exact (giveNotes_sends e t).listed h
    · exact h

theorem listed_none (recs : Vector ModuleRec 8) (out : ∀ m : Module, recs[m].state.allocated = false) :
    Listed recs (Vector.replicate 4 []) := by
  refine ⟨fun b => by simp, fun b c m h => by simp at h, fun m => ?_⟩
  rw [out m]
  simp

theorem listed_cold (now : Nat) : Listed (Mpm.cold now).recs (Mpm.cold now).lists := listed_none _ fun m => by
  simp [Mpm.cold, ModuleRec.cleared, ModuleState.allocated]

end
end Sys2Proof.Machine
end

section
open Sys2Proof Sys2Proof.Machine

/-- Settles O11: a module enters a list as it leaves STANDBY and leaves it as it becomes unallocated; no other change
touches its allocation. -/
theorem modulesListedKept : Obligations.ModulesListedKept := by
  have warm : ∀ now (c : Mpm), Listed (c.warm now).recs (c.warm now).lists := fun now c => listed_none _ fun m => by
    simp only [Mpm.warm, Fin.getElem_fin, Vector.getElem_map, ModuleRec.cleared]
    split <;> rfl
  have k := listed_stays
  have replies : ∀ f v (s : State), Listed s.mpm.recs s.mpm.lists →
      Listed (enterReply f v s).mpm.recs (enterReply f v s).mpm.lists := fun f v s => (enterReply_sends f v s).listed
  intro s t h e
  refine (modulesListed_iff t).2 (k.outlasts listed_notes (k.service listed_notes {} (fun _ _ _ => warm _ _)
    (fun _ h => h) replies (fun f s h => replies f false (s.modLpu _) h))
    (fun _ _ _ _ _ => listed_cold _) (fun _ _ _ _ _ _ _ => warm _ _) (fun _ _ h => h) (fun _ _ h => h)
    ((modulesListed_iff s).1 h) e)

end

section
namespace Sys2Proof.Machine

/-! ### The face of a berth (R115, R121, R145)

What the slots and the trips of a berth turn on: its state, demand and reason, the kind of its slot, and the current set.
An operation of BSQ turns the face of one berth by a function and leaves the others; it is judged by that function. -/

/-- What a slot holds. -/
inductive SlotKind
  | free
  | reserved
  | open
deriving DecidableEq

def Slot.kind : Slot → SlotKind
  | .free => .free
  | .reserved => .reserved
  | .openSlot _ => .open

/-- R145: what the slot of a berth in the state holds. -/
def BerthState.slotKind : BerthState → SlotKind
  | .unused | .dead | .releasing | .tripped => .free
  | .allocating | .energising | .syncing | .deadClose => .reserved
  | .rampUp | .shore | .awaitGenerators | .rampDown | .opening => .open

theorem slotFits_iff (st : BerthState) (x : Slot) : slotFits st x = true ↔ x.kind = st.slotKind := by
  cases st <;> cases x <;> simp [slotFits, Slot.kind, BerthState.slotKind]

structure Face where
  state : BerthState
  demand : Bool
  reason : Option TripReason
  kind : SlotKind
  current : Option (Fin 4)

def faceIn (q : Bsq) (g : Blg) (b : Berth) : Face :=
  ⟨q.recs[b].state, q.recs[b].demand, q.recs[b].reason, g.slots[b].kind, g.current⟩

def State.face (s : State) (b : Berth) : Face := faceIn s.bsq s.blg b

/-- R143, R145: the slot fits the state, and a reservation has a current set. -/
def Face.Fits (x : Face) : Prop := x.kind = x.state.slotKind ∧ (x.kind = .reserved → x.current ≠ none)

/-- R121, R145: a turn of a face that fits gives one that fits, and leaves one that is TRIPPED so, with its demand and
reason. -/
structure Face.Legal (x y : Face) : Prop where
  fits : x.Fits → y.Fits
  tripped : x.state = .tripped → y.state = .tripped ∧ (x.demand = true → y.demand = true) ∧ y.reason = x.reason

theorem Face.Legal.refl (x : Face) : x.Legal x := ⟨id, fun h => ⟨h, id, rfl⟩⟩

/-- A turn from a state other than TRIPPED. -/
theorem Face.Legal.leaves {x y : Face} {st : BerthState} (is : x.state = st) (other : st ≠ .tripped)
    (fits : x.kind = st.slotKind → (x.kind = .reserved → x.current ≠ none) → y.Fits) : x.Legal y :=
  ⟨fun ⟨kind, tariff⟩ => fits (is ▸ kind) tariff, fun no => absurd (is.symm.trans no) other⟩

theorem Face.Legal.trans {x y z : Face} (h : x.Legal y) (k : y.Legal z) : x.Legal z where
  fits := k.fits ∘ h.fits
  tripped is := by
    obtain ⟨state, demand, reason⟩ := h.tripped is
    obtain ⟨state', demand', reason'⟩ := k.tripped state
    exact ⟨state', demand' ∘ demand, reason'.trans reason⟩

/-- Work that turns every face legally. -/
def Fitting (s t : State) : Prop := ∀ b, (s.face b).Legal (t.face b)

theorem Fitting.refl (s : State) : Fitting s s := fun _ => .refl _

theorem Fitting.trans {s t u : State} (h : Fitting s t) (k : Fitting t u) : Fitting s u := fun b => (h b).trans (k b)

theorem Fitting.of_faces {s t : State} (h : ∀ b, t.face b = s.face b) : Fitting s t := fun b => h b ▸ .refl _

theorem Fitting.of_same {s t : State} (h : t.bsq = s.bsq ∧ t.blg = s.blg) : Fitting s t :=
  .of_faces fun b => by rw [State.face, h.1, h.2]; rfl

theorem Fitting.foldl {α : Type} {f : State → α → State} (h : ∀ t x, Fitting t (f t x)) (xs : List α) (s : State) :
    Fitting s (xs.foldl f s) := by
  induction xs generalizing s with
  | nil => exact .refl s
  | cons x xs ih => exact (h s x).trans (ih _)

/-- The face of `b` is turned by `f`, the others stay. -/
def Turns (b : Berth) (f : Face → Face) (s t : State) : Prop := ∀ c, t.face c = if c = b then f (s.face c) else s.face c

section
variable {b : Berth} {f g : Face → Face} {s t u : State}

theorem Turns.trans (h : Turns b f s t) (k : Turns b g t u) : Turns b (fun x => g (f x)) s u := by
  intro c
  rw [k c, h c]
  split <;> rfl

theorem Turns.of_faces (h : ∀ c, t.face c = s.face c) : Turns b id s t := fun c => by
  rw [h c]
  split <;> rfl

theorem Turns.of_same (h : t.bsq = s.bsq ∧ t.blg = s.blg) : Turns b id s t :=
  .of_faces fun c => by rw [State.face, h.1, h.2]; rfl

theorem Turns.here (h : Turns b f s t) : t.face b = f (s.face b) := by rw [h b, if_pos rfl]

/-- Work of other blocks turns nothing more. -/
theorem Turns.aside (h : Turns b f s t) (same : u.bsq = t.bsq ∧ u.blg = t.blg := by simp) : Turns b f s u :=
  h.trans (.of_same same)

/-- Work that turns one face legally. -/
theorem Turns.fitting (h : Turns b f s t) (legal : (s.face b).Legal (f (s.face b))) : Fitting s t := by
  intro c
  rw [h c]
  split
  next e => exact e ▸ legal
  · exact .refl _

/-! ### The single changes -/

/-- The face that a berth record and a slot make. -/
def BerthRec.face (r : BerthRec) (k : SlotKind) (c : Option (Fin 4)) : Face := ⟨r.state, r.demand, r.reason, k, c⟩

theorem modBerth_turns {h : BerthRec → BerthRec} (same : ∀ k c, (h (s.berth b)).face k c = f ((s.berth b).face k c) := by
    exact fun _ _ => rfl) : Turns b f s (s.modBerth b h) := by
  intro c
  by_cases e : c = b
  · subst e
    rw [if_pos rfl]
    have at_c : (s.modBerth c h).bsq.recs[c] = h s.bsq.recs[c] := s.berth_modBerth c h
    show ((s.modBerth c h).bsq.recs[c]).face _ _ = _
    rw [at_c]
    exact same _ _
  · rw [if_neg e]
    have other : (s.modBerth b h).bsq.recs[c] = s.bsq.recs[c] := s.berth_modBerth_other (Ne.symm e) _
    show ((s.modBerth b h).bsq.recs[c]).face _ _ = _
    rw [other]
    rfl

/-- A change of a berth record that its face does not show. -/
theorem modBerth_still {h : BerthRec → BerthRec} (same : ∀ k c, (h (s.berth b)).face k c = (s.berth b).face k c := by
    exact fun _ _ => rfl) : Turns b id s (s.modBerth b h) := modBerth_turns same

theorem modSlot_turns (v : Slot) : Turns b (fun x => { x with kind := v.kind }) s (s.modSlot b fun _ => v) := by
  intro c
  by_cases e : c = b
  · subst e
    rw [if_pos rfl]
    simp [State.face, faceIn]
  · rw [if_neg e]
    have other : (s.modSlot b fun _ => v).blg.slots[c] = s.blg.slots[c] := upd_other _ _ (Ne.symm e)
    rw [State.face, faceIn, other]
    rfl

theorem evalLogFull_turns (b : Berth) (s : State) : Turns b id s (evalLogFull s) := by
  refine .of_faces fun c => ?_
  unfold evalLogFull
  split <;> rfl

/-- The turn of a face is judged at the berth alone. -/
theorem Turns.as (h : Turns b f s t) (same : f (s.face b) = g (s.face b)) : Turns b g s t := by
  intro c
  rw [h c]
  split
  next e => exact e ▸ same
  · rfl

theorem Turns.still (h : g (s.face b) = s.face b) : Turns b g s s := fun c => by
  split
  next e => exact e ▸ h.symm
  · rfl

/-! ### The operations of BLG -/

def Face.withKind (k : SlotKind) (x : Face) : Face := { x with kind := k }

/-- R145: a free slot is reserved. -/
def Face.booked (x : Face) : Face := if x.kind = .free then x.withKind .reserved else x

/-- R145: a reservation is freed. -/
def Face.freed (x : Face) : Face := if x.kind = .reserved then x.withKind .free else x

/-- R148: a session opens where the slot is RESERVED and a current set is there. -/
def Face.opened (x : Face) : Face := if x.kind = .reserved ∧ x.current ≠ none then x.withKind .open else x

/-- R150: a session is closed. -/
def Face.closed (x : Face) : Face := if x.kind = .open then x.withKind .free else x

theorem kind_eq {x : Slot} (h : s.slot b = x) : (s.face b).kind = x.kind := h ▸ rfl

theorem reserveSlot_turns (b : Berth) (s : State) : Turns b Face.booked s (reserveSlot b s) := by
  unfold reserveSlot
  split
  next held => exact ((modSlot_turns .reserved).trans (evalLogFull_turns b _)).as (if_pos (kind_eq held)).symm
  next other =>
    refine .still (if_neg fun is => ?_)
    cases held : s.slot b with
    | free => exact other held
    | _ => simp [kind_eq held, Slot.kind] at is

theorem freeSlot_turns (b : Berth) (s : State) : Turns b Face.freed s (freeSlot b s) := by
  unfold freeSlot
  split
  next held => exact ((modSlot_turns .free).trans (evalLogFull_turns b _)).as (if_pos (kind_eq held)).symm
  next other =>
    refine .still (if_neg fun is => ?_)
    cases held : s.slot b with
    | reserved => exact other held
    | _ => simp [kind_eq held, Slot.kind] at is

theorem openSession_turns (b : Berth) (s : State) : Turns b Face.opened s (openSession b s) := by
  unfold openSession
  split
  next set held current =>
    have opened := modSlot_turns (b := b) (s := s) (.openSlot (newSession b (shipIdentOf s b) set s.clock))
    have bound : ∀ u : State, Turns b id u ((bindSet set u).modMeter b fun m => { m with demandAcc := 0 }) :=
      fun u => .of_faces fun _ => rfl
    have is : (s.face b).kind = .reserved ∧ (s.face b).current ≠ none :=
      ⟨kind_eq held, by simp [State.face, faceIn, current]⟩
    exact (opened.trans (bound _)).as (if_pos is).symm
  next other =>
    refine .still (if_neg fun ⟨is, tariff⟩ => ?_)
    obtain ⟨set, current⟩ := Option.ne_none_iff_exists'.1 tariff
    cases held : s.slot b with
    | reserved => exact other set held current
    | _ => simp [kind_eq held, Slot.kind] at is

theorem closeSession_turns (b : Berth) (why : EndReason) (s : State) : Turns b Face.closed s (closeSession b why s) := by
  unfold closeSession
  split
  next r held =>
    have logged : Turns b id s ((s.modMeter b fun m => { m with demandAcc := 0 }).modBlg fun g =>
        { g with log := g.log ++ [closedRecord s b why r], counter := g.counter + 1 }) := .of_faces fun _ => rfl
    have unbound : ∀ u : State, Turns b id u (unbindSet r.set u) := fun u => .of_faces fun _ => rfl
    exact (((logged.trans (modSlot_turns .free)).trans (unbound _)).trans (evalLogFull_turns b _)).as
      (if_pos (kind_eq held)).symm
  next other =>
    refine .still (if_neg fun is => ?_)
    cases held : s.slot b with
    | openSlot r => exact other r held
    | _ => simp [kind_eq held, Slot.kind] at is

/-! ### Changes of state (R98) -/

def Face.enters (st : BerthState) (x : Face) : Face := { x with state := st }

theorem changeState_turns (b : Berth) (st : BerthState) (s : State) : Turns b (Face.enters st) s (changeState b st s) := by
  have moved : Turns b (Face.enters st) s (s.modBerth b fun r => { r with state := st }) := modBerth_turns
  exact moved.trans (.of_same ⟨changeState_bsq b st s, by simp⟩)

theorem enterState_turns (b : Berth) (st : BerthState) (s : State) : Turns b (Face.enters st) s (enterState b st s) :=
  (changeState_turns b st s).trans (.of_same (by simp [enterState]))

/-! ### Work of other blocks -/

theorem Turns.refl (b : Berth) (s : State) : Turns b id s s := .of_same ⟨rfl, rfl⟩

theorem post_turns (b : Berth) (h : Handoff) (s : State) : Turns b id s (s.post h) := .of_same ⟨rfl, rfl⟩

theorem advanceTo_turns (b : Berth) (due : Nat) (s : State) : Turns b id s (s.advanceTo due) := .of_same (by simp)

theorem driveOutputs_turns (b : Berth) (s : State) : Turns b id s (driveOutputs s) := .of_same ⟨rfl, rfl⟩

theorem setPSet_turns (b : Berth) (v : Nat) (s : State) : Turns b id s (setPSet b v s) := .of_same (by simp)

theorem command_turns (b : Berth) (c : BreakerCmd) (t : Target) (s : State) : Turns b id s (command c t s) :=
  .of_same (by simp)

theorem cancelSync_turns (b : Berth) (t : Target) (s : State) : Turns b id s (cancelSync t s) := .of_same (by simp)

theorem releaseBerth_turns (b c : Berth) (s : State) : Turns b id s (releaseBerth c s) := .of_same (by simp)

end
end Sys2Proof.Machine
end

section
namespace Sys2Proof.Machine

/-! ### The sequence turns faces legally (chapter 6) -/

section
variable {b : Berth} {s : State}

/-! ### Pieces of the sequence -/

theorem BerthRec.face_syncTimer (now : Nat) (r : BerthRec) (k : SlotKind) (c : Option (Fin 4)) :
    (r.syncTimer now).face k c = r.face k c := by
  obtain ⟨rt, e, -⟩ := syncTimer_eq now r
  rw [e]
  rfl

theorem setShipHold_turns (b : Berth) (v : Option Nat) (s : State) : Turns b id s (setShipHold b v s) :=
  modBerth_still fun _ _ => BerthRec.face_syncTimer _ _ _ _

theorem startRamp_turns (b : Berth) (s : State) : Turns b id s (startRamp b s) :=
  modBerth_still fun _ _ => BerthRec.face_syncTimer _ _ _ _

theorem stopRamp_turns (b : Berth) (s : State) : Turns b id s (stopRamp b s) :=
  (setShipHold_turns b none s).trans modBerth_still

theorem enterRampUp_turns (b : Berth) (s : State) : Turns b (Face.enters .rampUp) s (enterRampUp b s) :=
  ((startRamp_turns b s).trans modBerth_still).trans (enterState_turns b .rampUp _)

theorem enterRampDown_turns (b : Berth) (s : State) : Turns b (Face.enters .rampDown) s (enterRampDown b s) :=
  ((startRamp_turns b s).trans modBerth_still).trans (enterState_turns b .rampDown _)

/-- R113, R121: a berth returns to DEAD with its demand and reason as `h` leaves them. -/
theorem returnToDead_turns {h : BerthRec → BerthRec} {f : Face → Face}
    (same : ∀ k c, (h (s.berth b)).face k c = f ((s.berth b).face k c)) :
    Turns b (fun x => (f x).enters .dead) s (enterState b .dead (driveOutputs (clearCall b (s.modBerth b h)))) := by
  have called : Turns b f s ((s.modBerth b h).modBerth b fun r => { r with deadShip := false, energised := false }) :=
    (modBerth_turns same).trans modBerth_still
  exact (called.aside (u := driveOutputs (clearCall b (s.modBerth b h))) (by simp [driveOutputs, clearCall])).trans
    (enterState_turns b .dead _)

theorem listEmptyTaken_fitting (b : Berth) (s : State) : Fitting s (listEmptyTaken b s) := by
  unfold listEmptyTaken
  split
  next releasing =>
    refine (returnToDead_turns (f := fun x => { x with demand := (s.berth b).demand && !(s.berth b).fromOpening })
      fun _ _ => rfl).fitting (.leaves releasing.1 (by decide) fun kind _ => ?_)
    simp [Face.Fits, Face.enters, kind, BerthState.slotKind]
  · exact .refl s

/-- R113: the berth that leaves for RELEASING, from the face its work so far has given it. -/
theorem Turns.releases {f : Face → Face} {u : State} (h : Turns b f s u)
    (legal : (s.face b).Legal ((f (s.face b)).freed.enters .releasing)) : Fitting s (enterReleasing b u) := by
  have freed := (h.trans (cancelSync_turns b (outlet b) u)).trans (freeSlot_turns b _)
  have entered := (freed.trans (releaseBerth_turns b b _)).trans (enterState_turns b .releasing _)
  exact (entered.fitting legal).trans (listEmptyTaken_fitting b _)

/-- R113: a berth whose slot is RESERVED leaves for RELEASING. -/
theorem Face.Legal.releases {x : Face} {st : BerthState} (is : x.state = st) (booked : st.slotKind = .reserved) :
    x.Legal (x.freed.enters .releasing) := by
  refine .leaves is (by rintro rfl; cases booked) fun kind _ => ?_
  have held : x.freed = x.withKind .free := if_pos (kind.trans booked)
  rw [held]
  exact ⟨rfl, nofun⟩

theorem enterReleasing_fitting {st : BerthState} (is : (s.berth b).state = st) (booked : st.slotKind = .reserved) :
    Fitting s (enterReleasing b s) :=
  (Turns.refl b s).releases (.releases is booked)

/-- R115: the turn of a trip. -/
def Face.trips (why : TripReason) (x : Face) : Face :=
  ({ ({ x with demand := true } : Face).closed.freed with reason := some why } : Face).enters .tripped

theorem tripCommanded_turns (b : Berth) (s : State) :
    Turns b (fun x => { x with demand := true }) s (tripCommanded b s) := by
  have demanded : Turns b (fun x => { x with demand := true }) s
      (s.modBerth b fun r => { r with demand := true, fromOpening := false }) := modBerth_turns
  exact ((demanded.trans (driveOutputs_turns b _)).trans (cancelSync_turns b _ _)).trans (command_turns b _ _ _)

theorem stopTimers_turns (b : Berth) (s : State) : Turns b id s (stopTimers b s) :=
  ((stopRamp_turns b s).trans modBerth_still).trans (setPSet_turns b 0 _)

theorem tripBerth_turns (why : TripReason) (h : (s.berth b).state.active = true) :
    Turns b (Face.trips why) s (tripBerth b why s) := by
  have released := (tripCommanded_turns b s).trans (releaseBerth_turns b b _)
  have billed := (released.trans (closeSession_turns b why.endReason _)).trans (freeSlot_turns b _)
  have ended := (billed.trans (stopTimers_turns b _)).trans
    (modBerth_turns (h := fun r => { r with reason := some why }) (f := fun x => { x with reason := some why }))
  rw [tripBerth_eq h]
  exact ended.trans (enterState_turns b .tripped (tripEnded b why s))

theorem tripBerth_fitting (b : Berth) (why : TripReason) (s : State) : Fitting s (tripBerth b why s) := by
  cases h : (s.berth b).state.active with
  | false =>
    rw [tripBerth_inactive h]
    exact .refl s
  | true =>
    have free : ∀ x : Face, (Face.trips why x).kind = .free := by
      rintro ⟨-, -, -, kind, -⟩
      cases kind <;> simp [Face.trips, Face.closed, Face.freed, Face.withKind, Face.enters]
    refine (tripBerth_turns why h).fitting ⟨fun _ => ⟨free _, fun no => by simp [free] at no⟩, fun no => ?_⟩
    have no : (s.berth b).state = .tripped := no
    simp [no, BerthState.active] at h

/-! ### Connection (R99 to R103) -/

theorem State.face_state (s : State) (b : Berth) : (s.face b).state = (s.berth b).state := rfl

theorem evalLogFull_fitting (s : State) : Fitting s (evalLogFull s) := (evalLogFull_turns 0 s).fitting (.refl _)

/-- A berth enters a state that calls for what its slot holds. -/
theorem enterState_fitting {st st' : BerthState} (is : (s.berth b).state = st) (other : st ≠ .tripped)
    (same : st'.slotKind = st.slotKind) : Fitting s (enterState b st' s) :=
  (enterState_turns b st' s).fitting (.leaves is other fun kind tariff => ⟨kind.trans same.symm, tariff⟩)

theorem Turns.state {u : State} (h : Turns b id s u) : (u.berth b).state = (s.berth b).state :=
  congrArg Face.state h.here

theorem acceptConnect_fitting {deadShip : Bool} (dead : (s.berth b).state = .dead) (tariff : s.blg.current ≠ none) :
    Fitting s (acceptConnect b deadShip s) := by
  have made : Turns b Face.booked s (createRef b (allocate b (reserveSlot b s))) := (reserveSlot_turns b s).aside
  have prepared := made.trans (modBerth_turns (f := fun x => { x with reason := none })
    (h := fun r => { r with
      deadShip := deadShip, energised := false, holdEnd := none
      holdFrom := (createRef b (allocate b (reserveSlot b s))).now, holdAcc := 0, holdMark := false, rampDone := false
      capacityCond := false, lastLimit := 0, reason := none }))
  refine (prepared.trans (enterState_turns b .allocating _)).fitting (.leaves dead (by decide) fun kind _ => ?_)
  have held : (s.face b).booked = (s.face b).withKind .reserved := if_pos kind
  rw [held]
  exact ⟨rfl, fun _ => tariff⟩

theorem connectCmd_fitting (b : Berth) (deadShip : Bool) (s : State) : Fitting s (connectCmd b deadShip s).2 := by
  unfold connectCmd
  split
  · exact .refl s
  next dead =>
    split
    · exact .refl s
    split
    · exact .refl s
    split
    · exact .of_same ⟨rfl, rfl⟩
    next loaded =>
      dsimp only
      split
      · exact evalLogFull_fitting s
      split
      · exact evalLogFull_fitting s
      · dsimp only
        have still := evalLogFull_turns b s
        have state : (s.berth b).state = .dead := by simpa using (not_or.1 dead).1
        refine (evalLogFull_fitting s).trans (acceptConnect_fitting (still.state.trans state) fun none => ?_)
        have none : s.blg.current = Option.none := (congrArg Face.current still.here).symm.trans none
        simp [tariffLoaded, none] at loaded

theorem energisedTest_fitting (b : Berth) (s : State) : Fitting s (energisedTest b s) := by
  unfold energisedTest
  dsimp only
  split
  next h =>
    split
    · have asked : Turns b id s (requestDeadBus (outlet b) b .bsq s) := .of_same (by simp)
      exact (asked.fitting (.refl _)).trans (enterState_fitting (asked.state.trans h.1) (by decide) rfl)
    · have asked : Turns b id s (requestSync (outlet b) b .bsq s) := .of_same (by simp)
      exact (asked.fitting (.refl _)).trans (enterState_fitting (asked.state.trans h.1) (by decide) rfl)
  · exact .refl s

theorem energisedTaken_fitting (b : Berth) (s : State) : Fitting s (energisedTaken b s) := by
  unfold energisedTaken
  split
  · exact ((modBerth_still (h := fun r => { r with energised := true })).fitting (.refl _)).trans
      (energisedTest_fitting b _)
  · exact .refl s

theorem loseSource_fitting {st : BerthState} (is : (s.berth b).state = st) (booked : st.slotKind = .reserved) :
    Fitting s (loseSource b s) := by
  exact ((cancelSync_turns b _ s).trans (post_turns b _ _)).releases (.releases is booked)

theorem actOnSummary_fitting (b : Berth) (s : State) : Fitting s (actOnSummary b s) := by
  unfold actOnSummary
  dsimp only
  split
  next is =>
    split
    · exact (enterState_fitting (st' := .energising) is (by decide) rfl).trans (energisedTest_fitting b _)
    · exact .refl s
  next is =>
    split
    · exact loseSource_fitting is rfl
    · exact energisedTest_fitting b s
  case h_3 is | h_4 is =>
    split
    · exact loseSource_fitting is rfl
    · exact .refl s
  case h_5 | h_6 | h_7 | h_8 =>
    split
    · exact tripBerth_fitting b _ s
    · exact .refl s
  all_goals exact .refl s

theorem summaryTaken_fitting (b : Berth) (s : State) : Fitting s (summaryTaken b s) := by
  unfold summaryTaken
  split
  · exact .refl s
  · exact ((modBerth_still (h := fun r => { r with summary := summaryOf s b })).fitting (.refl _)).trans
      (actOnSummary_fitting b _)

theorem firstFailureTaken_fitting (b : Berth) (s : State) : Fitting s (firstFailureTaken b s) := by
  unfold firstFailureTaken
  split
  next is => exact (post_turns b _ s).releases (.releases is rfl)
  · exact .refl s

/-- R148: a session opens as the berth enters a state that calls for one. -/
theorem Face.Legal.opens {x : Face} {st st' : BerthState} (is : x.state = st) (booked : st.slotKind = .reserved)
    (calls : st'.slotKind = .open) : x.Legal (x.opened.enters st') := by
  refine .leaves is (by rintro rfl; cases booked) fun kind tariff => ?_
  have held : x.kind = .reserved := kind.trans booked
  have opened : x.opened = x.withKind .open := if_pos ⟨held, tariff held⟩
  rw [opened]
  exact ⟨calls.symm, nofun⟩

theorem outletResultTaken_fitting (b : Berth) (r : SyncResult) (s : State) : Fitting s (outletResultTaken b r s) := by
  unfold outletResultTaken
  split
  next is =>
    cases r with
    | success => exact ((openSession_turns b s).trans (enterRampUp_turns b _)).fitting (.opens is rfl rfl)
    | failedWait => exact enterReleasing_fitting is rfl
    | failedAttempts => exact enterReleasing_fitting is rfl
    | cancelled => exact .refl s
  · exact .refl s

theorem outletOutcomeTaken_fitting (b : Berth) (o : DeadOutcome) (s : State) : Fitting s (outletOutcomeTaken b o s) := by
  unfold outletOutcomeTaken
  split
  next is =>
    have failed : Fitting s (enterReleasing b (s.post (.raise (evSyncFail b)))) :=
      (post_turns b _ s).releases (.releases is rfl)
    cases o with
    | confirmed => exact ((openSession_turns b s).trans (enterState_turns b .shore _)).fitting (.opens is rfl rfl)
    | refused => exact failed
    | notConfirmed => exact failed
  · exact .refl s

/-! ### The ramps and the timers (R104 to R112) -/

theorem rampDoneTest_turns (b : Berth) (s : State) : Turns b id s (rampDoneTest b s) := by
  unfold rampDoneTest
  split
  · exact (modBerth_still (h := fun r => { r with rampDone := true })).aside
  · exact .of_same ⟨rfl, rfl⟩

theorem capacityTest_turns (b : Berth) (s : State) : Turns b id s (capacityTest b s) := by
  have raised : Turns b id s (s.post (.raise (evCapacityLimit b))) := .of_same ⟨rfl, rfl⟩
  unfold capacityTest
  dsimp only
  split
  · split
    · exact raised
    · exact (raised.trans (modBerth_still
        (h := fun r => { r with capacityCond := true, lastLimit := targetOf s b }))).aside
  · exact modBerth_still

theorem openTest_fitting (is : (s.berth b).state = .rampDown) : Fitting s (openTest b s) := by
  unfold openTest
  split
  · have started : ∀ u, Turns b id u (startOpening b u) := fun u => modBerth_still
    have stopped := ((command_turns b .openCmd (outlet b) s).trans (started _)).trans (stopRamp_turns b _)
    exact (stopped.fitting (.refl _)).trans (enterState_fitting (stopped.state.trans is) (by decide) rfl)
  · exact .refl s

theorem rampPeriodTaken_fitting (b : Berth) (s : State) : Fitting s (rampPeriodTaken b s) := by
  unfold rampPeriodTaken
  split
  · exact .refl s
  next due _ =>
    have later := advanceTo_turns b due s
    have moved := later.trans (modBerth_still (h := fun r => { r with rampDue := some (due + Config.rampPeriodMs) }))
    dsimp only
    split
    · exact (((moved.trans (setPSet_turns b _ _)).trans (rampDoneTest_turns b _)).trans (capacityTest_turns b _)).fitting
        (.refl _)
    next down =>
      exact (moved.fitting (.refl _)).trans (((setPSet_turns b _ _).fitting (.refl _)).trans
        (openTest_fitting ((setPSet_turns b _ _).state.trans down)))
    · exact moved.fitting (.refl _)

theorem rampTimeoutTaken_fitting (b : Berth) (s : State) : Fitting s (rampTimeoutTaken b s) := by
  unfold rampTimeoutTaken
  split
  next due _ =>
    have later := advanceTo_turns b due s
    exact ((later.trans (modBerth_still (h := fun r => { r with rampTimer := .stopped }))).aside ⟨rfl, rfl⟩).fitting
      (.refl _)
  · exact .refl s

theorem shipHoldEndTaken_fitting (b : Berth) (s : State) : Fitting s (shipHoldEndTaken b s) := by
  unfold shipHoldEndTaken
  split
  · exact .refl s
  next due _ =>
    have later := advanceTo_turns b due s
    exact (later.trans (setShipHold_turns b none _)).fitting (.refl _)

theorem holdLimitTaken_fitting (b : Berth) (s : State) : Fitting s (holdLimitTaken b s) := by
  unfold holdLimitTaken
  split
  · exact ((((advanceTo_turns b (holdLimitDue s b) s).trans (setShipHold_turns b none _)).trans
      (modBerth_still (h := fun r => { r with holdMark := true }))).aside ⟨rfl, rfl⟩).fitting (.refl _)
  · exact .refl s

theorem generatorWaitTaken_fitting (b : Berth) (s : State) : Fitting s (generatorWaitTaken b s) := by
  unfold generatorWaitTaken
  split
  · exact .refl s
  next due _ =>
    have later := advanceTo_turns b due s
    exact ((later.trans (modBerth_still (h := fun r => { r with genDue := none }))).aside ⟨rfl, rfl⟩).fitting (.refl _)

theorem openingTaken_fitting (b : Berth) (s : State) : Fitting s (openingTaken b s) := by
  unfold openingTaken
  split
  · exact .refl s
  next due _ =>
    dsimp only
    have later := (advanceTo_turns b due s).trans (post_turns b (.raise (evBreakerNoConfirm b)) _)
    have demanded := later.trans (modBerth_turns (f := fun x => { x with demand := true })
      (h := fun r => { r with demand := true, fromOpening := true }))
    have commanded := (demanded.trans (driveOutputs_turns b _)).trans (command_turns b .trip (outlet b) _)
    exact (commanded.trans modBerth_still).fitting ⟨id, fun is => ⟨is, fun _ => rfl, rfl⟩⟩

/-! ### Ship messages and berth commands (R96, R105 to R110, R114 to R121) -/

theorem holdTaken_fitting (b : Berth) (quanta : Nat) (s : State) : Fitting s (holdTaken b quanta s) := by
  unfold holdTaken
  split
  · exact .refl s
  split
  · exact (setShipHold_turns b _ s).fitting (.refl _)
  · exact (setShipHold_turns b _ s).fitting (.refl _)

theorem genOffTaken_fitting (b : Berth) (s : State) : Fitting s (genOffTaken b s) := by
  unfold genOffTaken
  split
  next up =>
    have stopped := stopRamp_turns b s
    exact (stopped.fitting (.refl _)).trans (enterState_fitting (stopped.state.trans up) (by decide) rfl)
  · exact .refl s

theorem genOnTaken_fitting (b : Berth) (s : State) : Fitting s (genOnTaken b s) := by
  unfold genOnTaken
  split
  next waiting =>
    have set := (modBerth_still (s := s) (b := b) (h := fun r => { r with genDue := none })).trans
      (setPSet_turns b (genOnPSet s b) _)
    exact (set.trans (enterRampDown_turns b _)).fitting
      (.leaves waiting (by decide) fun kind tariff => ⟨kind, tariff⟩)
  · exact .refl s

theorem shipMessage_fitting (b : Berth) (m : ShipMsg) (s : State) : Fitting s (shipMessage b m s) := by
  cases m with
  | state ready deadBus gens load ident => exact .of_faces fun _ => rfl
  | hold q => exact holdTaken_fitting b q s
  | genOff => exact genOffTaken_fitting b s
  | genOn => exact genOnTaken_fitting b s
  | shedAck kw => exact (modBerth_still (h := fun r => { r with shedAck := kw })).fitting (.refl _)

theorem departCmd_fitting (b : Berth) (s : State) : Fitting s (departCmd b s).2 := by
  unfold departCmd
  split
  next shore =>
    dsimp only
    have noted := modBerth_still (s := s) (b := b)
      (h := fun r => { r with genDue := some (s.now + (s.entry b).genWait * 1000) })
    exact (noted.fitting (.refl _)).trans (enterState_fitting (noted.state.trans shore) (by decide) rfl)
  · exact .refl s

theorem abortCmd_fitting (b : Berth) (s : State) : Fitting s (abortCmd b s).2 := by
  unfold abortCmd
  split
  case h_1 is | h_2 is | h_3 is | h_4 is =>
    dsimp only
    exact enterReleasing_fitting is rfl
  case h_5 up =>
    dsimp only
    exact (enterRampDown_turns b s).fitting (.leaves up (by decide) fun kind tariff => ⟨kind, tariff⟩)
  all_goals exact .refl s

theorem tripCmd_fitting (b : Berth) (s : State) : Fitting s (tripCmd b s).2 := by
  unfold tripCmd
  split
  · exact .refl s
  · exact .refl s
  · exact tripBerth_fitting b _ s

/-- R121: RESET_TRIP, where it is taken, ends a trip; the slot of a TRIPPED berth is free as that of a DEAD one. -/
theorem resetTripCmd_fits (b c : Berth) (s : State) (h : (s.face c).Fits) : (((resetTripCmd b s).2).face c).Fits := by
  unfold resetTripCmd
  split
  next allowed =>
    have turned := returnToDead_turns (s := s) (b := b) (h := fun r => { r with demand := false, fromOpening := false, reason := none })
      (f := fun x => { x with demand := false, reason := none }) fun _ _ => rfl
    dsimp only
    rw [turned c]
    split
    next e =>
      subst e
      have is : (s.face c).state = .tripped := by
        simp only [resetTripAllowed, Bool.and_eq_true, decide_eq_true_eq] at allowed
        exact allowed.1.1.1
      obtain ⟨kind, tariff⟩ := h
      rw [is] at kind
      exact ⟨kind, tariff⟩
    · exact h
  · exact h

theorem outletPosition_fitting (b : Berth) (p : Position) (s : State) : Fitting s (outletPosition b p s) := by
  unfold outletPosition
  split
  · exact .refl s
  split
  next opening =>
    split
    · have closed := (modBerth_still (s := s) (b := b) (h := fun r => { r with openDue := none })).trans
        (closeSession_turns b .normal _)
      refine closed.releases (.leaves opening (by decide) fun kind _ => ?_)
      have ended : (id (s.face b)).closed = (s.face b).withKind .free := if_pos kind
      rw [ended]
      exact ⟨rfl, nofun⟩
    · exact .refl s
  split
  · exact (tripBerth_fitting b _ s).trans (.of_same ⟨rfl, rfl⟩)
  · exact .refl s

/-! ### Inputs (R117, R122) and the berth table (R95) -/

theorem pilotChange_fitting (b : Berth) (asserted : Bool) (s : State) : Fitting s (pilotChange b asserted s) := by
  have level : Fitting s (s.modPins fun p => { p with pilot := upd p.pilot b fun _ => asserted }) := .of_same ⟨rfl, rfl⟩
  unfold pilotChange
  split
  · exact .refl s
  dsimp only
  split
  · exact (level.trans (tripBerth_fitting b _ _)).trans (.of_same ⟨rfl, rfl⟩)
  · exact level

theorem estopTaken_fitting (s : State) : Fitting s (estopTaken s) := by
  have stopped : Fitting s (syuEstop (driveOutputs (s.modPins fun p => { p with estop := true }))) :=
    .of_same (by simp [driveOutputs])
  have raised : ∀ u n, Fitting u ((u.post (.raise evEstop)).modBsq fun q => { q with estopRepeat := n }) :=
    fun _ _ => .of_faces fun _ => rfl
  unfold estopTaken
  dsimp only
  exact (stopped.trans (.foldl (fun t c => tripBerth_fitting c .estop t) allBerths _)).trans (raised _ _)

theorem estopReleased_fitting (s : State) : Fitting s (estopReleased s) := .of_faces fun _ => rfl

theorem estopRepeatTaken_fitting (s : State) : Fitting s (estopRepeatTaken s) := by
  unfold estopRepeatTaken
  split
  · exact .refl s
  · exact .of_faces fun c => by simp [State.face, faceIn]

end
end Sys2Proof.Machine
end

section
namespace Sys2Proof.Machine

/-! ### What faces show outlasts all work -/

section
variable {s t : State} {b : Berth}

/-! ### BLG and EVR -/

/-- What an open session takes is not seen. -/
theorem Blg.Counts.faces {g h : Blg} (m : g.Counts h) (q : Bsq) (b : Berth) : faceIn q h b = faceIn q g b := by
  induction m with
  | refl => rfl
  | @tail h _ _ n ih =>
    obtain ⟨c, r, r', held, -, -⟩ := n
    rw [← ih]
    by_cases e : c = b
    · subst e
      simp [faceIn, held, Slot.kind]
    · have other : (upd h.slots c fun _ => .openSlot r')[b] = h.slots[b] := upd_other _ _ e
      rw [faceIn, faceIn]
      dsimp only
      rw [other]

theorem Blg.Counts.fitting (m : s.blg.Counts t.blg) (same : t.bsq = s.bsq) : Fitting s t :=
  .of_faces fun b => by rw [State.face, same, m.faces]; rfl

theorem setEventHold_turns (b : Berth) (v : Bool) (s : State) : Turns b id s (setEventHold b v s) :=
  modBerth_still fun _ _ => BerthRec.face_syncTimer _ _ _ _

theorem recomputeHolds_fitting (s : State) : Fitting s (recomputeHolds s) :=
  .foldl (fun t b => by
    unfold recomputeHold
    dsimp only
    split
    · exact .refl t
    · exact ((Turns.refl b t).trans (setEventHold_turns b _ _)).fitting (.refl _)) allBerths s

theorem giveNotes_fitting (e : EventIx) (g : EventEntry → EventEntry) (s : State) :
    Fitting s (recomputeHolds (giveNotes e (s.modEntry e g))) :=
  (Fitting.of_same (by simp)).trans (recomputeHolds_fitting _)

theorem applyEvents_fitting (first : Nat) (es : List (List Nat)) (s : State) : Fitting s (applyEvents first es s) := by
  have stored : ∀ v : Evr → Vector EventEntry 100, Fitting s (s.modEvr fun r => { r with entries := v r }) :=
    fun _ => .of_same ⟨rfl, rfl⟩
  have written : ∀ old e u, Fitting u (eventWritten old e u) := fun old e u => .of_same (by simp)
  exact ((stored _).trans (.foldl (fun u e => written _ e u) _ _)).trans (recomputeHolds_fitting _)

/-- R95: the states in which a write meets its berth. -/
def BerthState.Idle (st : BerthState) : Prop := st = .unused ∨ st = .dead

/-- R95: a write configures and unconfigures a berth that is DEAD or UNUSED. -/
theorem berthWritten_idle {old new : BerthEntry} (here : (s.berth b).state.Idle) :
    Fitting s (berthWritten old new b s) ∧
      ∀ c, (s.berth c).state.Idle → ((berthWritten old new b s).berth c).state.Idle := by
  have still : ∀ v : Bool, Turns b id s (if v then s.setShip b none else s) := fun v => by
    split
    · exact .of_faces fun _ => rfl
    · exact .refl b s
  have enters : ∀ {u : State} {st : BerthState}, st.Idle → Turns b id s u →
      Fitting s (changeState b st u) ∧ ∀ c, (s.berth c).state.Idle → ((changeState b st u).berth c).state.Idle := by
    intro u st idle turned
    have entered := turned.trans (changeState_turns b st u)
    have free : ∀ {x : BerthState}, x.Idle → x.slotKind = .free ∧ x ≠ .tripped := by
      rintro x (rfl | rfl) <;> exact ⟨rfl, by decide⟩
    refine ⟨entered.fitting (.leaves rfl (free here).2 fun kind tariff => ?_), fun c is => ?_⟩
    · exact ⟨kind.trans ((free here).1.trans (free idle).1.symm), tariff⟩
    · have state : ((changeState b st u).face c).state = if c = b then st else (s.face c).state := by
        rw [entered c]
        split <;> rfl
      rw [← State.face_state, state]
      split
      · exact idle
      · exact is
  unfold berthWritten
  dsimp only
  split
  · exact enters (.inr rfl) (still _)
  split
  · exact enters (.inl rfl) (still _)
  · refine ⟨(still _).fitting (.refl _), fun c is => ?_⟩
    split
    · exact is
    · exact is

theorem berthsWritten_fitting (old new : Vector BerthEntry 4) (bs : List Berth) (s : State)
    (idle : ∀ b ∈ bs, (s.berth b).state.Idle) :
    Fitting s (bs.foldl (fun s b => berthWritten old[b] new[b] b s) s) := by
  induction bs generalizing s with
  | nil => exact .refl s
  | cons b bs ih =>
    obtain ⟨fits, kept⟩ := berthWritten_idle (old := old[b]) (new := new[b]) (idle b List.mem_cons_self)
    exact fits.trans (ih _ fun c hc => kept c (idle c (List.mem_cons_of_mem _ hc)))

theorem applyBerths_fitting (first : Nat) (es : List (List Nat)) (free : writeInUse s .berths first es = false) :
    Fitting s (applyBerths first es s) := by
  have idle : ∀ b ∈ addressedOf allBerths first es.length, (s.berth b).state.Idle := by
    intro b hb
    simp only [writeInUse, List.any_eq_false, Bool.and_eq_true, decide_eq_true_eq, not_and_or, not_not] at free
    exact free b hb
  have stored : ∀ v, Fitting s (s.modBsq fun q => { q with table := v }) := fun _ => .of_faces fun _ => rfl
  exact (stored _).trans (berthsWritten_fitting _ _ _ _ idle)

theorem writeCurrent_fitting {es : List (List Nat)} (entry : es ≠ []) (free : writeInUse s .current 0 es = false)
    (ok : writeValuesOk s .current 0 es = true) :
    Fitting s (s.modBlg fun g => { g with current := toCurrent (es.headD []) }) := by
  refine fun b => ⟨fun ⟨kind, _⟩ => ⟨kind, fun held empty => ?_⟩, fun is => ⟨is, id, rfl⟩⟩
  have unused := writeCurrent_unused entry free ok empty b
  cases slot : s.blg.slots[b] with
  | reserved => exact unused slot
  | _ =>
    rw [State.face, faceIn] at held
    simp [slot, Slot.kind] at held

end

section
variable {R : Bsq → Blg → Prop} (h : ∀ s t, Fitting s t → R s.bsq s.blg → R t.bsq t.blg) (o : Option Target)
include h

/-- What faces show, and that a breaker has not been reported OPEN, outlasts the single changes. -/
theorem fitting_stays : Stays fun s => R s.bsq s.blg ∧ ∀ x ∈ o, s.syu.breakers[x].lastPosition ≠ some .openPos where
  modSyu g s _ _ _ same hs := ⟨hs.1, fun x hx => by
    show (g s.syu).breakers[x].lastPosition ≠ _
    rw [same]
    exact hs.2 x hx⟩
  fillChannel c s hs := by
    unfold fillChannel
    split
    · exact hs
    · exact hs
  channelsSeeStale _ _ hs := hs
  dropDeadClose _ _ hs := hs
  applyBreakers first es s _ hs := by
    refine foldl_stays
      (P := fun s => R s.bsq s.blg ∧ ∀ x ∈ o, s.syu.breakers[x].lastPosition ≠ some .openPos) (fun t b ht => ?_) _ ?_
    · unfold breakerWritten
      split
      · exact ht
      · exact ht
    · refine ⟨hs.1, fun x hx => ?_⟩
      have old := hs.2 x hx
      show (updAll toBreaker s.syu.breakers first es)[x].lastPosition ≠ _
      obtain same | ⟨e, -, new⟩ := updAll_entry toBreaker s.syu.breakers first es x
      · rwa [same]
      · rw [new]
        unfold toBreaker
        dsimp only
        split
        · exact old
        · simp
  evalLogFull s hs := ⟨h _ _ (evalLogFull_fitting s) hs.1, by simpa using hs.2⟩
  meterRecord b r s hs := ⟨h _ _ ((meterRecord_counts b r s).fitting (by simp)) hs.1, by simpa using hs.2⟩
  intervalEndTaken s hs := ⟨h _ _ ((intervalEndTaken_counts s).fitting (by simp)) hs.1, by simpa using hs.2⟩
  clockSetTaken day second s _ _ hs := ⟨h _ _ ((clockSetTaken_counts day second s).fitting (by simp)) hs.1, by
    simpa using hs.2⟩
  meteringTaken gap code s hs := ⟨h _ _ ((meteringTaken_counts gap _ s).fitting (by simp)) hs.1, by simpa using hs.2⟩
  writeTariffs first es s _ _ hs :=
    ⟨h s (s.modBlg fun g => { g with sets := setsAfter s first es }) (.of_faces fun _ => rfl) hs.1, hs.2⟩
  writeCurrent _ s entry free ok hs := ⟨h _ _ (writeCurrent_fitting entry free ok) hs.1, hs.2⟩

omit h in
/-- That a breaker has not been reported OPEN outlasts the sequence. -/
theorem unreported_sequence (o : Option Target) :
    Sequence fun s => ∀ x ∈ o, s.syu.breakers[x].lastPosition ≠ some .openPos := by
  have k := fitting_stays (R := fun _ _ => True) (fun _ _ _ => id) o
  have f : Berths fun s => True ∧ ∀ x ∈ o, s.syu.breakers[x].lastPosition ≠ some .openPos := {}
  simpa using k.sequence f

omit h in
theorem unreported_performBerth (b cmd : Nat) {s : State} (hs : ∀ x ∈ o, s.syu.breakers[x].lastPosition ≠ some .openPos) :
    ∀ x ∈ o, (performBerth b cmd s).2.syu.breakers[x].lastPosition ≠ some .openPos := by
  have k := fitting_stays (R := fun _ _ => True) (fun _ _ _ => id) o
  have f : Berths fun s => True ∧ ∀ x ∈ o, s.syu.breakers[x].lastPosition ≠ some .openPos := {}
  exact (performBerth_stays k f b cmd ⟨trivial, hs⟩).2

/-- What faces show, and that a breaker has not been reported OPEN, outlasts the sequence. -/
theorem fitting_sequence : Sequence fun s => R s.bsq s.blg ∧ ∀ x ∈ o, s.syu.breakers[x].lastPosition ≠ some .openPos := by
  have q := unreported_sequence o
  exact {
    tripBerth := fun b why s hs => ⟨h _ _ (tripBerth_fitting b why s) hs.1, q.tripBerth b why s hs.2⟩
    listEmptyTaken := fun b s hs => ⟨h _ _ (listEmptyTaken_fitting b s) hs.1, q.listEmptyTaken b s hs.2⟩
    energisedTaken := fun b s hs => ⟨h _ _ (energisedTaken_fitting b s) hs.1, q.energisedTaken b s hs.2⟩
    summaryTaken := fun b s hs => ⟨h _ _ (summaryTaken_fitting b s) hs.1, q.summaryTaken b s hs.2⟩
    firstFailureTaken := fun b s hs => ⟨h _ _ (firstFailureTaken_fitting b s) hs.1, q.firstFailureTaken b s hs.2⟩
    outletResultTaken := fun b r s hs => ⟨h _ _ (outletResultTaken_fitting b r s) hs.1, q.outletResultTaken b r s hs.2⟩
    outletOutcomeTaken := fun b o s hs =>
      ⟨h _ _ (outletOutcomeTaken_fitting b o s) hs.1, q.outletOutcomeTaken b o s hs.2⟩
    outletPosition := fun b p s hs => ⟨h _ _ (outletPosition_fitting b p s) hs.1, q.outletPosition b p s hs.2⟩
    shipMessage := fun b m s hs => ⟨h _ _ (shipMessage_fitting b m s) hs.1, q.shipMessage b m s hs.2⟩
    pilotChange := fun b v s hs => ⟨h _ _ (pilotChange_fitting b v s) hs.1, q.pilotChange b v s hs.2⟩
    estopTaken := fun s hs => ⟨h _ _ (estopTaken_fitting s) hs.1, q.estopTaken s hs.2⟩
    estopReleased := fun s hs => ⟨h _ _ (estopReleased_fitting s) hs.1, q.estopReleased s hs.2⟩
    estopRepeatTaken := fun s hs => ⟨h _ _ (estopRepeatTaken_fitting s) hs.1, q.estopRepeatTaken s hs.2⟩
    rampPeriodTaken := fun b s hs => ⟨h _ _ (rampPeriodTaken_fitting b s) hs.1, q.rampPeriodTaken b s hs.2⟩
    shipHoldEndTaken := fun b s hs => ⟨h _ _ (shipHoldEndTaken_fitting b s) hs.1, q.shipHoldEndTaken b s hs.2⟩
    holdLimitTaken := fun b s hs => ⟨h _ _ (holdLimitTaken_fitting b s) hs.1, q.holdLimitTaken b s hs.2⟩
    rampTimeoutTaken := fun b s hs => ⟨h _ _ (rampTimeoutTaken_fitting b s) hs.1, q.rampTimeoutTaken b s hs.2⟩
    generatorWaitTaken := fun b s hs => ⟨h _ _ (generatorWaitTaken_fitting b s) hs.1, q.generatorWaitTaken b s hs.2⟩
    openingTaken := fun b s hs => ⟨h _ _ (openingTaken_fitting b s) hs.1, q.openingTaken b s hs.2⟩
    applyBerths := fun first es s free hs =>
      ⟨h _ _ (applyBerths_fitting first es free) hs.1, q.applyBerths first es s free hs.2⟩ }

theorem fitting_marks : Marks fun s => R s.bsq s.blg ∧ ∀ x ∈ o, s.syu.breakers[x].lastPosition ≠ some .openPos where
  recomputed e g s hs := ⟨h _ _ ((Fitting.of_same ⟨rfl, rfl⟩).trans (recomputeHolds_fitting (s.modEntry e g))) hs.1, by
    simpa using hs.2⟩

theorem fitting_notes : Notes fun s => R s.bsq s.blg ∧ ∀ x ∈ o, s.syu.breakers[x].lastPosition ≠ some .openPos where
  noted e g s _ hs := ⟨h _ _ (giveNotes_fitting e g s) hs.1, by simpa using hs.2⟩
  applyEvents first es s hs := ⟨h _ _ (applyEvents_fitting first es s) hs.1, by simpa using hs.2⟩

omit h in
theorem withLog_fitting (log : List Session) (s : State) :
    Fitting s (evalLogFull (s.modBlg fun g => { g with log := log })) :=
  Fitting.trans (t := s.modBlg fun g => { g with log := log }) (.of_faces fun _ => rfl) (evalLogFull_fitting _)

omit h in
theorem performLogRemove_fitting (n : Nat) (s : State) : Fitting s (performLogRemove n s).2 := by
  unfold performLogRemove
  split
  · exact .refl s
  next r rest _ =>
    split
    · exact withLog_fitting rest s
    · exact .refl s

omit h in
theorem billingClearReq_fitting (prep : Bool) (i : CodeId) (code : Code) (s : State) :
    Fitting s (billingClearReq prep i code s).2 := by
  have mismatch : Fitting s (codeMismatch s).2 := .of_same (by simp)
  have cleared : Fitting s (billingClearTaken s) := (withLog_fitting [] s).trans (.of_same ⟨rfl, rfl⟩)
  unfold billingClearReq judged billingClearOwn
  split
  · exact .of_same ⟨rfl, rfl⟩
  repeat' split
  case isFalse.isFalse.isFalse.isFalse.isFalse.isFalse.isTrue => exact cleared
  case isFalse.isFalse.isFalse.isFalse.isFalse.isFalse.isFalse => exact mismatch
  all_goals exact .refl s

theorem fitting_removals :
    Removals fun s => R s.bsq s.blg ∧ ∀ x ∈ o, s.syu.breakers[x].lastPosition ≠ some .openPos where
  performLogRemove n s hs := ⟨h _ _ (performLogRemove_fitting n s) hs.1, by simpa using hs.2⟩
  billingClearReq prep i code s hs := ⟨h _ _ (billingClearReq_fitting prep i code s) hs.1, by simpa using hs.2⟩

omit h in
/-- The commands for berths turn faces legally, but for RESET_TRIP. -/
theorem performBerth_fitting (b cmd : Nat) (s : State) :
    Fitting s (performBerth b cmd s).2 ∨ ∃ c, performBerth b cmd s = resetTripCmd c s := by
  unfold performBerth
  split
  case h_1 | h_2 => exact .inl (connectCmd_fitting _ _ s)
  case h_3 => exact .inl (departCmd_fitting _ s)
  case h_4 => exact .inl (abortCmd_fitting _ s)
  case h_5 => exact .inl (tripCmd_fitting _ s)
  case h_6 => exact .inr ⟨_, rfl⟩
  case h_7 => exact .inl (.refl s)

end
end Sys2Proof.Machine
end

section
namespace Sys2Proof.Machine

/-! ### Bound counts (R144) -/

/-- The set that a slot is bound to. -/
def Slot.boundOf : Slot → Option (Fin 4)
  | .openSlot r => some r.set
  | _ => none

theorem Blg.boundTo_eq (g : Blg) (i : Fin 4) : g.boundTo i = g.slots.toList.countP fun x => x.boundOf = some i := by
  unfold Blg.boundTo
  congr 1
  funext x
  cases x <;> simp [Slot.boundOf]

/-- R144: what a slot that changes does to the number of sessions bound to a set. -/
theorem boundTo_upd (g : Blg) (b : Berth) (y : Slot) (i : Fin 4) :
    ({ g with slots := upd g.slots b fun _ => y } : Blg).boundTo i + (if g.slots[b].boundOf = some i then 1 else 0) =
      g.boundTo i + if y.boundOf = some i then 1 else 0 := by
  have lt : b.val < g.slots.toList.length := by simp
  have here : g.slots.toList[b.val] = g.slots[b.val] := by simp
  have eq : (upd g.slots b fun _ => y).toList = g.slots.toList.set b.val y := Vector.toList_set (xs := g.slots) b.isLt
  have counted : g.slots[b.val].boundOf = some i → 0 < g.slots.toList.countP fun x => x.boundOf = some i := fun bound =>
    List.countP_pos_iff.2 ⟨_, List.getElem_mem lt, by simpa [here] using bound⟩
  simp only [Blg.boundTo_eq, eq, List.countP_set lt, here]
  generalize g.slots.toList.countP (fun x => decide (x.boundOf = some i)) = n at counted ⊢
  by_cases old : g.slots[b.val].boundOf = some i <;> by_cases new : y.boundOf = some i <;> simp [old, new]
  all_goals have := counted old; omega

/-- R143, R144: the bound counts are right, and the current set is LOADED. -/
def Blg.Bound (g : Blg) : Prop :=
  (∀ i : Fin 4, g.bound i = g.boundTo i) ∧ ∀ i, g.current = some i → g.sets[i].loaded = true

/-- A set's count of sessions has no say in whether it is LOADED. -/
theorem loaded_upd_bound (sets : Vector TariffSet 4) (i j : Fin 4) (f : Nat → Nat) :
    (upd sets i fun t => { t with bound := f t.bound })[j].loaded = sets[j].loaded ∧
      (upd sets i fun t => { t with bound := f t.bound })[j].bound = if i = j then f sets[j].bound else sets[j].bound := by
  by_cases e : i = j
  · subst e
    simp
  · have other : (upd sets i fun t => { t with bound := f t.bound })[j] = sets[j] := upd_other _ _ e
    simp [other, e]

theorem Blg.Next.keepsBound {g h : Blg} (n : g.Next h) (bound : g.Bound) : h.Bound := by
  obtain ⟨counts, loaded⟩ := bound
  cases n with
  | flag v => exact ⟨counts, loaded⟩
  | tariffs v same named ok => exact ⟨fun i => (same i).trans (counts i), (currentOk_iff v _).1 ok⟩
  | current c ok unused => exact ⟨counts, (currentOk_iff _ c).1 ok⟩
  | reserved b free room tariff =>
    refine ⟨fun i => ?_, loaded⟩
    have moved := boundTo_upd g b .reserved i
    simp only [free, Slot.boundOf, reduceCtorEq, if_false, Nat.add_zero] at moved
    exact (counts i).trans moved.symm
  | freed b held =>
    refine ⟨fun i => ?_, loaded⟩
    have moved := boundTo_upd g b .free i
    simp only [held, Slot.boundOf, reduceCtorEq, if_false, Nat.add_zero] at moved
    exact (counts i).trans moved.symm
  | counted b r r' held set adds =>
    refine ⟨fun i => ?_, loaded⟩
    have moved := boundTo_upd g b (.openSlot r') i
    simp only [held, Slot.boundOf, set] at moved
    exact (counts i).trans (Nat.add_right_cancel moved).symm
  | opened b r held new =>
    refine ⟨fun i => ?_, fun i is => (loaded_upd_bound g.sets r.set i (· + 1)).1.trans (loaded i is)⟩
    have moved := boundTo_upd g b (.openSlot r) i
    have count := (loaded_upd_bound g.sets r.set i (· + 1)).2
    have here := counts i
    simp only [held, Slot.boundOf, reduceCtorEq, if_false, Nat.add_zero, Option.some.injEq] at moved
    unfold Blg.bound at here ⊢
    refine count.trans (Eq.trans ?_ moved.symm)
    rw [← here]
    split <;> rfl
  | closed b r r' held number adds =>
    refine ⟨fun i => ?_, fun i is => (loaded_upd_bound g.sets r.set i (· - 1)).1.trans (loaded i is)⟩
    have moved := boundTo_upd g b .free i
    have count := (loaded_upd_bound g.sets r.set i (· - 1)).2
    have here := counts i
    simp only [held, Slot.boundOf, reduceCtorEq, if_false, Nat.add_zero, Option.some.injEq] at moved
    unfold Blg.bound at here ⊢
    refine count.trans (Eq.trans ?_ (show _ = Blg.boundTo { g with slots := upd g.slots b fun _ => .free } i from rfl))
    split at moved
    next e =>
      rw [if_pos e]
      omega
    next e =>
      rw [if_neg e]
      omega

theorem Blg.cold_bound : Blg.cold.Bound :=
  ⟨fun i => by simp [Blg.bound, Blg.boundTo_eq, Blg.cold, TariffSet.empty, Slot.boundOf], by simp [Blg.cold]⟩

theorem Blg.Bound.warm {g : Blg} (closed : ∀ (b : Berth) r, g.slots[b] ≠ .openSlot r) (bound : g.Bound) : g.warm.Bound := by
  obtain ⟨counts, loaded⟩ := bound
  refine ⟨fun i => ?_, loaded⟩
  have none : g.boundTo i = 0 := by
    rw [Blg.boundTo_eq, List.countP_eq_zero]
    intro x mem
    obtain ⟨b, lt, rfl⟩ := List.getElem_of_mem mem
    have slot := closed ⟨b, by simpa using lt⟩
    cases e : g.slots.toList[b] with
    | openSlot r => exact absurd (by simpa using e) (slot r)
    | _ => simp [Slot.boundOf]
  have warm : g.warm.boundTo i = 0 := by simp [Blg.boundTo_eq, Blg.warm, Slot.boundOf]
  exact ((counts i).trans none).trans warm.symm

/-! ### Slots and states (R145) -/

/-- R145: every berth's slot fits its state. -/
def FacesFit (q : Bsq) (g : Blg) : Prop := ∀ b, (faceIn q g b).Fits

theorem facesFit_turned {s t : State} (h : Fitting s t) (fits : FacesFit s.bsq s.blg) : FacesFit t.bsq t.blg :=
  fun b => (h b).fits (fits b)

/-- Every slot fits at the end of a reset: it is FREE, and its berth DEAD or UNUSED. -/
theorem facesFit_warm (q : Bsq) (g : Blg) : FacesFit q.warm g.warm := by
  intro b
  have kind : (faceIn q.warm g.warm b).kind = .free := by simp [faceIn, Blg.warm, Slot.kind]
  have state : (faceIn q.warm g.warm b).state = if q.table[b].configured then .dead else .unused := by
    simp [faceIn, Bsq.warm, BerthRec.cleared]
  refine ⟨kind.trans ?_, fun no => by simp [kind] at no⟩
  rw [state]
  split <;> rfl

theorem facesFit_cold : FacesFit .cold .cold := by
  intro b
  have kind : (faceIn .cold .cold b).kind = .free := by simp [faceIn, Blg.cold, Slot.kind]
  have state : (faceIn .cold .cold b).state = .unused := by simp [faceIn, Bsq.cold, BerthRec.cleared]
  exact ⟨kind.trans (state ▸ rfl), fun no => by simp [kind] at no⟩

theorem kind_reserved {s : State} {b : Berth} (h : (s.face b).kind = .reserved) : s.slot b = .reserved := by
  cases e : s.slot b with
  | reserved => rfl
  | _ => simp [kind_eq e, Slot.kind] at h

/-- Every slot fits, at no matter what reported positions. -/
def SlotsHeld (s : State) : Prop := FacesFit s.bsq s.blg ∧ ∀ x ∈ (none : Option Target), s.syu.breakers[x].lastPosition ≠ some .openPos

theorem slotsHeld_stays : Stays SlotsHeld := fitting_stays (fun _ _ => facesFit_turned) none

theorem slotsHeld_sequence : Sequence SlotsHeld := fitting_sequence (fun _ _ => facesFit_turned) none

theorem slotsHeld_notes : Notes SlotsHeld := fitting_notes (fun _ _ => facesFit_turned) none

theorem slotsHeld_marks : Marks SlotsHeld := fitting_marks (fun _ _ => facesFit_turned) none

theorem slotsHeld_iff (s : State) : SlotsHeld s ↔ FacesFit s.bsq s.blg := by simp [SlotsHeld]

theorem slotsHeld_service : Service SlotsHeld := by
  refine slotsHeld_stays.service slotsHeld_sequence slotsHeld_notes slotsHeld_marks (fitting_removals (fun _ _ => facesFit_turned) none)
    (fun b cmd s h => ?_) (fun s _ _ => (slotsHeld_iff _).2 (facesFit_warm _ _)) ?_ ?_ ?_ ?_
  · obtain fitting | ⟨c, is⟩ := performBerth_fitting b cmd s
    · exact (slotsHeld_iff _).2 (facesFit_turned fitting h.1)
    · rw [is]
      exact (slotsHeld_iff _).2 fun b => resetTripCmd_fits c b s (h.1 b)
  all_goals simp [slotsHeld_iff]

theorem slotsHeld_step {s t : State} (h : SlotsHeld s) (e : step s = .next t) : SlotsHeld t :=
  step_lasts (slotsHeld_stays.work slotsHeld_sequence slotsHeld_notes slotsHeld_marks) slotsHeld_service
    (fun _ _ _ _ _ => coldReset_stays slotsHeld_stays slotsHeld_sequence ((slotsHeld_iff _).2 facesFit_cold))
    (fun _ _ _ _ _ _ _ => warmReset_stays slotsHeld_stays slotsHeld_sequence ((slotsHeld_iff _).2 (facesFit_warm _ _)))
    (by simp [slotsHeld_iff]) (by simp [slotsHeld_iff]) h e
    fun p x s h => bstaTaken_stays slotsHeld_stays slotsHeld_sequence p x ((slotsHeld_iff _).2 (by simpa using h.1))

end Sys2Proof.Machine
end

section
open Sys2Proof Sys2Proof.Machine

/-- Settles O6: BLG's changes count the sessions bound to each set and keep the current set LOADED; the sequence turns
the face of a berth from one that fits to one that fits. -/
theorem slotsKept : Obligations.SlotsKept := by
  intro s t counts ⟨fits, loaded, tariff⟩ e
  have bound : t.blg.Bound := billing_step (fun _ _ n => n.keepsBound)
    Blg.cold_bound
    (fun g closed h => h.warm closed) (fun g r rest _ h => h) (fun g h => h) ⟨counts, loaded⟩ e
  have held : SlotsHeld t := by
    refine slotsHeld_step ((slotsHeld_iff s).2 fun b => ⟨(slotFits_iff _ _).1 (fits b), fun kind => tariff b ?_⟩) e
    exact kind_reserved kind
  refine ⟨bound.1, fun b => (slotFits_iff _ _).2 (held.1 b).1, bound.2, fun b is => (held.1 b).2 (kind_eq is)⟩

end

section
namespace Sys2Proof.Machine

/-! ### A trip stays (R116, R121) -/

section
variable {b : Berth} {why : Option TripReason} {s t : State}

/-- A berth is TRIPPED for the reason, with its demand set. -/
def TrippedIn (b : Berth) (why : Option TripReason) (q : Bsq) (g : Blg) : Prop :=
  (faceIn q g b).state = .tripped ∧ (faceIn q g b).demand = true ∧ (faceIn q g b).reason = why

theorem trippedIn_turned (h : Fitting s t) (tripped : TrippedIn b why s.bsq s.blg) : TrippedIn b why t.bsq t.blg := by
  obtain ⟨state, demand, reason⟩ := tripped
  obtain ⟨state', demand', reason'⟩ := (h b).tripped state
  exact ⟨state', demand' demand, reason'.trans reason⟩

/-- The berth is TRIPPED, and the breakers of `o` have not been reported OPEN. -/
def Tripped (b : Berth) (why : Option TripReason) (o : Option Target) (s : State) : Prop :=
  TrippedIn b why s.bsq s.blg ∧ ∀ x ∈ o, s.syu.breakers[x].lastPosition ≠ some .openPos

theorem tripped_stays (b : Berth) (why : Option TripReason) (o : Option Target) : Stays (Tripped b why o) :=
  fitting_stays (fun _ _ => trippedIn_turned) o

theorem tripped_sequence (b : Berth) (why : Option TripReason) (o : Option Target) : Sequence (Tripped b why o) :=
  fitting_sequence (fun _ _ => trippedIn_turned) o

theorem tripped_work (b : Berth) (why : Option TripReason) (o : Option Target) : Work (Tripped b why o) :=
  (tripped_stays b why o).work (tripped_sequence b why o) (fitting_notes (fun _ _ => trippedIn_turned) o)
    (fitting_marks (fun _ _ => trippedIn_turned) o)

/-- R121: RESET_TRIP wants the outlet OPEN. -/
theorem tripped_resetTrip (c : Berth) (h : Tripped b why (some (outlet b)) s) :
    Tripped b why (some (outlet b)) (resetTripCmd c s).2 := by
  unfold resetTripCmd
  split
  next allowed =>
    refine ⟨?_, by simpa using h.2⟩
    have turned := returnToDead_turns (s := s) (b := c)
      (h := fun r => { r with demand := false, fromOpening := false, reason := none })
      (f := fun x => { x with demand := false, reason := none }) fun _ _ => rfl
    have other : b ≠ c := by
      rintro rfl
      simp only [resetTripAllowed, Bool.and_eq_true, decide_eq_true_eq] at allowed
      exact h.2 _ rfl allowed.1.1.2
    have same := turned b
    rw [if_neg other] at same
    dsimp only
    unfold TrippedIn
    rw [show faceIn _ _ b = s.face b from same]
    exact h.1
  · exact h

/-- R181: RESTART is refused while a berth is TRIPPED. -/
theorem restartAllowed_tripped (h : TrippedIn b why s.bsq s.blg) : restartAllowed s = false := by
  refine Bool.eq_false_iff.2 fun allowed => ?_
  have here := List.all_eq_true.1 allowed b (mem_allBerths b)
  have state : (s.berth b).state = .tripped := h.1
  rw [decide_eq_true_eq, state] at here
  split at here <;> cases here

theorem tripped_service (b : Berth) (why : Option TripReason) : Service (Tripped b why (some (outlet b))) := by
  refine (tripped_stays b why _).service (tripped_sequence b why _) (fitting_notes (fun _ _ => trippedIn_turned) _)
    (fitting_marks (fun _ _ => trippedIn_turned) _)
    (fitting_removals (fun _ _ => trippedIn_turned) _) (fun c cmd s h => ?_) (fun s allowed h => ?_) ?_ ?_ ?_ ?_
  · obtain fitting | ⟨d, is⟩ := performBerth_fitting c cmd s
    · exact ⟨trippedIn_turned fitting h.1, unreported_performBerth _ c cmd h.2⟩
    · rw [is]
      exact tripped_resetTrip d h
  · rw [restartAllowed_tripped h.1] at allowed
    cases allowed
  all_goals simp [Tripped]

/-- A report takes the berth's outlet out of the condition, not the berth out of TRIPPED. -/
theorem tripped_ends (b : Berth) (why : Option TripReason) :
    Ends (Tripped b why (some (outlet b))) (Tripped b why none) where
  weak _ h := ⟨h.1, by simp⟩
  settled s h := settle_lasts (tripped_work b why none) h
  bstaTaken t p s h := bstaTaken_stays (tripped_stays b why none) (tripped_sequence b why none) t p
    ⟨by simpa using h.1, by simp⟩

end
end Sys2Proof.Machine
end

section
open Sys2Proof Sys2Proof.Machine

/-- Settles O14: the sequence turns the face of a TRIPPED berth into none other; RESET_TRIP wants the outlet OPEN, and a
report of OPEN comes last in its own event. -/
theorem trippedStays : Obligations.TrippedStays := by
  intro c s t b state demand closed notCold notWarm e
  have w := tripped_work b (s.berth b).reason (some (outlet b))
  have v := tripped_service b (s.berth b).reason
  have z := tripped_ends b (s.berth b).reason
  have mreq : ∀ src p u, Tripped b (s.berth b).reason (some (outlet b)) u →
      Tripped b (s.berth b).reason none (consumeMreq src p u) := fun src p u h =>
    z.weak _ (consumeMreq_lasts w v src p h)
  have held : Tripped b (s.berth b).reason none t :=
    exec_ends w z (fun _ _ _ is => absurd is (notCold _ _ _)) (fun _ _ _ _ _ is => absurd is (notWarm _ _ _ _ _))
      (fun bytes _ u => frameTaken_ends w z mreq bytes)
      (fun _ u h => z.weak _ (nextPart_lasts w v h)) (fun src p _ => mreq _ p) (fun src _ _ _ _ _ _ => mreq _ _)
      ⟨⟨state, demand, rfl⟩, fun x is => Option.mem_some_iff.1 is ▸ closed⟩ e
  exact held.1

end

section
open Sys2Proof Sys2Proof.Machine

/-- Settles O1: a step with a command at the front of the queue is that command's. -/
theorem stepRunsFront : Obligations.StepRunsFront := by
  intro c rest s queue
  unfold step
  rw [queue]

/-- Settles O3: each part of the state begins as a cold reset leaves it, with nothing queued, open or allocated. -/
theorem resetSound : Obligations.ResetSound := by
  have outputs : TripOutputs State.reset := fun b => by
    simp [State.reset, State.coldWith, Evr.cold, Bsq.cold, BerthRec.cleared]
  have holds : EstopHolds State.reset := fun asserted => by simp [State.reset, State.coldWith] at asserted
  have slots : SlotsFit State.reset :=
    ⟨fun b => (slotFits_iff _ _).2 (facesFit_cold b).1, Blg.cold_bound.2, fun b is => (facesFit_cold b).2 (kind_eq is)⟩
  have lock : LockSound State.reset := by simp [LockSound, State.reset, State.coldWith, Mlk.cold]
  exact ⟨rfl, outputs, holds, Blg.cold_roomy.1, Blg.cold_addsUp, Blg.cold_roomy.2, Blg.cold_bound.1, slots, lock,
    (linkBounds_iff _).2 (Lpu.cold_good _ _).1, (Lpu.cold_good _ _).2, replies_none rfl rfl rfl rfl, Syu.cold_once,
    (modulesListed_iff _).2 (listed_cold _), holdsAgree_cold, (meterSound_iff _).2 (Mtr.cold_sound _)⟩

end

section
namespace Sys2Proof.Machine

/-! ### Fields read back from bytes (R2, R3, R15) -/

/-- A field is read back from where it stands. -/
theorem fieldAt_be {before after : List Byte} {i k n : Nat} (at_i : before.length = i) (fits : n < 256 ^ k) :
    fieldAt (before ++ (be k n ++ after)) i k = n := by
  rw [fieldAt, List.drop_left' at_i, List.take_left' (be_length k n), fromBe_be fits]

theorem byteAt_eq_fieldAt (bs : List Byte) (i : Nat) (inside : i < bs.length) : byteAt bs i = fieldAt bs i 1 := by
  simp [byteAt, fieldAt, fromBe, List.take_one, List.getD_eq_getElem?_getD, List.getElem?_eq_getElem inside]

/-- A byte is read back from where it stands. -/
theorem byteAt_be {before after : List Byte} {i n : Nat} (at_i : before.length = i) (fits : n < 256) :
    byteAt (before ++ (be 1 n ++ after)) i = n := by
  rw [byteAt_eq_fieldAt _ _ (by simp; omega), fieldAt_be at_i fits]

theorem crcBit_lt {c : Nat} (h : c < 2 ^ 32) : crcBit c < 2 ^ 32 := by
  unfold crcBit
  split
  · exact Nat.xor_lt_two_pow (by omega) (by decide)
  · omega

theorem crcByte_lt {c : Nat} (h : c < 2 ^ 32) (b : Byte) : crcByte c b < 2 ^ 32 := by
  have entered : c ^^^ b.toNat < 2 ^ 32 := Nat.xor_lt_two_pow h (b.isLt.trans (by decide))
  unfold crcByte
  iterate 8 apply crcBit_lt
  exact entered

/-- R3: the CRC fits its four bytes. -/
theorem crc32_lt (bs : List Byte) : crc32 bs < 256 ^ 4 := by
  have run : ∀ (bs : List Byte) (c : Nat), c < 2 ^ 32 → bs.foldl crcByte c < 2 ^ 32 := by
    intro bs
    induction bs with
    | nil => exact fun c h => h
    | cons b bs ih => exact fun c h => ih _ (crcByte_lt h b)
  have folded := run bs 0xFFFFFFFF (by decide)
  exact Nat.xor_lt_two_pow folded (by decide)

/-- Header and payload of a frame, which the CRC covers. -/
def frameHead (dest src kind flags seq : Nat) (payload : List Byte) : List Byte :=
  be 1 dest ++ (be 1 src ++ (be 1 kind ++ (be 1 flags ++ (be 2 payload.length ++ (be 2 seq ++ payload)))))

theorem frameBytes_eq (dest src kind flags seq : Nat) (payload : List Byte) :
    frameBytes dest src kind flags seq payload =
      frameHead dest src kind flags seq payload ++ (be 4 (crc32 (frameHead dest src kind flags seq payload)) ++ []) := by
  simp [frameBytes, frameHead]

theorem frameHead_length (dest src kind flags seq : Nat) (payload : List Byte) :
    (frameHead dest src kind flags seq payload).length = 8 + payload.length := by
  simp [frameHead]
  omega

end Sys2Proof.Machine
end

section
open Sys2Proof Sys2Proof.Machine

/-- Settles O15: each header field is read from the place where it was written, and the CRC covers the same bytes. -/
theorem frameRoundTrip : Obligations.FrameRoundTrip := by
  intro dest src kind flags seq payload dest1 dest255 src1 src255 own kind255 length
  have bytes := frameBytes_eq dest src kind flags seq payload
  have covered := frameHead_length dest src kind flags seq payload
  generalize hh : frameHead dest src kind flags seq payload = head at bytes covered
  have total : (frameBytes dest src kind flags seq payload).length = 12 + payload.length := by
    rw [bytes]
    simp [covered]
    omega
  generalize frameBytes dest src kind flags seq payload = frame at bytes total
  have size : fieldAt frame 4 2 = payload.length := by
    rw [bytes, ← hh]
    simpa [frameHead] using fieldAt_be (before := be 1 dest ++ be 1 src ++ be 1 kind ++ be 1 flags) (k := 2)
      (n := payload.length) (i := 4) (by simp) (by omega)
  have crc : fieldAt frame (frame.length - 4) 4 = crc32 head := by
    rw [bytes]
    exact fieldAt_be (by simp) (crc32_lt head)
  have heads : frame.take (frame.length - 4) = head := by
    rw [bytes]
    exact List.take_left' (by simp)
  have destination : byteAt frame 0 = dest := by
    rw [bytes, ← hh]
    simpa [frameHead] using byteAt_be (before := []) (i := 0) (n := dest) rfl (by omega)
  have source : byteAt frame 1 = src := by
    rw [bytes, ← hh]
    simpa [frameHead] using byteAt_be (before := be 1 dest) (i := 1) (n := src) (by simp) (by omega)
  have kinds : byteAt frame 2 = kind := by
    rw [bytes, ← hh]
    simpa [frameHead] using byteAt_be (before := be 1 dest ++ be 1 src) (i := 2) (n := kind) (by simp) (by omega)
  have body : (frame.drop 8).take (frame.length - 12) = payload := by
    have split : frame = (be 1 dest ++ be 1 src ++ be 1 kind ++ be 1 flags ++ be 2 payload.length ++ be 2 seq) ++
        (payload ++ be 4 (crc32 head)) := by
      rw [bytes, ← hh]
      simp [frameHead]
    rw [total, split, List.drop_left' (by simp)]
    exact List.take_left' (by omega)
  unfold receive
  rw [size, crc, heads, destination, source, kinds, body, total, if_neg (by omega),
    if_neg (by simp only [Config.maxPayload]; omega), if_neg (by simp), if_neg (by omega), if_neg (by omega)]

end

section
namespace Sys2Proof.Machine

/-! ### Bytes as fields (R15)

A field is a pair of its width in bytes and its number, as in `Carries`. -/

/-- The bytes of fields one after another. -/
def fieldBytes (fs : List (Nat × Nat)) : List Byte := (fs.map fun f => be f.1 f.2).flatten

theorem fieldBytes_nil : fieldBytes [] = [] := rfl

theorem fieldBytes_cons (f : Nat × Nat) (fs : List (Nat × Nat)) : fieldBytes (f :: fs) = be f.1 f.2 ++ fieldBytes fs := rfl

theorem fieldBytes_append (fs gs : List (Nat × Nat)) : fieldBytes (fs ++ gs) = fieldBytes fs ++ fieldBytes gs := by
  simp [fieldBytes]

/-- R173: an entry all of numbers that fit is read back. -/
theorem takeEntry_fields (fs : List (Nat × Nat)) (fit : ∀ f ∈ fs, f.2 < 256 ^ f.1) (rest : List Byte) :
    takeEntry (fs.map fun f => .num f.1) (fieldBytes fs ++ rest) = some (fs.map Prod.snd, rest) := by
  induction fs with
  | nil => rfl
  | cons f fs ih =>
    obtain ⟨first, later⟩ := List.forall_mem_cons.1 fit
    rw [fieldBytes_cons, List.append_assoc]
    exact takeEntry_num first (ih later)

theorem fldFlag_flagField (b : Bool) (xs : List Nat) : fldFlag ((flagField b).2 :: xs) 0 = b := by
  cases b <;> simp [fldFlag, fld, flagField]

theorem flag_fits (b : Bool) : (flagField b).2 < 256 ^ (flagField b).1 := by
  cases b <;> decide

/-- A signed number of two bytes is read back from its two's complement. -/
theorem toSigned_two {n : Int} (low : -32768 ≤ n) (high : n < 32768) :
    toSigned 2 (n % ((256 ^ 2 : Nat) : Int)).toNat = n := by
  unfold toSigned
  split <;> omega

theorem signed_fits (n : Int) : (signedField 2 n).2 < 256 ^ (signedField 2 n).1 := by
  simp only [signedField]
  omega

end Sys2Proof.Machine
end

section
open Sys2Proof Sys2Proof.Machine

/-- Settles O16: the bytes of an entry are its fields by the widths of its form, and each field is read back. -/
theorem tableRoundTrip : Obligations.TableRoundTrip := by
  refine ⟨?_, ?_, ?_, ?_, ?_, ?_⟩
  · intro e rest node channel point interval stale
    let fs : List (Nat × Nat) :=
      [flagField e.valid, (1, e.node), (1, e.channel), (1, e.point), (2, e.interval), (4, e.staleLimit)]
    have bytes : encStream e = fieldBytes fs := by simp [fs, encStream, encFlag, flagField, fieldBytes]
    refine ⟨fs.map Prod.snd, bytes ▸ takeEntry_fields fs ?_ rest, by simp [fs, toStream, fldFlag_flagField, fld]⟩
    simp only [fs, List.forall_mem_cons]
    exact ⟨flag_fits _, node, channel, point, interval, stale, nofun⟩
  · intro g rest nominalF nominalV vBand fBand
    let fs : List (Nat × Nat) := [(2, g.nominalF), (2, g.nominalV), (1, g.vBand), (2, g.fBand)]
    have bytes : encGrid g = fieldBytes fs := by simp [fs, encGrid, fieldBytes]
    refine ⟨fs.map Prod.snd, bytes ▸ takeEntry_fields fs ?_ rest, by simp [fs, toGrid, fld]⟩
    simp only [fs, List.forall_mem_cons]
    exact ⟨nominalF, nominalV, vBand, fBand, nofun⟩
  · intro i e rest rating node start stop
    let fs : List (Nat × Nat) :=
      [flagField e.installed, (2, e.rating), (1, e.node), (1, 4 + i.val), (1, e.startLimit), (1, e.stopLimit)]
    have bytes : encModuleEntry i.val e = fieldBytes fs := by simp [fs, encModuleEntry, encFlag, flagField, fieldBytes]
    refine ⟨fs.map Prod.snd, bytes ▸ takeEntry_fields fs ?_ rest, by simp [fs, toModuleEntry, fldFlag_flagField, fld]⟩
    have index : 4 + i.val < 256 := by omega
    simp only [fs, List.forall_mem_cons]
    exact ⟨flag_fits _, rating, node, index, start, stop, nofun⟩
  · intro r rest fLimit vLimit fraction increment margin
    let fs : List (Nat × Nat) :=
      [(1, r.fLimit), (1, r.vLimit), (1, r.softFraction), (1, r.softIncrement), (2, r.shedMargin)]
    have bytes : encRefSettings r = fieldBytes fs := by simp [fs, encRefSettings, fieldBytes]
    refine ⟨fs.map Prod.snd, bytes ▸ takeEntry_fields fs ?_ rest, by simp [fs, toRefSettings, fld]⟩
    simp only [fs, List.forall_mem_cons]
    exact ⟨fLimit, vLimit, fraction, increment, margin, nofun⟩
  · intro p rest vWindow low low' high high' target target' angle settle watch attempts base cap wait dead
    let fs : List (Nat × Nat) :=
      [(2, p.vWindow), signedField 2 p.slipLow, signedField 2 p.slipHigh, signedField 2 p.slipTarget,
        (2, p.angleWindow), (1, p.settleCount), (1, p.watchLimit), (1, p.attemptLimit), (2, p.backoffBase),
        (1, p.backoffCap), (2, p.waitLimit), (1, p.deadThreshold)]
    have bytes : encProfile p = fieldBytes fs := by simp [fs, encProfile, beInt, signedField, fieldBytes]
    refine ⟨fs.map Prod.snd, bytes ▸ takeEntry_fields fs ?_ rest, ?_⟩
    · simp only [fs, List.forall_mem_cons]
      exact ⟨vWindow, signed_fits _, signed_fits _, signed_fits _, angle, settle, watch, attempts, base, cap, wait, dead,
        nofun⟩
    · simp only [fs, toProfile, fld, signedField, List.map_cons, List.getD_cons_zero, List.getD_cons_succ,
        toSigned_two low low', toSigned_two high high', toSigned_two target target']
  · intro e rest nominalF nominalV contract gateway rate hold timeout wait threshold overload vBand fBand replacement
    let fs : List (Nat × Nat) :=
      [flagField e.configured, (2, e.nominalF), (2, e.nominalV), (2, e.contract), (1, e.gateway), (2, e.rampRate),
        (2, e.holdLimit), (2, e.rampTimeout), (2, e.genWait), (2, e.openThreshold), (1, e.overloadTime), (1, e.vBand),
        (2, e.fBand), (1, e.replacement)]
    have bytes : encBerthEntry e = fieldBytes fs := by simp [fs, encBerthEntry, encFlag, flagField, fieldBytes]
    refine ⟨fs.map Prod.snd, bytes ▸ takeEntry_fields fs ?_ rest, by simp [fs, toBerthEntry, fldFlag_flagField, fld]⟩
    simp only [fs, List.forall_mem_cons]
    exact ⟨flag_fits _, nominalF, nominalV, contract, gateway, rate, hold, timeout, wait, threshold, overload, vBand, fBand,
      replacement, nofun⟩

end

section
namespace Sys2Proof.Machine

/-! ### What bytes carry (R15) -/

/-- The bytes of fields carry them. -/
theorem carries_fieldBytes (fs : List (Nat × Nat)) : Carries fs (fieldBytes fs) := by
  induction fs with
  | nil => exact ⟨rfl, rfl⟩
  | cons f fs ih =>
    obtain ⟨length, numbers⟩ := ih
    refine ⟨by simp [fieldBytes_cons, length], ?_⟩
    have first : fromBe (be f.1 f.2) = f.2 % 256 ^ f.1 := by simp [fromBe, foldl_be]
    simp [fieldBytes_cons, numbersOf, first, numbers]

theorem Carries.of_eq {fs : List (Nat × Nat)} {bs : List Byte} (h : bs = fieldBytes fs) : Carries fs bs :=
  h ▸ carries_fieldBytes fs

theorem fieldBytes_map_flatten {α : Type} (f : α → List (Nat × Nat)) (xs : List α) :
    fieldBytes (xs.map f).flatten = (xs.map fun x => fieldBytes (f x)).flatten := by
  induction xs with
  | nil => rfl
  | cons x xs ih => simp [fieldBytes_append, ih]

theorem fieldBytes_flag (b : Bool) : fieldBytes [flagField b] = encFlag b := by simp [fieldBytes, flagField, encFlag]

theorem fieldBytes_optField (k : Nat) (o : Option Nat) : fieldBytes (optField k o) = encOpt k o := by
  cases o <;> simp [fieldBytes, optField, optFields, encOpt]

theorem be_add_zero (a b : Nat) : be (a + b) 0 = be a 0 ++ be b 0 := by
  induction a with
  | zero => simp [be]
  | succ a ih => rw [Nat.add_right_comm, be, be, ih]; simp

/-- Fields all zero are as many zero bytes. -/
theorem fieldBytes_zeros (widths : List Nat) : fieldBytes (widths.map fun k => (k, 0)) = be widths.sum 0 := by
  induction widths with
  | nil => rfl
  | cons k ks ih => rw [List.map_cons, fieldBytes_cons, ih, List.sum_cons, be_add_zero]

theorem encGroup_fields {α : Type} {n : Nat} {widths : List Nat} {fields : α → List (Nat × Nat)} {enc : α → List Byte}
    (size : n = widths.sum) (h : ∀ x, enc x = fieldBytes (fields x)) (o : Option α) :
    encGroup n enc o = fieldBytes (optFields widths fields o) := by
  cases o with
  | none => rw [size]; exact congrArg (be 1 0 ++ ·) (fieldBytes_zeros widths).symm
  | some x => rw [encGroup, h]; rfl

theorem encList_fields {α : Type} {fields : α → List (Nat × Nat)} {enc : α → List Byte}
    (h : ∀ x, enc x = fieldBytes (fields x)) (xs : List α) : encList enc xs = fieldBytes (listFields fields xs) := by
  rw [listFields, fieldBytes_cons, fieldBytes_map_flatten, encList, funext h]

theorem be_flagField (b : Bool) : be (flagField b).1 (flagField b).2 = encFlag b := rfl

theorem be_signedField (k : Nat) (i : Int) : be (signedField k i).1 (signedField k i).2 = beInt k i := rfl

end Sys2Proof.Machine
end

section
open Sys2Proof Sys2Proof.Machine

/-- Settles O48: each record and view is built of the listed fields in their order. -/
theorem viewsOfBilling : Obligations.ViewsOfBilling := by
  unfold Obligations.ViewsOfBilling
  intro clockFields sessionFields
  have clock : ∀ o, encOptClock o = fieldBytes (clockFields o) := by
    rintro (_ | ⟨day, second⟩) <;> simp [encOptClock, clockFields, optFields, fieldBytes]
  have ident : ∀ o : Option ShipId, encIdent o = be 8 (match o with | none => 0 | some v => v.toNat) := by
    rintro (_ | v) <;> rfl
  have session : ∀ r, encSession r = fieldBytes (sessionFields r) := by
    intro r
    simp only [encSession, sessionFields, fieldBytes_append, fieldBytes_cons, fieldBytes_nil, fieldBytes_optField, clock,
      List.append_assoc, List.append_nil, ident]
    rfl
  refine ⟨fun r => .of_eq (session r), fun s => ?_⟩
  intro l n slotFields meterFields
  refine ⟨.of_eq ?_, .of_eq ?_, .of_eq ?_, .of_eq ?_, .of_eq ?_⟩
  · have slot : ∀ b : Berth, be 1 b.val ++ be 1 (s.slot b).code ++ encGroup sessionBytes encSession (s.slot b).session? =
        fieldBytes (slotFields b) := by
      intro b
      dsimp only [slotFields]
      cases s.slot b with
      | openSlot r => simp [Slot.code, Slot.session?, encGroup, session, fieldBytes_cons]
      | _ => simp [Slot.code, Slot.session?, encGroup, fieldBytes_cons, fieldBytes_nil]
    simp only [viewSessions, fieldBytes_append, fieldBytes_cons, fieldBytes_nil, fieldBytes_optField, fieldBytes_map_flatten, slot,
      List.append_assoc, List.append_nil, be_flagField]
    have bounds : (allBerths.map fun i => be 1 (s.blg.bound i)).flatten =
        fieldBytes ((List.finRange 4).map fun i => (1, s.blg.sets[i].bound)) := by
      rw [fieldBytes, List.map_map]
      rfl
    rw [bounds]
    cases s.blg.current <;> rfl
  · have meter : ∀ b, encMeter s b = fieldBytes (meterFields b) := by
      intro b
      simp only [encMeter, meterFields, fieldBytes_append, fieldBytes_cons, fieldBytes_nil, fieldBytes_optField,
        be_flagField, List.append_assoc, List.append_nil]
      rfl
    simp only [viewUnbilled, fieldBytes_append, fieldBytes_cons, fieldBytes_nil, fieldBytes_map_flatten,
      List.append_assoc, List.append_nil, ← meter]
    rfl
  · simp only [viewLock, fieldBytes_cons, fieldBytes_nil, be_flagField, List.append_assoc, List.append_nil]
    cases s.mlk.lock <;> simp only [LockState.code]
  · have isNone : s.own.isNone = decide (s.own = none) := by cases s.own <;> rfl
    have ordinary : s.lpu.ordinary = (s.lpu.reply.filter fun p => !p.refusal).length := List.countP_eq_length_filter ..
    have refusal : s.lpu.refusalTaken = s.lpu.reply.any fun p => p.refusal := rfl
    unfold viewLink
    simp only [isNone, ordinary, refusal]
    simp only [l, n, fieldBytes_cons, fieldBytes_nil, be_flagField, List.append_assoc, List.append_nil]
  · have capture : ∀ c : Capture, encCapture c =
        fieldBytes [(1, c.source), (1, c.kind), (1, c.table), (1, c.first), (1, c.count)] := fun c => by
      simp [encCapture, fieldBytes_cons, fieldBytes_nil]
    simp only [viewCapture, encGroup_fields (n := 5) (widths := [1, 1, 1, 1, 1]) rfl capture, fieldBytes_append,
      fieldBytes_cons, fieldBytes_nil, be_flagField, List.append_assoc, List.append_nil]

end

section
namespace Sys2Proof.Machine

/-- The first index with a property, found along the indices or along the list. -/
theorem findIdx?_finRange {n : Nat} (p : Fin n → Bool) :
    (List.finRange n).findIdx? p = ((List.finRange n).find? p).map fun i => i.val := by
  induction n with
  | zero => rfl
  | succ n ih =>
    rw [List.finRange_succ, List.findIdx?_cons, List.find?_cons]
    cases p 0 with
    | true => rfl
    | false =>
      rw [List.findIdx?_map, List.find?_map, ih]
      simp [Option.map_map, Function.comp_def]

theorem toList_findIdx? {α : Type} {n : Nat} (v : Vector α n) (p : α → Bool) :
    v.toList.findIdx? p = ((List.finRange n).find? fun i => p v[i]).map fun i => i.val := by
  have listed : v.toList = (List.finRange n).map fun i => v[i] := by
    apply List.ext_getElem <;> simp
  rw [listed, List.findIdx?_map]
  exact findIdx?_finRange _

end Sys2Proof.Machine
end

section
open Sys2Proof Sys2Proof.Machine

/-- Settles O47: each view is built of the listed fields in their order. -/
theorem viewsOfPlant : Obligations.ViewsOfPlant := by
  unfold Obligations.ViewsOfPlant
  intro s age left pairFields modeOf pointFields moduleFields berthFields requester queuedFields signedOpt chanFields
  refine ⟨.of_eq ?_, .of_eq ?_, .of_eq ?_, .of_eq ?_⟩
  · have point : ∀ p, encPoint s p = fieldBytes (pointFields p) := by
      intro p
      simp only [encPoint, pointFields, fieldBytes_append, fieldBytes_cons, fieldBytes_nil, fieldBytes_optField,
        be_flagField, be_signedField, List.append_assoc, List.append_nil, entryOfPoint, toList_findIdx?]
      rfl
    simp only [viewPoints, fieldBytes_append, fieldBytes_cons, fieldBytes_nil, fieldBytes_map_flatten, ← point,
      List.append_nil]
    rfl
  · have modul : ∀ m, encModule s m = fieldBytes (moduleFields m) := by
      intro m
      have due : ∀ a b : Option Nat, (a <|> b) = match a with | some due => some due | none => b := by
        rintro (_ | a) b <;> rfl
      have reported : Reported.code = fun x => match x with | .off => 0 | .running => 1 | .fault => 2 := by
        funext x
        cases x <;> rfl
      simp only [encModule, moduleFields, fieldBytes_append, fieldBytes_cons, fieldBytes_nil, fieldBytes_optField,
        be_flagField, List.append_assoc, List.append_nil, due, reported]
      rfl
    have listed : ∀ b, encList (fun m : Module => be 1 m.val) (s.list b) =
        fieldBytes (listFields (fun m : Module => [(1, m.val)]) (s.list b)) := fun b =>
      encList_fields (fun m => by simp [fieldBytes_cons, fieldBytes_nil]) _
    simp only [viewModules, fieldBytes_append, fieldBytes_cons, fieldBytes_nil, fieldBytes_map_flatten, ← modul, listed,
      List.append_assoc, List.append_nil]
    rfl
  · have pair : ∀ p, encPair p = fieldBytes (pairFields p) := fun p => by
      simp [encPair, pairFields, fieldBytes_cons, fieldBytes_nil]
    have mode : SetpMode.code = modeOf := by
      funext x
      cases x <;> rfl
    have sent : ∀ x : Nat × Nat × SetpMode, be 4 x.1 ++ be 2 x.2.1 ++ be 1 x.2.2.code =
        fieldBytes [(4, x.1), (2, x.2.1), (1, modeOf x.2.2)] := fun x => by simp [mode, fieldBytes_cons, fieldBytes_nil]
    have built : ∀ x : BuiltSetp, be 1 x.mode.code ++ be 4 x.f ++ be 2 x.v ++ be 2 x.pRef ++ be 2 x.pLimit =
        fieldBytes [(1, modeOf x.mode), (4, x.f), (2, x.v), (2, x.pRef), (2, x.pLimit)] := fun x => by
      simp [mode, fieldBytes_cons, fieldBytes_nil]
    have berth : ∀ b, encBerth s b ++ encBerthRfg s b = fieldBytes (berthFields b) := by
      intro b
      have reason : TripReason.code = fun x => match x with
          | .operator => 0 | .event => 1 | .pilot => 2 | .estop => 3 | .externalOpen => 4 | .noSource => 5 := by
        funext x
        cases x <;> rfl
      have ship : ∀ x, encShip s x = fieldBytes [flagField x.ready, flagField x.deadBus, (1, x.generators), (2, x.load),
            (8, match x.ident with | none => 0 | some v => v.toNat), (2, age x.received)] := by
        intro x
        simp only [encShip, fieldBytes_cons, fieldBytes_nil, be_flagField, List.append_assoc, List.append_nil]
        cases x.ident <;> rfl
      have listed : ∀ m, encListed s m = fieldBytes ([(1, m.val), flagField s.rfg.modules[m].startSent] ++
          optFields [4, 2] pairFields s.rfg.modules[m].own ++
          optFields [4, 2, 1] (fun y : Nat × Nat × SetpMode => [(4, y.1), (2, y.2.1), (1, modeOf y.2.2)])
            s.rfg.modules[m].lastSent ++
          optFields [1, 4, 2, 2, 2] (fun y : BuiltSetp =>
            [(1, modeOf y.mode), (4, y.f), (2, y.v), (2, y.pRef), (2, y.pLimit)]) s.rfg.modules[m].built) := by
        intro m
        unfold encListed
        simp only [encGroup_fields (n := 6) (widths := [4, 2]) rfl pair,
          encGroup_fields (n := 7) (widths := [4, 2, 1]) (enc := fun x : Nat × Nat × SetpMode =>
            be 4 x.1 ++ be 2 x.2.1 ++ be 1 x.2.2.code) rfl sent,
          encGroup_fields (n := 11) (widths := [1, 4, 2, 2, 2]) (enc := fun x : BuiltSetp =>
            be 1 x.mode.code ++ be 4 x.f ++ be 2 x.v ++ be 2 x.pRef ++ be 2 x.pLimit) rfl built]
        simp only [fieldBytes_append, fieldBytes_cons, fieldBytes_nil, be_flagField, List.append_assoc, List.append_nil]
      have reference : ∀ x, encBerthRef s x = fieldBytes ([flagField x.follow, (4, x.fRef), (2, x.vRef),
            (1, match x.progress with | .waiting => 0 | .rising => 1 | .complete => 2), flagField x.pair.isSome] ++
            optFields [4, 2] pairFields x.pair ++ [(2, x.pSet), (2, x.pB), flagField x.overload] ++
            optField 2 (left x.overloadDue) ++ [(2, x.lastShed)]) := by
        intro x
        simp only [encBerthRef, encGroup_fields (n := 6) (widths := [4, 2]) rfl pair, fieldBytes_append, fieldBytes_cons,
          fieldBytes_nil, fieldBytes_optField, be_flagField, List.append_assoc, List.append_nil]
        rfl
      have held : heldTime s b = if (s.berth b).holdEnd = none then (s.berth b).holdAcc else
          min ((s.berth b).holdAcc + (s.now - (s.berth b).holdFrom)) ((s.entry b).holdLimit * 1000) := by
        unfold heldTime
        cases e : (s.berth b).holdEnd <;> simp [e, holdLimitMs]
      unfold encBerth encBerthRfg
      simp only [encGroup_fields (n := 15) (widths := [1, 1, 1, 2, 8, 2]) rfl ship,
        encGroup_fields (n := 26) (widths := [1, 4, 2, 1, 1, 1, 4, 2, 2, 2, 1, 1, 2, 2]) rfl reference,
        encList_fields listed, reason, held]
      dsimp only [berthFields]
      simp only [fieldBytes_append, fieldBytes_cons, fieldBytes_nil, fieldBytes_optField, be_flagField,
        List.append_assoc, List.append_nil]
      have timer : rampLeft s (s.berth b).rampTimer = match (s.berth b).rampTimer with
          | .stopped => none | .running due => some (due - s.now) | .paused k => some k := by
        cases (s.berth b).rampTimer <;> rfl
      rw [timer]
      rfl
    simp only [viewBerths, fieldBytes_append, fieldBytes_cons, fieldBytes_nil, fieldBytes_map_flatten, ← berth,
      List.append_assoc, List.append_nil, be_flagField]
    rfl
  · have code : Requester.code = requester := by
      funext x
      cases x <;> rfl
    have queued : ∀ r, encQueued s r = fieldBytes (queuedFields r) := fun r => by
      have profile : (profileIx r.target).val = if r.target.val < 4 then 0 else 1 := by
        unfold profileIx
        split <;> rfl
      simp only [encQueued, queuedFields, code, profile, fieldBytes_cons, fieldBytes_nil, List.append_assoc,
        List.append_nil]
      rfl
    have optInt : ∀ k o, encOptInt k o = fieldBytes (signedOpt k o) := by
      rintro k (_ | i) <;> simp [encOptInt, signedOpt, optFields, fieldBytes_cons, fieldBytes_nil, be_signedField]
    have eval : ∀ o : Option Evaluation, encEval o = fieldBytes (
        signedOpt 2 (o.getD ⟨none, none, none, none, false, false, false⟩).phi ++
          signedOpt 8 (o.getD ⟨none, none, none, none, false, false, false⟩).slip ++
          signedOpt 2 (o.getD ⟨none, none, none, none, false, false, false⟩).delta ++
          signedOpt 2 (o.getD ⟨none, none, none, none, false, false, false⟩).phiP ++
          [flagField (o.getD ⟨none, none, none, none, false, false, false⟩).vOk,
            flagField (o.getD ⟨none, none, none, none, false, false, false⟩).sOk,
            flagField (o.getD ⟨none, none, none, none, false, false, false⟩).aOk]) := by
      rintro (_ | e) <;>
        simp only [encEval, optInt, Option.getD_none, Option.getD_some, fieldBytes_append, fieldBytes_cons, fieldBytes_nil,
          be_flagField, List.append_assoc, List.append_nil]
    have pairs : ∀ p : Int × Nat, beInt 8 p.1 ++ be 2 p.2 = fieldBytes [signedField 8 p.1, (2, p.2)] := fun p => by
      simp [fieldBytes_cons, fieldBytes_nil, be_signedField]
    have chan : ∀ c : Chan, encChan s c = fieldBytes (chanFields s.syu.chans[c]) := by
      intro c
      unfold encChan
      cases s.syu.chans[c] with
      | none =>
        simp only [encIdle, chanFields, eval, fieldBytes_append, fieldBytes_cons, fieldBytes_nil, fieldBytes_optField,
          be_flagField, List.append_assoc, List.append_nil, Option.getD_none]
        rfl
      | some w =>
        simp only [encChanWork, chanFields, eval, code,
          encGroup_fields (n := 10) (widths := [8, 2]) (enc := fun p : Int × Nat => beInt 8 p.1 ++ be 2 p.2) rfl pairs]
        simp only [encGroup, fieldBytes_append, fieldBytes_cons, fieldBytes_nil, fieldBytes_optField, be_flagField,
          List.append_assoc, List.append_nil]
        rfl
    have dead : ∀ d, encDeadClose s d = fieldBytes [(1, d.target.val), (1, d.berth.val), (1, requester d.requester),
        (2, d.confirmDue - s.now)] := fun d => by
      simp [encDeadClose, State.left, code, fieldBytes_cons, fieldBytes_nil]
    simp only [viewSync, fieldBytes_append, fieldBytes_cons, fieldBytes_nil, be_flagField, List.append_assoc,
      List.append_nil, encList_fields queued, encList_fields dead, chan]
    have marks : (allTargets.map fun t => encFlag s.syu.closeHeld[t]).flatten =
        fieldBytes ((List.finRange 12).map fun k => flagField s.syu.closeHeld[k]) := by
      rw [fieldBytes, List.map_map]
      rfl
    rw [marks]
    rfl

end

section
namespace Sys2Proof.Machine

/-! ### Load sharing (R66) -/

/-- Of the elements of a finite set, `min u` of them have fewer than `u` elements before them in the order of a key. -/
theorem sum_rank_lt {α : Type} [DecidableEq α] (key : α → Nat) (inj : Function.Injective key) (u : Nat) (S : Finset α) :
    (∑ m ∈ S, if (S.filter fun j => key j < key m).card < u then 1 else 0) = min u S.card := by
  induction S using Finset.induction_on_max_value key with
  | empty => simp
  | insert a S out largest ih =>
    have less : ∀ x ∈ S, key x < key a := fun x hx =>
      lt_of_le_of_ne (largest x hx) fun e => out (inj e ▸ hx)
    have last : (insert a S).filter (fun j => key j < key a) = S := by
      rw [Finset.filter_insert, if_neg (lt_irrefl _), Finset.filter_true_of_mem less]
    have others : ∀ m ∈ S, (insert a S).filter (fun j => key j < key m) = S.filter fun j => key j < key m :=
      fun m hm => by rw [Finset.filter_insert, if_neg (less m hm).le.not_gt]
    rw [Finset.sum_insert out, last, Finset.card_insert_of_notMem out,
      Finset.sum_congr rfl fun m hm => by rw [others m hm], ih]
    split <;> omega

section
variable (cap : Module → Nat) (ms : List Module) (pB : Nat)

def shareTotal : Nat := (ms.map cap).sum

def shareFloor (m : Module) : Nat := pB * cap m / shareTotal cap ms

def shareRest (m : Module) : Nat := pB * cap m % shareTotal cap ms

/-- The kilowatts that the floors leave undistributed. -/
def shareLeft : Nat := pB - (ms.map (shareFloor cap ms pB)).sum

/-- The order in which the undistributed kilowatts are given out, as a number: the larger remainder first. -/
def shareKey (m : Module) : Nat := (shareTotal cap ms - 1 - shareRest cap ms pB m) * 8 + m.val

theorem shareKey_injective : Function.Injective (shareKey cap ms pB) := by
  intro i j e
  unfold shareKey at e
  exact Fin.ext (by omega)

section
variable {cap ms pB}

theorem shareRest_lt (pos : 0 < shareTotal cap ms) (m : Module) : shareRest cap ms pB m < shareTotal cap ms :=
  Nat.mod_lt _ pos

theorem sharesBefore_iff (pos : 0 < shareTotal cap ms) (j i : Module) :
    sharesBefore (shareRest cap ms pB) j i = true ↔ shareKey cap ms pB j < shareKey cap ms pB i := by
  have := shareRest_lt (pB := pB) pos i
  have := shareRest_lt (pB := pB) pos j
  simp only [sharesBefore, shareKey, Bool.or_eq_true, Bool.and_eq_true, decide_eq_true_eq]
  omega

theorem sum_map_eq (nodup : ms.Nodup) (f : Module → Nat) : (ms.map f).sum = ∑ m ∈ ms.toFinset, f m :=
  (List.sum_toFinset f nodup).symm

/-- The remainders add up to the kilowatts left, each of which stands for a whole total. -/
theorem shareRest_sum (nodup : ms.Nodup) (pos : 0 < shareTotal cap ms) :
    (ms.map (shareFloor cap ms pB)).sum ≤ pB ∧
      ∑ m ∈ ms.toFinset, shareRest cap ms pB m = shareTotal cap ms * shareLeft cap ms pB := by
  have whole : ∑ m ∈ ms.toFinset, pB * cap m = shareTotal cap ms * pB := by
    rw [← Finset.mul_sum, ← sum_map_eq nodup, Nat.mul_comm]
    rfl
  have divided : shareTotal cap ms * (ms.map (shareFloor cap ms pB)).sum + ∑ m ∈ ms.toFinset, shareRest cap ms pB m =
      shareTotal cap ms * pB := by
    rw [sum_map_eq nodup, Finset.mul_sum, ← Finset.sum_add_distrib, ← whole]
    exact Finset.sum_congr rfl fun m _ => Nat.div_add_mod _ _
  refine ⟨Nat.le_of_mul_le_mul_left (by omega) pos, ?_⟩
  rw [shareLeft, Nat.mul_sub]
  omega

/-- At most as many kilowatts are left as there are modules with a remainder. -/
theorem shareLeft_le (nodup : ms.Nodup) (pos : 0 < shareTotal cap ms) :
    shareLeft cap ms pB ≤ (ms.toFinset.filter fun m => 0 < shareRest cap ms pB m).card := by
  refine Nat.le_of_mul_le_mul_left ?_ pos
  rw [← (shareRest_sum nodup pos).2,
    ← Finset.sum_filter_of_ne (p := fun m => 0 < shareRest cap ms pB m) fun m _ h => Nat.pos_of_ne_zero h, Nat.mul_comm,
    ← smul_eq_mul, ← Finset.sum_const]
  exact Finset.sum_le_sum fun m _ => (shareRest_lt pos m).le

/-- The number of modules that come before `m`. -/
def shareRank (cap : Module → Nat) (ms : List Module) (pB : Nat) (m : Module) : Nat :=
  (ms.toFinset.filter fun j => shareKey cap ms pB j < shareKey cap ms pB m).card

theorem shareOf_eq (nodup : ms.Nodup) (pos : 0 < shareTotal cap ms) (m : Module) :
    shareOf cap ms pB m =
      shareFloor cap ms pB m + if shareRank cap ms pB m < shareLeft cap ms pB then 1 else 0 := by
  have rank : (ms.countP fun j => sharesBefore (shareRest cap ms pB) j m) = shareRank cap ms pB m := by
    rw [List.countP_eq_length_filter, ← List.toFinset_card_of_nodup (nodup.filter _), List.toFinset_filter]
    exact congrArg _ (Finset.filter_congr fun j _ => sharesBefore_iff pos j m)
  rw [← rank]
  exact if_neg pos.ne'

/-- A module that gets one of the kilowatts left has a remainder. -/
theorem shareRest_pos (nodup : ms.Nodup) (pos : 0 < shareTotal cap ms) {m : Module}
    (ahead : shareRank cap ms pB m < shareLeft cap ms pB) : 0 < shareRest cap ms pB m := by
  by_contra none
  have none : shareRest cap ms pB m = 0 := by omega
  refine absurd ((shareLeft_le nodup pos).trans (Finset.card_le_card fun j hj => ?_)) ahead.not_ge
  obtain ⟨mem, more⟩ := Finset.mem_filter.1 hj
  refine Finset.mem_filter.2 ⟨mem, (sharesBefore_iff pos j m).1 ?_⟩
  simp only [sharesBefore, Bool.or_eq_true, decide_eq_true_eq]
  exact .inl (none.trans_lt more)

end
end
end Sys2Proof.Machine
end

section
open Sys2Proof Sys2Proof.Machine

/-- Settles O17: the remainders of the division add up to the undistributed kilowatts, of which each goes to a module of its
own with a remainder. -/
theorem sharesAddUp : Obligations.SharesAddUp := by
  intro cap ms pB nodup pos le
  have pos : 0 < shareTotal cap ms := pos
  have share := shareOf_eq (pB := pB) nodup pos
  refine ⟨?_, fun m hm => ⟨?_, ?_, ?_⟩⟩
  · obtain ⟨floors, -⟩ := shareRest_sum (pB := pB) nodup pos
    have many := (shareLeft_le (pB := pB) nodup pos).trans (Finset.card_filter_le _ _)
    have given := sum_rank_lt _ (shareKey_injective cap ms pB) (shareLeft cap ms pB) ms.toFinset
    rw [min_eq_left many] at given
    rw [sum_map_eq nodup, Finset.sum_congr rfl fun m _ => share m, Finset.sum_add_distrib, ← sum_map_eq nodup]
    unfold shareRank
    rw [given, shareLeft]
    omega
  · have divided := Nat.div_add_mod (pB * cap m) (shareTotal cap ms)
    have below : pB * cap m ≤ shareTotal cap ms * cap m := Nat.mul_le_mul_right _ le
    have divided : shareTotal cap ms * shareFloor cap ms pB m + shareRest cap ms pB m = pB * cap m := divided
    rw [share]
    split
    next ahead =>
      have some := shareRest_pos nodup pos ahead
      exact Nat.succ_le_of_lt (Nat.lt_of_mul_lt_mul_left (a := shareTotal cap ms) (by omega))
    · rw [Nat.add_zero]
      exact Nat.le_of_mul_le_mul_left (by omega) pos
  · rw [share]
    exact Nat.le_add_right _ _
  · rw [share]
    refine Nat.add_le_add_left ?_ _
    split <;> omega

end

section
namespace Sys2Proof.Machine

/-! ### What the taking of hand-offs leaves alone -/

section
variable {P : State → Prop} {s : State}

theorem Stays.drain (k : Stays P) (f : Berths P) (n : Notes P) (i : Nat) (h : P s) : P (drain i s) :=
  drain_keeps (fun s hs => k.handed s hs s.overrun) (fun x _ => takeHandoff_stays k (k.sequence f) n x) i h

theorem Stays.settle (k : Stays P) (f : Berths P) (n : Notes P) (h : P s) : P (settle s) :=
  settle_keeps k.handed (fun x _ => takeHandoff_stays k (k.sequence f) n x) h

end

/-! ### Raised entries (R159) -/

section
variable {e f : EventIx} {s : State}

@[simp] theorem recomputeHolds_entries (s : State) : (recomputeHolds s).evr.entries = s.evr.entries := by
  have one : ∀ (b : Berth) (s : State), (recomputeHold b s).evr.entries = s.evr.entries := by
    intro b s
    unfold recomputeHold
    dsimp only
    split
    · rfl
    · simp
  exact foldl_stays (P := fun t => t.evr.entries = s.evr.entries) (fun t b h => (one b t).trans h) _ rfl

theorem modEntry_raw {g : EventEntry → EventEntry} (up : ∀ x, x.raw = true → (g x).raw = true)
    (h : (s.event e).raw = true) : ((s.modEntry f g).event e).raw = true := by
  by_cases is : f = e
  · subst is
    rw [s.event_modEntry]
    exact up _ h
  · rw [s.event_modEntry_other is]
    exact h

/-- R159: what is raw stays raw but for EVENT_CLEAR and the resets. -/
theorem raw_stays (e : EventIx) : Stays fun s => (s.evr.entries[e]).raw = true where
  modEntry _ _ _ _ up h := modEntry_raw up h

theorem raw_berths (e : EventIx) : Berths fun s => (s.evr.entries[e]).raw = true where

theorem raw_notes (e : EventIx) : Notes fun s => (s.evr.entries[e]).raw = true where
  noted f g s up h := by
    have same : (recomputeHolds (giveNotes f (s.modEntry f g))).evr.entries = (s.modEntry f g).evr.entries := by simp
    rw [same]
    exact modEntry_raw up h
  applyEvents first es s h := by
    have written : ((updAll toEvent s.evr.entries first es)[e]).raw = true := by
      obtain same | ⟨x, -, new⟩ := updAll_entry toEvent s.evr.entries first es e
      · rw [same]; exact h
      · rw [new]; exact h
    unfold applyEvents
    rw [recomputeHolds_entries]
    refine foldl_stays (P := fun t => (t.evr.entries[e]).raw = true) (fun t f ht => ?_) _ written
    unfold eventWritten
    split
    · simpa using ht
    · exact ht

/-- R159: an entry is raw once EVR has taken its raise, whatever its action. -/
theorem raiseEntry_is_raw (e : EventIx) (s : State) : ((raiseEntry e s).event e).raw = true := by
  by_cases old : (s.event e).raw = true
  · exact raiseEntry_stays (raw_stays e) ((raw_stays e).sequence (raw_berths e)) (raw_notes e) e old
  have marked : ((s.modEntry e fun x => { x with raw := true, count := 0, clock := some s.clock }).event e).raw = true := by
    rw [s.event_modEntry]
  unfold raiseEntry
  rw [if_neg old]
  dsimp only
  split
  · refine applyAction_stays (raw_stays e) ((raw_stays e).sequence (raw_berths e)) e ?_
    simp
  · exact marked

/-- R159: the oldest hand-off of a command, a raise, leaves its entry raw when all have been taken. -/
theorem settle_raw {rest : List Handoff} (h : s.handoffs = .raise e :: rest) : ((settle s).event e).raw = true := by
  have taken : ((drain Config.settleFuel s).event e).raw = true := by
    rw [show Config.settleFuel = 4095 + 1 from rfl, drain_cons _ h]
    exact (raw_stays e).drain (raw_berths e) (raw_notes e) 4095 (raiseEntry_is_raw e _)
  exact taken

end

/-! ### What only reception changes in the LPU (R2 to R5) -/

/-- The NID strap, the ingress loss timer and indicator, and the counts of received frames. -/
def Lpu.received (l : Lpu) : BitVec 6 × Nat × Bool × Nat × Nat × Nat × Nat :=
  (l.nid, l.lossDue, l.lossIndicator, l.counters.good, l.counters.overlong, l.counters.rejected, l.counters.stripped)

section
variable {s : State}

theorem beginNext_received (s : State) : (beginNext s).lpu.received = s.lpu.received := by
  have control : ∀ p rest, (sendControl p rest s).lpu.received = s.lpu.received := by
    intro p rest
    simp [sendControl, sendOwn_eq, Lpu.begun, Lpu.received]
  unfold beginNext
  (repeat' split)
  · rfl
  · exact control _ _
  · rfl
  · exact control _ _
  · rfl
  · rfl

theorem kick_received (s : State) : (kick s).lpu.received = s.lpu.received := by
  unfold kick
  split
  · exact beginNext_received s
  · rfl

theorem acceptCmd_received (c : Bcmd) (l : Lpu) : (l.acceptCmd c).received = l.received := by
  unfold Lpu.acceptCmd
  (repeat' split) <;> rfl

theorem displacePoll_received (s : State) : (displacePoll s).lpu.received = s.lpu.received := by
  unfold displacePoll
  split <;> rfl

theorem enterControl_received (f : ControlFrame) (s : State) : (kick (enterControl f s)).lpu.received = s.lpu.received :=
  kick_received _

theorem giveBcmd_received (c : Bcmd) (s : State) : (giveBcmd c s).lpu.received = s.lpu.received := by
  unfold giveBcmd
  split
  · rfl
  · exact (kick_received _).trans (acceptCmd_received c s.lpu)

theorem giveShpn_received (d : Nat) (body : Notice) (s : State) : (giveShpn d body s).lpu.received = s.lpu.received := by
  unfold giveShpn
  (repeat' split)
  · rfl
  · exact enterControl_received _ s
  · exact enterControl_received _ (displaceShpn s)
  · rfl

theorem givePoll_received (d : Nat) (m : Module) (n : Nat) (s : State) :
    (givePoll d m n s).lpu.received = s.lpu.received := by
  unfold givePoll
  (repeat' split)
  · rfl
  · exact enterControl_received _ s
  · exact enterControl_received _ (displaceShpn s)
  · rfl

theorem giveSetp_received (f : Setp) (s : State) : (giveSetp f s).lpu.received = s.lpu.received := by
  unfold giveSetp
  (repeat' split)
  · rfl
  · rfl
  · exact enterControl_received _ s
  · exact enterControl_received _ (displaceShpn s)
  · exact (enterControl_received _ (displacePoll s)).trans (displacePoll_received s)
  · rfl

theorem giveNote_received (f : ReplyFrame) (s : State) : (giveNote f s).lpu.received = s.lpu.received := by
  unfold giveNote
  split
  · rfl
  · exact kick_received _

theorem forwardFrame_received (bytes : List Byte) (s : State) : (forwardFrame bytes s).lpu.received = s.lpu.received := by
  unfold forwardFrame
  split
  · exact kick_received _
  · rfl

variable (x : BitVec 6 × Nat × Bool × Nat × Nat × Nat × Nat)

theorem received_stays : Stays fun s => s.lpu.received = x where
  command c t s h := (giveBcmd_received _ s).trans h
  giveShpn d n s h := (giveShpn_received d n s).trans h
  givePoll d m n s h := (givePoll_received d m n s).trans h
  giveSetp f s h := (giveSetp_received f s).trans h
  forwardFrame bytes s h := (forwardFrame_received bytes s).trans h
  egressFreed s h := (beginNext_received _).trans h
  promoted _ h := h

theorem received_berths : Berths fun s => s.lpu.received = x where

theorem received_notes : Notes fun s => s.lpu.received = x :=
  lpu_notes (Q := fun l => l.received = x) fun f s h => (giveNote_received f s).trans h

/-- What only reception changes outlasts the taking of hand-offs. -/
theorem settle_received (s : State) : (settle s).lpu.received = s.lpu.received :=
  (received_stays _).settle (received_berths _) (received_notes _) rfl

end
end Sys2Proof.Machine
end

section
namespace Sys2Proof.Machine

/-! ### The end of a command (section "Time") -/

section
variable {g : State → State} {e : EventIx} {s u : State}

/-- A command that ends by raising one entry alone. -/
theorem done_raise (q : Quiet s) (alone : RaisesAlone e s) (h : g s = u.post (.raise e))
    (none : u.handoffs = [] := by exact q) (same : u.evr = s.evr := by rfl) : done g s = .next (raised e u) := by
  rw [done_quiet g q, h, settle_raise none]
  unfold RaisesAlone State.event at alone ⊢
  rwa [same]

/-- A command that ends by raising an entry, with what reception changes as the command leaves it. -/
theorem done_raised (q : Quiet s) (h : g s = u.post (.raise e)) (none : u.handoffs = [] := by exact q) :
    ∃ t, done g s = .next t ∧ (t.event e).raw = true ∧ t.lpu.received = u.lpu.received ∧ t.now = u.now := by
  refine ⟨_, done_quiet g q, ?_, ?_, ?_⟩
  · refine settle_raw (rest := []) ?_
    rw [h, State.post, none, List.nil_append]
  · rw [settle_received, h]
    rfl
  · rw [h]
    simp

end

/-! ### CONTROL (R12, R14) -/

section
variable {before after ps : List ControlPlace} {p : ControlPlace} {s : State}

theorem takePromoted_none (h : ∀ x ∈ ps, x.promoted = false) : takePromoted ps = none := by
  induction ps with
  | nil => rfl
  | cons p ps ih =>
    obtain ⟨first, rest⟩ := List.forall_mem_cons.1 h
    simp [takePromoted, first, ih rest]

theorem takePromoted_found (h : ∀ x ∈ before, x.promoted = false) (is : p.promoted = true) :
    takePromoted (before ++ p :: after) = some (p, before ++ after) := by
  induction before with
  | nil => simp [takePromoted, is]
  | cons q before ih =>
    obtain ⟨first, rest⟩ := List.forall_mem_cons.1 h
    simp [takePromoted, first, ih rest]

theorem promoteFirst_found (h : ∀ x ∈ before, x.promoted = true) (is : p.promoted = false) :
    promoteFirst (before ++ p :: after) = before ++ { p with promoted := true } :: after := by
  induction before with
  | nil => simp [promoteFirst, is]
  | cons q before ih =>
    obtain ⟨first, rest⟩ := List.forall_mem_cons.1 h
    simp [promoteFirst, first, ih rest]

/-- The first element of which a test holds. -/
theorem find_split {α : Type} {f : α → Bool} {before after : List α} {p : α} (h : ∀ x ∈ before, f x = false)
    (is : f p = true) : (before ++ p :: after).find? f = some p := by
  rw [List.find?_append, List.find?_eq_none.2 fun x hx => by simp [h x hx], Option.none_or, List.find?_cons_of_pos is]

theorem eraseP_split {α : Type} {f : α → Bool} {before after : List α} {p : α} (h : ∀ x ∈ before, f x = false)
    (is : f p = true) : (before ++ p :: after).eraseP f = before ++ after := by
  rw [List.eraseP_append_right _ fun x hx => by simp [h x hx], List.eraseP_cons_of_pos is]

/-- R36, R65: what egress tells as it begins a CONTROL frame. -/
theorem onControlSent_eq (f : ControlFrame) (s : State) : onControlSent f s = told f s := by
  cases f with
  | setp g =>
    have start : ∀ v : Bool, (if g.mode = .start then true else v) = (v || decide (g.mode = .start)) := by
      intro v
      by_cases is : g.mode = .start <;> simp [is]
    simp only [onControlSent, onSetpSent, State.modModuleRef, State.modRfg, told, start]
  | poll d m n => rfl
  | shpn d body => rfl

theorem sendControl_eq (p : ControlPlace) (rest : List ControlPlace) (s : State) :
    sendControl p rest s =
      controlBegun p.frame (if p.promoted then 1 else 0) { s with lpu := { s.lpu with control := rest } } := by
  unfold sendControl
  rw [onControlSent_eq, sendOwn_eq]
  rfl

/-- R11, R14: a CONTROL frame that finds egress free is begun at once. -/
theorem kick_enterControl (f : ControlFrame) (free : s.lpu.sending = none) (w : EgressWorks s) :
    kick (enterControl f s) = controlBegun f 0 s := by
  obtain ⟨protect, -, control, forward, -⟩ := w free
  have next : beginNext (enterControl f s) = sendControl ⟨f, s.now, false⟩ [] (enterControl f s) := by
    simp [beginNext, enterControl, protect, control, forward, takePromoted]
  have same : { enterControl f s with lpu := { (enterControl f s).lpu with control := [] } } = s := by
    show { s with lpu := { s.lpu with control := [] } } = s
    rw [← control]
  rw [kick, if_pos (by simp [enterControl, free]), next, sendControl_eq, same]
  rfl

/-- R11: while a frame is being sent, a CONTROL frame takes its place. -/
theorem kick_enterControl_busy (f : ControlFrame) {b : List Byte} (busy : s.lpu.sending = some b) :
    kick (enterControl f s) =
      { s with lpu := { s.lpu with control := s.lpu.control ++ [⟨f, s.now, false⟩] } } := by
  rw [kick_busy (f := b) (by simpa [enterControl] using busy)]
  rfl

end

end Sys2Proof.Machine
end

section
open Sys2Proof Sys2Proof.Machine

/-- Settles O26: the three commands end with one raise; the oldest CONTROL frame not yet promoted splits the queue. -/
theorem linkTimers : Obligations.LinkTimers := by
  intro s q
  refine ⟨fun alone => done_raise q alone rfl, ?_, ?_, fun alone => done_raise q alone rfl, fun all => ?_,
    fun before p after control promoted waits alone => ?_⟩
  · obtain ⟨t, run, raw, received, now⟩ := done_raised (g := cutOverlong) q rfl
    simp only [Lpu.received, Prod.mk.injEq] at received
    obtain ⟨-, due, -, good, long, -⟩ := received
    exact ⟨t, run, raw, long, due, good, now⟩
  · obtain ⟨t, run, raw, received, now⟩ := done_raised (g := ingressLoss) q rfl
    simp only [Lpu.received, Prod.mk.injEq] at received
    obtain ⟨-, due, loss, -⟩ := received
    exact ⟨t, run, raw, loss, now, due⟩
  · have none : promote s = s := by
      unfold promote
      rw [List.find?_eq_none.2 fun p hp => by simp [all p hp]]
    show done promote s = .next s
    rw [done_eq promote q (by rw [none]; exact q), none]
  · have found : s.lpu.control.find? (fun p => !p.promoted) = some p := by
      rw [control]
      exact find_split (fun x hx => by simp [promoted x hx]) (by simp [waits])
    refine done_raise (g := promote) q alone ?_
    unfold promote
    rw [found]
    simp only [State.modLpu, State.advanceTo, control, promoteFirst_found promoted waits]
    rfl

/-- Settles O27: each case of R14's order, with what egress tells of a CONTROL frame. -/
theorem egressOrder : Obligations.EgressOrder := by
  intro s q
  have next : ∀ t, egressFreed s = t → exec .egressFree s = .next t := by
    rintro t rfl
    exact done_eq egressFreed q (by simpa [egressFreed, Quiet] using q)
  refine ⟨fun c rest protect => next _ ?_, fun before p after protect control waits promoted => next _ ?_,
    fun f rest protect waits forward => next _ ?_, fun p rest protect forward waits control => next _ ?_,
    fun p rest protect forward control reply => next _ ?_, fun protect forward control reply => next _ ?_⟩
  · simp only [egressFreed, beginNext, State.modLpu, protect]
    rfl
  · simp only [egressFreed, beginNext, State.modLpu, protect, control, takePromoted_found waits promoted, sendControl_eq,
      promoted]
    rfl
  · simp only [egressFreed, beginNext, State.modLpu, protect, takePromoted_none waits, forward]
    rfl
  · have first : p.promoted = false := waits p (by simp [control])
    rw [control] at waits
    simp only [egressFreed, beginNext, State.modLpu, protect, forward, control, takePromoted_none waits, sendControl_eq,
      first]
    rfl
  · simp only [egressFreed, beginNext, State.modLpu, protect, forward, control, takePromoted, reply]
    rfl
  · simp only [egressFreed, beginNext, State.modLpu, protect, forward, control, takePromoted, reply]

end

section
namespace Sys2Proof.Machine

/-! ### PROTECT and the command list (R10) -/

section
variable {c x : Bcmd} {xs before after : List Bcmd} {k : Target} {l : Lpu} {s : State}

theorem hasCmd_none (h : ∀ x ∈ xs, x.target ≠ k) : hasCmd k xs = false := by
  simpa [hasCmd] using h

theorem hasCmd_found (is : x.target = k) : hasCmd k (before ++ x :: after) = true := by
  simp [hasCmd, is]

theorem replaceCmd_others (h : ∀ x ∈ xs, x.target ≠ c.target) : replaceCmd c xs = xs := by
  refine (List.map_congr_left fun x hx => ?_).trans (List.map_id xs)
  rw [if_neg (h x hx), id]

/-- R10: a command takes the place of the one that waits for its breaker. -/
theorem replaceCmd_found (is : x.target = c.target) (h : ∀ y ∈ before ++ after, y.target ≠ c.target) :
    replaceCmd c (before ++ x :: after) = before ++ c :: after := by
  have first := replaceCmd_others fun y hy => h y (List.mem_append_left _ hy)
  have last := replaceCmd_others fun y hy => h y (List.mem_append_right _ hy)
  unfold replaceCmd at first last ⊢
  rw [List.map_append, List.map_cons, first, last, if_pos is]

/-- R10: while a frame is being sent, a command waits where the queues take it. -/
theorem giveBcmd_busy {b : List Byte} (own : s.own ≠ none) (busy : s.lpu.sending = some b) :
    giveBcmd c s = { s with lpu := s.lpu.acceptCmd c } := by
  have waits : (s.modLpu (Lpu.acceptCmd c)).lpu.sending = some b := by
    simp only [State.modLpu_lpu, Lpu.acceptCmd]
    (repeat' split) <;> exact busy
  rw [giveBcmd, if_neg (by simpa using own), kick_busy waits]
  rfl

/-- R14: a command that finds egress free is begun at once. -/
theorem giveBcmd_free (own : s.own ≠ none) (free : s.lpu.sending = none) (w : EgressWorks s) :
    giveBcmd c s = { s with lpu := s.lpu.begun c.dest 5 0 c.payload } := by
  obtain ⟨protect, list, -, -, -⟩ := w free
  have accepted : s.lpu.acceptCmd c = { s.lpu with protect := [c] } := by
    simp [Lpu.acceptCmd, hasCmd, protect, list]
  have same : ({ s.lpu with protect := [], commandList := [] } : Lpu) = s.lpu := by
    cases h : s.lpu
    simp_all
  have next : beginNext (s.modLpu (Lpu.acceptCmd c)) =
      { s with lpu := ({ s.lpu with protect := [], commandList := [] } : Lpu).begun c.dest 5 0 c.payload } := by
    simp only [State.modLpu, accepted, beginNext, sendProtect, sendOwn_eq, list]
    rfl
  rw [giveBcmd, if_neg (by simpa using own), kick, if_pos (by simp [State.modLpu, accepted, free]), next, same]

theorem operateLimit_eq (cmd : BreakerCmd) (e : BreakerEntry) :
    operateLimit cmd e = if cmd = .close then e.tc + e.margin else e.margin + 100 := by
  cases cmd <;> rfl

end

/-! ### SETP, POLL and SHPN (R11) -/

section
variable {before after : List ControlPlace} {p : ControlPlace} {s : State} {b : List Byte} {g : Setp} {d n : Nat}
  {m : Module} {body : Notice}

theorem controlFull_false (room : s.lpu.control.length < 24) : s.lpu.controlFull = false := by
  simpa [Lpu.controlFull, Config.controlPlaces] using room

theorem controlFull_true (full : 24 ≤ s.lpu.control.length) : s.lpu.controlFull = true := by
  simpa [Lpu.controlFull, Config.controlPlaces] using full

theorem any_none {α : Type} {f : α → Bool} {xs : List α} (h : ∀ x ∈ xs, f x = false) : xs.any f = false :=
  List.any_eq_false.2 fun x hx => by simp [h x hx]

theorem any_found {α : Type} {f : α → Bool} {xs ys : List α} {x : α} (is : f x = true) : (xs ++ x :: ys).any f = true := by
  simp [is]

/-- R11: the oldest SHPN that waits gives its place up. -/
theorem displaceShpn_eq (control : s.lpu.control = before ++ p :: after) (h : ∀ x ∈ before, x.isShpn = false)
    (is : p.isShpn = true) :
    displaceShpn s = { s with lpu := { s.lpu with
      control := before ++ after
      counters := { s.lpu.counters with shpnLost := min (s.lpu.counters.shpnLost + 1) Config.u32Max } } } := by
  simp only [displaceShpn, State.modLpu, control, eraseP_split h is]
  rfl

theorem displacePoll_eq {entry : Nat} {promoted : Bool}
    (control : s.lpu.control = before ++ ⟨.poll d m n, entry, promoted⟩ :: after) (h : ∀ x ∈ before, x.isPoll = false) :
    displacePoll s = { s with
      lpu := { s.lpu with
        control := before ++ after
        counters := { s.lpu.counters with pollSkipped := min (s.lpu.counters.pollSkipped + 1) Config.u32Max } }
      handoffs := s.handoffs ++ [.pollSkipped m n] } := by
  have found : s.lpu.control.find? ControlPlace.isPoll = some ⟨.poll d m n, entry, promoted⟩ := by
    rw [control]
    exact find_split h rfl
  unfold displacePoll
  rw [found]
  simp only [State.modLpu, control]
  rw [eraseP_split h rfl]
  rfl

/-- R11: the place that an SHPN gives up is taken by `f`. -/
theorem enter_displaced (f : ControlFrame) (busy : s.lpu.sending = some b) (control : s.lpu.control = before ++ p :: after)
    (h : ∀ x ∈ before, x.isShpn = false) (is : p.isShpn = true) :
    kick (enterControl f (displaceShpn s)) = { s with lpu := { s.lpu with
      control := before ++ after ++ [⟨f, s.now, false⟩]
      counters := { s.lpu.counters with shpnLost := min (s.lpu.counters.shpnLost + 1) Config.u32Max } } } := by
  rw [displaceShpn_eq control h is]
  exact kick_enterControl_busy (b := b) f busy

theorem givePoll_room (own : s.own ≠ none) (room : s.lpu.control.length < 24) :
    givePoll d m n s = kick (enterControl (.poll d m n) s) := by
  simp [givePoll, own, controlFull_false room]

theorem giveShpn_room (own : s.own ≠ none) (room : s.lpu.control.length < 24) :
    giveShpn d body s = kick (enterControl (.shpn d body) s) := by
  simp [giveShpn, own, controlFull_false room]

theorem giveSetp_room (own : s.own ≠ none) (new : s.lpu.control.any (ControlPlace.isSetpFor g.module) = false)
    (room : s.lpu.control.length < 24) : giveSetp g s = kick (enterControl (.setp g) s) := by
  simp [giveSetp, own, new, controlFull_false room]

/-- R11: a SETP takes the place of the one that waits for its module. -/
theorem giveSetp_replaces (own : s.own ≠ none) (control : s.lpu.control = before ++ p :: after)
    (is : p.isSetpFor g.module = true) (h : ∀ x ∈ before ++ after, x.isSetpFor g.module = false) :
    giveSetp g s = { s with lpu := { s.lpu with control := before ++ { p with frame := .setp g } :: after } } := by
  have others : ∀ xs : List ControlPlace, (∀ x ∈ xs, x.isSetpFor g.module = false) →
      (xs.map fun p => if p.isSetpFor g.module then { p with frame := .setp g } else p) = xs := by
    intro xs hx
    refine (List.map_congr_left fun x mem => ?_).trans (List.map_id xs)
    rw [if_neg (by simp [hx x mem]), id]
  have first := others before fun x hx => h x (List.mem_append_left _ hx)
  have last := others after fun x hx => h x (List.mem_append_right _ hx)
  have found : s.lpu.control.any (ControlPlace.isSetpFor g.module) = true := control ▸ any_found is
  rw [giveSetp, if_neg (by simpa using own), if_pos found]
  simp only [State.modLpu, control]
  rw [List.map_append, List.map_cons, first, last, if_pos is]

end

end Sys2Proof.Machine
end

section
open Sys2Proof Sys2Proof.Machine

/-- Settles O28: what each of the four givers does in each condition of egress and of the queues. -/
theorem framesGiven : Obligations.FramesGiven := by
  refine ⟨fun cmd k s w => ?_, fun s own => ?_, fun s own free w => ?_, fun s f own busy => ?_⟩
  · dsimp only
    unfold command
    rw [operateLimit_eq]
    refine ⟨fun own => by simp [giveBcmd, own], fun own free => giveBcmd_free own free w, fun f own busy new room => ?_,
      fun f own busy new full => ?_, fun f before x after own busy protect is h => ?_,
      fun f before x after own busy new list is h => ?_⟩
    all_goals rw [giveBcmd_busy own busy, Lpu.acceptCmd]
    · obtain ⟨protect, list⟩ := List.forall_mem_append.1 new
      have places : s.lpu.protect.length < Config.protectPlaces := room
      rw [hasCmd_none protect, hasCmd_none list, if_neg (by simp), if_neg (by simp), if_pos places]
    · obtain ⟨protect, list⟩ := List.forall_mem_append.1 new
      have places : ¬ s.lpu.protect.length < Config.protectPlaces := not_lt.2 full
      rw [hasCmd_none protect, hasCmd_none list, if_neg (by simp), if_neg (by simp), if_neg places]
    · rw [protect, hasCmd_found is, if_pos rfl, replaceCmd_found is h]
    · rw [hasCmd_none new, if_neg (by simp), list, hasCmd_found is, if_pos rfl, replaceCmd_found is h]
  · refine ⟨fun dest body => ?_, fun g => ?_, fun dest m n => ?_⟩
    · simp [giveShpn, own]
      rfl
    · simp [giveSetp, own]
    · simp [givePoll, own]
      rfl
  · have empty := (w free).2.2.1
    have room : s.lpu.control.length < 24 := by simp [empty]
    refine ⟨fun dest body => ?_, fun g => ?_, fun dest m n => ?_⟩
    · rw [giveShpn_room own room, kick_enterControl _ free w]
    · rw [giveSetp_room own (by simp [empty]) room, kick_enterControl _ free w]
    · rw [givePoll_room own room, kick_enterControl _ free w]
  · refine ⟨fun dest m n room => ?_, fun dest m n full none => ?_, fun dest m n before p after full control h is => ?_,
      fun dest body room => ?_, fun dest body full none => ?_, fun dest body before p after full control h is => ?_,
      fun g before p after control is h => giveSetp_replaces own control is h, fun g new room => ?_,
      fun g before p after new full control h is => ?_,
      fun g before dest m n entry promoted after new full none control h => ?_⟩
    · rw [givePoll_room own room, kick_enterControl_busy _ busy]
    · simp [givePoll, own, controlFull_true full, any_none none]
      rfl
    · rw [← enter_displaced _ busy control h is]
      simp [givePoll, own, controlFull_true full, control ▸ any_found is]
    · rw [giveShpn_room own room, kick_enterControl_busy _ busy]
    · simp [giveShpn, own, controlFull_true full, any_none none]
      rfl
    · rw [← enter_displaced _ busy control h is]
      simp [giveShpn, own, controlFull_true full, control ▸ any_found is]
    · rw [giveSetp_room own (any_none new) room, kick_enterControl_busy _ busy]
    · rw [← enter_displaced _ busy control h is]
      simp [giveSetp, own, controlFull_true full, any_none new, control ▸ any_found is]
    · have poll : s.lpu.control.any ControlPlace.isPoll = true := control ▸ any_found rfl
      have gives : giveSetp g s = kick (enterControl (.setp g) (displacePoll s)) := by
        simp [giveSetp, own, controlFull_true full, any_none new, any_none none, poll]
      rw [gives, displacePoll_eq control h]
      exact kick_enterControl_busy (b := f) _ busy

end

section
namespace Sys2Proof.Machine

/-! ### Consumption (R6, R7) -/

section
variable {src kind : Nat} {p : List Byte} {s t : State} {x : Byte}

theorem consume_meas (toAll : Bool) (src : Nat) (p : List Byte) (s : State) :
    consume toAll 1 src p s = consumeMeas src p s := rfl

theorem consume_prpy (toAll : Bool) (src : Nat) (p : List Byte) (s : State) :
    consume toAll 4 src p s = consumePrpy src p s := rfl

theorem consume_bsta (toAll : Bool) (src : Nat) (p : List Byte) (s : State) :
    consume toAll 6 src p s = consumeBsta src p s := rfl

theorem consume_shpm (toAll : Bool) (src : Nat) (p : List Byte) (s : State) :
    consume toAll 7 src p s = consumeShpm src p s := rfl

theorem consume_mreq (src : Nat) (p : List Byte) (s : State) : consume false 9 src p s = consumeMreq src p s := by
  simp [consume]

/-- R6: kinds that no block consumes. -/
theorem consume_other (toAll : Bool) (src : Nat) (p : List Byte) (s : State) (other : kind ∉ [1, 4, 6, 7])
    (mreq : kind = 9 → toAll = true) : consume toAll kind src p s = s := by
  simp only [List.mem_cons, List.not_mem_nil, or_false, not_or] at other
  obtain ⟨meas, prpy, bsta, shpm⟩ := other
  unfold consume
  rw [if_neg meas, if_neg bsta, if_neg prpy, if_neg shpm, if_neg]
  rintro ⟨is, not⟩
  simp [mreq is] at not

/-- R6, R7: a hand-off that reaches consumption. -/
theorem handOff_reached (h : reaches s x.toNat = true) (kind : Nat) (p : List Byte) :
    handOff kind x p s = consume false kind x.toNat p s := if_pos h

theorem done_handOff (q : Quiet s) (h : reaches s x.toNat = true) (kind : Nat) (p : List Byte) :
    done (handOff kind x p) s = .next (settle (consume false kind x.toNat p s)) := by
  rw [done_quiet _ q, handOff_reached h]

/-- A hand-off that hands nothing on. -/
theorem done_handOff_eq (q : Quiet s) (h : reaches s x.toNat = true) (e : consume false kind x.toNat p s = t)
    (none : t.handoffs = [] := by exact q) : done (handOff kind x p) s = .next t := by
  rw [done_handOff q h, e, settle_quiet none]

section
variable {α : Type} {form : Option α} {k : α → State → State}

theorem checked_ignored {ok : Bool} (h : ok = false) : checked ok form k s = sourceIgnored s := by
  rw [h]
  rfl

theorem checked_discarded {ok : Bool} (h : ok = true) (none : form = .none) : checked ok form k s = formDiscard s := by
  rw [h, none]
  rfl

end

/-! ### The source checks and the forms (R7) -/

theorem measForm_none (h : ¬ (1 ≤ byteAt p 0 ∧ byteAt p 0 ≤ 8 ∧ p.length = 1 + 24 * byteAt p 0)) : measForm p = none :=
  if_neg h

theorem reportedOf?_none {n : Nat} (h : ¬ n ≤ 2) : reportedOf? n = none := by
  unfold reportedOf?
  split
  · omega
  · omega
  · omega
  · rfl

theorem positionOf?_none {n : Nat} (h : ¬ n ≤ 3) : positionOf? n = none := by
  unfold positionOf?
  split
  · omega
  · omega
  · omega
  · omega
  · rfl

theorem prpyForm_none (h : ¬ (p.length = 6 ∧ byteAt p 0 ≤ 7 ∧ byteAt p 2 ≤ 2)) : prpyForm p = none := by
  by_cases module : byteAt p 0 ≤ 7
  · by_cases state : byteAt p 2 ≤ 2
    · have length : p.length ≠ 6 := fun is => h ⟨is, module, state⟩
      unfold prpyForm
      split
      · rw [if_neg length]
      · rfl
    · simp [prpyForm, reportedOf?_none state]
  · simp [prpyForm, moduleOf?, show ¬ byteAt p 0 < 8 by omega]

theorem bstaSource_false (h : ∀ t : Target, t.val = byteAt p 1 → (s.breaker t).node ≠ src) :
    bstaSource s src p = false := by
  unfold bstaSource bstaTarget targetOf?
  split
  · rfl
  next t e =>
    split at e
    · cases e
    · split at e
      · cases e
        simpa using h _ rfl
      · cases e

theorem bstaSource_true {t : Target} (length : 2 ≤ p.length) (is : t.val = byteAt p 1) (node : (s.breaker t).node = src) :
    bstaSource s src p = true := by
  have named : bstaTarget p = some t := by
    rw [bstaTarget, if_neg (by omega), ← is, targetOf?, dif_pos t.isLt]
  simp [bstaSource, named, node]

theorem bstaForm_none (h : ¬ (p.length = 4 ∧ byteAt p 0 ≤ 3)) : bstaForm p = none := by
  by_cases position : byteAt p 0 ≤ 3
  · have length : p.length ≠ 4 := fun is => h ⟨is, position⟩
    unfold bstaForm
    split
    · rw [if_neg length]
    · rfl
  · simp [bstaForm, positionOf?_none position]

theorem gatewayBerth_none (h : ∀ b, ¬ ((s.entry b).configured = true ∧ (s.entry b).gateway = src)) :
    gatewayBerth s src = none :=
  List.find?_eq_none.2 fun b _ => by simpa using h b

theorem gatewayBerth_some (h : ∃ b, (s.entry b).configured = true ∧ (s.entry b).gateway = src) :
    ∃ b, gatewayBerth s src = some b := by
  obtain ⟨b, configured, gateway⟩ := h
  exact Option.isSome_iff_exists.1 (List.find?_isSome.2 ⟨b, mem_allBerths b, by simp [configured, gateway]⟩)

theorem shipMsg?_none (h : (byteAt p 0, p.length) ∉ [(1, 13), (2, 3), (3, 1), (4, 1), (5, 3)]) : shipMsg? p = none := by
  unfold shipMsg?
  split
  · simp_all
  · simp_all
  · simp_all
  · simp_all
  · simp_all
  · rfl

theorem consumeShpm_ignored (h : ∀ b, ¬ ((s.entry b).configured = true ∧ (s.entry b).gateway = src)) :
    consumeShpm src p s = sourceIgnored s := by
  rw [consumeShpm, gatewayBerth_none h]

theorem consumeShpm_discarded (h : ∃ b, (s.entry b).configured = true ∧ (s.entry b).gateway = src)
    (form : shipMsg? p = none) : consumeShpm src p s = formDiscard s := by
  obtain ⟨b, gateway⟩ := gatewayBerth_some h
  rw [consumeShpm, gateway]
  exact checked_discarded rfl form

end
end Sys2Proof.Machine
end

section
open Sys2Proof Sys2Proof.Machine

/-- Settles O25: each consumed kind's source check, then its form. -/
theorem consumptionChecks : Obligations.ConsumptionChecks := by
  intro src p s q reaches
  refine ⟨fun unknown => ?_, fun known form => ?_, fun unknown => ?_, fun known form => ?_, fun unknown => ?_,
    fun length ⟨t, is, node⟩ form => ?_, fun unknown => ?_, fun short => ?_⟩
  · refine done_handOff_eq q reaches (checked_ignored (any_none fun e he => ?_))
    simpa using unknown e he
  · refine done_handOff_eq q reaches (checked_discarded (List.any_eq_true.2 ?_) (measForm_none form))
    simpa using known
  · refine done_handOff_eq q reaches (checked_ignored (any_none fun e he => ?_))
    simpa using unknown e he
  · refine done_handOff_eq q reaches (checked_discarded (List.any_eq_true.2 ?_) (prpyForm_none form))
    simpa using known
  · exact done_handOff_eq q reaches (checked_ignored (bstaSource_false unknown))
  · exact done_handOff_eq q reaches (checked_discarded (bstaSource_true length is node) (bstaForm_none form))
  · have ignored : ∀ p, done (handOff kindShpm src p) s = .next (sourceIgnored s) := fun p =>
      done_handOff_eq q reaches (consumeShpm_ignored unknown)
    exact ⟨fun _ _ _ _ => ignored _, fun _ => ignored _, ignored _, ignored _, fun _ => ignored _⟩
  · refine done_handOff_eq q reaches ((consume_mreq _ p s).trans (checked_discarded rfl (if_neg ?_)))
    omega

end

section
namespace Sys2Proof.Machine

/-! ### The fate of a frame (R2, R4, R6, R8) -/

/-- One more of a link count. -/
def State.counted (g : LinkCounters → LinkCounters) (u : State) : State :=
  { u with lpu := { u.lpu with counters := g u.lpu.counters } }

/-- R8: the frame waits in the forward buffer. -/
def State.onward (bytes : List Byte) (u : State) : State :=
  { u with lpu := { u.lpu with forward := u.lpu.forward ++ [bytes] } }

/-- R8, R14: egress has begun the frame as it arrived. -/
def State.begun (bytes : List Byte) (u : State) : State :=
  State.counted (fun c => { c with sent := min (c.sent + 1) Config.u32Max })
    { u with lpu := { u.lpu with sending := some bytes } }

/-- R8: the frame was dropped at a full forward buffer. -/
def State.dropped (u : State) : State :=
  State.counted (fun c => { c with forwardDrops := min (c.forwardDrops + 1) Config.u32Max }) u

/-- R7: the effects of the frames of the kinds that are consumed whatever node they are for, in a state `u`. -/
def HandedOver (s : State) (run : Host.Outcome State Fault Refusal) (r : Received) (u : State) : Prop :=
  let src : Byte := BitVec.ofNat 8 r.src
  let gateway := ∃ b, (s.entry b).configured = true ∧ (s.entry b).gateway = r.src
  (r.kind = 1 → run = exec (.measFrame src r.payload) u) ∧
  (r.kind = 4 → run = exec (.prpyFrame src r.payload) u) ∧
  (r.kind = 6 → run = exec (.bstaFrame src r.payload) u) ∧
  (∀ fl gens load ident, r.kind = 7 →
    r.payload = be 1 1 ++ [fl, gens] ++ be 2 (BitVec.toNat load) ++ be 8 (BitVec.toNat ident) →
    run = exec (.shipState src fl gens load ident) u) ∧
  (∀ quanta, r.kind = 7 → r.payload = be 1 2 ++ be 2 (BitVec.toNat quanta) → run = exec (.hold src quanta) u) ∧
  (r.kind = 7 → r.payload = [3] → run = exec (.genOff src) u) ∧
  (r.kind = 7 → r.payload = [4] → run = exec (.genOn src) u) ∧
  (∀ kw, r.kind = 7 → r.payload = be 1 5 ++ be 2 (BitVec.toNat kw) → run = exec (.shedAck src kw) u) ∧
  (r.kind = 7 → ¬ gateway → run =
    .next (State.counted (fun c => { c with sourceIgnored := min (c.sourceIgnored + 1) Config.u32Max }) u)) ∧
  (r.kind = 7 → gateway → (byteAt r.payload 0, r.payload.length) ∉ [(1, 13), (2, 3), (3, 1), (4, 1), (5, 3)] →
    run = .next (State.counted (fun c => { c with formDiscards := min (c.formDiscards + 1) Config.u32Max }) u))

section
variable {bytes : List Byte} {r : Received} {s u : State} {toAll : Bool}

/-- R2: the source of a frame that passes the reception checks. -/
theorem receive_source (h : receive bytes = some r) : r.src < 256 ∧ r.src ≠ 0 ∧ r.src ≠ 63 := by
  unfold receive at h
  split_ifs at h with _ _ _ _ source
  cases h
  obtain ⟨zero, all⟩ := not_or.1 source
  exact ⟨(bytes.getD 1 0).isLt, zero, all⟩

/-- R6: its node number as a byte reaches consumption but at the own node. -/
theorem reaches_received (h : receive bytes = some r) (own : u.own ≠ none) (other : u.own ≠ some r.src) :
    (BitVec.ofNat 8 r.src).toNat = r.src ∧ reaches u (BitVec.ofNat 8 r.src : Byte).toNat = true := by
  obtain ⟨bound, zero, all⟩ := receive_source h
  have same : (BitVec.ofNat 8 r.src).toNat = r.src := Nat.mod_eq_of_lt bound
  refine ⟨same, ?_⟩
  rw [same]
  simp [reaches, zero, all, other, Option.isSome_iff_ne_none, own]

/-- R6, R7: a consumed frame has the effect of the hand-off of its kind. -/
theorem consumed_handed (h : receive bytes = some r) (q : Quiet u) (own : u.own ≠ none) (other : u.own ≠ some r.src)
    (entries : u.bsq.table = s.bsq.table) :
    HandedOver s (.next (settle (consume toAll r.kind r.src r.payload u))) r u := by
  obtain ⟨same, reached⟩ := reaches_received h own other
  have handed : ∀ kind p, done (handOff kind (BitVec.ofNat 8 r.src) p) u = .next (settle (consume false kind r.src p u)) :=
    fun kind p => by rw [done_handOff q reached, same]
  have table : ∀ b, u.entry b = s.entry b := fun b => by rw [State.entry, entries]; rfl
  have shpm : r.kind = 7 → ∀ p, r.payload = p →
      .next (settle (consume toAll r.kind r.src r.payload u)) = done (handOff kindShpm (BitVec.ofNat 8 r.src) p) u := by
    rintro kind p rfl
    rw [kind, handed]
    rfl
  refine ⟨fun kind => ?_, fun kind => ?_, fun kind => ?_, fun fl gens load ident kind payload => shpm kind _ payload,
    fun quanta kind payload => shpm kind _ payload, fun kind payload => shpm kind _ payload,
    fun kind payload => shpm kind _ payload, fun kw kind payload => shpm kind _ payload, fun kind unknown => ?_,
    fun kind known form => ?_⟩
  · rw [kind]
    exact (handed 1 r.payload).symm
  · rw [kind]
    exact (handed 4 r.payload).symm
  · rw [kind]
    exact (handed 6 r.payload).symm
  · have ignored : ∀ b, ¬ ((u.entry b).configured = true ∧ (u.entry b).gateway = r.src) := by
      simpa [table] using unknown
    rw [kind, consume_shpm, consumeShpm_ignored ignored]
    exact congrArg _ (settle_quiet q)
  · have gateway : ∃ b, (u.entry b).configured = true ∧ (u.entry b).gateway = r.src := by simpa only [table] using known
    rw [kind, consume_shpm, consumeShpm_discarded gateway (shipMsg?_none form)]
    exact congrArg _ (settle_quiet q)

/-- R8: while another frame is being sent, a frame to be forwarded waits. -/
theorem forwardFrame_waits {f : List Byte} (busy : u.lpu.sending = some f) (room : u.lpu.forward.length < 4) :
    forwardFrame bytes u = u.onward bytes := by
  have places : u.lpu.forward.length < Config.forwardPlaces := room
  rw [forwardFrame, if_pos places, kick_busy (f := f) (by simpa using busy)]
  rfl

theorem forwardFrame_begun (free : u.lpu.sending = none) (w : EgressWorks u) : forwardFrame bytes u = u.begun bytes := by
  obtain ⟨protect, -, control, forward, -⟩ := w free
  have places : u.lpu.forward.length < Config.forwardPlaces := by simp [forward, Config.forwardPlaces]
  have next : beginNext (u.modLpu fun l => { l with forward := l.forward ++ [bytes] }) =
      sendForward bytes [] (u.modLpu fun l => { l with forward := l.forward ++ [bytes] }) := by
    simp [beginNext, protect, control, forward, takePromoted]
  have same : { u.lpu with forward := [] } = u.lpu := by rw [← forward]
  rw [forwardFrame, if_pos places, kick, if_pos (by simp [free]), next]
  show ({ u with lpu := { { u.lpu with forward := [] } with
    sending := some bytes, counters := { u.lpu.counters with sent := count1 u.lpu.counters.sent } } } : State) = _
  rw [same]
  rfl

theorem forwardFrame_full (full : 4 ≤ u.lpu.forward.length) :
    forwardFrame bytes u = u.dropped.post (.raise evLinkForwardDrop) := by
  have places : ¬ u.lpu.forward.length < Config.forwardPlaces := not_lt.2 full
  rw [forwardFrame, if_neg places]
  rfl

/-- R2, R4: a frame of at most 492 bytes that passes the reception checks. -/
theorem frameTaken_good (length : bytes.length ≤ 492) (h : receive bytes = some r) :
    frameTaken bytes s = routeFrame bytes r (heard s) := by
  rw [frameTaken, if_neg (by simpa [Config.maxFrame] using length), h]
  rfl

section
variable (own : s.own ≠ some r.src)
include own

theorem routeFrame_own (is : s.own = some r.dest) :
    routeFrame bytes r (heard s) = consume false r.kind r.src r.payload (heard s) := by
  have not : r.src ≠ r.dest := by simpa [is, eq_comm] using own
  have is : (heard s).own = some r.dest := is
  simp [routeFrame, is, not]

theorem routeFrame_forward (dest : s.own ≠ some r.dest) (other : r.dest ≠ 63 ∨ s.own = none) :
    routeFrame bytes r (heard s) = forwardFrame bytes (heard s) := by
  cases e : s.own with
  | none =>
    have e : (heard s).own = none := e
    simp [routeFrame, e]
  | some n =>
    simp only [e, ne_eq, Option.some.injEq, reduceCtorEq, or_false] at own dest other
    have e : (heard s).own = some n := e
    simp [routeFrame, e, Ne.symm own, Ne.symm dest, other]

theorem routeFrame_all (dest : s.own ≠ some r.dest) (all : r.dest = 63) (node : s.own ≠ none) :
    routeFrame bytes r (heard s) = consume true r.kind r.src r.payload (forwardFrame bytes (heard s)) := by
  obtain ⟨n, e⟩ := Option.ne_none_iff_exists'.1 node
  simp only [e, ne_eq, Option.some.injEq, all] at own dest
  have e : (heard s).own = some n := e
  simp [routeFrame, e, Ne.symm own, Ne.symm dest, all]

end

end
end Sys2Proof.Machine
end

section
open Sys2Proof Sys2Proof.Machine

/-- Settles O24: R2's checks, R6's three routes, R8's three outcomes of forwarding, and R7's hand-offs. -/
theorem frameFates : Obligations.FrameFates := by
  intro bytes s q
  have run : exec (.frameReceptionEnd bytes) s = .next (settle (frameTaken bytes s)) := done_quiet _ q
  refine ⟨fun long => ?_, fun length none => ?_, fun r length received => ?_⟩
  · rw [run, frameTaken, if_pos (by simpa [Config.maxFrame] using long)]
    exact (done_quiet cutOverlong q).symm
  · rw [run, frameTaken, if_neg (by simpa [Config.maxFrame] using length), none]
    exact congrArg _ (settle_quiet q)
  rw [frameTaken_good length received] at run
  refine ⟨fun own => ?_, fun own => ⟨fun ⟨dest, other⟩ => ?_, fun dest => ?_, fun ⟨dest, all, node⟩ => ?_⟩⟩
  · have stripped : routeFrame bytes r (heard s) =
        (heard s).count fun c => { c with stripped := count1 c.stripped } := by
      have own : (heard s).own = some r.src := own
      simp [routeFrame, own]
    rw [run, stripped]
    exact congrArg _ (settle_quiet q)
  · rw [routeFrame_forward own dest other] at run
    refine ⟨fun f busy room => ?_, fun free w => ?_, fun full alone => ?_⟩
    · rw [run, forwardFrame_waits (u := heard s) busy room]
      exact congrArg _ (settle_quiet q)
    · rw [run, forwardFrame_begun (u := heard s) free w]
      exact congrArg _ (settle_quiet q)
    · rw [run, forwardFrame_full (u := heard s) full]
      exact congrArg _ (settle_raise q alone)
  · rw [routeFrame_own own dest] at run
    have node : s.own ≠ none := by simp [dest]
    refine ⟨?_, fun kind => ?_, fun kind => ?_, run⟩
    · rw [run]
      exact consumed_handed received q node own rfl
    · obtain ⟨same, reached⟩ := reaches_received (u := heard s) received node own
      have handed := done_handOff (s := heard s) q reached 9 r.payload
      rw [same] at handed
      rw [run, kind]
      exact handed.symm
    · rw [run, consume_other false _ _ _ (by simp_all) (by simp_all)]
      exact congrArg _ (settle_quiet q)
  · rw [routeFrame_all own dest all node] at run
    refine ⟨fun f busy room => ?_, fun free w => ?_, fun full => ?_⟩
    · rw [run, forwardFrame_waits (u := heard s) busy room]
      refine ⟨consumed_handed (u := (heard s).onward bytes) received q node own rfl, fun kind => ?_⟩
      rw [consume_other true _ _ _ kind fun _ => rfl]
      exact congrArg _ (settle_quiet q)
    · rw [run, forwardFrame_begun (u := heard s) free w]
      refine ⟨consumed_handed (u := (heard s).begun bytes) received q node own rfl, fun kind => ?_⟩
      rw [consume_other true _ _ _ kind fun _ => rfl]
      exact congrArg _ (settle_quiet q)
    · rw [run, forwardFrame_full (u := heard s) full]
      refine ⟨fun kind alone => ?_, ?_⟩
      · rw [consume_other true _ _ _ kind fun _ => rfl]
        exact congrArg _ (settle_raise q alone)
      · have posted : (heard s).dropped.post (.raise evLinkForwardDrop) =
            { (heard s).dropped with handoffs := [.raise evLinkForwardDrop] } := by
          have none : (heard s).dropped.handoffs = [] := q
          rw [State.post, none, List.nil_append]
        rw [posted]
        rfl

end

section
namespace Sys2Proof.Machine

/-! ### Records of a MEAS frame (R20, R21) -/

section
variable {first rest p : List Byte} {src : Nat} {s : State} {n : Nat}

theorem byteAt_append {i : Nat} (h : i < first.length) : byteAt (first ++ rest) i = byteAt first i := by
  rw [byteAt, byteAt, List.getD_append _ _ _ _ h]

theorem fieldAt_append {i k : Nat} (h : i + k ≤ first.length) : fieldAt (first ++ rest) i k = fieldAt first i k := by
  rw [fieldAt, fieldAt, List.drop_append_of_le_length (by omega), List.take_append_of_le_length (by simp; omega)]

/-- A record is read from its 24 bytes. -/
theorem measRecord_append (length : first.length = 24) : measRecord (first ++ rest) = measRecord first := by
  have byte : ∀ i < 24, byteAt (first ++ rest) i = byteAt first i := fun i h => byteAt_append (by omega)
  have field : ∀ i k, i + k ≤ 24 → fieldAt (first ++ rest) i k = fieldAt first i k := fun i k h => fieldAt_append (by omega)
  simp [measRecord, byte, field]

theorem byteAt_count (h : n < 256) : byteAt (be 1 n ++ rest) 0 = n := byteAt_be (before := []) rfl h

theorem drop_count (n : Nat) : (be 1 n ++ rest).drop 1 = rest := List.drop_left' (by simp)

/-- R20: a frame of records takes them in order. -/
theorem measTaken_cons (length : first.length = 24) (count : n + 1 < 256) :
    measTaken src (be 1 (n + 1) ++ first ++ rest) s =
      measTaken src (be 1 n ++ rest) (measTaken src (be 1 1 ++ first) s) := by
  have head : (first ++ rest).drop 24 = rest := List.drop_left' length
  rw [measTaken, measTaken, measTaken, List.append_assoc, byteAt_count count, byteAt_count (by omega),
    byteAt_count (by omega), drop_count, drop_count, drop_count]
  rw [measRecords, head, measRecord_append length]
  rfl

/-- A frame of one record. -/
theorem measTaken_one (count : byteAt p 0 = 1) : measTaken src p s = takeRecord src (measRecord (p.drop 1)) s := by
  rw [measTaken, count]
  rfl

/-! ### What the records leave of the stream table and the node number -/

theorem bandChecks_streams (p : Point) (s : State) : (bandChecks p s).scl.streams = s.scl.streams := by
  have check : ∀ v f ev ef, (bandCheck p v f ev ef s).scl.streams = s.scl.streams := by
    intro v f ev ef
    unfold bandCheck
    cases v <;> cases f <;> rfl
  unfold bandChecks
  dsimp only
  (repeat' split)
  · exact check _ _ _ _
  · exact check _ _ _ _
  · rfl
  · rfl

theorem staleEnds_streams (p : Point) (s : State) : (staleEnds p s).scl.streams = s.scl.streams := by
  unfold staleEnds setStaleCond
  (repeat' split) <;> rfl

theorem takeRecord_streams (src : Nat) (x : MeasRecord) (s : State) : (takeRecord src x s).scl.streams = s.scl.streams := by
  unfold takeRecord matchedRecord
  split
  · rfl
  split
  · rfl
  split
  · rfl
  · dsimp only
    split
    · rw [validRecord, bandChecks_streams]
      simp [staleEnds_streams]
    · rfl

theorem measTaken_streams (src : Nat) (p : List Byte) (s : State) : (measTaken src p s).scl.streams = s.scl.streams :=
  foldl_stays (P := fun t => t.scl.streams = s.scl.streams) (fun t x h => (takeRecord_streams src x t).trans h) _ rfl

theorem measTaken_own (src : Nat) (p : List Byte) (s : State) : (measTaken src p s).own = s.own := by
  have kept := measTaken_stays (received_stays s.lpu.received) src p rfl
  simp only [Lpu.received, Prod.mk.injEq] at kept
  rw [State.own, kept.1, State.own]

/-! ### Hand-offs of MEAS frames -/

/-- The source of a MEAS frame is that of a valid entry. -/
def State.hears (s : State) (src : Nat) : Prop := ∃ e ∈ s.scl.streams.toList, e.valid = true ∧ e.node = src

theorem hears_of_match {e : StreamEntry} {channel : Nat} (h : matchEntry s.scl.streams src channel = some e) : s.hears src := by
  have is := List.find?_some h
  simp only [Bool.and_eq_true, decide_eq_true_eq] at is
  obtain ⟨⟨valid, node⟩, -⟩ := is
  exact ⟨e, List.mem_of_find?_eq_some h, valid, node⟩

theorem consume_meas_formed (known : s.hears src)
    (form : 1 ≤ byteAt p 0 ∧ byteAt p 0 ≤ 8 ∧ p.length = 1 + 24 * byteAt p 0) :
    consume false 1 src p s = measTaken src p s := by
  have ok : (s.scl.streams.toList.any fun e => e.valid && e.node = src) = true := by
    obtain ⟨e, mem, valid, node⟩ := known
    exact List.any_eq_true.2 ⟨e, mem, by simp [valid, node]⟩
  rw [consume_meas, consumeMeas, ok, measForm, if_pos form]
  rfl

variable {x : Byte}

theorem measFrame_formed (q : Quiet s) (reached : reaches s x.toNat = true) (known : s.hears x.toNat)
    (form : 1 ≤ byteAt p 0 ∧ byteAt p 0 ≤ 8 ∧ p.length = 1 + 24 * byteAt p 0) :
    exec (.measFrame x p) s = .next (settle (measTaken x.toNat p s)) := by
  rw [← consume_meas_formed known form]
  exact done_handOff q reached 1 p

/-- R20: a frame of one record that raises nothing. -/
theorem measFrame_one (q : Quiet s) (reached : reaches s x.toNat = true) (known : s.hears x.toNat) (length : p.length = 25)
    (count : byteAt p 0 = 1) {t : State} (taken : takeRecord x.toNat (measRecord (p.drop 1)) s = t)
    (none : t.handoffs = [] := by exact q) : exec (.measFrame x p) s = .next t := by
  rw [measFrame_formed q reached known (by omega), measTaken_one count, taken, settle_quiet none]

/-! ### One record (R20, R21, R22) -/

variable {x : MeasRecord} {e : StreamEntry} {q : Point}

theorem takeRecord_unmatched (h : ∀ e ∈ s.scl.streams.toList, ¬ (e.valid = true ∧ e.node = src ∧ e.channel = x.channel)) :
    takeRecord src x s = s.modScl fun c => { c with unmatched := count1 c.unmatched } := by
  have none : matchEntry s.scl.streams src x.channel = none :=
    List.find?_eq_none.2 fun e he => by simpa [and_assoc] using h e he
  rw [takeRecord, none]

theorem takeRecord_matched (h : matchEntry s.scl.streams src x.channel = some e) (point : e.point = q.val) :
    takeRecord src x s = matchedRecord q e x s := by
  have at_q : pointOf? e.point = some q := by rw [point, pointOf?, dif_pos q.isLt]
  rw [takeRecord, h]
  dsimp only
  rw [at_q]

theorem seqCheck_discards {l seq : Nat} (h : (seq + 65536 - l) % 65536 = 0 ∨ 32768 ≤ (seq + 65536 - l) % 65536) :
    seqCheck (some l) seq = .discard := by
  unfold seqCheck
  dsimp only
  split_ifs
  · rfl
  · omega
  · rfl

theorem seqCheck_accepts {l seq : Nat} (h : 1 ≤ (seq + 65536 - l) % 65536) (near : (seq + 65536 - l) % 65536 ≤ 32767) :
    seqCheck (some l) seq = .accept ((seq + 65536 - l) % 65536 - 1) := by
  unfold seqCheck
  dsimp only
  rw [if_neg (by omega), if_pos (by omega)]

theorem matchedRecord_discarded (h : seqCheck (s.point q).lastSeq x.seq = .discard) :
    matchedRecord q e x s = s.modPoint q fun r => { r with discarded := count16 r.discarded } := by
  rw [matchedRecord, h]

theorem matchedRecord_accepted {missed : Nat} (h : seqCheck (s.point q).lastSeq x.seq = .accept missed) :
    matchedRecord q e x s = if x.valid then validRecord q e x (s.modPoint q (acceptSeq x.seq missed))
      else s.modPoint q (acceptSeq x.seq missed) := by
  rw [matchedRecord, h]

/-! ### Freshness and staleness (R25, R26, R29) -/

theorem pointSide_shPoint (b : Berth) : pointSide (shPoint b) = some (b, .ship) := by
  revert b
  decide

theorem pointSide_cbPoint (b : Berth) : pointSide (cbPoint b) = some (b, .converter) := by
  revert b
  decide

theorem heldExpiry_passes {h l : Nat} (state : (s.point q).state = .fresh) (limits : (s.point q).limits = some (h, l))
    (held : h < l) : heldExpiry q s =
      (s.advanceTo ((s.point q).arrival + h + 1)).modPoint q fun r => { r with state := .held } := by
  unfold heldExpiry
  rw [state, limits]
  exact if_pos held

theorem heldExpiry_stands {h l : Nat} (limits : (s.point q).limits = some (h, l))
    (not : (s.point q).state ≠ .fresh ∨ l ≤ h) : heldExpiry q s = s := by
  unfold heldExpiry
  split
  next h' l' fresh has =>
    obtain ⟨rfl, rfl⟩ : h' = h ∧ l' = l := by simpa [has] using limits
    rw [if_neg]
    exact not_lt.2 (not.resolve_left fun n => n fresh)
  · rfl

theorem staleExpiry_stands (h : (s.point q).limits = none ∨ (s.point q).state = .stale) : staleExpiry q s = s := by
  unfold staleExpiry
  split
  next has =>
    obtain none | stale := h
    · rw [none] at has
      cases has
    · exact if_pos stale
  · rfl

theorem staleExpiry_passes {h l : Nat} (limits : (s.point q).limits = some (h, l)) (state : (s.point q).state ≠ .stale) :
    staleExpiry q s = enterStale q (s.advanceTo ((s.point q).arrival + l + 1)) := by
  unfold staleExpiry
  rw [limits]
  exact if_neg state

/-- R26: a point enters STALE, at the channels too. -/
def seenStale (q : Point) (s : State) : State :=
  channelsSeeStale q (s.modPoint q fun r => { r with state := .stale, lastSeq := none })

theorem enterStale_unwatched (h : ∀ b side, pointSide q = some (b, side) → (s.berth b).state.watched = false) :
    enterStale q s = seenStale q s := by
  unfold enterStale staleTest
  split
  · rfl
  next b side is => exact if_neg fun watched => Bool.false_ne_true ((h b side is).symm.trans watched)

theorem enterStale_watched {b : Berth} {side : Side} (is : pointSide q = some (b, side))
    (watched : (s.berth b).state.watched = true) : enterStale q s = beginStale b side (seenStale q s) := by
  unfold enterStale staleTest
  rw [is]
  exact if_pos watched

end

end Sys2Proof.Machine
end

section
open Sys2Proof Sys2Proof.Machine

/-- Settles O29: the first record of a frame is taken before the others; one record's match and sequence check. -/
theorem recordNotValid : Obligations.RecordNotValid := by
  refine ⟨fun src n first rest s q reached known length least most others => ?_,
    fun src p s q reached known length count => ?_⟩
  · have one : byteAt (be 1 1 ++ first) 0 = 1 := byteAt_count (by omega)
    have more : byteAt (be 1 n ++ rest) 0 = n := byteAt_count (by omega)
    have all : byteAt (be 1 (n + 1) ++ first ++ rest) 0 = n + 1 := by
      rw [List.append_assoc]
      exact byteAt_count (by omega)
    have alone : exec (.measFrame src (be 1 1 ++ first)) s =
        .next (settle (measTaken src.toNat (be 1 1 ++ first) s)) :=
      measFrame_formed q reached known (by rw [one]; simp [length])
    have whole : exec (.measFrame src (be 1 (n + 1) ++ first ++ rest)) s = .next (settle
        (measTaken src.toNat (be 1 n ++ rest) (measTaken src.toNat (be 1 1 ++ first) s))) := by
      rw [← measTaken_cons length (by omega)]
      refine measFrame_formed q reached known ?_
      rw [all]
      simp [length, others]
      omega
    refine ⟨whole, alone, fun none => ⟨by rw [alone, settle_quiet none], ?_⟩⟩
    have reached' : reaches (measTaken src.toNat (be 1 1 ++ first) s) src.toNat = true := by
      simpa [reaches, measTaken_own] using reached
    have known' : (measTaken src.toNat (be 1 1 ++ first) s).hears src.toNat := by
      simpa [State.hears, measTaken_streams] using known
    rw [whole, measFrame_formed none reached' known']
    rw [more]
    simp [others]
    omega
  · refine ⟨fun unmatched => ?_, fun e q' l is point last _ late => ?_, fun e q' is point not last => ?_,
      fun e q' l is point not last _ near far => ?_⟩
    · exact measFrame_one q reached known length count (takeRecord_unmatched unmatched)
    · refine measFrame_one q reached known length count ?_
      rw [takeRecord_matched is point, matchedRecord_discarded (by rw [last]; exact seqCheck_discards late)]
      rfl
    · refine measFrame_one q reached known length count ?_
      rw [takeRecord_matched is point, matchedRecord_accepted (missed := 0) (by rw [last]; rfl), if_neg (by rw [not]; exact Bool.false_ne_true)]
      rfl
    · refine measFrame_one q reached known length count ?_
      rw [takeRecord_matched is point, matchedRecord_accepted (by rw [last]; exact seqCheck_accepts near far),
        if_neg (by rw [not]; exact Bool.false_ne_true)]
      rfl

/-- Settles O31: a timer that does not run does nothing; a point that enters STALE begins its watched berth's condition. -/
theorem freshnessExpiries : Obligations.FreshnessExpiries := by
  intro s q
  refine ⟨fun p h l state limits held => ?_, fun p h l limits not => ?_, fun p not => ?_,
    fun p h l limits state unwatched => ?_, fun b h l limits state watched alone => ?_,
    fun b h l limits state watched alone => ?_, fun b side none => ?_, fun b due runs alone => ?_,
    fun b due runs alone => ?_⟩
  · have passes := heldExpiry_passes state limits held
    exact (done_eq (heldExpiry p) q (by rw [passes]; exact q)).trans (by rw [passes]; rfl)
  · have stands := heldExpiry_stands limits not
    exact (done_eq (heldExpiry p) q (by rw [stands]; exact q)).trans (by rw [stands])
  · have stands := staleExpiry_stands not
    exact (done_eq (staleExpiry p) q (by rw [stands]; exact q)).trans (by rw [stands])
  · have passes := staleExpiry_passes limits state
    rw [enterStale_unwatched (by exact unwatched)] at passes
    exact (done_eq (staleExpiry p) q (by rw [passes]; exact q)).trans (by rw [passes]; rfl)
  · refine done_raise (g := staleExpiry (shPoint b)) q alone ?_
    rw [staleExpiry_passes limits state]
    exact enterStale_watched (s := s.advanceTo ((s.point (shPoint b)).arrival + l + 1)) (pointSide_shPoint b) watched
  · refine done_raise (g := staleExpiry (cbPoint b)) q alone ?_
    rw [staleExpiry_passes limits state]
    exact enterStale_watched (s := s.advanceTo ((s.point (cbPoint b)).arrival + l + 1)) (pointSide_cbPoint b) watched
  · have stands : staleRepeat b side s = s := by rw [staleRepeat, none]
    exact (done_eq (staleRepeat b side) q (by rw [stands]; exact q)).trans (by rw [stands])
  · refine done_raise (g := staleRepeat b .ship) q alone ?_
    rw [staleRepeat, show staleCond s b .ship = some due from runs]
    rfl
  · refine done_raise (g := staleRepeat b .converter) q alone ?_
    rw [staleRepeat, show staleCond s b .converter = some due from runs]
    rfl

end

section
namespace Sys2Proof.Machine

/-! ### Interval ends (R134, R135) -/

section
variable {s : State} {b : Berth}

/-- R135: the session open on a berth is handed the demand of the interval that ends. -/
theorem endAt_open {r : Session} (h : s.slot b = .openSlot r) :
    (endAt allBerths s).slot b = .openSlot { r with
        peak := max r.peak (min (s.mtr.recs[b].demandAcc * 3600 / s.mtr.demandS) Config.u32Max) } ∧
      (endAt allBerths s).mtr.recs[b] = { s.mtr.recs[b] with demandAcc := 0 } := by
  have slot := endAt_slot allBerths s b
  have record := endAt_recs allBerths s b
  rw [if_pos (mem_allBerths b), h] at slot record
  exact ⟨slot, record⟩

theorem endAt_shut (h : s.sessionOpen b = false) :
    (endAt allBerths s).slot b = s.slot b ∧ (endAt allBerths s).mtr.recs[b] = s.mtr.recs[b] := by
  have slot := endAt_slot allBerths s b
  have record := endAt_recs allBerths s b
  rw [if_pos (mem_allBerths b)] at slot record
  unfold State.sessionOpen at h
  cases e : s.slot b with
  | openSlot r =>
    rw [e] at h
    cases h
  | free | reserved =>
    rw [e] at slot record
    exact ⟨slot, record⟩

theorem intervalEndTaken_due (h : s.mtr.endDue = true) : intervalEndTaken s = setInterval (endAt allBerths s) := by
  rw [intervalEndTaken, if_pos h, handDemand_eq]

theorem intervalEndTaken_early (h : s.mtr.endDue = false) : intervalEndTaken s = s := if_neg (by simp [h])

/-- R135: an interval end touches MTR and BLG alone, and of MTR neither clock nor settings. -/
theorem intervalEndTaken_leaves (s : State) : intervalEndTaken s =
      { s with mtr := (intervalEndTaken s).mtr, blg := (intervalEndTaken s).blg } ∧
    (intervalEndTaken s).mtr.day = s.mtr.day ∧ (intervalEndTaken s).mtr.second = s.mtr.second ∧
    (intervalEndTaken s).mtr.tickDue = s.mtr.tickDue ∧ (intervalEndTaken s).mtr.demandS = s.mtr.demandS ∧
    (intervalEndTaken s).mtr.gapLimit = s.mtr.gapLimit ∧ (intervalEndTaken s).mtr.unbilled = s.mtr.unbilled := by
  cases h : s.mtr.endDue with
  | true =>
    rw [intervalEndTaken_due h]
    exact ⟨rfl, rfl, rfl, rfl, rfl, rfl, rfl⟩
  | false =>
    rw [intervalEndTaken_early h]
    exact ⟨rfl, rfl, rfl, rfl, rfl, rfl, rfl⟩

end
end Sys2Proof.Machine
end

section
open Sys2Proof Sys2Proof.Machine

/-- Settles O43: the tick takes a pending interval end first; an interval end hands each open session its demand. -/
theorem clockAndInterval : Obligations.ClockAndInterval := by
  intro s q
  refine ⟨⟨tick s, done_eq tick q ?_, ?_, ?_⟩, fun early => ?_, fun due => ⟨intervalEndTaken s, done_eq _ q ?_, ?_⟩⟩
  · rw [tick]
    simpa [Quiet] using q
  · obtain ⟨same, -⟩ := intervalEndTaken_leaves (s.advanceTo s.mtr.tickDue)
    rw [tick, same]
    rfl
  · obtain ⟨-, day, second, tickDue, demandS, gap, unbilled⟩ := intervalEndTaken_leaves (s.advanceTo s.mtr.tickDue)
    unfold tick
    simp only [State.modMtr, Mtr.advanceClock, day, second, tickDue, demandS, gap, unbilled]
    refine ⟨rfl, rfl, rfl, decide_eq_true_iff, rfl, rfl, rfl, fun early => ?_⟩
    rw [intervalEndTaken_early (by exact early)]
    exact ⟨rfl, rfl⟩
  · have early := intervalEndTaken_early early
    exact (done_eq intervalEndTaken q (by rw [early]; exact q)).trans (by rw [early])
  · rw [intervalEndTaken_due due]
    exact q
  · rw [intervalEndTaken_due due]
    exact ⟨rfl, rfl, rfl, rfl, rfl, rfl, rfl, rfl, rfl, fun b r => endAt_open, fun b => endAt_shut⟩

end

section
namespace Sys2Proof.Machine

/-! ### Requests: arrival, the refusal place and the parts of a reply (R171, R172, R178) -/

section
variable {s : State} {q : MguReq} {f : ReplyFrame} {b : List Byte} {p : List Byte}

/-- R172, R173: a management request command is the arrival of its MREQ. -/
theorem exec_request {c : Instr} {src : Byte} {tag : BitVec 16} {kind : Nat} {params : List Byte}
    (h : c.request? = some (src, tag, kind, params)) (s : State) : exec c s = done (request src tag kind params) s := by
  cases c <;> cases h <;> rfl

theorem consumeMreq_formed (src : Nat) (length : 3 ≤ p.length) (s : State) :
    consumeMreq src p s = arrive (requestOf src p) s := by
  rw [consumeMreq, if_pos length]
  rfl

theorem placeFree_iff (l : Lpu) : l.placeFree = true ↔ l.ordinary + l.reservations < 15 := decide_eq_true_iff

theorem arrivalAccepted_iff (s : State) :
    arrivalAccepted s = true ↔ ¬ (8 ≤ s.mgu.queue.length ∨ 15 ≤ s.lpu.ordinary + s.lpu.reservations) := by
  rw [arrivalAccepted, Bool.and_eq_true, placeFree_iff]
  simp [Config.requestPlaces]

/-- R171: a request behind others takes a reservation and the tail. -/
theorem arrive_queued (others : s.mgu.queue ≠ []) (h : arrivalAccepted s = true) : arrive q s =
    { s with
      lpu := { s.lpu with reservations := s.lpu.reservations + 1 }
      mgu := { s.mgu with queue := s.mgu.queue ++ [q] } } := by
  rw [arrive, if_pos h]
  exact if_neg (by simpa using others)

theorem arrive_refused (h : arrivalAccepted s = false) : arrive q s = refuseArrival q s := by
  rw [arrive, if_neg (by simp [h])]

/-- R14: a reply that finds egress free is begun at once. -/
theorem enterReply_free (refusal : Bool) (free : s.lpu.sending = none) (w : EgressWorks s) :
    enterReply f refusal s =
      { s with lpu := s.lpu.begun f.parts.1 f.parts.2.1 (if refusal then 2 else 0) f.parts.2.2 } := by
  obtain ⟨protect, -, control, forward, reply⟩ := w free
  have next : beginNext (s.modLpu fun l => { l with reply := l.reply ++ [⟨f, refusal⟩] }) =
      sendReply ⟨f, refusal⟩ [] (s.modLpu fun l => { l with reply := l.reply ++ [⟨f, refusal⟩] }) := by
    simp [beginNext, protect, control, forward, reply, takePromoted]
  have same : { s.lpu with reply := [] } = s.lpu := by rw [← reply]
  rw [enterReply, kick, if_pos (by simp [free]), next, sendReply, sendOwn_eq]
  show ({ s with lpu := ({ s.lpu with reply := [] } : Lpu).begun _ _ _ _ } : State) = _
  rw [same]

theorem enterReply_busy (refusal : Bool) (busy : s.lpu.sending = some b) :
    enterReply f refusal s = { s with lpu := { s.lpu with reply := s.lpu.reply ++ [⟨f, refusal⟩] } } := by
  rw [enterReply, kick_busy (f := b) (by simpa using busy)]
  rfl

/-- R178: a part for which no place can be reserved waits. -/
theorem nextPart_waits (h : s.mgu.parts = [] ∨ s.mgu.queue = [] ∨ 15 ≤ s.lpu.ordinary + s.lpu.reservations) :
    nextPart s = s := by
  unfold nextPart
  split
  · rfl
  next q rest queue =>
    split
    · rfl
    next some =>
      rw [List.isEmpty_iff] at some
      have full : ¬ s.lpu.placeFree = true := by
        rw [placeFree_iff]
        exact not_lt.2 ((h.resolve_left some).resolve_left (by simp [queue]))
      obtain ⟨d, ds, parts⟩ := List.exists_cons_of_ne_nil some
      have same : enterParts q s.mgu.parts s = s := by
        rw [parts, enterParts, if_neg full, ← parts]
        rfl
      rw [same, endService, if_neg (by simp [parts]), serveAll_waiting _ some]

/-- R13: a reply that takes the place reserved for it. -/
theorem enterReserved_reserved (f : ReplyFrame) (w : EgressWorks s) :
    enterReserved f (reservePlace s) = { s with lpu := s.lpu.replied f } := by
  have same : (reservePlace s).modLpu (fun l => { l with reservations := l.reservations - 1 }) = s := rfl
  rw [enterReserved, same, enterReply_eq f w]

/-- R178: the last part of a reply enters and its request has ended service. -/
theorem nextPart_last {d : List Byte} (queue : s.mgu.queue = [q]) (parts : s.mgu.parts = [d])
    (free : s.lpu.placeFree = true) (w : EgressWorks s) : nextPart s =
      { s with lpu := s.lpu.replied (replyOf q .done d), mgu := { s.mgu with queue := [], parts := [] } } := by
  have entered : endService (enterParts q s.mgu.parts s) =
      { s with lpu := s.lpu.replied (replyOf q .done d), mgu := { s.mgu with queue := [], parts := [] } } := by
    rw [parts, enterParts, if_pos free, enterReserved_reserved _ w, enterParts, endService]
    refine (if_pos rfl).trans ?_
    simp only [State.modMgu, queue, List.drop_one, List.tail_cons]
  unfold nextPart
  rw [queue]
  dsimp only
  rw [if_neg (by simp [parts]), entered]
  rfl

end
end Sys2Proof.Machine
end

section
open Sys2Proof Sys2Proof.Machine

/-- Settles O44: what arrival does with a request by the queue and the places; the last part of a reply. -/
theorem requestArrivals : Obligations.RequestArrivals := by
  refine ⟨fun c src tag kind params s is => exec_request is s, fun src p s q => ?_, fun s q => ⟨fun waits => ?_,
    fun r d queue parts free w => ?_⟩⟩
  · have arrives : reaches s src.toNat = true → 3 ≤ p.length → ∀ t, arrive (requestOf src.toNat p) s = t →
        t.handoffs = [] → exec (.mreqArrival src p) s = .next t := fun reached length t is none =>
      done_handOff_eq q reached ((consume_mreq _ p s).trans ((consumeMreq_formed _ length s).trans is)) none
    have refused : 8 ≤ s.mgu.queue.length ∨ 15 ≤ s.lpu.ordinary + s.lpu.reservations →
        arrive (requestOf src.toNat p) s = refuseArrival (requestOf src.toNat p) s := fun full =>
      arrive_refused (Bool.eq_false_iff.2 fun accepted => (arrivalAccepted_iff s).1 accepted full)
    have empty : (∀ x ∈ s.lpu.reply, x.refusal = false) → ¬ s.lpu.refusalTaken = true := fun none => by
      rw [Lpu.refusalTaken, any_none none]
      exact Bool.false_ne_true
    refine ⟨fun unreached => ?_, fun reached length others free => ?_, fun reached length full taken => ?_,
      fun f reached length full none busy => ?_, fun reached length full none w free => ?_⟩
    · have stands : handOff kindMreq src p s = s := if_neg (by simp [unreached])
      exact (done_eq _ q (by rw [stands]; exact q)).trans (by rw [stands])
    · exact arrives reached length _ (arrive_queued others ((arrivalAccepted_iff s).2 free)) q
    · refine arrives reached length _ ((refused full).trans (if_pos ?_)) q
      simpa [Lpu.refusalTaken] using taken
    · exact arrives reached length _
        (((refused full).trans (if_neg (empty none))).trans (enterReply_busy true busy)) q
    · exact arrives reached length _ (((refused full).trans (if_neg (empty none))).trans (enterReply_free true free w)) q
  · have stands := nextPart_waits waits
    exact (done_eq nextPart q (by rw [stands]; exact q)).trans (by rw [stands])
  · have last := nextPart_last queue parts ((placeFree_iff _).2 free) w
    exact (done_eq nextPart q (by rw [last]; exact q)).trans (by rw [last]; rfl)

end

section
namespace Sys2Proof.Machine

/-! ### The service of one request (R172) -/

section
variable {s u : State} {src : Byte} {tag : BitVec 16} {kind : Nat} {params d : List Byte} {r : Request} {res : Result}
  {e : EventIx}

/-- R159: EVR takes the raise that an owner has given. -/
theorem drain_raise (none : s.handoffs = []) (alone : RaisesAlone e s) :
    drain Config.settleFuel (s.post (.raise e)) = raised e s := by
  have posted : (s.post (.raise e)).handoffs = [.raise e] := by rw [State.post, none]; rfl
  have same : ({ s.post (.raise e) with handoffs := [] } : State) = s := by
    show { s with handoffs := [] } = s
    rw [← none]
  rw [show Config.settleFuel = 4095 + 1 from rfl, drain_cons _ posted, same]
  show drain 4095 (raiseEntry e s) = raised e s
  rw [raiseEntry_alone alone]
  exact drain_nil _ none

theorem served_handoffs (p : MguReq) (s : State) : (served src p s).handoffs = s.handoffs := by simp [served, accepted]

/-- R172, R180: a request that is served at once and answered in one part: `u` is what its owner's action, and what it led
to, make of `s`. -/
theorem request_taken {v : MguReq → State} (q : Quiet s) (h : Served s src) (hk : kind < 256)
    (form : parseRequest kind params = some r)
    (answer : ∀ p, judge src.toNat kind (prepared s src.toNat) r (served src p s) = (⟨res, [d]⟩, v p))
    (taken : ∀ p, drain Config.settleFuel (v p) = served src p u) (none : u.handoffs = []) (w : EgressWorks u)
    (queue : u.mgu.queue = []) (parts : u.mgu.parts = []) :
    done (request src tag kind params) s = .next (answered src tag kind res d u) := by
  rw [request_served q h hk form (answer _) (taken _) (by simp [served, accepted, setPrepared]),
    settle_quiet (by simpa [served, accepted] using none)]
  have works : EgressWorks ((served src ⟨src.toNat, tag, BitVec.ofNat 8 kind, params⟩ u).modLpu
      fun l => { l with reservations := l.reservations - 1 }) := by
    intro free
    simp only [served, accepted, State.modLpu_lpu, setPrepared_frame] at free ⊢
    exact w free
  rw [enterReserved, enterReply_eq _ works]
  congr 1
  cases u
  simp only at none queue parts
  simp [answered, served, setPrepared, accepted, State.modLpu, State.modMgu, isOperator, isBilling, queue, parts]

/-- R173: a request that fails the form check; the prepare flags stay. -/
theorem request_malformed (q : Quiet s) (w : EgressWorks s) (h : Served s src) (hk : kind < 256)
    (form : parseRequest kind params = none) :
    done (request src tag kind params) s =
      .next { s with lpu := s.lpu.replied (reply src tag kind .malformed []) } := by
  obtain ⟨reached, queue, parts, -⟩ := id h
  have small : (BitVec.ofNat 8 kind).toNat = kind := Nat.mod_eq_of_lt hk
  have answer : ∀ p : MguReq, p.kind = BitVec.ofNat 8 kind → p.params = params →
      serve p (accepted p s) = (plain .malformed, accepted p s) := by
    intro p kind params
    rw [serve, kind, params, small, form]
  have served := serveAll_one (q := ⟨src.toNat, tag, BitVec.ofNat 8 kind, params⟩) (r := .malformed) (d := [])
    (s := accepted ⟨src.toNat, tag, BitVec.ofNat 8 kind, params⟩ s)
    (t := accepted ⟨src.toNat, tag, BitVec.ofNat 8 kind, params⟩ s) rfl parts (by rw [answer _ rfl rfl]; rfl)
    (by rw [answer _ rfl rfl]; exact drain_nil _ q) (by simp [accepted])
  have works : EgressWorks ((accepted ⟨src.toNat, tag, BitVec.ofNat 8 kind, params⟩ s).modLpu
      fun l => { l with reservations := l.reservations - 1 }) := w
  rw [enterReserved, enterReply_eq _ works] at served
  rw [done_quiet _ q, request_arrives reached, arrive_served h, served]
  refine congrArg _ ((settle_quiet ?_).trans ?_)
  · exact q
  · have same : { s.mgu with parts := [], queue := [] } = s.mgu := by rw [← parts, ← queue]
    show ({ s with
      lpu := s.lpu.replied (reply src tag kind .malformed [])
      mgu := { s.mgu with parts := [], queue := [] } } : State) = _
    rw [same]

/-! ### The checks before an owner's own (R174 to R176) -/

/-- R174: the source may not send the request. -/
theorem judge_notAuthorised (not : admitted s src.toNat r.sender = false) (prep : Bool) (p : MguReq) :
    judge src.toNat kind prep r (served src p s) = (plain .notAuthorised, served src p s) := by
  have refused : admitted (served src p s) src.toNat r.sender = false := by
    rw [← not]
    cases r.sender <;> rfl
  rw [judge, refused]
  rfl

theorem request_notAuthorised (q : Quiet s) (w : EgressWorks s) (h : Served s src) (hk : kind < 256)
    (form : parseRequest kind params = some r) (not : admitted s src.toNat r.sender = false) :
    done (request src tag kind params) s = .next (answered src tag kind .notAuthorised [] s) :=
  request_taken q h hk form (fun p => judge_notAuthorised not _ p)
    (fun p => drain_nil _ ((served_handoffs p s).trans q)) q w h.2.1 h.2.2.1

/-- R175: a table request beyond its table. -/
theorem judge_outOfRange (may : admitted s src.toNat r.sender = true) (beyond : r.outOfRange = true) (prep : Bool)
    (p : MguReq) : judge src.toNat kind prep r (served src p s) =
      (plain .outOfRange, captureRange src.toNat kind r (served src p s)) := by
  have admits : admitted (served src p s) src.toNat r.sender = true := by
    rw [← may]
    cases r.sender <;> rfl
  rw [judge, admits, beyond]
  rfl

/-- R175: with the capture record filled. -/
theorem request_outOfRange (q : Quiet s) (w : EgressWorks s) (h : Served s src) (hk : kind < 256)
    (form : parseRequest kind params = some r) (may : admitted s src.toNat r.sender = true)
    (beyond : r.outOfRange = true) (filled : s.mgu.capture ≠ none) :
    done (request src tag kind params) s = .next (answered src tag kind .outOfRange [] s) := by
  refine request_taken q h hk form (fun p => judge_outOfRange may beyond _ p) (fun p => ?_) q w h.2.1 h.2.2.1
  have kept : captureRange src.toNat kind r (served src p s) = served src p s := by
    have filled : (served src p s).mgu.capture ≠ none := by simpa [served, accepted, setPrepared] using filled
    unfold captureRange
    split
    next none _ => exact absurd none filled
    · rfl
  rw [kept]
  exact drain_nil _ ((served_handoffs p s).trans q)

/-- R175: with the capture record empty. -/
theorem request_captured {t : Table} {first count : Nat} (q : Quiet s) (w : EgressWorks s) (h : Served s src)
    (hk : kind < 256) (form : parseRequest kind params = some r) (may : admitted s src.toNat r.sender = true)
    (beyond : r.outOfRange = true) (range : r.range? = some (t, first, count)) (empty : s.mgu.capture = none)
    (alone : RaisesAlone evMgmtOutOfRange s) :
    done (request src tag kind params) s = .next (answered src tag kind .outOfRange []
      (raised evMgmtOutOfRange { s with mgu := { s.mgu with capture := some ⟨src.toNat, kind, t.code, first, count⟩ } })) := by
  refine request_taken q h hk form (fun p => judge_outOfRange may beyond _ p) (fun p => ?_) q w h.2.1 h.2.2.1
  have captured : captureRange src.toNat kind r (served src p s) =
      (served src p { s with mgu := { s.mgu with
        capture := some ⟨src.toNat, kind, t.code, first, count⟩ } }).post (.raise evMgmtOutOfRange) := by
    have empty : (served src p s).mgu.capture = none := by simpa [served, accepted, setPrepared] using empty
    rw [captureRange, empty, range]
    rfl
  rw [captured, drain_raise (by exact q) (by exact alone)]
  rfl

end
end Sys2Proof.Machine
end

section
namespace Sys2Proof.Machine

/-! ### The form of requests (R173) -/

section
variable {p : List Byte} {kind n : Nat} {r : Request}

theorem exactly_none (h : p.length ≠ n) : exactly n r p = none := if_neg h

theorem exactly_some (h : p.length = n) : exactly n r p = some r := if_pos h

theorem codeId?_none (one : n ≠ 1) (two : n ≠ 2) : codeId? n = none := by
  unfold codeId?
  split
  · exact absurd rfl one
  · exact absurd rfl two
  · rfl

theorem parseCoded_none {mk : CodeId → Code → Request} (h : p.length ≠ 17 ∨ byteAt p 0 ≠ 1 ∧ byteAt p 0 ≠ 2) :
    parseCoded mk p = none := by
  unfold parseCoded
  split
  next length =>
    obtain ⟨one, two⟩ := h.resolve_left fun other => other length
    rw [codeId?_none one two]
    rfl
  · rfl

/-- The codes of the tables, with what goes by the code. -/
theorem tableOf?_some (low : 1 ≤ n) (high : n ≤ 12) : ∃ t, tableOf? n = some t ∧ t.code = n ∧
    t.size = [24, 17, 1, 8, 1, 12, 2, 4, 1, 4, 1, 100].getD (n - 1) 0 ∧
    t.revenue = decide (n ∈ [2, 9, 10, 11]) := by
  interval_cases n <;> exact ⟨_, rfl, rfl, rfl, rfl⟩

theorem tableOf?_none (h : n = 0 ∨ 12 < n) : tableOf? n = none := by
  unfold tableOf?
  split
  case h_13 => rfl
  all_goals omega

theorem parseSetCode_none (h : (p.length ≠ 18 ∧ p.length ≠ 19 ∧ p.length ≠ 35) ∨ byteAt p 0 ≠ 1 ∧ byteAt p 0 ≠ 2) :
    parseSetCode p = none := by
  unfold parseSetCode
  split
  · omega
  · omega
  · omega
  · rfl

theorem parseRead_none (h : p.length ≠ 3 ∨ byteAt p 0 = 0 ∨ 12 < byteAt p 0 ∨ byteAt p 2 = 0) : parseRead p = none := by
  unfold parseRead
  split
  next ok => rw [tableOf?_none (by omega), Option.map_none]
  · rfl

theorem parseWrite_none (h : (p.length < 3 ∨ byteAt p 0 = 0 ∨ 12 < byteAt p 0 ∨ byteAt p 2 = 0) ∨
    ∃ t, tableOf? (byteAt p 0) = some t ∧ takeEntries t.form (byteAt p 2) (p.drop 3) = none) : parseWrite p = none := by
  unfold parseWrite
  split
  · rfl
  next ok =>
    obtain table | ⟨t, table, entries⟩ := h
    · rw [tableOf?_none (by omega)]
    · rw [table]
      simp [entries]

theorem parseRead_some {t : Table} (length : p.length = 3) (count : byteAt p 2 ≠ 0) (table : tableOf? (byteAt p 0) = some t) :
    parseRead p = some (.read t (byteAt p 1) (byteAt p 2)) := by
  rw [parseRead, if_pos ⟨length, count⟩, table]
  rfl

theorem parseWrite_some {t : Table} {es : List (List Nat)} (length : 3 ≤ p.length) (count : byteAt p 2 ≠ 0)
    (table : tableOf? (byteAt p 0) = some t) (entries : takeEntries t.form (byteAt p 2) (p.drop 3) = some es) :
    parseWrite p = some (.write t (byteAt p 1) (byteAt p 2) es) := by
  rw [parseWrite, if_neg (by omega), table]
  dsimp only
  rw [entries]
  rfl

/-- R173: what no request is read from. -/
def Malformed (kind : Nat) (params : List Byte) : Prop :=
  kind = 0 ∨ 20 < kind ∨
    (kind, params.length) ∉ [(3, 2), (4, 2), (5, 1), (6, 1), (7, 1), (8, 1), (9, 6), (10, 0), (11, 4), (12, 1),
      (13, 17), (14, 0), (15, 18), (15, 19), (15, 35), (16, 16), (17, 0), (18, 0), (19, 17), (20, 0)] ∧
      2 < kind ∨
    kind = 1 ∧ (params.length ≠ 3 ∨ byteAt params 0 = 0 ∨ 12 < byteAt params 0 ∨ byteAt params 2 = 0) ∨
    kind = 2 ∧ (params.length < 3 ∨ byteAt params 0 = 0 ∨ 12 < byteAt params 0 ∨ byteAt params 2 = 0) ∨
    kind = 2 ∧ (∃ t, tableOf? (byteAt params 0) = some t ∧
      takeEntries t.form (byteAt params 2) (params.drop 3) = none) ∨
    (kind = 13 ∨ kind = 15 ∨ kind = 19) ∧ byteAt params 0 ≠ 1 ∧ byteAt params 0 ≠ 2

theorem parseRequest_none (h : Malformed kind p) : parseRequest kind p = none := by
  unfold Malformed at h
  unfold parseRequest
  split
  case h_1 => exact parseRead_none (by simpa using h)
  case h_2 => exact parseWrite_none (by simpa using h)
  case h_13 => exact parseCoded_none (by simpa using h)
  case h_15 => exact parseSetCode_none (by simpa using h)
  case h_19 => exact parseCoded_none (by simpa using h)
  case h_21 => rfl
  all_goals exact exactly_none (by simpa using h)

/-- R174: the nodes that a request kind of one sort admits. -/
def senderOf (kind : Nat) : Sender :=
  if kind ∈ [3, 4, 20] then .operator else if kind ∈ [9, 11] then .billing else .either

/-- R173: a request command of a kind whose parameters are all plain is of its form. -/
theorem request_formed {c : Instr} {src : Byte} {tag : BitVec 16} {params : List Byte}
    (h : c.request? = some (src, tag, kind, params)) (plain : kind ∉ [1, 2, 13, 19]) :
    ∃ r, parseRequest kind params = some r ∧ r.sender = senderOf kind := by
  cases c
  case setCodeMetrology src tag code rev cur =>
    cases h
    cases cur with
    | none => exact ⟨.setMetrology _ _ none, rfl, rfl⟩
    | some c => exact ⟨.setMetrology _ _ (some _), rfl, rfl⟩
  case readTable | writeStreamTable | writeCalibrationGains | writeGridSettings | writeModuleTable |
      writeReferenceSettings | writeBreakerTable | writeSyncProfiles | writeBerthTable | writeMeteringSettings |
      writeTariffSets | writeCurrentSetIndex | writeEventTable | unlock | billingClear =>
    cases h
    exact absurd plain (by decide)
  all_goals cases h <;> exact ⟨_, rfl, rfl⟩

theorem request_kind {c : Instr} {src : Byte} {tag : BitVec 16} {params : List Byte}
    (h : c.request? = some (src, tag, kind, params)) : kind < 256 := by
  cases c <;> cases h <;> decide

theorem admitted_senderOf {s : State} {src : Nat} (h : kind ∈ [3, 4, 20] ∧ isOperator s src = false ∨
    kind ∈ [9, 11] ∧ isBilling s src = false ∨
    kind ∈ [5, 6, 7, 8, 10, 12, 14, 15, 16, 17, 18] ∧ ¬ (isOperator s src = true ∨ isBilling s src = true)) :
    admitted s src (senderOf kind) = false ∧ kind ∉ [1, 2, 13, 19] := by
  unfold senderOf
  obtain ⟨is, not⟩ | ⟨is, not⟩ | ⟨is, not⟩ := h
  · rw [if_pos is]
    simp only [List.mem_cons, List.not_mem_nil, or_false] at is ⊢
    exact ⟨not, by omega⟩
  · have other : kind ∉ [3, 4, 20] := by
      simp only [List.mem_cons, List.not_mem_nil, or_false] at is ⊢
      omega
    rw [if_neg other, if_pos is]
    simp only [List.mem_cons, List.not_mem_nil, or_false] at is ⊢
    exact ⟨not, by omega⟩
  · simp only [List.mem_cons, List.not_mem_nil, or_false] at is ⊢
    rw [if_neg (by omega), if_neg (by omega)]
    exact ⟨by simpa [admitted] using not, by omega⟩

end
end Sys2Proof.Machine
end

section
open Sys2Proof Sys2Proof.Machine

/-- Settles O45: what the form check lets through, then the sender and the range of a request of good form. -/
theorem requestChecks : Obligations.RequestChecks := by
  intro src tag s q w h
  refine ⟨fun kind params small bad => request_malformed q w h small (parseRequest_none bad),
    fun c kind params is not => ?_, fun table first count low high some => ?_⟩
  · obtain ⟨none, plain⟩ := admitted_senderOf not
    obtain ⟨r, form, sender⟩ := request_formed is plain
    rw [exec_request is]
    exact request_notAuthorised q w h (request_kind is) form (sender ▸ none)
  · obtain ⟨t, named, code, size, revenue⟩ := tableOf?_some low high
    have nonzero : count.toNat ≠ 0 := fun is => some (BitVec.eq_of_toNat_eq is)
    have read : parseRequest 1 [table, first, count] = .some (.read t first.toNat count.toNat) :=
      parseRead_some rfl nonzero named
    refine ⟨fun not => ?_, fun may beyond => ⟨fun filled => ?_, fun empty alone => ?_⟩, fun t' bytes es named' entries => ?_⟩
    · exact request_notAuthorised q w h (by omega) read (by simpa [Request.sender, admitted, fromStation] using not)
    · exact request_outOfRange q w h (by omega) read (by simpa [Request.sender, admitted, fromStation] using may)
        (decide_eq_true (size ▸ beyond)) filled
    · have captured := request_captured (tag := tag) q w h (by omega) read
        (by simpa [Request.sender, admitted, fromStation] using may) (decide_eq_true (size ▸ beyond)) rfl empty alone
      rw [code] at captured
      exact captured
    · obtain rfl : t = t' := Option.some_inj.1 (named.symm.trans named')
      have write : parseRequest 2 ([table, first, count] ++ bytes) = .some (.write t first.toNat count.toNat es) :=
        parseWrite_some (by simp) nonzero named entries
      have may : (if table.toNat ∈ [2, 9, 10, 11] then isBilling s src.toNat else isOperator s src.toNat) =
          admitted s src.toNat (Request.sender (.write t first.toNat count.toNat es)) := by
        rw [Request.sender, revenue]
        by_cases is : table.toNat ∈ [2, 9, 10, 11]
        · rw [if_pos is, if_pos (decide_eq_true is)]
          rfl
        · rw [if_neg is, if_neg (by simpa using is)]
          rfl
      have arrives : exec (.mreqArrival src (be 2 tag.toNat ++ be 1 2 ++ [table, first, count] ++ bytes)) s =
          done (request src tag 2 ([table, first, count] ++ bytes)) s := by
        rw [List.append_assoc _ [table, first, count]]
        rfl
      dsimp only
      rw [may, arrives]
      refine ⟨fun not => request_notAuthorised q w h (by omega) write not, fun may beyond filled =>
        request_outOfRange q w h (by omega) write may (decide_eq_true (size ▸ beyond)) filled,
        fun may beyond empty alone => ?_⟩
      have captured := request_captured (tag := tag) q w h (by omega) write may (decide_eq_true (size ▸ beyond)) rfl empty
        alone
      rw [code] at captured
      exact captured

end

section
namespace Sys2Proof.Machine

/-! ### Replies with a body (R178) -/

section
variable {s u : State} {q : MguReq} {l : Lpu}

/-- The `i`-th part of a body. -/
def bodyPart (body : List Byte) (i : Nat) : List Byte := (body.drop (474 * i)).take 474

/-- The number of parts of a body. -/
def bodyParts (n : Nat) : Nat := max 1 ((n + 473) / 474)

theorem chunks_eq (fuel : Nat) (body : List Byte) (enough : body.length < fuel) :
    chunks fuel body = (List.range (bodyParts body.length)).map (bodyPart body) := by
  induction fuel generalizing body with
  | zero => omega
  | succ fuel ih =>
    rw [chunks]
    split
    next last =>
      have length : body.length ≤ 474 := last
      have one : bodyParts body.length = 1 := by
        unfold bodyParts
        omega
      rw [one]
      simp [bodyPart, List.take_of_length_le length]
    next more =>
      have length : ¬ body.length ≤ 474 := more
      have next : bodyParts body.length = bodyParts (body.drop Config.partBytes).length + 1 := by
        simp only [bodyParts, List.length_drop, Config.partBytes]
        omega
      have shifted : ∀ i, bodyPart body (i + 1) = bodyPart (body.drop Config.partBytes) i := fun i => by
        rw [bodyPart, bodyPart, List.drop_drop, Config.partBytes, Nat.mul_succ, Nat.add_comm]
      rw [ih _ (by simp only [List.length_drop, Config.partBytes]; omega), next, List.range_succ_eq_map, List.map_cons,
        List.map_map]
      refine congrArg₂ _ rfl (List.map_congr_left fun i _ => (shifted i).symm)

theorem numberParts_eq (count i n : Nat) (f : Nat → List Byte) :
    numberParts count i ((List.range' i n).map f) = (List.range' i n).map fun j => be 1 j ++ be 1 count ++ f j := by
  induction n generalizing i with
  | zero => rfl
  | succ n ih => rw [List.range'_succ, List.map_cons, numberParts, ih, List.map_cons]

/-- R178: the parts of a DONE reply. -/
theorem bodied_eq (body : List Byte) : bodied body = ⟨.done, partsOf body⟩ := by
  unfold bodied
  rw [chunks_eq _ body (Nat.lt_succ_self _)]
  dsimp only
  rw [List.length_map, List.length_range, List.range_eq_range', numberParts_eq, ← List.range_eq_range']
  rfl

theorem partsOf_ne (body : List Byte) : partsOf body ≠ [] := by
  simp [partsOf]

theorem Lpu.replied_places (f : ReplyFrame) (l : Lpu) :
    (l.replied f).ordinary ≤ l.ordinary + 1 ∧ (l.replied f).reservations = l.reservations := by
  unfold Lpu.replied
  split
  · exact ⟨Nat.le_succ _, rfl⟩
  · simp [Lpu.ordinary]

theorem Lpu.replied_sending (f : ReplyFrame) (l : Lpu) : (l.replied f).sending ≠ none := by
  unfold Lpu.replied
  split
  · simp [Lpu.begun]
  next busy => simp [busy]

/-- R178: parts for which there is room enter one after another. -/
theorem enterParts_room (ds : List (List Byte)) (w : EgressWorks s)
    (room : s.lpu.ordinary + s.lpu.reservations + ds.length ≤ 15) :
    enterParts q ds s =
      { s with lpu := ds.foldl (fun l d => l.replied (replyOf q .done d)) s.lpu, mgu := { s.mgu with parts := [] } } := by
  induction ds generalizing s with
  | nil => rfl
  | cons d ds ih =>
    obtain ⟨ordinary, reservations⟩ := s.lpu.replied_places (replyOf q .done d)
    rw [List.length_cons] at room
    rw [enterParts, if_pos ((placeFree_iff _).2 (by omega)), enterReserved_reserved _ w, ih]
    · rfl
    · exact fun free => absurd free (Lpu.replied_sending _ _)
    · show (s.lpu.replied _).ordinary + (s.lpu.replied _).reservations + ds.length ≤ 15
      omega

end

section
variable {s u : State} {src : Byte} {tag : BitVec 16} {kind : Nat} {params body : List Byte} {r : Request}

/-- R13: the first part of a reply takes the place reserved for its request. -/
theorem enterReserved_served (f : ReplyFrame) (p : MguReq) (w : EgressWorks u) :
    enterReserved f (served src p u) = { served src p u with lpu := u.lpu.replied f } := by
  have works : EgressWorks ((served src p u).modLpu fun l => { l with reservations := l.reservations - 1 }) := by
    intro free
    simp only [served, accepted, State.modLpu_lpu, setPrepared_frame] at free ⊢
    exact w free
  rw [enterReserved, enterReply_eq _ works]
  simp [served, accepted]

/-- R172, R178: a request answered with a body whose parts find room. -/
theorem request_bodied (q : Quiet s) (w : EgressWorks s) (h : Served s src) (hk : kind < 256)
    (form : parseRequest kind params = some r) (none : u.handoffs = []) (lpu : u.lpu = s.lpu)
    (queue : u.mgu.queue = []) (parts : u.mgu.parts = [])
    (answer : judge src.toNat kind (prepared s src.toNat) r (served src ⟨src.toNat, tag, BitVec.ofNat 8 kind, params⟩ s) =
      (bodied body, served src ⟨src.toNat, tag, BitVec.ofNat 8 kind, params⟩ u))
    (room : s.lpu.ordinary + s.lpu.reservations + (partsOf body).length ≤ 15) :
    done (request src tag kind params) s = .next (answeredWith src tag kind body u) := by
  obtain ⟨reached, -, waits, -⟩ := id h
  have w : EgressWorks u := fun free => by
    rw [lpu] at free ⊢
    exact w free
  have small : (BitVec.ofNat 8 kind).toNat = kind := Nat.mod_eq_of_lt hk
  generalize hp : (⟨src.toNat, tag, BitVec.ofNat 8 kind, params⟩ : MguReq) = p at answer
  obtain ⟨d, ds, cut⟩ := List.exists_cons_of_ne_nil (partsOf_ne body)
  rw [cut, List.length_cons] at room
  have entered : enterAnswer p (bodied body) (served src p u) =
      { answeredWith src tag kind body u with mgu := { (served src p u).mgu with parts := [], queue := [] } } := by
    obtain ⟨ordinary, reservations⟩ := u.lpu.replied_places (replyOf p .done d)
    rw [enterAnswer, bodied_eq, cut]
    dsimp only [List.headD_cons, List.tail_cons]
    rw [enterReserved_served _ _ w, enterParts_room ds fun free => absurd free (Lpu.replied_sending _ _), endService]
    · refine (if_pos rfl).trans ?_
      rw [answeredWith, cut, ← hp]
      rfl
    · show (u.lpu.replied _).ordinary + (u.lpu.replied _).reservations + ds.length ≤ 15
      rw [lpu] at ordinary reservations ⊢
      omega
  have head : serveHead p (accepted p s) =
      { answeredWith src tag kind body u with mgu := { (served src p u).mgu with parts := [], queue := [] } } := by
    have serve : serve p (accepted p s) = (bodied body, served src p u) := by
      rw [serve, ← answer, ← hp]
      dsimp only
      rw [small, form]
      rfl
    rw [serveHead, serve, drain_nil _ (by rw [served_handoffs]; exact none), entered]
  have same : { (served src p u).mgu with parts := [], queue := [] } = (setPrepared src.toNat false u).mgu := by
    cases hm : u.mgu
    simp only [hm] at queue parts
    simp [served, accepted, setPrepared, hm, queue, parts, State.modMgu, isOperator, isBilling]
  rw [same] at head
  have all : serveAll serviceBound (accepted p s) = answeredWith src tag kind body u := by
    have empty : (answeredWith src tag kind body u).mgu.queue = [] := by
      simpa [answeredWith, setPrepared] using queue
    rw [show serviceBound = 8 + 1 from rfl, serveAll]
    show (if s.mgu.parts.isEmpty then serveAll 8 (serveHead p (accepted p s)) else accepted p s) = _
    rw [waits, head]
    show serveAll 8 (answeredWith src tag kind body u) = _
    rw [show (8 : Nat) = 7 + 1 from rfl, serveAll, empty]
  rw [done_quiet _ q, request_arrives reached, hp, arrive_served h, all]
  refine congrArg _ (settle_quiet ?_)
  simpa [answeredWith] using none

/-- R174 to R176: a request that passes every check before its owner's own. -/
theorem judge_passed (may : admitted s src.toNat r.sender = true) (inside : r.outOfRange = false)
    (free : r.guarded = false) (prep : Bool) (p : MguReq) :
    judge src.toNat kind prep r (served src p s) = perform src.toNat prep r (served src p s) := by
  have admits : admitted (served src p s) src.toNat r.sender = true := by
    rw [← may]
    cases r.sender <;> rfl
  rw [judge, admits, inside, free]
  rfl

/-- R179: a view that leaves the capture record. -/
theorem status_answered {view : Nat} {params : List Byte} (q : Quiet s) (w : EgressWorks s) (h : Served s src)
    (station : fromStation s src) (form : parseRequest 12 params = some (.status view)) (other : view ≠ 9)
    (is : viewOf? (served src ⟨src.toNat, tag, BitVec.ofNat 8 12, params⟩ s) view = some body)
    (room : s.lpu.ordinary + s.lpu.reservations + (partsOf body).length ≤ 15) :
    done (request src tag 12 params) s = .next (answeredWith src tag 12 body s) := by
  refine request_bodied q w h (by omega) form q rfl h.2.1 h.2.2.1 ?_ room
  rw [judge_passed (by simpa [Request.sender, admitted, fromStation] using station) rfl rfl]
  show performStatus view _ = _
  rw [performStatus, is]
  dsimp only
  rw [if_neg other]

end

/-! ### The length of a session record (section 1.6) -/

theorem encOpt_length (k : Nat) (o : Option Nat) : (encOpt k o).length = 1 + k := by
  cases o <;> simp [encOpt]

theorem encOptClock_length (o : Option (Nat × Nat)) : (encOptClock o).length = 7 := by
  rcases o with _ | ⟨day, second⟩ <;> simp [encOptClock]

theorem encSession_length (r : Session) : (encSession r).length = 113 := by
  have ident : (encIdent r.ident).length = 8 := by
    cases r.ident <;> simp [encIdent]
  simp [encSession, encOpt_length, encOptClock_length, ident]

theorem partsOf_session (r : Session) : (partsOf (encSession r)).length = 1 := by
  simp [partsOf, encSession_length]

end Sys2Proof.Machine
end

section
open Sys2Proof Sys2Proof.Machine

/-- Settles O46: a read is answered with the body its owner builds, cut into parts that find room. -/
theorem readsAnswered : Obligations.ReadsAnswered := by
  intro src tag s q w h station
  have may : ∀ r : Request, r.sender = .either → admitted s src.toNat r.sender = true := fun r is => by
    simpa [is, admitted, fromStation] using station
  refine ⟨fun t table first count named some range room => ?_, status_answered q w h station rfl (by decide) rfl,
    status_answered q w h station rfl (by decide) rfl, status_answered q w h station rfl (by decide) rfl,
    status_answered q w h station rfl (by decide) rfl, status_answered q w h station rfl (by decide) rfl,
    status_answered q w h station rfl (by decide) rfl, status_answered q w h station rfl (by decide) rfl,
    status_answered q w h station rfl (by decide) rfl, fun room => ?_, fun empty => ?_, fun r rest log => ?_⟩
  · have nonzero : count.toNat ≠ 0 := fun is => some (BitVec.eq_of_toNat_eq is)
    refine request_bodied q w h (by omega) (parseRead_some rfl nonzero named) q rfl h.2.1 h.2.2.1 ?_ room
    exact judge_passed (r := .read t first.toNat count.toNat) (may _ rfl) (decide_eq_false (not_lt.2 range)) rfl _ _
  · refine request_bodied (r := .status 9) (u := { s with mgu := { s.mgu with capture := none } }) q w h (by omega) rfl q rfl
      h.2.1 h.2.2.1 ?_ room
    exact judge_passed (may _ rfl) rfl rfl _ _
  · refine request_taken (r := .logRead) q h (by omega) rfl (fun p => ?_) (fun p => drain_nil _ ((served_handoffs p s).trans q)) q w
      h.2.1 h.2.2.1
    rw [judge_passed (may _ rfl) rfl rfl]
    show (performLogRead (served src p s), served src p s) = _
    rw [performLogRead, show (served src p s).blg.log = [] from empty]
    rfl
  · refine request_bodied (r := .logRead) q w h (by omega) rfl q rfl h.2.1 h.2.2.1 ?_ ?_
    · rw [judge_passed (may _ rfl) rfl rfl]
      generalize (⟨src.toNat, tag, BitVec.ofNat 8 10, []⟩ : MguReq) = p
      show (performLogRead (served src p s), served src p s) = _
      rw [performLogRead, show (served src p s).blg.log = r :: rest from log]
    · rw [partsOf_session]
      have free := (placeFree_iff _).1 h.2.2.2
      omega

end

section
namespace Sys2Proof.Machine

/-! ### Table writes of the operator node (R177) -/

section
variable {s u : State} {src first : Byte} {tag : BitVec 16} {t : Table} {es : List (List Nat)} {bytes : List Byte}
  {res : Result}

/-- R172: a request that no lock guards, served at once and answered in one part: `u` is what its owner's action, and
what it led to, make of `s`. -/
theorem request_owned {kind : Nat} {params d : List Byte} {r : Request} {v : MguReq → State} (q : Quiet s)
    (h : Served s src) (hk : kind < 256) (form : parseRequest kind params = some r)
    (may : admitted s src.toNat r.sender = true) (inside : r.outOfRange = false) (free : r.guarded = false)
    (owner : ∀ p, perform src.toNat (prepared s src.toNat) r (served src p s) = (⟨res, [d]⟩, v p))
    (taken : ∀ p, drain Config.settleFuel (v p) = served src p u) (none : u.handoffs = []) (w : EgressWorks u)
    (queue : u.mgu.queue = []) (parts : u.mgu.parts = []) :
    done (request src tag kind params) s = .next (answered src tag kind res d u) :=
  request_taken q h hk form (fun p => (judge_passed may inside free _ p).trans (owner p)) taken none w queue parts

/-- R172, R177: a write of the operator node is answered with what its owner says. -/
theorem operatorWrite_taken {v : MguReq → State} (q : Quiet s) (h : Served s src)
    (o : isOperator s src.toNat = true) (ht : t.revenue = false) (hne : es ≠ [])
    (range : first.toNat + es.length ≤ t.size) (e : takeEntries t.form es.length bytes = some es)
    (outcome : ∀ p, performWrite t first.toNat es (served src p s) = (res, v p))
    (taken : ∀ p, drain Config.settleFuel (v p) = served src p u) (none : u.handoffs = []) (w : EgressWorks u)
    (queue : u.mgu.queue = []) (parts : u.mgu.parts = []) :
    done (request src tag 2 (be 1 t.code ++ [first, BitVec.ofNat 8 es.length] ++ bytes)) s =
      .next (answered src tag 2 res [] u) := by
  have small : es.length < 256 := by
    have : t.size ≤ 100 := by cases t <;> decide
    omega
  have may : admitted s src.toNat (Request.sender (.write t first.toNat es.length es)) = true := by
    rw [Request.sender, ht]
    exact o
  exact request_owned q h (by omega) (parseRequest_write hne small e) may
    (decide_eq_false (not_lt.2 range)) ht (fun p => congrArg ofOwner (outcome p)) taken none w queue parts

/-- R177: the same where the owner leads to nothing further. -/
theorem operatorWrite_answered (q : Quiet s) (w : EgressWorks s) (h : Served s src)
    (o : isOperator s src.toNat = true) (ht : t.revenue = false) (hne : es ≠ [])
    (range : first.toNat + es.length ≤ t.size) (e : takeEntries t.form es.length bytes = some es)
    (outcome : ∀ p, performWrite t first.toNat es (served src p s) = (res, served src p u)) (none : u.handoffs = [])
    (lpu : u.lpu = s.lpu) (mgu : u.mgu = s.mgu) :
    done (request src tag 2 (be 1 t.code ++ [first, BitVec.ofNat 8 es.length] ++ bytes)) s =
      .next (answered src tag 2 res [] u) :=
  operatorWrite_taken q h o ht hne range e outcome (fun p => drain_nil _ ((served_handoffs p u).trans none)) none
    (by rw [egressWorks_iff, lpu]; exact w) (mgu ▸ h.2.1) (mgu ▸ h.2.2.1)

/-- R177: a write in whose state no addressed entry stands in the way is taken whole or refused whole. -/
theorem performWrite_judged {p : MguReq} {ok : Prop} [Decidable ok] {v : State} {first : Nat}
    (free : writeInUse (served src p s) t first es = false)
    (values : writeValuesOk (served src p s) t first es = true ↔ ok)
    (applied : applyWrite t first es (served src p s) = served src p v) :
    performWrite t first es (served src p s) =
      (if ok then .done else .badValue, served src p (if ok then v else s)) := by
  split
  next good => rw [performWrite_done free (values.2 good), applied]
  next bad => exact performWrite_badValue free (Bool.eq_false_iff.2 (mt values.1 bad))

/-- R177: a write of the operator node that touches neither the LPU nor the MGU, taken whole or refused whole. -/
theorem operatorWrite_judged {ok : Prop} [Decidable ok] {v : State} (q : Quiet s) (w : EgressWorks s) (h : Served s src)
    (o : isOperator s src.toNat = true) (ht : t.revenue = false) (hne : es ≠ [])
    (range : first.toNat + es.length ≤ t.size) (e : takeEntries t.form es.length bytes = some es)
    (free : ∀ p, writeInUse (served src p s) t first.toNat es = false)
    (values : ∀ p, writeValuesOk (served src p s) t first.toNat es = true ↔ ok)
    (applied : ∀ p, applyWrite t first.toNat es (served src p s) = served src p v) (none : v.handoffs = [])
    (lpu : v.lpu = s.lpu) (mgu : v.mgu = s.mgu) :
    done (request src tag 2 (be 1 t.code ++ [first, BitVec.ofNat 8 es.length] ++ bytes)) s =
      .next (if ok then answered src tag 2 .done [] v else answered src tag 2 .badValue [] s) := by
  have outcome := fun p => performWrite_judged (free p) (values p) (applied p)
  split
  next good => exact operatorWrite_answered q w h o ht hne range e (fun p => by simpa [good] using outcome p) none lpu mgu
  next bad => exact operatorWrite_answered q w h o ht hne range e (fun p => by simpa [bad] using outcome p) q rfl rfl

/-- R173: entries that read back one by one. -/
theorem takeEntries_read {α : Type} {form : List FormItem} {bytes : α → List Byte} {decode : List Nat → α} {xs : List α}
    (h : ∀ x ∈ xs, ∀ rest, ∃ ys, takeEntry form (bytes x ++ rest) = some (ys, rest) ∧ decode ys = x) :
    ∃ es, takeEntries form xs.length (xs.map bytes).flatten = some es ∧ es.map decode = xs := by
  induction xs with
  | nil => exact ⟨[], rfl, rfl⟩
  | cons x xs ih =>
    obtain ⟨first, later⟩ := List.forall_mem_cons.1 h
    obtain ⟨es, read, back⟩ := ih later
    obtain ⟨ys, begins, is⟩ := first ((xs.map bytes).flatten)
    exact ⟨ys :: es, by simp [takeEntries, begins, read], by simp [is, back]⟩

/-- R173: one entry. -/
theorem takeEntries_one {α : Type} {form : List FormItem} {bytes : List Byte} {decode : List Nat → α} {x : α}
    (h : ∀ rest, ∃ ys, takeEntry form (bytes ++ rest) = some (ys, rest) ∧ decode ys = x) :
    ∃ e, takeEntries form 1 bytes = some [e] ∧ decode e = x := by
  obtain ⟨e, read, is⟩ := h []
  rw [List.append_nil] at read
  exact ⟨e, by simp [takeEntries, read], is⟩

/-- R177: a bank after a write, element by element. -/
theorem putAll_written {α : Type} {n : Nat} (v : Vector α n) (first : Nat) (xs : List α) :
    putAll v first xs = written v first xs := by
  induction xs generalizing v first with
  | nil => ext i hi; simp [putAll, written]
  | cons x xs ih =>
    rw [putAll, ih]
    ext i hi
    simp only [written, Vector.getElem_ofFn]
    obtain later | rfl | before := lt_trichotomy first i
    · have next : i - first = i - (first + 1) + 1 := by omega
      have other : (if h : first < n then v.set first x h else v)[i] = v[i] := by
        rw [dif_pos (by omega), Vector.getElem_set_ne _ _ (by omega)]
      rw [if_pos (by omega), if_pos (by omega), next, List.getElem?_cons_succ, Fin.getElem_fin, Fin.getElem_fin, other]
    · rw [if_neg (by omega), if_pos le_rfl]
      simp [hi]
    · rw [if_neg (by omega), if_neg (by omega)]
      simp only [Fin.getElem_fin]
      split
      · rw [Vector.getElem_set_ne _ _ (by omega)]
      · rfl

/-- R24. -/
theorem gains_ok (es : List (List Nat)) :
    writeValuesOk s .gains n es = true ↔ ∀ g ∈ es.map fun e => fld e 0, 49152 ≤ g ∧ g ≤ 81920 := by
  simp [writeValuesOk, gainOk, within]

/-- R28. -/
theorem grid_ok (e : List Nat) {n : Nat} : writeValuesOk s .grid n [e] = true ↔
    ((toGrid e).nominalF = 50000 ∨ (toGrid e).nominalF = 60000) ∧ 400 ≤ (toGrid e).nominalV ∧
      (toGrid e).nominalV ≤ 60000 ∧ 10 ≤ (toGrid e).vBand ∧ (toGrid e).vBand ≤ 200 ∧ 50 ≤ (toGrid e).fBand ∧
      (toGrid e).fBand ≤ 3000 := by
  simp [writeValuesOk, gridOk, nominalOk, within, toGrid, and_assoc]

/-- R56. -/
theorem reference_ok (e : List Nat) {n : Nat} : writeValuesOk s .reference n [e] = true ↔
    1 ≤ (toRefSettings e).fLimit ∧ (toRefSettings e).fLimit ≤ 200 ∧ 1 ≤ (toRefSettings e).vLimit ∧
      (toRefSettings e).vLimit ≤ 200 ∧ 10 ≤ (toRefSettings e).softFraction ∧ (toRefSettings e).softFraction ≤ 50 ∧
      1 ≤ (toRefSettings e).softIncrement ∧ (toRefSettings e).softIncrement ≤ 10 ∧
      (toRefSettings e).shedMargin ≤ 2000 := by
  simp [writeValuesOk, refSettingsOk, within, toRefSettings, and_assoc]

/-- R73: a profile in range. -/
def ProfileInRange (p : Profile) : Prop :=
  (10 ≤ p.vWindow ∧ p.vWindow ≤ 1000 ∧ -500 ≤ p.slipLow ∧ p.slipHigh ≤ 500 ∧
    p.slipLow < p.slipHigh ∧ p.slipLow ≤ p.slipTarget ∧ p.slipTarget ≤ p.slipHigh ∧ 91 ≤ p.angleWindow ∧
    p.angleWindow ≤ 1820) ∧ 1 ≤ p.settleCount ∧ p.settleCount ≤ 20 ∧ 5 ≤ p.watchLimit ∧
    p.watchLimit ≤ 120 ∧ 1 ≤ p.attemptLimit ∧ p.attemptLimit ≤ 5 ∧ 100 ≤ p.backoffBase ∧
    p.backoffBase ≤ 5000 ∧ p.backoffCap ≤ 4 ∧ 10 ≤ p.waitLimit ∧ p.waitLimit ≤ 600 ∧
    5 ≤ p.deadThreshold ∧ p.deadThreshold ≤ 20

theorem profileOk_iff (e : List Nat) : profileOk e = true ↔ ProfileInRange (toProfile e) := by
  simp only [profileOk, within, Bool.and_eq_true, decide_eq_true_eq, ProfileInRange]
  omega

theorem profiles_ok (es : List (List Nat)) {n : Nat} :
    writeValuesOk s .profiles n es = true ↔ ∀ p ∈ es.map toProfile, ProfileInRange p := by
  simp [writeValuesOk, profileOk_iff]

end
end Sys2Proof.Machine
end

section
open Sys2Proof Sys2Proof.Machine

/-- Settles O49: each entry is read back from its bytes, and the write is taken by whether all are in range. -/
theorem settingsWritten : Obligations.SettingsWritten := by
  obtain ⟨-, readsGrid, -, readsReference, readsProfile, -⟩ := tableRoundTrip
  intro src tag s q w h
  refine ⟨fun b lock first gs some range fit => ?_, fun o => ⟨fun g f1 f2 f3 f4 => ?_, fun r f1 f2 f3 f4 f5 => ?_,
    fun first ps some range fit => ?_⟩⟩
  · have read := takeEntries_map (form := Table.gains.form) (nums := fun g => [g]) (bytes := be 4) (xs := gs) fun g hg bs =>
      takeEntry_num (fit g hg) (takeEntry_nil bs)
    have back : (gs.map fun g => [g]).map (fun e => fld e 0) = gs := by simp [Function.comp_def, fld]
    have values := gains_ok (s := s) (n := first.toNat) (gs.map fun g => [g])
    rw [back] at values
    rw [← List.length_map (f := fun g => [g])] at read range ⊢
    have answered := fun res u => write_answered (tag := tag) (t := .gains) (res := res) (u := u) q w h b lock rfl
      (by simpa using some) range read
    split
    next good =>
      refine answered _ _ ((performWrite_done rfl (values.2 good)).trans (congrArg _ ?_))
      rw [applyWrite, back, ← putAll_written]
      rfl
    next bad => exact answered _ _ (performWrite_badValue rfl (Bool.eq_false_iff.2 (mt values.1 bad)))
  · obtain ⟨e, read, rfl⟩ := takeEntries_one fun rest => readsGrid g rest f1 f2 f3 f4
    exact operatorWrite_judged (t := .grid) (first := 0) (es := [e]) q w h o rfl (by simp) le_rfl read (fun _ => rfl)
      (fun _ => grid_ok e) (fun _ => rfl) q rfl rfl
  · obtain ⟨e, read, rfl⟩ := takeEntries_one fun rest => readsReference r rest f1 f2 f3 f4 f5
    exact operatorWrite_judged (t := .reference) (first := 0) (es := [e]) q w h o rfl (by simp) le_rfl read
      (fun _ => rfl) (fun _ => reference_ok e) (fun _ => rfl) q rfl rfl
  · obtain ⟨es, read, rfl⟩ := takeEntries_read (form := Table.profiles.form) fun p hp rest => by
      obtain ⟨f1, f2, f3, f4, f5, f6, f7, f8, f9, f10, f11, f12, f13, f14, f15⟩ := fit p hp
      exact readsProfile p rest f1 f2 f3 f4 f5 f6 f7 f8 f9 f10 f11 f12 f13 f14 f15
    rw [List.length_map] at read range ⊢
    exact operatorWrite_judged (t := .profiles) q w h o rfl (by simpa using some) range read (fun _ => rfl)
      (fun _ => profiles_ok es) (fun p => by rw [applyWrite, ← putAll_written]; rfl) q rfl rfl

end

section
namespace Sys2Proof.Machine

/-! ### Requests that carry numbers and codes (R173) -/

section
variable {before after : List Byte} {i k n : Nat}

theorem fieldAt_be_last (at_i : before.length = i) (fits : n < 256 ^ k) : fieldAt (before ++ be k n) i k = n := by
  have field := fieldAt_be (after := []) at_i fits
  rwa [List.append_nil] at field

theorem codeAt_be (code : Code) (at_i : before.length = i) :
    codeAt (before ++ (be 16 code.toNat ++ after)) i = code := by
  rw [codeAt, fieldAt_be at_i code.isLt, BitVec.ofNat_toNat, BitVec.setWidth_eq]

theorem parse_clockSet (day : BitVec 16) (second : BitVec 32) :
    parseRequest 9 (be 2 day.toNat ++ be 4 second.toNat) = some (.clockSet day.toNat second.toNat) := by
  have dayField := fieldAt_be (i := 0) (before := []) (after := be 4 second.toNat) (k := 2) rfl day.isLt
  have secondField := fieldAt_be_last (before := be 2 day.toNat) (k := 4) (be_length ..) second.isLt
  rw [List.nil_append] at dayField
  show exactly 6 _ _ = _
  rw [exactly_some (by simp), dayField, secondField]

theorem parse_logRemove (number : BitVec 32) :
    parseRequest 11 (be 4 number.toNat) = some (.logRemove number.toNat) := by
  have field := fieldAt_be_last (i := 0) (before := []) (k := 4) rfl number.isLt
  rw [List.nil_append] at field
  show exactly 4 _ _ = _
  rw [exactly_some (by simp), field]

theorem parse_coded {mk : CodeId → Code → Request} {id : CodeId} {b : Byte} (named : codeId? b.toNat = some id)
    (code : Code) : parseCoded mk (b :: be 16 code.toNat) = some (mk id code) := by
  have carried := codeAt_be (i := 1) (before := [b]) (after := []) code rfl
  have first : codeId? (byteAt (b :: be 16 code.toNat) 0) = some id := named
  rw [List.append_nil, List.singleton_append] at carried
  rw [parseCoded, if_pos (by simp), first, carried]
  rfl

theorem parse_removeCode (code : Code) : parseRequest 16 (be 16 code.toNat) = some (.removeCode code) := by
  have carried := codeAt_be (i := 0) (before := []) (after := []) code rfl
  rw [List.append_nil, List.nil_append] at carried
  show exactly 16 _ _ = _
  rw [exactly_some (by simp), carried]

theorem parse_setOperator (code : Code) (level : Byte) :
    parseRequest 15 (1#8 :: be 16 code.toNat ++ [level]) = some (.setOperator code level.toNat) := by
  have carried := codeAt_be (i := 1) (before := [1#8]) (after := [level]) code rfl
  show some (Request.setOperator (codeAt ([1#8] ++ (be 16 code.toNat ++ [level])) 1) level.toNat) = _
  rw [carried]

theorem parse_setMetrology (code : Code) (rev : BitVec 16) (current : Option Code) :
    parseRequest 15 (2#8 :: be 16 code.toNat ++ be 2 rev.toNat ++ current.elim [] fun c => be 16 c.toNat) =
      some (.setMetrology code rev.toNat current) := by
  have carried := fun ys => codeAt_be (i := 1) (before := [2#8]) (after := ys) code rfl
  have revision := fun ys => fieldAt_be (i := 17) (before := 2#8 :: be 16 code.toNat) (after := ys) (k := 2) (by simp) rev.isLt
  cases current with
  | none =>
    show some (Request.setMetrology (codeAt ([2#8] ++ (be 16 code.toNat ++ (be 2 rev.toNat ++ []))) 1)
      (fieldAt ((2#8 :: be 16 code.toNat) ++ (be 2 rev.toNat ++ [])) 17 2) none) = _
    rw [carried, revision]
  | some c =>
    have held := codeAt_be (i := 19) (before := 2#8 :: be 16 code.toNat ++ be 2 rev.toNat) (after := []) c (by simp)
    rw [List.append_nil] at held
    show some (Request.setMetrology (codeAt ([2#8] ++ (be 16 code.toNat ++ (be 2 rev.toNat ++ be 16 c.toNat))) 1)
      (fieldAt ((2#8 :: be 16 code.toNat) ++ (be 2 rev.toNat ++ be 16 c.toNat)) 17 2)
      (some (codeAt ((2#8 :: be 16 code.toNat ++ be 2 rev.toNat) ++ be 16 c.toNat) 19))) = _
    rw [carried, revision, held]

end

/-! ### The lock step (R184) -/

section
variable {s u : State} {src : Byte} {tag : BitVec 16} {kind : Nat} {params d : List Byte} {r : Request} {res : Result}

theorem askLock_exhausted (h : s.mlk.attempts = 0) :
    askLock s = (some .lockExhausted, s.post (.raise evLockExhausted)) := if_pos h

theorem askLock_locked (a : s.mlk.attempts ≠ 0) (h : s.mlk.lock = .locked) : askLock s = (some .locked, s) := by
  rw [askLock, if_neg a, if_pos h]

theorem askLock_open (h : LockOpen s) : askLock s = (none, s) := by
  rw [askLock, if_neg h.1, if_neg h.2]

/-- R176: a protected request that passes the checks before the lock step. -/
theorem judge_guarded (may : admitted s src.toNat r.sender = true) (inside : r.outOfRange = false)
    (guarded : r.guarded = true) (prep : Bool) (p : MguReq) :
    judge src.toNat kind prep r (served src p s) = match askLock (served src p s) with
      | (some refusal, s1) => (plain refusal, s1)
      | (none, s1) => perform src.toNat prep r s1 := by
  have admits : admitted (served src p s) src.toNat r.sender = true := by
    rw [← may]
    cases r.sender <;> rfl
  rw [judge, admits, inside, guarded]
  rfl

/-- R184: a protected request in LOCKED. -/
theorem request_locked (q : Quiet s) (w : EgressWorks s) (h : Served s src) (hk : kind < 256)
    (form : parseRequest kind params = some r) (may : admitted s src.toNat r.sender = true)
    (inside : r.outOfRange = false) (guarded : r.guarded = true) (a : s.mlk.attempts ≠ 0) (locked : s.mlk.lock = .locked) :
    done (request src tag kind params) s = .next (answered src tag kind .locked [] s) := by
  refine request_taken q h hk form (fun p => ?_) (fun p => drain_nil _ ((served_handoffs p s).trans q)) q w h.2.1 h.2.2.1
  rw [judge_guarded may inside guarded, askLock_locked (s := served src p s) a locked]
  rfl

/-- R184: a protected request with no attempt left. -/
theorem request_exhausted (q : Quiet s) (w : EgressWorks s) (h : Served s src) (hk : kind < 256)
    (form : parseRequest kind params = some r) (may : admitted s src.toNat r.sender = true)
    (inside : r.outOfRange = false) (guarded : r.guarded = true) (a : s.mlk.attempts = 0)
    (alone : RaisesAlone evLockExhausted s) :
    done (request src tag kind params) s =
      .next (answered src tag kind .lockExhausted [] (raised evLockExhausted s)) := by
  refine request_taken (v := fun p => (served src p s).post (.raise evLockExhausted)) q h hk form (fun p => ?_)
    (fun p => ?_) q w h.2.1 h.2.2.1
  · rw [judge_guarded may inside guarded, askLock_exhausted (s := served src p s) a]
    rfl
  · rw [drain_raise (by exact q) (by exact alone)]
    rfl

/-- R172, R184: a protected request with the lock open whose owner leads to nothing further. -/
theorem request_unlocked (q : Quiet s) (w : EgressWorks s) (h : Served s src) (hk : kind < 256)
    (form : parseRequest kind params = some r) (may : admitted s src.toNat r.sender = true)
    (inside : r.outOfRange = false) (guarded : r.guarded = true) (lock : LockOpen s)
    (owner : ∀ p, perform src.toNat (prepared s src.toNat) r (served src p s) = (⟨res, [d]⟩, served src p u))
    (none : u.handoffs = []) (lpu : u.lpu = s.lpu) (mgu : u.mgu = s.mgu) :
    done (request src tag kind params) s = .next (answered src tag kind res d u) := by
  refine request_taken q h hk form (fun p => ?_) (fun p => drain_nil _ ((served_handoffs p u).trans none)) none
    (by rw [egressWorks_iff, lpu]; exact w) (mgu ▸ h.2.1) (mgu ▸ h.2.2.1)
  rw [judge_guarded may inside guarded, askLock_open (s := served src p s) lock]
  exact owner p

/-- R172: a request that no lock guards and whose owner leads to nothing further. -/
theorem request_plain (q : Quiet s) (w : EgressWorks s) (h : Served s src) (hk : kind < 256)
    (form : parseRequest kind params = some r) (may : admitted s src.toNat r.sender = true)
    (inside : r.outOfRange = false) (free : r.guarded = false)
    (owner : ∀ p, perform src.toNat (prepared s src.toNat) r (served src p s) = (⟨res, [d]⟩, served src p u))
    (none : u.handoffs = []) (lpu : u.lpu = s.lpu) (mgu : u.mgu = s.mgu) :
    done (request src tag kind params) s = .next (answered src tag kind res d u) :=
  request_owned q h hk form may inside free owner (fun p => drain_nil _ ((served_handoffs p u).trans none)) none
    (by rw [egressWorks_iff, lpu]; exact w) (mgu ▸ h.2.1) (mgu ▸ h.2.2.1)

/-- R173: the bytes of a write as an MREQ carries them. -/
theorem exec_write (table first count : Byte) (bytes : List Byte) :
    exec (.mreqArrival src (be 2 tag.toNat ++ be 1 2 ++ [table, first, count] ++ bytes)) s =
      done (request src tag 2 ([table, first, count] ++ bytes)) s := by
  rw [List.append_assoc _ [table, first, count]]
  rfl

/-! ### CLOCK_SET and LOG_REMOVE_OLDEST at their owners (R133, R154) -/

theorem clockSetTaken_eq (day second : Nat) (s : State) : clockSetTaken day second s =
    setInterval ((endAt allBerths s).modMtr fun m => { m with day := day, second := second }) := by
  rw [clockSetTaken, handDemand_eq]

theorem evalLogFull_room (h : s.blg.sum ≠ 32) : evalLogFull s = { s with blg := { s.blg with logFull := false } } := if_neg h

theorem performLogRemove_empty (h : s.blg.log = []) (n : Nat) : performLogRemove n s = (plain .logEmpty, s) := by
  rw [performLogRemove, h]

theorem performLogRemove_other {x : Session} {rest : List Session} {n : Nat} (h : s.blg.log = x :: rest)
    (other : x.number ≠ some n) : performLogRemove n s = (plain .badValue, s) := by
  rw [performLogRemove, h]
  exact if_neg other

theorem performLogRemove_head {x : Session} {rest : List Session} {n : Nat} (h : s.blg.log = x :: rest)
    (number : x.number = some n) (room : s.blg.sum ≤ 32) : performLogRemove n s =
      (⟨.done, [be 4 n]⟩, { s with blg := { s.blg with log := rest, logFull := false } }) := by
  have fewer : (s.modBlg fun g => { g with log := rest }).blg.sum ≠ 32 := by
    simp only [Blg.sum, h, List.length_cons] at room
    show _ + rest.length ≠ 32
    unfold Blg.taken at *
    simp only [State.modBlg_blg]
    omega
  rw [performLogRemove, h]
  refine (if_pos number).trans ?_
  rw [evalLogFull_room fewer]
  rfl

end
end Sys2Proof.Machine
end

section
open Sys2Proof Sys2Proof.Machine

/-- Settles O57: the lock step refuses before the owner is asked; CLOCK_SET ends the running interval first. -/
theorem clockAndLogRequests : Obligations.ClockAndLogRequests := by
  intro src tag s q w h b
  have may : admitted s src.toNat .billing = true := b
  refine ⟨fun table first count t bytes es revenue some named range entries => ?_, fun day second => ?_, fun number => ?_⟩
  · have nonzero : count.toNat ≠ 0 := fun is => some (BitVec.eq_of_toNat_eq is)
    have form : parseRequest 2 ([table, first, count] ++ bytes) = .some (.write t first.toNat count.toNat es) :=
      parseWrite_some (by simp) nonzero named entries
    have guarded : t.revenue = true := by
      have bounds : 1 ≤ table.toNat ∧ table.toNat ≤ 12 := by
        simp only [List.mem_cons, List.not_mem_nil, or_false] at revenue
        omega
      obtain ⟨t', named', -, -, is⟩ := tableOf?_some bounds.1 bounds.2
      obtain rfl : t' = t := Option.some_inj.1 (named'.symm.trans named)
      rw [is]
      exact decide_eq_true revenue
    have may : admitted s src.toNat (Request.sender (.write t first.toNat count.toNat es)) = true := by
      rw [Request.sender, guarded]
      exact b
    dsimp only
    rw [exec_write]
    exact ⟨fun a locked => request_locked q w h (by omega) form may (decide_eq_false (not_lt.2 range)) guarded a locked,
      fun a alone => request_exhausted q w h (by omega) form may (decide_eq_false (not_lt.2 range)) guarded a alone⟩
  · have form := parse_clockSet day second
    refine ⟨fun a locked => request_locked q w h (by omega) form may rfl rfl a locked,
      fun a alone => request_exhausted q w h (by omega) form may rfl rfl a alone,
      fun lock beyond => request_unlocked q w h (by omega) form may rfl rfl lock (fun p => ?_) q rfl rfl,
      fun lock inside => ⟨clockSetTaken day.toNat second.toNat s, request_unlocked q w h (by omega) form may rfl rfl lock
        (fun p => ?_) ?_ (by simp) (by simp), ?_⟩⟩
    · show ofOwner (performClock _ _ _) = _
      rw [performClock, if_neg (by omega)]
      rfl
    · show ofOwner (performClock _ _ _) = _
      have day := day.isLt
      rw [performClock, if_pos (by omega), clockSetTaken_eq, clockSetTaken_eq]
      rfl
    · rw [clockSetTaken_eq]
      exact q
    · rw [clockSetTaken_eq]
      exact ⟨rfl, rfl, rfl, rfl, rfl, rfl, rfl, rfl, rfl, rfl, rfl, rfl, rfl, fun b r => endAt_open, fun b => endAt_shut⟩
  · have form := parse_logRemove number
    refine ⟨fun empty => request_plain q w h (by omega) form may rfl rfl (fun p => ?_) q rfl rfl,
      fun r rest log other => request_plain q w h (by omega) form may rfl rfl (fun p => ?_) q rfl rfl,
      fun r rest log is room => request_plain q w h (by omega) form may rfl rfl (fun p => ?_) q rfl rfl⟩
    · exact performLogRemove_empty (s := served src p s) empty _
    · exact performLogRemove_other (s := served src p s) log other
    · exact performLogRemove_head (s := served src p s) log is room

end

section
namespace Sys2Proof.Machine

/-! ### What MLK answers, case by case (R185 to R189) -/

section
variable {s : State} {i : CodeId} {code : Code} {m : Bool} {own : State → Result × State}

theorem judged_exhausted (h : s.mlk.attempts = 0) :
    judged m own s = (.lockExhausted, s.post (.raise evLockExhausted)) := if_pos h

theorem judged_frozen (a : s.mlk.attempts ≠ 0) (h : s.mlk.frozen = true) : judged true own s = (.frozen, s) := by
  rw [judged, if_neg a, h]
  rfl

theorem judged_own (a : s.mlk.attempts ≠ 0) (free : m = true → s.mlk.frozen = false) : judged m own s = own s := by
  rw [judged, if_neg a]
  cases m with
  | false => rfl
  | true =>
    rw [free rfl]
    rfl

theorem unlockOwn_busy (h : s.mlk.lock = .unprotected) : unlockOwn i code s = (.busy, s) := if_pos h

theorem unlockOwn_strict (p : s.mlk.lock ≠ .unprotected) (strict : s.mlk.strict = true) :
    unlockOwn .metrology code s = (.levelStrict, s) := by
  rw [unlockOwn, if_neg p, if_pos ⟨rfl, strict⟩]

theorem unlockOwn_absent (p : s.mlk.lock ≠ .unprotected) (free : s.mlk.strict = false) (absent : s.mlk.metrologyCode = none) :
    unlockOwn .metrology code s = (.badValue, s) := by
  rw [unlockOwn, if_neg p, if_neg (by simp [free]), if_pos ⟨rfl, absent⟩]

/-- R186: UNLOCK compares the code. -/
theorem unlockOwn_compared (p : s.mlk.lock ≠ .unprotected)
    (may : i = .metrology → s.mlk.strict = false ∧ s.mlk.metrologyCode ≠ none) : unlockOwn i code s =
      if s.mlk.held i = some code then (.done, s.modMlk fun k => { k with lock := .unlocked }) else codeMismatch s := by
  rw [unlockOwn, if_neg p, if_neg fun ⟨is, strict⟩ => by simp [(may is).1] at strict, if_neg fun ⟨is, absent⟩ => (may is).2 absent]

theorem relockOwn_busy (h : s.mlk.lock = .unprotected) : relockOwn s = (.busy, s) := if_pos h

theorem relockOwn_taken (h : s.mlk.lock ≠ .unprotected) :
    relockOwn s = (.done, { s with mlk := { s.mlk with lock := .locked } }) := if_neg h

theorem freezeOwn_locked (h : s.mlk.lock = .locked) : freezeOwn s = (.locked, s) := if_pos h

theorem freezeOwn_taken (h : s.mlk.lock ≠ .locked) :
    freezeOwn s = (.done, { s with mlk := { s.mlk with frozen := true } }) := if_neg h

theorem setOperatorOwn_locked {level : Nat} (h : s.mlk.lock = .locked) : setOperatorOwn code level s = (.locked, s) := if_pos h

theorem setOperatorOwn_level {level : Nat} (h : s.mlk.lock ≠ .locked) (beyond : 1 < level) :
    setOperatorOwn code level s = (.badValue, s) := by
  rw [setOperatorOwn, if_neg h, if_pos beyond]

theorem setOperatorOwn_taken {level : Nat} (h : s.mlk.lock ≠ .locked) (inside : level ≤ 1) :
    setOperatorOwn code level s = (.done, { s with
      mlk := { s.mlk with operatorCode := some code, strict := decide (level = 1), lock := .locked } }) := by
  rw [setOperatorOwn, if_neg h, if_neg (by omega)]
  rfl

theorem setMetrologyOwn_refused {rev : Nat} {current : Option Code}
    (h : current.isSome ≠ s.mlk.metrologyCode.isSome ∨ 65533 < rev) : setMetrologyOwn code rev current s = (.badValue, s) := by
  unfold setMetrologyOwn
  split
  · rfl
  next same => exact if_pos (h.resolve_left same)

/-- R187: SET_CODE METROLOGY compares the code that it gives. -/
theorem setMetrologyOwn_compared {rev : Nat} {current : Option Code} (same : current.isSome = s.mlk.metrologyCode.isSome)
    (inside : rev ≤ 65533) : setMetrologyOwn code rev current s =
      if current ≠ s.mlk.metrologyCode then codeMismatch s else (.done, setMetrology code rev s) := by
  rw [setMetrologyOwn, if_neg (not_not.2 same), if_neg (by omega)]

theorem removeCodeOwn_busy (h : s.mlk.lock = .unprotected) : removeCodeOwn code s = (.busy, s) := by rw [removeCodeOwn, h]

theorem removeCodeOwn_locked (h : s.mlk.lock = .locked) : removeCodeOwn code s = (.locked, s) := by rw [removeCodeOwn, h]

/-- R188: REMOVE_CODE compares the code. -/
theorem removeCodeOwn_compared (h : s.mlk.lock = .unlocked) : removeCodeOwn code s =
    if s.mlk.operatorCode = some code then (.done, s.modMlk Mlk.removeOperator) else codeMismatch s := by
  rw [removeCodeOwn, h]

theorem billingClearOwn_unprepared : billingClearOwn false i code s = (.noPrepare, s) := rfl

theorem billingClearOwn_inUse (h : s.blg.taken ≠ 0) : billingClearOwn true i code s = (.inUse, s) := if_pos h

theorem billingClearOwn_strict (h : s.blg.taken = 0) (strict : s.mlk.strict = true) :
    billingClearOwn true .operator code s = (.levelStrict, s) := by
  rw [billingClearOwn, if_neg (by simp), if_neg (not_not.2 h), if_pos ⟨rfl, strict⟩]

theorem billingClearOwn_absent (h : s.blg.taken = 0) (may : i = .operator → s.mlk.strict = false)
    (absent : s.mlk.held i = none) : billingClearOwn true i code s = (.badValue, s) := by
  rw [billingClearOwn, if_neg (by simp), if_neg (not_not.2 h), if_neg fun ⟨is, strict⟩ => by simp [may is] at strict,
    if_pos absent]

/-- R189: BILLING_CLEAR compares the code. -/
theorem billingClearOwn_compared (h : s.blg.taken = 0) (may : i = .operator → s.mlk.strict = false)
    (held : s.mlk.held i ≠ none) : billingClearOwn true i code s =
      if s.mlk.held i = some code then (.done, billingClearTaken s) else codeMismatch s := by
  rw [billingClearOwn, if_neg (by simp), if_neg (not_not.2 h), if_neg fun ⟨is, strict⟩ => by simp [may is] at strict,
    if_neg held]

/-- R189: BILLING_CLEAR with no slot taken empties the log; LOG_FULL does not hold after it. -/
theorem billingClearTaken_eq (h : s.blg.taken = 0) : billingClearTaken s = { s with
    blg := { s.blg with log := [], logFull := false }
    mtr := { s.mtr with unbilled := Vector.replicate 4 ⟨0, 0, 0⟩ }
    mlk := s.mlk.removeOperator } := by
  have room : (s.modBlg fun g => { g with log := [] }).blg.sum ≠ 32 := by
    show s.blg.taken + 0 ≠ 32
    omega
  rw [billingClearTaken, emptyLog, evalLogFull_room room]
  rfl

end

/-! ### Lock requests served at once -/

section
variable {s u : State} {src : Byte} {tag : BitVec 16} {kind : Nat} {params : List Byte} {r : Request} {res : Result}
  {m : Bool} {own : State → Result × State}

/-- R185: the lock requests are judged by the attempt counter and, all but RELOCK and FREEZE, by the frozen flag. -/
theorem lockRequest_judged {c : Instr} (h : c.request? = some (src, tag, kind, params))
    (is : kind ∈ [14, 15, 16, 17, 18] ∨ kind ∈ [13, 19] ∧ (byteAt params 0 = 1 ∨ byteAt params 0 = 2)) :
    ∃ r, parseRequest kind params = some r ∧ r.sender = .either ∧ r.outOfRange = false ∧ r.guarded = false ∧
      ∀ n prep, ∃ own, ∀ v, perform n prep r v = ofOwner (judged (decide (kind ≠ 14 ∧ kind ≠ 17)) own v) := by
  have named : ∀ {i : Byte} {code : Code}, byteAt (i :: be 16 code.toNat) 0 = 1 ∨ byteAt (i :: be 16 code.toNat) 0 = 2 →
      ∃ id, codeId? i.toNat = some id := fun h =>
    h.elim (fun one => ⟨_, (congrArg codeId? one).trans rfl⟩) fun two => ⟨_, (congrArg codeId? two).trans rfl⟩
  cases c
  case unlock | billingClear =>
    cases h
    obtain ⟨id, is⟩ := named (is.resolve_left (by decide)).2
    exact ⟨_, parse_coded is _, rfl, rfl, rfl, fun _ _ => ⟨_, fun _ => rfl⟩⟩
  case setCodeMetrology src tag code rev cur =>
    cases h
    cases cur <;> exact ⟨_, rfl, rfl, rfl, rfl, fun _ _ => ⟨_, fun _ => rfl⟩⟩
  case relock | setCodeOperator | removeCode | freeze | clearPrepare =>
    cases h
    exact ⟨_, rfl, rfl, rfl, rfl, fun _ _ => ⟨_, fun _ => rfl⟩⟩
  all_goals
    cases h <;> exact absurd is (by simp)

variable (q : Quiet s) (w : EgressWorks s) (h : Served s src) (station : fromStation s src)
include q w h station

/-- R185: no attempt is left. -/
theorem lockRequest_exhausted {c : Instr} (is : c.request? = some (src, tag, kind, params))
    (named : kind ∈ [14, 15, 16, 17, 18] ∨ kind ∈ [13, 19] ∧ (byteAt params 0 = 1 ∨ byteAt params 0 = 2))
    (a : s.mlk.attempts = 0) (alone : RaisesAlone evLockExhausted s) :
    exec c s = .next (answered src tag kind .lockExhausted [] (raised evLockExhausted s)) := by
  obtain ⟨r, form, sender, inside, free, judges⟩ := lockRequest_judged is named
  obtain ⟨own, owner⟩ := judges src.toNat (prepared s src.toNat)
  rw [exec_request is]
  refine request_owned (v := fun p => (served src p s).post (.raise evLockExhausted)) q h (request_kind is) form
    (by simpa [sender, admitted, fromStation] using station) inside free (fun p => ?_) (fun p => ?_) q w h.2.1 h.2.2.1
  · rw [owner, judged_exhausted (s := served src p s) a]
    rfl
  · rw [drain_raise (by exact q) (by exact alone)]
    rfl

/-- R185: a lock request that MLK answers, with no event to raise. -/
theorem lockRequest_answered (hk : kind < 256) (form : parseRequest kind params = some r) (sender : r.sender = .either)
    (inside : r.outOfRange = false) (free : r.guarded = false)
    (owner : ∀ p, perform src.toNat (prepared s src.toNat) r (served src p s) = ofOwner (res, served src p u))
    (none : u.handoffs = []) (lpu : u.lpu = s.lpu) (mgu : u.mgu = s.mgu) :
    done (request src tag kind params) s = .next (answered src tag kind res [] u) :=
  request_plain q w h hk form (by simpa [sender, admitted, fromStation] using station) inside free owner none lpu mgu

/-- R185: SET_CODE, REMOVE_CODE, CLEAR_PREPARE, UNLOCK and BILLING_CLEAR while frozen. -/
theorem lockRequest_frozen {c : Instr} (is : c.request? = some (src, tag, kind, params))
    (named : kind ∈ [15, 16, 18] ∨ kind ∈ [13, 19] ∧ (byteAt params 0 = 1 ∨ byteAt params 0 = 2))
    (a : s.mlk.attempts ≠ 0) (frozen : s.mlk.frozen = true) :
    exec c s = .next (answered src tag kind .frozen [] s) := by
  have among : kind ∈ [14, 15, 16, 17, 18] ∨ kind ∈ [13, 19] ∧ (byteAt params 0 = 1 ∨ byteAt params 0 = 2) := by
    refine named.imp_left fun some => ?_
    simp only [List.mem_cons, List.not_mem_nil, or_false] at some ⊢
    omega
  have matters : decide (kind ≠ 14 ∧ kind ≠ 17) = true := by
    simp only [List.mem_cons, List.not_mem_nil, or_false] at named
    exact decide_eq_true (by omega)
  obtain ⟨r, form, sender, inside, free, judges⟩ := lockRequest_judged is among
  obtain ⟨own, owner⟩ := judges src.toNat (prepared s src.toNat)
  rw [exec_request is]
  refine lockRequest_answered q w h station (request_kind is) form sender inside free (fun p => ?_) q rfl rfl
  rw [owner, matters, judged_frozen (s := served src p s) a frozen]

/-- R185: a lock request with an attempt left and, where it matters, not frozen is answered by its own conditions. -/
theorem lockRequest_own (hk : kind < 256) (form : parseRequest kind params = some r) (sender : r.sender = .either)
    (inside : r.outOfRange = false) (free : r.guarded = false)
    (judges : ∀ v, perform src.toNat (prepared s src.toNat) r v = ofOwner (judged m own v)) (a : s.mlk.attempts ≠ 0)
    (f : m = true → s.mlk.frozen = false) (outcome : ∀ p, own (served src p s) = (res, served src p u))
    (none : u.handoffs = []) (lpu : u.lpu = s.lpu) (mgu : u.mgu = s.mgu) :
    done (request src tag kind params) s = .next (answered src tag kind res [] u) :=
  lockRequest_answered q w h station hk form sender inside free
    (fun p => (judges _).trans (congrArg ofOwner ((judged_own (s := served src p s) a f).trans (outcome p)))) none lpu mgu

/-- R189: CLEAR_PREPARE leaves the prepare flag of its node set. -/
theorem clearPrepare_answered (a : s.mlk.attempts ≠ 0) (f : s.mlk.frozen = false) :
    exec (.clearPrepare src tag) s = .next (setPrepared src.toNat true (answered src tag 18 .done [] s)) := by
  have judge : ∀ p, judge src.toNat 18 (prepared s src.toNat) .clearPrepare (served src p s) =
      (plain .done, setPrepared src.toNat true (served src p s)) := fun p => by
    rw [judge_passed (by simpa [Request.sender, admitted, fromStation] using station) rfl rfl]
    show ofOwner (judged true _ _) = _
    rw [judged_own (s := served src p s) a fun _ => f]
    rfl
  have works : ∀ p, EgressWorks ((setPrepared src.toNat true (served src p s)).modLpu fun l =>
      { l with reservations := l.reservations - 1 }) := fun p free => by
    simp only [served, accepted, State.modLpu_lpu, setPrepared_frame] at free ⊢
    exact w free
  have quiet : ∀ p, (setPrepared src.toNat true (served src p s)).handoffs = [] := fun p => q
  obtain ⟨-, queue, parts, -⟩ := id h
  show done (request src tag 18 []) s = _
  rw [request_served q h (by omega) rfl (judge _) (drain_nil _ (quiet _)) (by simp [served, accepted, setPrepared]),
    settle_quiet (by simpa using quiet _), enterReserved, enterReply_eq _ (works _)]
  congr 1
  simp [answered, served, setPrepared, accepted, State.modLpu, State.modMgu, isOperator, isBilling, queue, parts]

end
end Sys2Proof.Machine
end

section
open Sys2Proof Sys2Proof.Machine

/-- Settles O58: exhaustion, then the frozen flag, then the conditions of the request's own rule in their order. -/
theorem lockRequests : Obligations.LockRequests := by
  intro src tag s q w h station
  refine ⟨fun a alone c kind params is named => lockRequest_exhausted q w h station is named a alone,
    fun a frozen c kind params is named => lockRequest_frozen q w h station is named a frozen, fun a => ?_, fun a f => ?_⟩
  · have relock := fun {res u} => lockRequest_own (kind := 14) (params := []) (r := .relock) (m := false) (own := relockOwn)
      (res := res) (u := u) (tag := tag) q w h station (by omega) rfl rfl rfl rfl (fun _ => rfl) a nofun
    have freeze := fun {res u} => lockRequest_own (kind := 17) (params := []) (r := .freeze) (m := false) (own := freezeOwn)
      (res := res) (u := u) (tag := tag) q w h station (by omega) rfl rfl rfl rfl (fun _ => rfl) a nofun
    exact ⟨fun is => relock (fun p => relockOwn_busy is) q rfl rfl, fun is => relock (fun p => relockOwn_taken is) q rfl rfl,
      fun is => freeze (fun p => freezeOwn_locked is) q rfl rfl, fun is => freeze (fun p => freezeOwn_taken is) q rfl rfl⟩
  · refine ⟨fun code => ?_, fun code level => ?_, fun code rev current => ?_, fun code => ?_,
      clearPrepare_answered q w h station a f, fun code => ?_⟩
    · have unlock := fun {b : Byte} {id res u} (named : codeId? b.toNat = some id) => lockRequest_own (kind := 13) (m := true)
        (own := unlockOwn id code) (res := res) (u := u) (tag := tag) q w h station (by omega)
        (parse_coded (mk := .unlock) named code) rfl rfl rfl (fun _ => rfl) a fun _ => f
      have present : s.mlk.metrologyCode = some code → s.mlk.metrologyCode ≠ none := fun held => by simp [held]
      have compared := fun {id} (p : s.mlk.lock ≠ .unprotected)
        (may : id = .metrology → s.mlk.strict = false ∧ s.mlk.metrologyCode ≠ none) (held : s.mlk.held id = some code) x =>
        (unlockOwn_compared (s := served src x s) (i := id) p may).trans (if_pos held)
      refine ⟨fun is => unlock (b := 1) rfl (fun p => unlockOwn_busy is) q rfl rfl,
        fun is => unlock (b := 2) rfl (fun p => unlockOwn_busy is) q rfl rfl,
        fun p held => unlock (b := 1) rfl (compared p nofun held) q rfl rfl,
        fun p strict => unlock (b := 2) rfl (fun _ => unlockOwn_strict p strict) q rfl rfl,
        fun p free absent => unlock (b := 2) rfl (fun _ => unlockOwn_absent p free absent) q rfl rfl,
        fun p free held => unlock (b := 2) rfl (compared p (fun _ => ⟨free, present held⟩) held) q rfl rfl⟩
    · have set := fun {res u} => lockRequest_own (kind := 15) (m := true) (own := setOperatorOwn code level.toNat) (res := res)
        (u := u) (tag := tag) q w h station (by omega) (parse_setOperator code level) rfl rfl rfl (fun _ => rfl) a fun _ => f
      exact ⟨fun is => set (fun p => setOperatorOwn_locked is) q rfl rfl,
        fun is beyond => set (fun p => setOperatorOwn_level is beyond) q rfl rfl,
        fun is inside => set (fun p => setOperatorOwn_taken is inside) q rfl rfl⟩
    · have set := fun {res u} => lockRequest_own (kind := 15) (m := true) (own := setMetrologyOwn code rev.toNat current)
        (res := res) (u := u) (tag := tag) q w h station (by omega) (parse_setMetrology code rev current) rfl rfl rfl
        (fun _ => rfl) a fun _ => f
      have bytes : exec (.setCodeMetrology src tag code rev current) s = done (request src tag 15
          (2#8 :: be 16 code.toNat ++ be 2 rev.toNat ++ current.elim [] fun c => be 16 c.toNat)) s := by
        cases current <;> rfl
      rw [bytes]
      refine ⟨fun bad => set (fun p => setMetrologyOwn_refused bad) q rfl rfl, fun is inside => set (fun p => ?_) q rfl rfl⟩
      exact (setMetrologyOwn_compared (s := served src p s) (congrArg Option.isSome is) inside).trans (if_neg (not_not.2 is))
    · have remove := fun {res u} => lockRequest_own (kind := 16) (m := true) (own := removeCodeOwn code) (res := res) (u := u)
        (tag := tag) q w h station (by omega) (parse_removeCode code) rfl rfl rfl (fun _ => rfl) a fun _ => f
      exact ⟨fun is => remove (fun p => removeCodeOwn_busy is) q rfl rfl,
        fun is => remove (fun p => removeCodeOwn_locked is) q rfl rfl,
        fun is held => remove (fun p => (removeCodeOwn_compared (s := served src p s) is).trans (if_pos held)) q rfl rfl⟩
    · have clear := fun {b : Byte} {id res u} (named : codeId? b.toNat = some id) => lockRequest_own (kind := 19) (m := true)
        (own := billingClearOwn (prepared s src.toNat) id code) (res := res) (u := u) (tag := tag) q w h station (by omega)
        (parse_coded (mk := .billingClear) named code) rfl rfl rfl (fun _ => rfl) a fun _ => f
      refine ⟨fun un => ?_, fun prep taken => ?_, fun prep taken strict => ?_, fun prep taken free absent => ?_,
        fun prep taken absent => ?_, fun ident prep taken matching => ?_⟩
      · rw [un] at clear
        exact ⟨clear (b := 1) rfl (fun _ => rfl) q rfl rfl, clear (b := 2) rfl (fun _ => rfl) q rfl rfl⟩
      · rw [prep] at clear
        exact ⟨clear (b := 1) rfl (fun _ => billingClearOwn_inUse taken) q rfl rfl,
          clear (b := 2) rfl (fun _ => billingClearOwn_inUse taken) q rfl rfl⟩
      · rw [prep] at clear
        exact clear (b := 1) rfl (fun _ => billingClearOwn_strict taken strict) q rfl rfl
      · rw [prep] at clear
        exact clear (b := 1) rfl (fun _ => billingClearOwn_absent taken (fun _ => free) absent) q rfl rfl
      · rw [prep] at clear
        exact clear (b := 2) rfl (fun _ => billingClearOwn_absent taken nofun absent) q rfl rfl
      · have cleared : ∀ (id : CodeId) p, (id = .operator → s.mlk.strict = false) → s.mlk.held id = some code →
            billingClearOwn true id code (served src p s) = (.done, served src p { s with
              blg := { s.blg with log := [], logFull := false }
              mtr := { s.mtr with unbilled := Vector.replicate 4 ⟨0, 0, 0⟩ }
              mlk := s.mlk.removeOperator }) := fun id p may held => by
          have present : s.mlk.held id ≠ none := by simp [held]
          refine (billingClearOwn_compared (s := served src p s) taken may present).trans ((if_pos held).trans ?_)
          rw [billingClearTaken_eq (by exact taken)]
          rfl
        rw [prep] at clear
        obtain ⟨rfl, free, held⟩ | ⟨rfl, held⟩ := matching
        · exact clear (b := 1) rfl (fun p => cleared .operator p (fun _ => free) held) q rfl rfl
        · exact clear (b := 2) rfl (fun p => cleared .metrology p nofun held) q rfl rfl

end

section
namespace Sys2Proof.Machine

/-! ### A code mismatch (R185) -/

section
variable {s : State} {src : Byte} {tag : BitVec 16} {kind : Nat} {params : List Byte} {r : Request} {e f : EventIx}

theorem raisesAlone_raised (other : e ≠ f) (h : RaisesAlone e s) : RaisesAlone e (raised f s) := by
  have same : (raised f s).event e = s.event e := upd_other _ _ (fun is => other is.symm)
  rw [RaisesAlone, same]
  exact h

/-- R159: EVR takes two raises in the order in which they were given. -/
theorem drain_two (none : s.handoffs = []) (first : RaisesAlone e s) (second : RaisesAlone f (raised e s)) :
    drain Config.settleFuel ((s.post (.raise e)).post (.raise f)) = raised f (raised e s) := by
  have posted : ((s.post (.raise e)).post (.raise f)).handoffs = [.raise e, .raise f] := by
    simp only [State.post, none]
    rfl
  have same : ({ (s.post (.raise e)).post (.raise f) with handoffs := [.raise f] } : State) = s.post (.raise f) := by
    simp only [State.post, none]
    rfl
  rw [show Config.settleFuel = 4095 + 1 from rfl, drain_cons _ posted, same]
  have taken : takeHandoff (.raise e) (s.post (.raise f)) = (raised e s).post (.raise f) := by
    show raiseEntry e (s.post (.raise f)) = _
    rw [raiseEntry_alone (by exact first)]
    rfl
  have posted : ((raised e s).post (.raise f)).handoffs = [.raise f] := by
    rw [State.post, show (raised e s).handoffs = [] from none]
    rfl
  have same : ({ (raised e s).post (.raise f) with handoffs := [] } : State) = raised e s := by
    show ({ raised e s with handoffs := [] } : State) = _
    rw [← none]
    rfl
  rw [taken, show (4095 : Nat) = 4094 + 1 from rfl, drain_cons _ posted, same]
  show drain 4094 (raiseEntry f (raised e s)) = _
  rw [raiseEntry_alone second]
  exact drain_nil _ none

/-- R185: a mismatch while more attempts are left. -/
theorem codeMismatch_left (a : s.mlk.attempts ≠ 0) (one : s.mlk.attempts ≠ 1) : codeMismatch s =
    (.lockMismatch, ({ s with mlk := { s.mlk with attempts := s.mlk.attempts - 1 } } : State).post
      (.raise evLockMismatch)) := by
  have left : ¬ s.mlk.attempts - 1 = 0 := by omega
  have missed : s.mlk.missed = { s.mlk with attempts := s.mlk.attempts - 1 } := by simp [Mlk.missed, left]
  unfold codeMismatch
  simp only [State.modMlk, State.post, missed]
  rw [if_neg left]

/-- R185: a mismatch with the last attempt. -/
theorem codeMismatch_last (one : s.mlk.attempts = 1) : codeMismatch s =
    (.lockMismatch, (({ s with mlk := { s.mlk with
        attempts := 0, exhausted := true, lock := if s.mlk.lock = .unlocked then .locked else s.mlk.lock } } : State).post
      (.raise evLockMismatch)).post (.raise evLockExhausted)) := by
  have missed : s.mlk.missed = { s.mlk with
      attempts := 0, exhausted := true, lock := if s.mlk.lock = .unlocked then .locked else s.mlk.lock } := by
    simp [Mlk.missed, one]
  unfold codeMismatch
  simp only [State.modMlk, State.post, missed]
  rw [if_pos trivial]

/-- R185: a lock request that carries a wrong code. -/
theorem lockRequest_mismatch (q : Quiet s) (w : EgressWorks s) (h : Served s src) (station : fromStation s src)
    (hk : kind < 256) (form : parseRequest kind params = some r) (sender : r.sender = .either)
    (inside : r.outOfRange = false) (free : r.guarded = false) (a : s.mlk.attempts ≠ 0)
    (owner : ∀ p, perform src.toNat (prepared s src.toNat) r (served src p s) = ofOwner (codeMismatch (served src p s)))
    (alone : RaisesAlone evLockMismatch s) (alone' : RaisesAlone evLockExhausted s) :
    (s.mlk.attempts ≠ 1 → done (request src tag kind params) s = .next (answered src tag kind .lockMismatch []
      (raised evLockMismatch { s with mlk := { s.mlk with attempts := s.mlk.attempts - 1 } }))) ∧
    (s.mlk.attempts = 1 → done (request src tag kind params) s = .next (answered src tag kind .lockMismatch []
      (raised evLockExhausted (raised evLockMismatch { s with mlk := { s.mlk with
        attempts := 0, exhausted := true, lock := if s.mlk.lock = .unlocked then .locked else s.mlk.lock } })))) := by
  have may : admitted s src.toNat r.sender = true := by simpa [sender, admitted, fromStation] using station
  refine ⟨fun one => ?_, fun one => ?_⟩
  · refine request_owned q h hk form may inside free
      (fun p => (owner p).trans (congrArg ofOwner (codeMismatch_left (s := served src p s) a one))) (fun p => ?_) q w h.2.1
      h.2.2.1
    dsimp only
    rw [drain_raise (by exact q) (by exact alone)]
    rfl
  · refine request_owned q h hk form may inside free
      (fun p => (owner p).trans (congrArg ofOwner (codeMismatch_last (s := served src p s) one))) (fun p => ?_) q w h.2.1
      h.2.2.1
    dsimp only
    rw [drain_two (by exact q) (by exact alone)
      (raisesAlone_raised (f := evLockMismatch) (by decide) (by exact alone'))]
    rfl

end
end Sys2Proof.Machine
end

section
open Sys2Proof Sys2Proof.Machine

/-- Settles O59: each of the six comparisons ends in the mismatch of R185. -/
theorem codeMismatches : Obligations.CodeMismatches := by
  intro src tag s c kind q w h station a f alone alone' k ways
  have own : ∀ own p, judged true own (served src p s) = own (served src p s) := fun own p => judged_own a fun _ => f
  obtain ⟨code, rfl, rfl, p, not⟩ | ⟨code, rfl, rfl, p, free, present, not⟩ |
    ⟨code, rev, held, rfl, rfl, inside, present, not⟩ | ⟨code, rfl, rfl, is, not⟩ |
    ⟨code, rfl, rfl, prep, taken, free, present, not⟩ | ⟨code, rfl, rfl, prep, taken, present, not⟩ := ways
  · refine lockRequest_mismatch q w h station (by omega) (parse_coded (mk := .unlock) (id := .operator) rfl code) rfl rfl
      rfl a (fun x => congrArg ofOwner ((own _ _).trans ?_)) alone alone'
    exact (unlockOwn_compared (s := served src x s) (i := .operator) p nofun).trans (if_neg not)
  · refine lockRequest_mismatch q w h station (by omega) (parse_coded (mk := .unlock) (id := .metrology) rfl code) rfl rfl
      rfl a (fun x => congrArg ofOwner ((own _ _).trans ?_)) alone alone'
    exact (unlockOwn_compared (s := served src x s) p fun _ => ⟨free, present⟩).trans (if_neg not)
  · refine lockRequest_mismatch q w h station (by omega) (parse_setMetrology code rev (some held)) rfl rfl rfl a
      (fun x => congrArg ofOwner ((own _ _).trans ?_)) alone alone'
    have same : (some held).isSome = s.mlk.metrologyCode.isSome := (Option.isSome_iff_ne_none.2 present).symm
    exact (setMetrologyOwn_compared (s := served src x s) same inside).trans (if_pos (Ne.symm not))
  · refine lockRequest_mismatch q w h station (by omega) (parse_removeCode code) rfl rfl rfl a
      (fun x => congrArg ofOwner ((own _ _).trans ?_)) alone alone'
    exact (removeCodeOwn_compared (s := served src x s) is).trans (if_neg not)
  · refine lockRequest_mismatch q w h station (by omega) (parse_coded (mk := .billingClear) (id := .operator) rfl code) rfl
      rfl rfl a (fun x => congrArg ofOwner ((own _ _).trans ?_)) alone alone'
    rw [prep]
    exact (billingClearOwn_compared (s := served src x s) (i := .operator) taken (fun _ => free) present).trans (if_neg not)
  · refine lockRequest_mismatch q w h station (by omega) (parse_coded (mk := .billingClear) (id := .metrology) rfl code) rfl
      rfl rfl a (fun x => congrArg ofOwner ((own _ _).trans ?_)) alone alone'
    rw [prep]
    exact (billingClearOwn_compared (s := served src x s) (i := .metrology) taken nofun present).trans (if_neg not)

end

section
namespace Sys2Proof.Machine

/-! ### The rotation of the scan (R35) -/

section
variable {s : State} {m : Module}

/-- The installed modules, lowest first. -/
def installedModules (s : State) : List Module := allModules.filter fun m => s.mpm.table[m].installed

theorem mem_installedModules (j : Module) : j ∈ installedModules s ↔ s.mpm.table[j].installed = true := by
  have all : j ∈ allModules := by
    revert j
    decide
  simp [installedModules, all]

theorem installedModules_sorted (s : State) : (installedModules s).Pairwise (· < ·) :=
  List.Pairwise.filter _ (by decide)

theorem nextPolled_first (none : s.mpm.lastPolled = none) : nextPolled s = (installedModules s).head? := by
  unfold nextPolled
  rw [none]
  rfl

/-- The next in rotation, as the first of those above the last polled and then of all. -/
theorem nextPolled_later {l : Module} (last : s.mpm.lastPolled = some l) : nextPolled s =
    (((installedModules s).filter fun m => l.val < m.val).head?).or (installedModules s).head? := by
  unfold nextPolled
  rw [last, List.head?_filter]
  dsimp only
  show (match (installedModules s).find? _ with
    | some m => some m
    | none => (installedModules s).head?) = _
  cases (installedModules s).find? fun m => decide (l.val < m.val) <;> rfl

/-- The head of an ascending list is its least. -/
theorem head_least {xs : List Module} (sorted : xs.Pairwise (· < ·)) (h : xs.head? = some m) :
    m ∈ xs ∧ ∀ j ∈ xs, m.val ≤ j.val := by
  cases xs with
  | nil => cases h
  | cons x xs =>
    cases h
    refine ⟨List.mem_cons_self .., fun j hj => ?_⟩
    obtain rfl | later := List.mem_cons.1 hj
    · exact le_rfl
    · exact (List.rel_of_pairwise_cons sorted later).le

theorem nextPolled_least (none : s.mpm.lastPolled = none) (h : nextPolled s = some m) :
    s.mpm.table[m].installed = true ∧ ∀ j : Module, s.mpm.table[j].installed = true → m.val ≤ j.val := by
  rw [nextPolled_first none] at h
  obtain ⟨mem, least⟩ := head_least (installedModules_sorted s) h
  exact ⟨(mem_installedModules m).1 mem, fun j is => least j ((mem_installedModules j).2 is)⟩

theorem nextPolled_rotates {l : Module} (last : s.mpm.lastPolled = some l) (h : nextPolled s = some m) :
    s.mpm.table[m].installed = true ∧
      ((l.val < m.val ∧ ∀ j : Module, s.mpm.table[j].installed = true → l.val < j.val → m.val ≤ j.val) ∨
        ∀ j : Module, s.mpm.table[j].installed = true → m.val ≤ j.val ∧ j.val ≤ l.val) := by
  rw [nextPolled_later last] at h
  cases above : ((installedModules s).filter fun m => l.val < m.val).head? with
  | some x =>
    rw [above] at h
    cases h
    obtain ⟨mem, least⟩ := head_least ((installedModules_sorted s).filter _) above
    obtain ⟨mem, beyond⟩ := List.mem_filter.1 mem
    exact ⟨(mem_installedModules m).1 mem, .inl ⟨of_decide_eq_true beyond, fun j is later =>
      least j (List.mem_filter.2 ⟨(mem_installedModules j).2 is, decide_eq_true later⟩)⟩⟩
  | none =>
    rw [above] at h
    obtain ⟨mem, least⟩ := head_least (installedModules_sorted s) h
    refine ⟨(mem_installedModules m).1 mem, .inr fun j is => ⟨least j ((mem_installedModules j).2 is), not_lt.1 fun later => ?_⟩⟩
    have mem := List.mem_filter (p := fun m : Module => decide (l.val < m.val)).2
      ⟨(mem_installedModules j).2 is, decide_eq_true later⟩
    rw [List.head?_eq_none_iff.1 above] at mem
    cases mem

theorem nextPolled_exists {j : Module} (is : s.mpm.table[j].installed = true) : ∃ m, nextPolled s = some m := by
  obtain ⟨x, head⟩ : ∃ x, (installedModules s).head? = some x :=
    Option.isSome_iff_exists.1 (List.isSome_head?.2 (List.ne_nil_of_mem ((mem_installedModules j).2 is)))
  cases last : s.mpm.lastPolled with
  | none => exact ⟨x, (nextPolled_first last).trans head⟩
  | some l =>
    rw [nextPolled_later last, head]
    cases ((installedModules s).filter fun m => l.val < m.val).head? <;> exact ⟨_, rfl⟩

theorem nextPolled_none (bare : ∀ m : Module, s.mpm.table[m].installed = false) : nextPolled s = none := by
  refine Option.eq_none_iff_forall_ne_some.2 fun m is => ?_
  have installed : s.mpm.table[m].installed = true := by
    cases last : s.mpm.lastPolled with
    | none => exact (nextPolled_least last is).1
    | some l => exact (nextPolled_rotates last is).1
  rw [bare m] at installed
  cases installed

end
end Sys2Proof.Machine
end

section
open Sys2Proof Sys2Proof.Machine

/-- Settles O32: the slot restarts the timer, and its POLL enters CONTROL where there is room. -/
theorem scanSlots : Obligations.ScanSlots := by
  intro s q
  refine ⟨fun idle => ?_, fun m f poll next own busy room => ?_, fun m next => ?_, fun ⟨j, is⟩ => nextPolled_exists is⟩
  · have slot : scanSlot s = { s with
        now := max s.now s.mpm.scanDue, mpm := { s.mpm with scanDue := s.mpm.scanDue + 10 } } := by
      unfold scanSlot
      dsimp only
      split
      · rfl
      next shut =>
        have none := nextPolled_none (s := (s.advanceTo s.mpm.scanDue).modMpm fun c =>
          { c with scanDue := c.scanDue + Config.scanSlotMs }) (idle.resolve_left shut)
        split
        · rfl
        next is => simp [none] at is
    exact (done_eq scanSlot q (by rw [slot]; exact q)).trans (by rw [slot])
  · have slot : scanSlot s = { s with
        now := max s.now s.mpm.scanDue
        mpm := { s.mpm with
          scanDue := s.mpm.scanDue + 10
          poll := some ⟨m, s.mpm.pollCounter, none⟩
          lastPolled := some m
          pollCounter := (s.mpm.pollCounter + 1) % 256 }
        lpu := { s.lpu with
          control := s.lpu.control ++
            [⟨.poll s.mpm.table[m].node m s.mpm.pollCounter, max s.now s.mpm.scanDue, false⟩] } } := by
      have next : nextPolled ((s.advanceTo s.mpm.scanDue).modMpm fun c =>
          { c with scanDue := c.scanDue + Config.scanSlotMs }) = some m := next
      unfold scanSlot
      rw [if_neg (by simp [poll]), next]
      show givePoll _ m _ _ = _
      rw [givePoll_room (by exact own) (by exact room), kick_enterControl_busy _ (by exact busy)]
      rfl
    exact (done_eq scanSlot q (by rw [slot]; exact q)).trans (by rw [slot])
  · cases last : s.mpm.lastPolled with
    | none =>
      obtain ⟨installed, least⟩ := nextPolled_least last next
      exact ⟨installed, fun _ => least, nofun⟩
    | some l =>
      obtain ⟨installed, rotates⟩ := nextPolled_rotates last next
      exact ⟨installed, nofun, fun l' is => by cases is; exact rotates⟩

end

section
namespace Sys2Proof.Machine

/-! ### Records at one place (section 0) -/

section
variable {α : Type} {n : Nat} {v : Vector α n} {i : Fin n} {f g : α → α}

theorem upd_congr_at (h : f v[i] = g v[i]) : upd v i f = upd v i g := by
  ext k hk
  rw [upd_get _ _ _ _ hk, upd_get _ _ _ _ hk]
  split
  next is =>
    subst is
    exact h
  · rfl

end

/-! ### The link does not see what the other blocks hold (R10, R14) -/

section
variable {s u : State} {c : Bcmd} {b : Berth}

theorem done_unchanged {g : State → State} (q : Quiet s) (h : g s = s) : done g s = .next s :=
  (done_eq g q (by rw [h]; exact q)).trans (by rw [h])

/-- R159: a command whose one raise concerns its entry alone. -/
theorem done_raise_alone {g : State → State} {e : EventIx} (q : Quiet s) (h : g s = u.post (.raise e))
    (none : u.handoffs = []) (alone : RaisesAlone e u) : done g s = .next (raised e u) := by
  rw [done_quiet g q, h, settle_raise none]
  exact alone

theorem giveBcmd_lpu_congr (w : EgressWorks s) (h : u.lpu = s.lpu) : (giveBcmd c u).lpu = (giveBcmd c s).lpu := by
  have works : EgressWorks u := by
    rw [egressWorks_iff, h]
    exact w
  by_cases own : s.own = none
  · have own' : u.own = none := by rwa [State.own, h]
    rw [giveBcmd, giveBcmd, if_pos (Option.isNone_iff_eq_none.2 own), if_pos (Option.isNone_iff_eq_none.2 own'), h]
  · have own' : u.own ≠ none := by rwa [State.own, h]
    cases sending : s.lpu.sending with
    | none => rw [giveBcmd_free own' (by rw [h]; exact sending) works, giveBcmd_free own sending w, h]
    | some f => rw [giveBcmd_busy own' (by rw [h]; exact sending), giveBcmd_busy own sending, h]

theorem command_lpu_congr {cmd : BreakerCmd} {t : Target} (w : EgressWorks s) (h : u.lpu = s.lpu)
    (breaker : u.breaker t = s.breaker t) : (command cmd t u).lpu = (command cmd t s).lpu := by
  rw [command, command, breaker]
  exact giveBcmd_lpu_congr w h

/-- A command at a state whose link is that of `s`. -/
theorem command_given {cmd : BreakerCmd} {t : Target} (w : EgressWorks s) (h : u.lpu = s.lpu)
    (breaker : u.breaker t = s.breaker t) : command cmd t u = { u with lpu := (command cmd t s).lpu } := by
  have works : EgressWorks u := by
    rw [egressWorks_iff, h]
    exact w
  rw [← command_lpu_congr w h breaker]
  exact command_eq cmd t works

theorem giveShpn_lpu_congr {d : Nat} {body : Notice} (w : EgressWorks s) (h : u.lpu = s.lpu) (now : u.now = s.now) :
    (giveShpn d body u).lpu = (giveShpn d body s).lpu := by
  rw [giveShpn_reservations d body w (r := s.lpu.reservations) h now, ← giveShpn_lpu_reservations d body w]

/-- An SHPN at a state whose link and device time are those of `s`. -/
theorem giveShpn_at {d : Nat} {body : Notice} (w : EgressWorks s) (h : u.lpu = s.lpu) (now : u.now = s.now) :
    giveShpn d body u = { u with lpu := (giveShpn d body s).lpu } := by
  have works : EgressWorks u := by
    rw [egressWorks_iff, h]
    exact w
  rw [← giveShpn_lpu_congr w h now]
  exact giveShpn_eq d body works

/-- R119: outputs that agreed with the demands follow a new demand. -/
theorem driveOutputs_demand {g : BerthRec → BerthRec} (safe : TripOutputs s) (demand : ∀ r, (g r).demand = true) :
    driveOutputs (s.modBerth b g) =
      { s with
        bsq := { s.bsq with recs := upd s.bsq.recs b g }
        evr := { s.evr with outputs := upd s.evr.outputs b fun _ => true } } := by
  have outputs : (Vector.ofFn fun c : Fin 4 => (upd s.bsq.recs b g)[c].demand || s.pins.estop) =
      upd s.evr.outputs b fun _ => true := by
    ext1 k hk
    have old := safe ⟨k, hk⟩
    rw [Vector.getElem_ofFn, upd_get _ _ _ _ hk]
    show ((upd s.bsq.recs b g)[k].demand || _) = _
    rw [upd_get _ _ _ _ hk]
    split
    · simp [demand]
    · exact old.symm
  show { s with
    bsq := { s.bsq with recs := upd s.bsq.recs b g }
    evr := { s.evr with outputs := Vector.ofFn fun c : Fin 4 => (upd s.bsq.recs b g)[c].demand || s.pins.estop } } = _
  rw [outputs]

/-! ### Ship holds (R105, R107) -/

theorem syncTimer_ended (now acc : Nat) (r : BerthRec) :
    BerthRec.syncTimer now { r with holdEnd := none, holdFrom := now, holdAcc := acc } = r.holdEnded now acc := by
  unfold BerthRec.syncTimer BerthRec.holdEnded
  cases hr : r.rampTimer <;> cases he : r.eventHold <;> simp_all [BerthRec.held]

theorem setShipHold_none (b : Berth) (s : State) : setShipHold b none s =
    { s with bsq := { s.bsq with recs := upd s.bsq.recs b (BerthRec.holdEnded s.now (heldTime s b)) } } := by
  unfold setShipHold
  simp only [syncTimer_ended]
  rfl

theorem heldTime_running {due : Nat} (h : (s.berth b).holdEnd = some due) : heldTime s b =
    min ((s.berth b).holdAcc + (s.now - (s.berth b).holdFrom)) ((s.entry b).holdLimit * 1000) := by
  rw [heldTime, h]
  rfl

theorem holdLimitPending_iff : holdLimitPending s b = true ↔ LimitPending b s := by
  have ramping : (s.berth b).state.ramping = true ↔ (s.berth b).state ∈ [.rampUp, .rampDown] := by
    cases (s.berth b).state <;> decide
  rw [holdLimitPending, LimitPending, Bool.or_eq_true, Bool.and_eq_true, Bool.and_eq_true, ramping, and_assoc,
    Option.isSome_iff_ne_none, Bool.not_eq_true', decide_eq_true_eq]
  rfl

/-- R105: the time held at the instant at which the limit is reached. -/
theorem heldTime_limit (pending : LimitPending b s) (within : (s.berth b).holdAcc ≤ (s.entry b).holdLimit * 1000) :
    heldTime (s.advanceTo (holdLimitDue s b)) b = (s.entry b).holdLimit * 1000 := by
  obtain running | ⟨-, -, reached⟩ := pending
  · obtain ⟨due, running⟩ := Option.ne_none_iff_exists'.1 running
    rw [heldTime_running (s := s.advanceTo (holdLimitDue s b)) running]
    refine min_eq_right ?_
    show (s.entry b).holdLimit * 1000 ≤ (s.berth b).holdAcc + (max s.now (holdLimitDue s b) - (s.berth b).holdFrom)
    unfold holdLimitDue holdLimitMs
    omega
  · have full : (s.berth b).holdAcc = (s.entry b).holdLimit * 1000 := by omega
    unfold heldTime
    dsimp only
    split
    · refine min_eq_right ?_
      show _ ≤ (s.berth b).holdAcc + _
      exact full.ge.trans (Nat.le_add_right ..)
    · exact full

/-! ### What the timers of a berth do when they run (R67, R105, R107, R109, R112) -/

theorem overloadExpiry_due {r : BerthRef} {due : Nat} (h : s.berthRef b = some r) (run : r.overloadDue = some due) :
    overloadExpiry b s = ({ s with
      now := max s.now due
      rfg := { s.rfg with berths := upd s.rfg.berths b fun _ => some { r with overloadDue := none } } } : State).post
        (.raise (evOverload b)) := by
  have cleared : upd s.rfg.berths b (Option.map fun r => { r with overloadDue := none }) =
      upd s.rfg.berths b fun _ => some { r with overloadDue := none } := by
    refine upd_congr_at ?_
    rw [show s.rfg.berths[b] = some r from h]
    rfl
  unfold overloadExpiry
  rw [h]
  dsimp only
  rw [run, ← cleared]
  rfl

theorem overloadExpiry_stopped (h : ∀ r due, s.berthRef b = some r → r.overloadDue ≠ some due) :
    overloadExpiry b s = s := by
  unfold overloadExpiry
  split
  · rfl
  next r is =>
    split
    · rfl
    next due runs => exact absurd runs (h r due is)

theorem holdLimitTaken_due (pending : LimitPending b s) (within : (s.berth b).holdAcc ≤ (s.entry b).holdLimit * 1000) :
    holdLimitTaken b s = ({ s with
      now := max s.now ((s.berth b).holdFrom + ((s.entry b).holdLimit * 1000 - (s.berth b).holdAcc))
      bsq := { s.bsq with recs := upd s.bsq.recs b fun r =>
        { r.holdEnded (max s.now ((s.berth b).holdFrom + ((s.entry b).holdLimit * 1000 - (s.berth b).holdAcc)))
            ((s.entry b).holdLimit * 1000) with holdMark := true } } } : State).post (.raise (evHoldLimit b)) := by
  rw [holdLimitTaken, if_pos (holdLimitPending_iff.2 pending), setShipHold_none, heldTime_limit pending within]
  simp only [State.modBerth, State.modBsq, upd_upd]
  rfl

theorem rampTimeoutTaken_due {due : Nat} (h : (s.berth b).rampTimer = .running due) : rampTimeoutTaken b s = ({ s with
    now := max s.now due
    bsq := { s.bsq with recs := upd s.bsq.recs b fun r => { r with rampTimer := .stopped } } } : State).post
      (.raise (evRampTimeout b)) := by
  unfold rampTimeoutTaken
  rw [h]
  rfl

theorem rampTimeoutTaken_idle (h : ∀ due, (s.berth b).rampTimer ≠ .running due) : rampTimeoutTaken b s = s := by
  unfold rampTimeoutTaken
  split
  next due is => exact absurd is (h due)
  · rfl

theorem generatorWaitTaken_due {due : Nat} (h : (s.berth b).genDue = some due) : generatorWaitTaken b s = ({ s with
    now := max s.now due
    bsq := { s.bsq with recs := upd s.bsq.recs b fun r => { r with genDue := none } } } : State).post
      (.raise (evRampTimeout b)) := by
  unfold generatorWaitTaken
  rw [h]
  rfl

theorem openingTaken_handed {due : Nat} (q : Quiet s) (h : (s.berth b).openDue = some due) :
    (openingTaken b s).handoffs = [.raise (evBreakerNoConfirm b)] := by
  have none : s.handoffs = [] := q
  unfold openingTaken
  rw [h]
  simp [startOpening, none]

theorem openingTaken_due {due : Nat} (w : EgressWorks s) (safe : TripOutputs s) (h : (s.berth b).openDue = some due) :
    openingTaken b s = ({ s with
      now := max s.now due
      lpu := (command .trip (outlet b) s).lpu
      bsq := { s.bsq with recs := upd s.bsq.recs b fun r => { r with
        demand := true
        fromOpening := true
        openDue := some (max s.now due + ((s.breaker (outlet b)).margin + 100))
        openNoted := max s.now due } }
      evr := { s.evr with outputs := upd s.evr.outputs b fun _ => true } } : State).post
        (.raise (evBreakerNoConfirm b)) := by
  have demanded := driveOutputs_demand (b := b) (s := (s.advanceTo due).post (.raise (evBreakerNoConfirm b)))
    (g := fun r => { r with demand := true, fromOpening := true }) safe fun _ => rfl
  unfold openingTaken
  rw [h]
  dsimp only
  generalize driveOutputs _ = u at demanded ⊢
  rw [command_given (s := s) w (by rw [demanded]; rfl) (by rw [demanded]; rfl), demanded]
  simp only [startOpening, State.modBerth, State.modBsq, upd_upd]
  rfl

end
end Sys2Proof.Machine
end

section
open Sys2Proof Sys2Proof.Machine

/-- Settles O41: a timer that runs does what its rule says and raises its event; the raise is taken first. -/
theorem berthTimers : Obligations.BerthTimers := by
  intro b s q
  refine ⟨fun stopped => done_unchanged q (overloadExpiry_stopped stopped), fun r due is runs alone =>
    done_raise q alone (overloadExpiry_due is runs), fun none => done_unchanged (g := shipHoldEndTaken b) q ?_,
    fun not => done_unchanged (g := holdLimitTaken b) q ?_, fun due is => ?_, fun pending within alone =>
    done_raise q alone (holdLimitTaken_due pending within), fun idle => done_unchanged q (rampTimeoutTaken_idle idle),
    fun due is alone => done_raise q alone (rampTimeoutTaken_due is),
    fun none => done_unchanged (g := generatorWaitTaken b) q ?_,
    fun due is alone => done_raise q alone (generatorWaitTaken_due is),
    fun none => done_unchanged (g := openingTaken b) q ?_,
    fun due is w safe alone => ?_, fun c e which => ?_⟩
  · rw [shipHoldEndTaken, none]
  · rw [holdLimitTaken, if_neg (mt holdLimitPending_iff.1 not)]
  · have ended : shipHoldEndTaken b s = setShipHold b none (s.advanceTo due) := by
      rw [shipHoldEndTaken, is]
    rw [setShipHold_none, heldTime_running (s := s.advanceTo due) is] at ended
    exact (done_eq (shipHoldEndTaken b) q (by rw [ended]; exact q)).trans (by rw [ended]; rfl)
  · rw [generatorWaitTaken, none]
  · rw [openingTaken, none]
  · exact done_raise_alone q (openingTaken_due w safe is) q alone
  · have raw : ∀ {g : State → State}, (g s).handoffs = [.raise e] → ∃ t, done g s = .next t ∧ (t.event e).raw = true :=
      fun {g} handed => ⟨_, done_quiet g q, settle_raw handed⟩
    have posted : ∀ {e : EventIx}, s.handoffs ++ [.raise e] = [.raise e] := fun {e} => by rw [q]; rfl
    obtain ⟨rfl, ⟨due, is⟩, rfl⟩ | ⟨rfl, is, rfl⟩ | ⟨rfl, is, rfl⟩ | ⟨rfl, is, rfl⟩ | ⟨rfl, ⟨r, at_, is⟩, rfl⟩ := which
    · exact raw (by rw [rampTimeoutTaken_due is]; exact posted)
    · obtain ⟨due, is⟩ := Option.ne_none_iff_exists'.1 is
      exact raw (by rw [generatorWaitTaken_due is]; exact posted)
    · refine raw ?_
      rw [holdLimitTaken, if_pos (holdLimitPending_iff.2 is), setShipHold_none]
      exact posted
    · obtain ⟨due, is⟩ := Option.ne_none_iff_exists'.1 is
      exact raw (openingTaken_handed q is)
    · obtain ⟨due, is⟩ := Option.ne_none_iff_exists'.1 is
      exact raw (by rw [overloadExpiry_due at_ is]; exact posted)

end

section
namespace Sys2Proof.Machine

/-! ### Ship messages read (R7, R96) -/

section
variable {s t : State} {x : Byte} {b : Berth} {m : ShipMsg} {p : List Byte}

/-- R7: a ship message of a berth's gateway that leads to nothing further. -/
theorem done_ship (q : Quiet s) (reach : reaches s x.toNat = true) (gateway : gatewayBerth s x.toNat = some b)
    (form : shipMsg? p = some m) (e : shipMessage b m s = t) (none : t.handoffs = [] := by exact q) :
    done (handOff kindShpm x p) s = .next t := by
  have taken : consumeShpm x.toNat p s = shipMessage b m s := by
    rw [consumeShpm, gateway]
    dsimp only
    rw [form]
    rfl
  exact done_handOff_eq q reach (taken.trans e) none

theorem shipMsg?_state (fl g : Byte) (load : BitVec 16) (id : ShipId) : shipMsg? (statePayload fl g load id) =
    some (.state (fl.getLsbD 0) (fl.getLsbD 1) g.toNat load.toNat (if id = 0 then none else some id)) := by
  have ready : decide (fl.toNat % 2 = 1) = fl.getLsbD 0 := (Nat.testBit_zero ..).symm
  have dead : decide (fl.toNat / 2 % 2 = 1) = fl.getLsbD 1 := by
    rw [BitVec.getLsbD, Nat.testBit_succ, Nat.testBit_zero]
  have loadField := fieldAt_be (i := 3) (k := 2) (before := be 1 1 ++ [fl, g]) (after := be 8 id.toNat) rfl load.isLt
  have identField := fieldAt_be_last (i := 5) (k := 8) (before := be 1 1 ++ [fl, g] ++ be 2 load.toNat) (by simp) id.isLt
  rw [← List.append_assoc] at loadField
  show some (ShipMsg.state (decide (fl.toNat % 2 = 1)) (decide (fl.toNat / 2 % 2 = 1)) g.toNat
    (fieldAt (be 1 1 ++ [fl, g] ++ be 2 load.toNat ++ be 8 id.toNat) 3 2)
    (shipIdent (BitVec.ofNat 64 (fieldAt (be 1 1 ++ [fl, g] ++ be 2 load.toNat ++ be 8 id.toNat) 5 8)))) = _
  rw [ready, dead, loadField, identField, BitVec.ofNat_toNat, BitVec.setWidth_eq]
  rfl

theorem shipMsg?_hold (n : BitVec 16) : shipMsg? (be 1 2 ++ be 2 n.toNat) = some (.hold n.toNat) := by
  have field := fieldAt_be_last (i := 1) (k := 2) (before := be 1 2) (by simp) n.isLt
  show some (ShipMsg.hold (fieldAt (be 1 2 ++ be 2 n.toNat) 1 2)) = _
  rw [field]

theorem shipMsg?_shedAck (n : BitVec 16) : shipMsg? (be 1 5 ++ be 2 n.toNat) = some (.shedAck n.toNat) := by
  have field := fieldAt_be_last (i := 1) (k := 2) (before := be 1 5) (by simp) n.isLt
  show some (ShipMsg.shedAck (fieldAt (be 1 5 ++ be 2 n.toNat) 1 2)) = _
  rw [field]

/-! ### Holds, GEN_OFF and GEN_ON (R105, R108, R110) -/

theorem ramping_iff (st : BerthState) : st.ramping = true ↔ st = .rampUp ∨ st = .rampDown := by
  cases st <;> decide

theorem holdTaken_ignored {n : Nat} (h : (s.berth b).state ≠ .rampUp ∧ (s.berth b).state ≠ .rampDown ∨
    (s.berth b).holdMark = true) : holdTaken b n s = s := by
  refine if_pos ?_
  obtain ⟨up, down⟩ | mark := h
  · have ramping : (s.berth b).state.ramping = false :=
      Bool.eq_false_iff.2 fun is => ((ramping_iff _).1 is).elim up down
    simp [ramping]
  · simp [mark]

theorem holdTaken_ramping {n : Nat} (ramp : (s.berth b).state = .rampUp ∨ (s.berth b).state = .rampDown)
    (mark : (s.berth b).holdMark = false) :
    holdTaken b n s = setShipHold b (if n = 0 then none else some (s.now + n * 100)) s := by
  have ramping := (ramping_iff _).2 ramp
  rw [holdTaken, if_neg (by simp [ramping, mark])]
  split <;> rfl

/-- R105, R107: a berth record once a ship hold runs until `due`, with the time accumulated before it. -/
def BerthRec.holdBegun (now due acc : Nat) (r : BerthRec) : BerthRec :=
  { r with
    holdEnd := some due
    holdFrom := now
    holdAcc := acc
    rampTimer :=
      match r.rampTimer with
      | .running end_ => .paused (end_ - now)
      | t => t }

theorem setShipHold_some (due : Nat) : setShipHold b (some due) s =
    { s with bsq := { s.bsq with recs := upd s.bsq.recs b (BerthRec.holdBegun s.now due (heldTime s b)) } } := by
  have timer : ∀ r : BerthRec, BerthRec.syncTimer s.now
      { r with holdEnd := some due, holdFrom := s.now, holdAcc := heldTime s b } =
      r.holdBegun s.now due (heldTime s b) := fun r => by
    unfold BerthRec.syncTimer BerthRec.holdBegun
    cases h : r.rampTimer <;> simp [BerthRec.held]
  unfold setShipHold
  simp only [timer]
  rfl

theorem stopRamp_eq (b : Berth) (s : State) : stopRamp b s =
    { s with bsq := { s.bsq with recs := upd s.bsq.recs b fun r => { r with
      holdEnd := none, holdFrom := s.now, holdAcc := heldTime s b, rampDue := none, rampTimer := .stopped
      capacityCond := false } } } := by
  rw [stopRamp, setShipHold_none]
  simp only [State.modBerth, State.modBsq, upd_upd]
  rfl

/-- R108: GEN_OFF in RAMP_UP. -/
theorem genOffTaken_rampUp (w : EgressWorks s) (h : (s.berth b).state = .rampUp) : genOffTaken b s = { s with
    bsq := { s.bsq with recs := upd s.bsq.recs b fun r => { r with
      state := .shore
      holdEnd := none
      holdFrom := s.now
      holdAcc := heldTime s b
      rampDue := none
      rampTimer := .stopped
      capacityCond := false } }
    lpu := (giveShpn (s.entry b).gateway (.berth b 7) s).lpu } := by
  have state : ((stopRamp b s).berth b).state = .rampUp := by
    rw [stopRamp_eq]
    exact (congrArg BerthRec.state (upd_self ..)).trans h
  rw [genOffTaken, if_pos h, enterState_eq,
    changeState_plain (by rw [state]; rfl) (by rw [state]; decide) (by rw [state]; decide), stopRamp_eq]
  simp only [State.modBerth, State.modBsq, upd_upd]
  exact giveShpn_at w rfl rfl

theorem genOnPSet_eq {start : BerthRef → Nat} {r : BerthRef} (is : s.berthRef b = some r)
    (stale : (s.point (shPoint b)).state = .stale →
      start r = min r.pB (min (s.entry b).contract (s.berth b).summary.capacity))
    (fresh : (s.point (shPoint b)).state ≠ .stale → (start r : Int) =
      max 0 (min ((min (s.entry b).contract (s.berth b).summary.capacity : Nat) : Int)
        (roundHalfAway (s.point (shPoint b)).pCal 1000))) : genOnPSet s b = start r := by
  unfold genOnPSet
  dsimp only
  split
  next is' => rw [is, stale is']
  next not =>
    have value := fresh not
    unfold clampInt kilowatts
    omega

/-- R110: a berth enters RAMP_DOWN from AWAIT_GENERATORS. -/
theorem enterRampDown_awaiting (h : (s.berth b).state = .awaitGenerators) :
    enterRampDown b s = giveShpn (s.entry b).gateway (.berth b 9) (s.modBerth b fun r =>
      { BerthRec.rampBegun s.now ((s.entry b).rampTimeout * 1000) r with state := .rampDown }) := by
  have state : ((s.modBerth b (BerthRec.rampBegun s.now ((s.entry b).rampTimeout * 1000))).berth b).state =
      .awaitGenerators := by
    rw [State.berth_modBerth]
    exact h
  rw [enterRampDown, startRamp_eq, enterState_eq,
    changeState_plain (by rw [state]; rfl) (by rw [state]; decide) (by rw [state]; decide), modBerth_modBerth]
  rfl

/-- R110: GEN_ON in AWAIT_GENERATORS. -/
theorem genOnTaken_awaiting {start : BerthRef → Nat} (w : EgressWorks s) (h : (s.berth b).state = .awaitGenerators)
    (value : ∀ r, s.berthRef b = some r → genOnPSet s b = start r) : genOnTaken b s = { s with
      bsq := { s.bsq with recs := upd s.bsq.recs b fun r =>
        { BerthRec.rampBegun s.now ((s.entry b).rampTimeout * 1000) r with state := .rampDown, genDue := none } }
      rfg := { s.rfg with berths := upd s.rfg.berths b (Option.map fun r => { r with pSet := start r }) }
      lpu := (giveShpn (s.entry b).gateway (.berth b 9) s).lpu } := by
  have pSet : upd s.rfg.berths b (Option.map fun r => { r with pSet := genOnPSet s b }) =
      upd s.rfg.berths b (Option.map fun r => { r with pSet := start r }) := by
    refine upd_congr_at ?_
    cases is : s.rfg.berths[b] with
    | none => rfl
    | some r => rw [Option.map_some, Option.map_some, value r is]
  have awaiting : ((setPSet b (genOnPSet s b) (s.modBerth b fun r => { r with genDue := none })).berth b).state =
      .awaitGenerators := by
    exact (congrArg BerthRec.state (State.berth_modBerth s b fun r => { r with genDue := none })).trans h
  rw [genOnTaken, if_pos h, enterRampDown_awaiting awaiting, ← pSet]
  simp only [State.modBerth, State.modBsq, setPSet, State.modBerthRef, State.modRfg, upd_upd]
  exact giveShpn_at w rfl rfl

end
end Sys2Proof.Machine
end

section
open Sys2Proof Sys2Proof.Machine

/-- Settles O39: each message is read back from its bytes and taken by the gateway's berth. -/
theorem shipMessages : Obligations.ShipMessages := by
  intro src b s q reach gateway
  refine ⟨fun fl g load id => ?_, fun kw => ?_, fun n no => ?_, fun n ramp mark zero => ?_, fun n ramp mark some => ?_,
    fun other => ?_, fun up w => ?_, fun other => ?_, fun start stale fresh awaiting w => ?_⟩
  · exact done_ship q reach gateway (shipMsg?_state fl g load id) rfl
  · exact done_ship q reach gateway (shipMsg?_shedAck kw) rfl
  · exact done_ship q reach gateway (shipMsg?_hold n) (holdTaken_ignored no)
  · subst zero
    exact done_ship q reach gateway (shipMsg?_hold 0) ((holdTaken_ramping ramp mark).trans (setShipHold_none b s))
  · have nonzero : n.toNat ≠ 0 := fun is => some (BitVec.eq_of_toNat_eq is)
    refine done_ship q reach gateway (shipMsg?_hold n) ((holdTaken_ramping ramp mark).trans ?_)
    rw [if_neg nonzero]
    exact setShipHold_some _
  · exact done_ship q reach gateway rfl (if_neg other)
  · exact done_ship q reach gateway rfl (genOffTaken_rampUp w up)
  · exact done_ship q reach gateway rfl (if_neg other)
  · exact done_ship q reach gateway rfl (genOnTaken_awaiting w awaiting fun r is => genOnPSet_eq is (stale r) (fresh r))

end

section
namespace Sys2Proof.Machine

/-! ### The parts of a ramp period (R104, R106, R111) -/

section
variable {s u v : State} {b : Berth} {n : Nat}

theorem upd_same_at {α : Type} {v : Vector α n} {i : Fin n} {f : α → α} (h : f v[i] = v[i]) : upd v i f = v := by
  have same : upd v i f = upd v i fun x => x := upd_congr_at h
  rw [same]
  ext k hk
  rw [upd_get _ _ _ _ hk]
  split <;> rfl

theorem giveShpn_works {d : Nat} {body : Notice} (w : EgressWorks s) : EgressWorks (giveShpn d body s) :=
  (egressWorks_iff _).2 ((giveShpn_kept (fun _ => False) d body s).works w).1

/-- R104: RAMP_DONE, judged at a state whose link and device time are those of `v`. -/
theorem rampDoneTest_eq (w : EgressWorks v) (lpu : u.lpu = v.lpu) (now : u.now = v.now) : rampDoneTest b u = { u with
    bsq := { u.bsq with recs := upd u.bsq.recs b fun x =>
      { x with rampDone := x.rampDone || decide (pSetOf u b = shipLoad u b) } }
    lpu := (if pSetOf u b = shipLoad u b ∧ (u.berth b).rampDone = false then
      giveShpn (u.entry b).gateway (.rampDone b) v else v).lpu } := by
  unfold rampDoneTest
  by_cases noted : pSetOf u b = shipLoad u b ∧ (u.berth b).rampDone = false
  · have first : (fun x : BerthRec => { x with rampDone := x.rampDone || decide (pSetOf u b = shipLoad u b) }) =
        fun x => { x with rampDone := true } := by
      funext x
      rw [decide_eq_true noted.1, Bool.or_true]
    rw [if_pos (by simp [noted]), if_pos noted, first]
    exact giveShpn_at w lpu now
  · have same : upd u.bsq.recs b (fun x => { x with rampDone := x.rampDone || decide (pSetOf u b = shipLoad u b) }) =
        u.bsq.recs := by
      refine upd_same_at ?_
      have kept : ((u.berth b).rampDone || decide (pSetOf u b = shipLoad u b)) = (u.berth b).rampDone := by
        cases done : (u.berth b).rampDone with
        | true => rfl
        | false => simpa [done] using noted
      show { u.berth b with rampDone := (u.berth b).rampDone || decide (pSetOf u b = shipLoad u b) } = u.berth b
      rw [kept]
    rw [if_neg (by simpa using noted), if_neg noted, same, ← lpu]

/-- R106: a berth whose capacity limits its ship. -/
def Limited (s : State) (b : Berth) : Prop := targetOf s b < shipLoad s b ∧ pSetOf s b = targetOf s b

/-- R106: no limit, no condition. -/
theorem capacityTest_unlimited (h : ¬ Limited u b) : capacityTest b u =
    { u with bsq := { u.bsq with recs := upd u.bsq.recs b fun x => { x with capacityCond := false } } } := if_neg h

/-- R106: a limit is an event; its notice is given when it is new or another one. -/
theorem capacityTest_limited (w : EgressWorks v) (lpu : u.lpu = v.lpu) (now : u.now = v.now) (h : Limited u b) :
    capacityTest b u = ({ u with
      bsq := { u.bsq with recs := upd u.bsq.recs b fun x => { x with capacityCond := true, lastLimit := targetOf u b } }
      lpu := (if ¬ ((u.berth b).capacityCond = true ∧ (u.berth b).lastLimit = targetOf u b) then
        giveShpn (u.entry b).gateway (.limit b (targetOf u b)) v else v).lpu } : State).post (.raise (evCapacityLimit b)) := by
  unfold capacityTest
  dsimp only
  rw [if_pos (by exact h)]
  by_cases known : (u.berth b).capacityCond = true ∧ (u.berth b).lastLimit = targetOf u b
  · have same : upd u.bsq.recs b (fun x => { x with capacityCond := true, lastLimit := targetOf u b }) = u.bsq.recs := by
      refine upd_same_at ?_
      show { u.berth b with capacityCond := true, lastLimit := targetOf u b } = u.berth b
      rw [← known.1, ← known.2]
    rw [if_pos known, if_neg (not_not.2 known), same, ← lpu]
  · rw [if_neg known, if_pos known]
    exact giveShpn_at w lpu now

/-- R104, R111: a ramp period has begun, and P_set has moved. -/
def rampMoved (b : Berth) (due : Nat) (r : BerthRef) (s : State) : State :=
  { s with
    now := max s.now due
    rfg := { s.rfg with berths := upd s.rfg.berths b fun _ => some r }
    bsq := { s.bsq with recs := upd s.bsq.recs b fun x => { x with rampDue := some (due + 20) } } }

theorem rampMoved_berth (b : Berth) (due : Nat) (r : BerthRef) (s : State) :
    (rampMoved b due r s).berth b = { s.berth b with rampDue := some (due + 20) } := upd_self ..

theorem pSetOf_some {r : BerthRef} (h : u.berthRef b = some r) : pSetOf u b = r.pSet := by
  rw [pSetOf, h]

theorem rampMoved_pSet (b : Berth) (due : Nat) (r : BerthRef) (s : State) : pSetOf (rampMoved b due r s) b = r.pSet :=
  pSetOf_some (upd_self ..)

/-- A berth's record while its reference record gets a new P_set. -/
theorem setPSet_moved {due : Nat} {r : BerthRef} (ref : s.berthRef b = some r) (p : Nat) :
    setPSet b p ((s.advanceTo due).modBerth b fun r => { r with rampDue := some (due + Config.rampPeriodMs) }) =
      rampMoved b due { r with pSet := p } s := by
  have written : upd s.rfg.berths b (Option.map fun r => { r with pSet := p }) =
      upd s.rfg.berths b fun _ => some { r with pSet := p } := by
    refine upd_congr_at ?_
    rw [show s.rfg.berths[b] = some r from ref]
    rfl
  rw [rampMoved, ← written]
  rfl

/-- R104: P_set after a ramp period in RAMP_UP. -/
def upPSet (s : State) (b : Berth) (r : BerthRef) : Nat :=
  if (s.berth b).holdEnd.isSome || (s.berth b).eventHold then min r.pSet (targetKw s b)
  else min (r.pSet + (s.entry b).rampRate / 50) (targetKw s b)

/-- R111: P_set after a ramp period in RAMP_DOWN. -/
def downPSet (s : State) (b : Berth) (r : BerthRef) : Nat :=
  min (if (s.berth b).holdEnd.isSome || (s.berth b).eventHold then r.pSet else r.pSet - (s.entry b).rampRate / 50)
    (s.berth b).summary.capacity

section
variable {due : Nat} {r : BerthRef} (is : (s.berth b).rampDue = some due) (ref : s.berthRef b = some r)
include is

omit is in
theorem begun_berth : (((s.advanceTo due).modBerth b fun r => { r with rampDue := some (due + Config.rampPeriodMs) }).berth b) =
    { s.berth b with rampDue := some (due + 20) } := by
  rw [State.berth_modBerth]
  rfl

include ref

theorem rampPeriodTaken_up (up : (s.berth b).state = .rampUp) : rampPeriodTaken b s =
    capacityTest b (rampDoneTest b (rampMoved b due { r with pSet := upPSet s b r } s)) := by
  have begun := begun_berth (s := s) (b := b) (due := due)
  unfold rampPeriodTaken
  rw [is]
  dsimp only
  generalize hu : (s.advanceTo due).modBerth b (fun r => { r with rampDue := some (due + Config.rampPeriodMs) }) = u at begun
  have moves : rampUpMove u b = upPSet s b r := by
    have p : pSetOf u b = r.pSet := pSetOf_some (by rw [← hu]; exact ref)
    have target : targetOf u b = targetKw s b := by
      rw [targetOf, begun, ← hu]
      rfl
    rw [rampUpMove, begun, p, target, ← hu]
    rfl
  rw [begun, up]
  dsimp only
  rw [moves, ← hu, setPSet_moved ref]

theorem rampPeriodTaken_down (down : (s.berth b).state = .rampDown) : rampPeriodTaken b s =
    openTest b (rampMoved b due { r with pSet := downPSet s b r } s) := by
  have begun := begun_berth (s := s) (b := b) (due := due)
  unfold rampPeriodTaken
  rw [is]
  dsimp only
  generalize hu : (s.advanceTo due).modBerth b (fun r => { r with rampDue := some (due + Config.rampPeriodMs) }) = u at begun
  have moves : rampDownMove u b = downPSet s b r := by
    have p : pSetOf u b = r.pSet := pSetOf_some (by rw [← hu]; exact ref)
    rw [rampDownMove, begun, p, ← hu]
    rfl
  rw [begun, down]
  dsimp only
  rw [moves, ← hu, setPSet_moved ref]

end

/-- R104: elsewhere the period only begins again. -/
theorem rampPeriodTaken_else {due : Nat} (is : (s.berth b).rampDue = some due) (up : (s.berth b).state ≠ .rampUp)
    (down : (s.berth b).state ≠ .rampDown) : rampPeriodTaken b s = { s with
      now := max s.now due
      bsq := { s.bsq with recs := upd s.bsq.recs b fun x => { x with rampDue := some (due + 20) } } } := by
  have begun := begun_berth (s := s) (b := b) (due := due)
  unfold rampPeriodTaken
  rw [is]
  dsimp only
  rw [begun]
  split
  next h => exact absurd h up
  next h => exact absurd h down
  · rfl

/-- R104, R106: what a ramp period in RAMP_UP makes of the state, but for the raise of R106. -/
def rampedUp (b : Berth) (due : Nat) (r : BerthRef) (s : State) : State :=
  let k := targetKw s b
  let load := shipLoad s b
  let pSet := upPSet s b r
  let moved : State := { s with now := max s.now due }
  let doneNoted : State := if pSet = load ∧ (s.berth b).rampDone = false then
    giveShpn (s.entry b).gateway (.rampDone b) moved else moved
  let limitNoted : State :=
    if (k < load ∧ pSet = k) ∧ ¬ ((s.berth b).capacityCond = true ∧ (s.berth b).lastLimit = k) then
      giveShpn (s.entry b).gateway (.limit b k) doneNoted else doneNoted
  { s with
    now := max s.now due
    lpu := limitNoted.lpu
    rfg := { s.rfg with berths := upd s.rfg.berths b fun _ => some { r with pSet := pSet } }
    bsq := { s.bsq with recs := upd s.bsq.recs b fun x => { x with
      rampDue := some (due + 20)
      rampDone := x.rampDone || decide (pSet = load)
      capacityCond := decide (k < load ∧ pSet = k)
      lastLimit := if k < load ∧ pSet = k then k else x.lastLimit } } }

/-- R104, R106: a ramp period in RAMP_UP, with the raise where the capacity limits the ship. -/
theorem rampPeriodTaken_rampUp {due : Nat} {r : BerthRef} (is : (s.berth b).rampDue = some due)
    (ref : s.berthRef b = some r) (up : (s.berth b).state = .rampUp) (w : EgressWorks s) : rampPeriodTaken b s =
      if targetKw s b < shipLoad s b ∧ upPSet s b r = targetKw s b then
        (rampedUp b due r s).post (.raise (evCapacityLimit b)) else rampedUp b due r s := by
  have moved := rampDoneTest_eq (b := b) (v := { s with now := max s.now due })
    (u := rampMoved b due { r with pSet := upPSet s b r } s) w rfl rfl
  rw [rampMoved_pSet, rampMoved_berth] at moved
  rw [rampPeriodTaken_up is ref up]
  generalize hn : (if upPSet s b r = shipLoad s b ∧ (s.berth b).rampDone = false then
    giveShpn (s.entry b).gateway (.rampDone b) { s with now := max s.now due } else { s with now := max s.now due }) = noted
  have works : EgressWorks noted ∧ noted.now = max s.now due := by
    rw [← hn]
    split
    · exact ⟨giveShpn_works (by exact w), by simp⟩
    · exact ⟨w, rfl⟩
  generalize rampDoneTest b _ = u at moved ⊢
  simp only [rampMoved, upd_upd] at moved
  have lpu : u.lpu = noted.lpu := by
    rw [moved, ← hn]
    rfl
  have berth : u.berth b = { s.berth b with
      rampDue := some (due + 20), rampDone := (s.berth b).rampDone || decide (upPSet s b r = shipLoad s b) } := by
    rw [moved]
    exact upd_self ..
  have ref : u.berthRef b = some { r with pSet := upPSet s b r } := by
    rw [moved]
    exact upd_self ..
  have load : shipLoad u b = shipLoad s b := by rw [moved]; rfl
  have target : targetOf u b = targetKw s b := by
    rw [targetOf, load, berth, moved]
    rfl
  have pSet : pSetOf u b = upPSet s b r := pSetOf_some ref
  have limited : Limited u b ↔ targetKw s b < shipLoad s b ∧ upPSet s b r = targetKw s b := by
    rw [Limited, target, load, pSet]
  unfold rampedUp
  dsimp only
  rw [hn]
  split
  next short =>
    rw [capacityTest_limited works.1 lpu (by rw [moved, works.2]) (limited.2 short), target, berth, moved]
    simp only [upd_upd, decide_eq_true short, and_iff_right short]
    rfl
  next free =>
    rw [capacityTest_unlimited (mt limited.1 free), moved]
    simp only [upd_upd, decide_eq_false free, if_neg (mt And.left free), ← hn]
    rfl

theorem belowThreshold_iff : belowThreshold u b = true ↔ (u.point (shPoint b)).state ≠ .stale ∧
    (roundHalfAway (u.point (shPoint b)).pCal 1000).natAbs ≤ (u.entry b).openThreshold := by
  rw [belowThreshold, Bool.and_eq_true, decide_eq_true_eq, decide_eq_true_eq]
  rfl

/-- R111: the outlet stays closed. -/
theorem openTest_not (h : ¬ (pSetOf u b = 0 ∧ (u.berth b).held = false ∧ belowThreshold u b = true)) : openTest b u = u :=
  if_neg (by simpa using h)

theorem heldTime_stopped (h : (u.berth b).holdEnd = none) : heldTime u b = (u.berth b).holdAcc := by
  rw [heldTime, h]
  rfl

/-- R111: the outlet is opened, the command before the notice. -/
theorem openTest_opens (w : EgressWorks u) (state : (u.berth b).state = .rampDown)
    (h : pSetOf u b = 0 ∧ (u.berth b).held = false ∧ belowThreshold u b = true) : openTest b u = { u with
      lpu := (giveShpn (u.entry b).gateway (.berth b 10) (command .openCmd (outlet b) u)).lpu
      bsq := { u.bsq with recs := upd u.bsq.recs b fun x => { x with
        state := .opening
        holdFrom := u.now
        rampDue := none
        rampTimer := .stopped
        capacityCond := false
        openDue := some (u.now + ((u.breaker (outlet b)).margin + 100))
        openNoted := u.now } } } := by
  have commanded := command_eq .openCmd (outlet b) w
  have works : EgressWorks (command .openCmd (outlet b) u) :=
    (egressWorks_iff _).2 ((giveBcmd_kept (x := fun _ => False) not_false u).works w).1
  have noHold : (u.berth b).holdEnd = none := by
    have free := h.2.1
    unfold BerthRec.held at free
    simpa using (Bool.or_eq_false_iff.1 free).1
  have started : startOpening b (command .openCmd (outlet b) u) = { u with
      lpu := (command .openCmd (outlet b) u).lpu
      bsq := { u.bsq with recs := upd u.bsq.recs b fun r =>
        { r with openDue := some (u.now + ((u.breaker (outlet b)).margin + 100)), openNoted := u.now } } } := by
    rw [commanded]
    rfl
  have opening : (startOpening b (command .openCmd (outlet b) u)).berth b = { u.berth b with
      openDue := some (u.now + ((u.breaker (outlet b)).margin + 100)), openNoted := u.now } := by
    rw [started]
    exact upd_self ..
  rw [openTest, if_pos (by simpa using h)]
  generalize startOpening b _ = x at started opening ⊢
  have stopped : (stopRamp b x).bsq.recs[b].state = .rampDown := by
    rw [stopRamp_eq]
    refine (congrArg BerthRec.state (upd_self ..)).trans ?_
    show (x.berth b).state = _
    rw [opening]
    exact state
  rw [enterState_eq, changeState_plain (by rw [State.berth, stopped]; rfl) (by rw [State.berth, stopped]; decide)
    (by rw [State.berth, stopped]; decide), stopRamp_eq, heldTime_stopped (by rw [opening]; exact noHold), opening, started]
  simp only [State.modBerth, State.modBsq, upd_upd]
  have records : upd u.bsq.recs b (fun x => { x with
        state := .opening
        holdEnd := none
        holdFrom := u.now
        holdAcc := (u.berth b).holdAcc
        rampDue := none
        rampTimer := .stopped
        capacityCond := false
        openDue := some (u.now + ((u.breaker (outlet b)).margin + 100))
        openNoted := u.now }) = upd u.bsq.recs b fun x => { x with
        state := .opening
        holdFrom := u.now
        rampDue := none
        rampTimer := .stopped
        capacityCond := false
        openDue := some (u.now + ((u.breaker (outlet b)).margin + 100))
        openNoted := u.now } := by
    refine upd_congr_at ?_
    have same : u.bsq.recs[b].holdEnd = none := noHold
    rw [same]
    rfl
  rw [← records]
  exact giveShpn_at works rfl (by rw [commanded])

end
end Sys2Proof.Machine
end

section
open Sys2Proof Sys2Proof.Machine

/-- Settles O40: a ramp period moves P_set, then judges RAMP_DONE and the capacity condition, or opens the outlet. -/
theorem rampPeriods : Obligations.RampPeriods := by
  intro b s q
  refine ⟨fun none => done_unchanged (g := rampPeriodTaken b) q ?_, fun due r is ref up w alone => ?_,
    fun due r is ref down w => ?_, fun due is up down => ?_⟩
  · rw [rampPeriodTaken, none]
  · have taken := rampPeriodTaken_rampUp is ref up w
    show done (rampPeriodTaken b) s = .next { rampedUp b due r s with
      evr := if targetKw s b < shipLoad s b ∧ upPSet s b r = targetKw s b then (raised (evCapacityLimit b) s).evr
        else s.evr }
    by_cases short : targetKw s b < shipLoad s b ∧ upPSet s b r = targetKw s b
    · rw [if_pos short] at taken
      refine (done_raise_alone q taken q alone).trans (congrArg _ ?_)
      rw [if_pos short]
      rfl
    · rw [if_neg short] at taken
      refine (done_eq _ q (by rw [taken]; exact q)).trans (congrArg _ (taken.trans ?_))
      rw [if_neg short]
      rfl
  · have taken := rampPeriodTaken_down is ref down
    have pSet := rampMoved_pSet b due { r with pSet := downPSet s b r } s
    have berth := rampMoved_berth b due { r with pSet := downPSet s b r } s
    have low : belowThreshold (rampMoved b due { r with pSet := downPSet s b r } s) b = belowThreshold s b := rfl
    refine ⟨fun stays => ?_, fun zero free below => ?_⟩
    · rw [openTest_not (fun ⟨zero, free, below⟩ => by
        rw [pSet] at zero
        rw [berth] at free
        rw [low, belowThreshold_iff] at below
        exact stays.elim (fun not => not zero) fun stays => stays.elim
          (fun held => Bool.false_ne_true (free.symm.trans held)) fun not => not below)] at taken
      exact (done_eq _ q (by rw [taken]; exact q)).trans (congrArg _ taken)
    · rw [openTest_opens (u := rampMoved b due { r with pSet := downPSet s b r } s) w (by rw [berth]; exact down)
        ⟨pSet.trans zero, by rw [berth]; exact free, low.trans (belowThreshold_iff.2 below)⟩] at taken
      refine (done_eq _ q (by rw [taken]; exact q)).trans (congrArg _ (taken.trans ?_))
      have works : EgressWorks (command .openCmd (outlet b) { s with now := max s.now due }) :=
        (egressWorks_iff _).2 ((giveBcmd_kept (x := fun _ => False) not_false { s with now := max s.now due }).works w).1
      rw [giveShpn_lpu_congr works
        (command_lpu_congr (u := rampMoved b due { r with pSet := downPSet s b r } s) (by exact w) rfl rfl)
        (by simp [rampMoved])]
      have zero : downPSet s b r = 0 := zero
      simp only [rampMoved, upd_upd, zero]
      rfl
  · have taken := rampPeriodTaken_else is up down
    exact (done_eq _ q (by rw [taken]; exact q)).trans (congrArg _ taken)

end

section
namespace Sys2Proof.Machine

/-! ### Where an increment goes (R128, R129, R131) -/

section
variable {s u : State} {b : Berth} {wh us : Nat}

/-- What a change of one record leaves in it. -/
theorem upd_field {α β : Type} {n : Nat} (v : Vector α n) (i : Fin n) (g : α → α) (f : α → β) (h : ∀ x, f (g x) = f x) :
    f (upd v i g)[i] = f v[i] := by
  rw [upd_fin, if_pos rfl]
  exact h _

theorem add_ite_zero (p : Prop) [Decidable p] (a c : Nat) : (if p then a + c else a) = a + if p then c else 0 := by
  split <;> rfl

theorem sessionOpen_slot {r : Session} (h : s.slot b = .openSlot r) : s.sessionOpen b = true := by
  rw [State.sessionOpen, h]

theorem modSession_slot {r : Session} (h : s.slot b = .openSlot r) (g : Session → Session) : modSession b g s =
    { s with blg := { s.blg with slots := upd s.blg.slots b fun _ => .openSlot (g r) } } := by
  have same : upd s.blg.slots b (fun x => match x with | .openSlot r => .openSlot (g r) | y => y) =
      upd s.blg.slots b fun _ => .openSlot (g r) := by
    refine upd_congr_at ?_
    rw [show s.blg.slots[b] = .openSlot r from h]
  rw [← same]
  rfl

theorem addImport_zero (band : Nat) (r : Session) : r.addImport band 0 = r := by
  have same : (Vector.ofFn fun i : Fin 4 => if i.val = band then r.bands[i] + 0 else r.bands[i]) = r.bands := by
    ext i hi
    simp
  rw [Session.addImport, same]
  rfl

/-- R129: with a session open, an import goes to it and to the demand accumulator. -/
theorem carryImport_open {r : Session} (h : s.slot b = .openSlot r) : carryImport b wh s = { s with
    mtr := { s.mtr with recs := upd s.mtr.recs b fun m => { m with demandAcc := m.demandAcc + wh } }
    blg := { s.blg with slots := upd s.blg.slots b fun _ => .openSlot (r.addImport (presentBand s r) wh) } } := by
  unfold carryImport
  split
  next zero =>
    have recs : upd s.mtr.recs b (fun m => { m with demandAcc := m.demandAcc + wh }) = s.mtr.recs :=
      upd_same_at (by rw [zero]; rfl)
    have slots : upd s.blg.slots b (fun _ => .openSlot (r.addImport (presentBand s r) wh)) = s.blg.slots :=
      upd_same_at (by rw [zero, addImport_zero]; exact h.symm)
    rw [recs, slots]
  next some =>
    rw [h]
    dsimp only
    rw [modSession_slot h]
    rfl

/-- R131: with no session open, it goes to the unbilled register. -/
theorem carryImport_shut (h : s.sessionOpen b = false) : carryImport b wh s = { s with
    mtr := { s.mtr with unbilled := upd s.mtr.unbilled b fun x =>
      { x with importWh := if wh = 0 then x.importWh else sat64 x.importWh wh } } } := by
  unfold carryImport
  split
  next zero =>
    have same : upd s.mtr.unbilled b (fun x => { x with importWh := x.importWh }) = s.mtr.unbilled := upd_same_at rfl
    rw [same]
  next some =>
    split
    next r is => simp [sessionOpen_slot is] at h
    · rfl

theorem carryReturned_open {r : Session} (h : s.slot b = .openSlot r) : carryReturned b wh s = { s with
    blg := { s.blg with slots := upd s.blg.slots b fun _ => .openSlot { r with returnedWh := r.returnedWh + wh } } } := by
  rw [carryReturned, if_pos (sessionOpen_slot h), modSession_slot h]

theorem carryReturned_shut (h : s.sessionOpen b = false) : carryReturned b wh s =
    s.modUnbilled b fun x => { x with returnedWh := sat64 x.returnedWh wh } := by
  rw [carryReturned, if_neg (by simp [h])]

/-- The import residue of a berth with an increment in W·µs, before whole watt-hours are carried. -/
def importSum (s : State) (b : Berth) (inc : Int) : Nat := s.mtr.recs[b].importResidue + inc.toNat

/-- The returned residue of a berth with an increment in W·µs. -/
def returnedSum (s : State) (b : Berth) (inc : Int) : Nat := s.mtr.recs[b].returnedResidue + (-inc).toNat

/-- R149: import and returned Wh added to a session. -/
def Session.metered (band imp ret : Nat) (r : Session) : Session :=
  { r.addImport band imp with returnedWh := r.returnedWh + ret }

/-- R128, R129: an increment while a session is open. -/
theorem integrate_open {r : Session} (h : s.slot b = .openSlot r) (inc : Int) : integrate b inc s = { s with
    mtr := { s.mtr with recs := upd s.mtr.recs b fun m => { m with
      importResidue := importSum s b inc % 3600000000
      returnedResidue := returnedSum s b inc % 3600000000
      demandAcc := m.demandAcc + importSum s b inc / 3600000000 } }
    blg := { s.blg with
      slots := upd s.blg.slots b fun _ => .openSlot
        (r.metered (presentBand s r) (importSum s b inc / 3600000000) (returnedSum s b inc / 3600000000)) } } := by
  unfold integrate
  dsimp only
  rw [carryImport_open (r := r) (by exact h), carryReturned_open (by exact upd_self ..)]
  simp only [State.modMeter, State.modMtr, upd_upd]
  rfl

/-- R128, R131: an increment while none is. -/
theorem integrate_shut (h : s.sessionOpen b = false) (inc : Int) : integrate b inc s = { s with
    mtr := { s.mtr with
      recs := upd s.mtr.recs b fun m => { m with
        importResidue := importSum s b inc % 3600000000, returnedResidue := returnedSum s b inc % 3600000000 }
      unbilled := upd s.mtr.unbilled b fun x => { x with
        importWh := if importSum s b inc / 3600000000 = 0 then x.importWh
          else sat64 x.importWh (importSum s b inc / 3600000000)
        returnedWh := sat64 x.returnedWh (returnedSum s b inc / 3600000000) } } } := by
  unfold integrate
  dsimp only
  rw [carryImport_shut (by exact h), carryReturned_shut (by exact h)]
  simp only [State.modUnbilled, State.modMtr, upd_upd]
  rfl

/-- A berth's session is open or not. -/
theorem slot_cases (s : State) (b : Berth) : (∃ r, s.slot b = .openSlot r) ∨ s.sessionOpen b = false := by
  unfold State.sessionOpen
  cases h : s.slot b with
  | openSlot r => exact .inl ⟨r, rfl⟩
  | free | reserved => exact .inr rfl

/-! ### Unmetered time (R130) -/

/-- R130: unmetered time of `us` µs that enters the remainder `rem`. -/
def unmeteredFrom (b : Berth) (rem us : Nat) (u : State) : State :=
  let ms := (rem + us) / 1000
  let v : State := { u with mtr := { u.mtr with recs := upd u.mtr.recs b fun x =>
    { x with unmeteredRem := (rem + us) % 1000 } } }
  match u.slot b with
  | .openSlot x =>
    let x' : Session := { x with unmeteredMs := min (x.unmeteredMs + ms) Config.u32Max }
    { v with blg := { v.blg with slots := upd v.blg.slots b fun _ => .openSlot x' } }
  | _ =>
    let more (x : Unbilled) : Unbilled := { x with unmeteredMs := min (x.unmeteredMs + ms) Config.u64Max }
    { v with mtr := { v.mtr with unbilled := upd v.mtr.unbilled b more } }

theorem unmeteredFrom_handoffs {rem : Nat} : (unmeteredFrom b rem us u).handoffs = u.handoffs := by
  unfold unmeteredFrom
  cases u.slot b <;> rfl

/-- The raise that goes with unmetered time, and the note of the record after it. -/
theorem noted_post {rem : Nat} (e : Handoff) (g : MeterRec → MeterRec) :
    ((unmeteredFrom b rem us u).post e).modMeter b g =
      { (unmeteredFrom b rem us u).modMeter b g with handoffs := u.handoffs ++ [e] } := by
  rw [← unmeteredFrom_handoffs (b := b) (rem := rem) (us := us)]
  rfl

theorem addUnmetered_eq {rem : Nat} (h : s.mtr.recs[b].unmeteredRem = rem) : addUnmetered b us s = unmeteredFrom b rem us s := by
  unfold addUnmetered unmeteredFrom carryUnmetered
  rw [h]
  dsimp only
  cases is : s.slot b with
  | openSlot r =>
    rw [if_pos (sessionOpen_slot (by exact is)), modSession_slot (r := r) (by exact is)]
    rfl
  | free | reserved =>
    have shut : s.sessionOpen b = false := by rw [State.sessionOpen, is]
    rw [if_neg (by simpa [State.sessionOpen, State.slot] using shut)]
    rfl

end

/-! ### The five cases of a record (R126) -/

section
variable {s : State} {b : Berth} {r : RevenueRecord} {base : Nat}

/-- R127: the remainder is no part of what an increment changes. -/
theorem integrate_rem (b : Berth) (inc : Int) (s : State) :
    (integrate b inc s).mtr.recs[b].unmeteredRem = s.mtr.recs[b].unmeteredRem := by
  obtain ⟨r, h⟩ | h := slot_cases s b
  · rw [integrate_open h]
    exact upd_field s.mtr.recs b _ MeterRec.unmeteredRem fun _ => rfl
  · rw [integrate_shut h]
    exact upd_field s.mtr.recs b _ MeterRec.unmeteredRem fun _ => rfl

theorem meterRecord_case {c : MeterCase} (h : meterCase s.mtr.recs[b].baseline s.mtr.gapLimit r = c) :
    meterRecord b r s = (meterWork b r c s).modMeter b fun m =>
      { m with baseline := some r.timestamp, lastArrival := some s.now } := by
  rw [meterRecord, h]

theorem meterCase_restart (has : s.mtr.recs[b].baseline = some base) (stale : r.wasStale = true) :
    meterCase s.mtr.recs[b].baseline s.mtr.gapLimit r = .restart := by
  rw [has]
  exact if_pos stale

theorem meterCase_backward {dt : Nat} (is : deltaT r.timestamp base = dt) (has : s.mtr.recs[b].baseline = some base)
    (fresh : r.wasStale = false) (far : 2147483648 ≤ dt) :
    meterCase s.mtr.recs[b].baseline s.mtr.gapLimit r = .backward := by
  rw [has, meterCase, if_neg (by simp [fresh]), is, if_pos far]

theorem meterCase_gap {dt : Nat} (is : deltaT r.timestamp base = dt) (has : s.mtr.recs[b].baseline = some base)
    (fresh : r.wasStale = false) (near : dt < 2147483648) (gap : s.mtr.gapLimit < dt ∧ r.nominal < dt) :
    meterCase s.mtr.recs[b].baseline s.mtr.gapLimit r = .gap dt := by
  rw [has, meterCase, if_neg (by simp [fresh]), is, if_neg (not_le.2 near), if_pos gap]

theorem meterCase_normal {dt : Nat} (is : deltaT r.timestamp base = dt) (has : s.mtr.recs[b].baseline = some base)
    (fresh : r.wasStale = false) (near : dt < 2147483648) (normal : ¬ (s.mtr.gapLimit < dt ∧ r.nominal < dt)) :
    meterCase s.mtr.recs[b].baseline s.mtr.gapLimit r = .normal dt := by
  rw [has, meterCase, if_neg (by simp [fresh]), is, if_neg (not_le.2 near), if_neg normal]

end
end Sys2Proof.Machine
end

section
open Sys2Proof Sys2Proof.Machine

/-- Settles O18: the case of R126 by the baseline, the stale note and Δt; then the increment by the berth's slot. -/
theorem energyIsCarried : Obligations.EnergyIsCarried := by
  refine ⟨?_, fun b inc s => ?_⟩
  · intro b r s m change noted unmetered restarted
    refine ⟨fun none => meterRecord_case (c := .start) (by rw [none]; rfl), fun base has => ?_⟩
    intro dt
    have is : deltaT r.timestamp base = dt := rfl
    clear_value dt
    refine ⟨fun stale none => ?_, fun a stale at_ => ?_, fun fresh far => ?_, fun fresh near limit nominal => ?_,
      fun fresh near normal => ?_⟩
    · refine (meterRecord_case (meterCase_restart has stale)).trans ?_
      rw [meterWork, none]
      rfl
    · refine (meterRecord_case (meterCase_restart has stale)).trans ?_
      rw [meterWork, at_]
      dsimp only
      rw [addUnmetered_eq rfl]
      rfl
    · exact meterRecord_case (meterCase_backward is has fresh far)
    · refine (meterRecord_case (meterCase_gap is has fresh near ⟨limit, nominal⟩)).trans ?_
      have rem : (integrate b (r.pCal * r.nominal)
          (s.modMeter b fun m => { m with gapCount := count16 m.gapCount })).mtr.recs[b].unmeteredRem =
          s.mtr.recs[b].unmeteredRem :=
        (integrate_rem ..).trans (upd_field s.mtr.recs b _ MeterRec.unmeteredRem fun _ => rfl)
      have quiet : (integrate b (r.pCal * r.nominal)
          (s.modMeter b fun m => { m with gapCount := count16 m.gapCount })).handoffs = s.handoffs := by simp
      rw [meterWork, addUnmetered_eq rem]
      refine (noted_post ..).trans ?_
      rw [quiet]
      rfl
    · exact meterRecord_case (meterCase_normal is has fresh near normal)
  · obtain ⟨r, is⟩ | shut := slot_cases s b
    · intro t imp ret
      have taken : t = _ := integrate_open is inc
      have isOpen := sessionOpen_slot is
      rw [taken]
      refine ⟨?_, fun x at_ band => ?_, fun not => absurd isOpen (by simp [not]), fun c other => ?_, rfl⟩
      · rw [isOpen]
        exact upd_self ..
      · obtain rfl : r = x := by simpa [is] using at_
        refine ⟨_, upd_self .., fun i => ?_, rfl⟩
        show (Vector.ofFn _)[i.val] = _
        rw [Vector.getElem_ofFn]
        exact add_ite_zero _ _ _
      · exact ⟨upd_other _ _ (Ne.symm other), rfl, upd_other _ _ (Ne.symm other)⟩
    · intro t imp ret
      have taken : t = _ := integrate_shut shut inc
      rw [taken]
      refine ⟨?_, fun x at_ => absurd (sessionOpen_slot at_) (by simp [shut]), fun _ fits => ⟨rfl, ?_⟩, fun c other => ?_, rfl⟩
      · rw [shut]
        exact upd_self ..
      · refine (upd_self ..).trans ?_
        have importFits := (fits b).1
        have same : (if importSum s b inc / 3600000000 = 0 then s.mtr.unbilled[b].importWh
            else sat64 s.mtr.unbilled[b].importWh (importSum s b inc / 3600000000)) =
            min (s.mtr.unbilled[b].importWh + importSum s b inc / 3600000000) Config.u64Max := by
          split
          next zero => rw [zero, Nat.add_zero, min_eq_left importFits]
          · rfl
        exact congrArg (fun wh => ({ s.mtr.unbilled[b] with
          importWh := wh
          returnedWh := sat64 s.mtr.unbilled[b].returnedWh (returnedSum s b inc / 3600000000) } : Unbilled)) same
      · exact ⟨upd_other _ _ (Ne.symm other), upd_other _ _ (Ne.symm other), rfl⟩

end

section
namespace Sys2Proof.Machine

/-! ### The band of a second (R129, R142) -/

/-- Entries that start later leave the band as it is. -/
theorem bandOf_later {sec : Nat} : ∀ {xs : List (Nat × Nat)} (band : Nat), (∀ x ∈ xs, sec < x.1) →
    xs.foldl (fun band e => if e.1 ≤ sec then e.2 else band) band = band
  | [], _, _ => rfl
  | x :: xs, band, later => by
    have first : ¬ x.1 ≤ sec := not_le.2 (later x List.mem_cons_self)
    rw [List.foldl_cons, if_neg first]
    exact bandOf_later band fun y hy => later y (List.mem_cons_of_mem _ hy)

/-- Behind an entry that has started, the band is that of the last entry that has. -/
theorem bandOf_started {sec : Nat} : ∀ {xs : List (Nat × Nat)} (e : Nat × Nat), e.1 ≤ sec →
    ((e :: xs).map Prod.fst).Pairwise (· < ·) →
    ∃ a ∈ e :: xs, a.1 ≤ sec ∧ (∀ x ∈ e :: xs, x.1 ≤ sec → x.1 ≤ a.1) ∧
      xs.foldl (fun band e => if e.1 ≤ sec then e.2 else band) e.2 = a.2
  | [], e, started, _ => ⟨e, List.mem_cons_self, started, fun x hx _ => by rw [List.mem_singleton.1 hx], rfl⟩
  | x :: xs, e, started, rising => by
    simp only [List.map_cons, List.pairwise_cons] at rising
    obtain ⟨above, rest, later⟩ := rising
    by_cases next : x.1 ≤ sec
    · obtain ⟨a, mem, ha, greatest, fold⟩ := bandOf_started x next (xs := xs)
        (by rw [List.map_cons, List.pairwise_cons]; exact ⟨rest, later⟩)
      refine ⟨a, List.mem_cons_of_mem _ mem, ha, fun y hy le => ?_, ?_⟩
      · obtain rfl | hy := List.mem_cons.1 hy
        · exact (above x.1 List.mem_cons_self).le.trans (greatest x List.mem_cons_self next)
        · exact greatest y hy le
      · rw [List.foldl_cons, if_pos next]
        exact fold
    · have after : ∀ y ∈ x :: xs, sec < y.1 := by
        intro y hy
        obtain rfl | hy := List.mem_cons.1 hy
        · exact not_le.1 next
        · exact (not_le.1 next).trans (rest y.1 (List.mem_map_of_mem hy))
      refine ⟨e, List.mem_cons_self, started, fun y hy le => ?_, bandOf_later e.2 after⟩
      obtain rfl | hy := List.mem_cons.1 hy
      · exact le_rfl
      · exact absurd le (not_le.2 (after y hy))

theorem bandOf_greatest {schedule : List (Nat × Nat)} (sec : Nat) (h : startsOk (schedule.map Prod.fst) = true) :
    ∃ e ∈ schedule, e.1 ≤ sec ∧ (∀ x ∈ schedule, x.1 ≤ sec → x.1 ≤ e.1) ∧ bandOf schedule sec = e.2 := by
  obtain ⟨first, rising⟩ := (startsOk_iff _).1 h
  cases schedule with
  | nil => exact nomatch first
  | cons e xs =>
    have started : e.1 ≤ sec := by
      have zero : e.1 = 0 := Option.some.inj first
      rw [zero]
      exact Nat.zero_le _
    obtain ⟨a, mem, ha, greatest, fold⟩ := bandOf_started e started rising
    refine ⟨a, mem, ha, greatest, ?_⟩
    rw [bandOf, List.foldl_cons, if_pos started]
    exact fold

/-! ### Opening and closing a session (R136, R148, R150 to R152) -/

section
variable {s u : State} {b : Berth}

theorem openSession_reserved {i : Fin 4} (slot : s.slot b = .reserved) (current : s.blg.current = some i) :
    openSession b s = { s with
      blg := { s.blg with
        slots := upd s.blg.slots b fun _ => .openSlot (newSession b (shipIdentOf s b) i s.clock)
        sets := upd s.blg.sets i fun x => { x with bound := x.bound + 1 } }
      mtr := { s.mtr with recs := upd s.mtr.recs b fun x => { x with demandAcc := 0 } } } := by
  unfold openSession
  rw [slot, current]
  rfl

theorem openSession_other (h : s.slot b ≠ .reserved ∨ s.blg.current = none) : openSession b s = s := by
  unfold openSession
  split
  next slot current =>
    obtain h | h := h
    · exact absurd slot h
    · rw [h] at current
      exact nomatch current
  · rfl

theorem closeSession_shut (h : ∀ r, s.slot b ≠ .openSlot r) (why : EndReason) : closeSession b why s = s := by
  unfold closeSession
  split
  next r slot => exact absurd slot (h r)
  · rfl

/-- R145, R150: the record takes the place of the slot. -/
theorem sum_closed {r x : Session} {g : Blg} (slot : s.slot b = .openSlot r)
    (slots : g.slots = upd s.blg.slots b fun _ => .free) (log : g.log = s.blg.log ++ [x]) : g.sum = s.blg.sum := by
  have held : s.blg.slots[b] = .openSlot r := slot
  have count := taken_upd s.blg b .free
  rw [if_neg (by rw [held]; exact Slot.noConfusion), if_pos rfl] at count
  have taken : g.taken + 1 = s.blg.taken := by
    rw [Blg.taken, slots]
    exact count
  rw [Blg.sum, Blg.sum, log, List.length_append, List.length_singleton]
  omega

theorem closeSession_open {r : Session} (slot : s.slot b = .openSlot r) (why : EndReason) :
    closeSession b why s = { s with
      blg := { s.blg with
        slots := upd s.blg.slots b fun _ => .free
        sets := upd s.blg.sets r.set fun x => { x with bound := x.bound - 1 }
        log := s.blg.log ++ [closedRecord s b why r]
        counter := s.blg.counter + 1
        logFull := decide (s.blg.taken + s.blg.log.length = 32) }
      mtr := { s.mtr with recs := upd s.mtr.recs b fun x => { x with demandAcc := 0 } }
      handoffs := s.handoffs ++ if s.blg.taken + s.blg.log.length = 32 then [.raise evLogFull] else [] } := by
  unfold closeSession
  rw [slot]
  by_cases full : s.blg.taken + s.blg.log.length = 32
  · refine (if_pos ((sum_closed slot rfl rfl).trans full)).trans ?_
    simp only [full, decide_true, if_true]
    rfl
  · refine (if_neg fun e => full ((sum_closed slot rfl rfl).symm.trans e)).trans ?_
    simp only [full, decide_false, if_false, List.append_nil]
    rfl

/-- R148: the opening reads and changes BLG and MTR, and reads the ship record. -/
theorem openSession_congr (blg : u.blg = s.blg) (mtr : u.mtr = s.mtr) (ships : u.bsq.ships = s.bsq.ships) :
    (openSession b u).blg = (openSession b s).blg ∧ (openSession b u).mtr = (openSession b s).mtr := by
  have slots : u.slot b = s.slot b := by rw [State.slot, blg, State.slot]
  by_cases none : s.slot b ≠ .reserved ∨ s.blg.current = none
  · rw [openSession_other none, openSession_other (by rw [slots, blg]; exact none)]
    exact ⟨blg, mtr⟩
  · obtain ⟨slot, current⟩ := not_or.1 none
    obtain ⟨i, current⟩ := Option.ne_none_iff_exists'.1 current
    rw [openSession_reserved (not_not.1 slot) current,
      openSession_reserved (slots.trans (not_not.1 slot)) ((congrArg Blg.current blg).trans current)]
    simp only [blg, mtr, shipIdentOf, ships, State.clock, and_self]

/-- R150: the close reads and changes BLG and MTR. -/
theorem closeSession_congr (why : EndReason) (blg : u.blg = s.blg) (mtr : u.mtr = s.mtr) :
    (closeSession b why u).blg = (closeSession b why s).blg ∧ (closeSession b why u).mtr = (closeSession b why s).mtr := by
  have slots : u.slot b = s.slot b := by rw [State.slot, blg, State.slot]
  by_cases none : ∀ r, s.slot b ≠ .openSlot r
  · rw [closeSession_shut none, closeSession_shut fun r => by rw [slots]; exact none r]
    exact ⟨blg, mtr⟩
  · obtain ⟨r, slot⟩ := not_forall.1 none
    rw [closeSession_open (not_not.1 slot), closeSession_open (slots.trans (not_not.1 slot))]
    simp only [blg, mtr, closedRecord, closingDemand, State.clock, and_self]

/-- R148: the session is opened, the berth keeps its state. -/
theorem openSession_state (b : Berth) (s : State) : ((openSession b s).berth b).state = (s.berth b).state := by
  rw [openSession_berth]

end
end Sys2Proof.Machine
end

section
namespace Sys2Proof.Machine

section
variable {s t u : State} {b : Berth} {x : Byte} {p : List Byte}

/-! ### What is taken after a confirmed close or a release (R53, R76, R90) -/

/-- A hand-off that leaves billing, metering and the state of berth `b` as they are. -/
def Handoff.Spent (b : Berth) (s : State) (h : Handoff) : Prop :=
  h.Cancels ∨ h = .summary b ∧ (s.berth b).state ∈ [.dead, .releasing]

theorem serveChannelsTaken_same (s : State) : (serveChannelsTaken s).blg = s.blg ∧ (serveChannelsTaken s).mtr = s.mtr ∧
    (serveChannelsTaken s).berth b = s.berth b := by
  simp [State.berth]

theorem takeHandoff_spent {h : Handoff} (spent : h.Spent b s) (rest : ∀ y ∈ s.handoffs, y.Spent b s) :
    ((takeHandoff h s).blg = s.blg ∧ (takeHandoff h s).mtr = s.mtr ∧
      ((takeHandoff h s).berth b).state = (s.berth b).state) ∧
      ∀ y ∈ (takeHandoff h s).handoffs, y.Spent b (takeHandoff h s) := by
  obtain cancels | ⟨rfl, released⟩ := spent
  · obtain same | rfl := takeCancelled cancels s
    · rw [same]
      exact ⟨⟨rfl, rfl, rfl⟩, rest⟩
    · obtain ⟨blg, mtr, berth⟩ := serveChannelsTaken_same (b := b) s
      refine ⟨⟨blg, mtr, congrArg BerthRec.state berth⟩, fun y hy => ?_⟩
      obtain ⟨gs, e, given⟩ := (serveChannelsTaken_aside (b := b) s).handed
      rw [show (takeHandoff .serveChannels s).handoffs = s.handoffs ++ gs from e] at hy
      have still : ((takeHandoff .serveChannels s).berth b).state = (s.berth b).state := congrArg BerthRec.state berth
      obtain old | new := List.mem_append.1 hy
      · exact (rest y old).imp id fun ⟨is, state⟩ => ⟨is, by rw [still]; exact state⟩
      · exact .inl (given y new)
  · have taken : summaryTaken b s = s ∨
        summaryTaken b s = s.modBerth b fun r => { r with summary := summaryOf s b } := by
      unfold summaryTaken
      split
      · exact .inl rfl
      · exact .inr (actOnSummary_released (by rw [State.berth_modBerth]; exact released))
    obtain same | noted := taken
    · rw [show takeHandoff (.summary b) s = s from same]
      exact ⟨⟨rfl, rfl, rfl⟩, rest⟩
    · have state : ((s.modBerth b fun r => { r with summary := summaryOf s b }).berth b).state = (s.berth b).state := by
        rw [State.berth_modBerth]
      rw [show takeHandoff (.summary b) s = s.modBerth b fun r => { r with summary := summaryOf s b } from noted]
      exact ⟨⟨rfl, rfl, state⟩, fun y hy => (rest y hy).imp id fun ⟨is, old⟩ => ⟨is, by rw [state]; exact old⟩⟩

theorem drain_spent (spent : ∀ y ∈ s.handoffs, y.Spent b s) (n : Nat) :
    (drain n s).blg = s.blg ∧ (drain n s).mtr = s.mtr ∧ ((drain n s).berth b).state = (s.berth b).state := by
  induction n generalizing s with
  | zero => exact ⟨rfl, rfl, rfl⟩
  | succ n ih =>
    cases e : s.handoffs with
    | nil =>
      rw [drain_nil _ e]
      exact ⟨rfl, rfl, rfl⟩
    | cons h rest =>
      rw [drain_cons n e]
      rw [e, List.forall_mem_cons] at spent
      obtain ⟨⟨blg, mtr, state⟩, left⟩ := takeHandoff_spent (s := { s with handoffs := rest }) spent.1 spent.2
      obtain ⟨blg', mtr', state'⟩ := ih left
      exact ⟨blg'.trans blg, mtr'.trans mtr, state'.trans state⟩

/-- A first hand-off after which only spent ones wait. -/
theorem settle_spent {h : Handoff} {rest : List Handoff} (handed : s.handoffs = h :: rest)
    (taken : takeHandoff h { s with handoffs := rest } = t) (spent : ∀ y ∈ t.handoffs, y.Spent b t) :
    (settle s).blg = t.blg ∧ (settle s).mtr = t.mtr ∧ ((settle s).berth b).state = (t.berth b).state := by
  obtain ⟨blg, mtr, state⟩ := drain_spent spent 4095
  rw [← taken, ← drain_cons 4095 handed] at blg mtr state
  exact ⟨blg.trans (by rw [taken]), mtr.trans (by rw [taken]), state.trans (by rw [taken])⟩

theorem settle_all_spent (spent : ∀ y ∈ s.handoffs, y.Spent b s) : (settle s).blg = s.blg ∧ (settle s).mtr = s.mtr := by
  obtain ⟨blg, mtr, -⟩ := drain_spent spent Config.settleFuel
  exact ⟨blg, mtr⟩

/-- A raise that concerns its entry alone, before spent hand-offs. -/
theorem settle_raise_spent {e : EventIx} {rest : List Handoff} (handed : s.handoffs = .raise e :: rest)
    (alone : RaisesAlone e s) (spent : ∀ y ∈ rest, y.Spent b s) :
    (settle s).blg = s.blg ∧ (settle s).mtr = s.mtr := by
  have taken : takeHandoff (.raise e) { s with handoffs := rest } = raised e { s with handoffs := rest } :=
    raiseEntry_alone alone
  obtain ⟨blg, mtr, -⟩ := settle_spent (b := b) handed taken spent
  exact ⟨blg, mtr⟩

/-! ### A report of an outlet (R72) -/

theorem bstaForm_some {q : Position} (length : p.length = 4) (is : byteAt p 1 = b.val) (position : positionOf? (byteAt p 0) = some q) :
    bstaForm p = some (outlet b, q) := by
  have named : bstaTarget p = some (outlet b) := by
    rw [bstaTarget, if_neg (by omega), is, targetOf?, dif_pos (by omega)]
    rfl
  unfold bstaForm
  rw [named, position]
  exact if_pos length

/-- R72: a BSTA of an outlet. -/
theorem done_bsta {q : Position} (quiet : Quiet s) (reach : reaches s x.toNat = true) (length : p.length = 4)
    (is : byteAt p 1 = b.val) (node : (s.breaker (outlet b)).node = x.toNat) (position : positionOf? (byteAt p 0) = some q) :
    exec (.bstaFrame x p) s = .next (settle (bstaTaken (outlet b) q s)) := by
  have source : bstaSource s x.toNat p = true := bstaSource_true (t := outlet b) (by omega) is.symm node
  rw [show exec (.bstaFrame x p) s = done (handOff 6 x p) s from rfl, done_handOff quiet reach, consume_bsta, consumeBsta,
    source, bstaForm_some length is position]
  rfl

/-- R112: only OPEN acts at BSQ. -/
theorem bstaTaken_closed (b : Berth) (s : State) : bstaTaken (outlet b) .closed s =
    ownReport (outlet b) .closed (s.breaker (outlet b)).lastPosition (recordPosition (outlet b) .closed s) := by
  rw [bstaTaken, targetKind_outlet]
  rfl

/-- R72: a position OPEN is nothing to a close that is under way. -/
theorem bstaTaken_open (b : Berth) (s : State) : bstaTaken (outlet b) .openPos s =
    outletPosition b .openPos (recordPosition (outlet b) .openPos s) := by
  have own : ∀ (q : Option Position) (u : State), ownReport (outlet b) .openPos q u = u := by
    intro q u
    unfold ownReport
    split
    · rfl
    · rfl
    · exact if_neg fun is => Position.noConfusion is.1
  rw [bstaTaken, own, targetKind_outlet]

theorem closingChannel_some {c : Chan} {w : ChanWork} {k : Target} (h : s.syu.chans[c] = some w) (is : w.req.target = k)
    (closing : w.phase = .closing) : ∃ c' w', closingChannel s k = some (c', w') ∧ w'.req.target = k := by
  have found : (closingChannel s k).isSome := by
    rw [closingChannel, List.findSome?_isSome_iff]
    refine ⟨c, List.mem_finRange c, ?_⟩
    rw [h]
    simp [is, closing]
  obtain ⟨⟨c', w'⟩, e⟩ := Option.isSome_iff_exists.1 found
  obtain ⟨d, -, is'⟩ := List.exists_of_findSome?_eq_some e
  refine ⟨c', w', e, ?_⟩
  split at is'
  · cases is'
  · split at is'
    next w'' _ holds =>
      cases is'
      exact holds.1
    · cases is'

/-- R90: a breaker whose channel is closing has no dead-bus close pending. -/
theorem SyncOnce.noDead {c : Chan} {w : ChanWork} (h : SyncOnce s) (held : s.syu.chans[c] = some w) :
    s.syu.deadBus.find? (fun d => d.target = w.req.target) = none := by
  refine List.find?_eq_none.2 fun d mem is => ?_
  have target : d.target = w.req.target := by simpa using is
  obtain ⟨-, -, apart⟩ := List.nodup_append.1 h
  refine apart w.req.target (List.mem_append_right _ ?_) d.target (List.mem_map_of_mem mem) target.symm
  refine List.mem_filterMap.2 ⟨some w, ?_, rfl⟩
  rw [← held]
  exact Vector.mem_toList_iff.2 (Vector.getElem_mem c.isLt)

/-- R84: a confirmed close of an outlet is told to BSQ, and the channel is free. -/
theorem confirmEnd_outlet {c : Chan} {req : SyncReq} (is : req.target = outlet b) (s : State) :
    (confirmEnd c req s).handoffs = s.handoffs ++ [.outletResult b .success, .serveChannels] := by
  rw [confirmEnd, endRequest, is, releasePair, giveResult, targetKind_outlet]
  simp [idleChannel, State.post, dropBerthPair]

/-! ### The session opens (R102, R148) -/

/-- R29: a change between two watched states hands nothing over. -/
theorem enterState_watched {st : BerthState} (old : (s.berth b).state.watched = true) (new : st.watched = true) :
    (enterState b st s).handoffs = s.handoffs := by
  obtain ⟨l, poll, ms, e⟩ := enterState_sends b st s
  have changed : (changeState b st s).handoffs = s.handoffs := by
    simp only [changeState, watchChange, old, new, Bool.not_true, Bool.false_and, Bool.and_false, Bool.false_eq_true,
      if_false]
    (repeat' split) <;> simp
  rw [e]
  exact changed

/-- R102: SYU's success takes a berth in SYNCING to RAMP_UP with its session opened. -/
theorem outletResultTaken_success (h : (s.berth b).state = .syncing) :
    (outletResultTaken b .success s).handoffs = s.handoffs ∧ (outletResultTaken b .success s).blg = (openSession b s).blg ∧
      (outletResultTaken b .success s).mtr = (openSession b s).mtr ∧
      ((outletResultTaken b .success s).berth b).state = .rampUp := by
  rw [show outletResultTaken b .success s = enterRampUp b (openSession b s) from if_pos h]
  refine ⟨?_, by simp, by simp, by rw [enterRampUp, enterState_berth]⟩
  have state : ((startRamp b (openSession b s)).berth b).state = .syncing := by
    rw [startRamp, State.berth_modBerth, (syncTimer_record _ _).1]
    exact (openSession_state b s).trans h
  rw [enterRampUp, enterState_watched (by rw [State.berth_modBerth]; rw [state]; rfl) rfl]
  simp

/-- R102: SYU's confirmation takes a berth in DEAD_CLOSE to SHORE with its session opened. -/
theorem outletOutcomeTaken_confirmed (h : (s.berth b).state = .deadClose) :
    (outletOutcomeTaken b .confirmed s).handoffs = s.handoffs ∧
      (outletOutcomeTaken b .confirmed s).blg = (openSession b s).blg ∧
      (outletOutcomeTaken b .confirmed s).mtr = (openSession b s).mtr ∧
      ((outletOutcomeTaken b .confirmed s).berth b).state = .shore := by
  rw [show outletOutcomeTaken b .confirmed s = enterState b .shore (openSession b s) from if_pos h]
  have state := (openSession_state b s).trans h
  refine ⟨?_, by simp, by simp, by rw [enterState_berth]⟩
  rw [enterState_watched (by rw [state]; rfl) rfl]
  simp

/-- R84, R102: the confirmation of the outlet's synchronised close. -/
theorem settle_synchronised {c : Chan} {w : ChanWork} (quiet : Quiet s) (once : SyncOnce s)
    (state : (s.berth b).state = .syncing) (held : s.syu.chans[c] = some w) (is : w.req.target = outlet b)
    (closing : w.phase = .closing) :
    (settle (bstaTaken (outlet b) .closed s)).blg = (openSession b s).blg ∧
      (settle (bstaTaken (outlet b) .closed s)).mtr = (openSession b s).mtr ∧
      ((settle (bstaTaken (outlet b) .closed s)).berth b).state = .rampUp := by
  have held' : (recordPosition (outlet b) .closed s).syu.chans[c] = some w := held
  obtain ⟨c', w', found, is'⟩ := closingChannel_some held' is closing
  have noDead := SyncOnce.noDead (s := recordPosition (outlet b) .closed s) once held'
  rw [is] at noDead
  have taken : bstaTaken (outlet b) .closed s = confirmEnd c' w'.req
      (measureClose w'.req.target (w'.commandTime.getD s.now) (recordPosition (outlet b) .closed s)) := by
    rw [bstaTaken_closed, ownReport, noDead, found]
    rfl
  have handed : (bstaTaken (outlet b) .closed s).handoffs = .outletResult b .success :: [.serveChannels] := by
    rw [taken, confirmEnd_outlet is']
    simp [show s.handoffs = [] from quiet]
  have berth : ((bstaTaken (outlet b) .closed s).berth b).state = .syncing := by
    rw [taken]
    simpa [State.berth] using state
  obtain ⟨left, blg, mtr, after⟩ := outletResultTaken_success
    (s := { bstaTaken (outlet b) .closed s with handoffs := [.serveChannels] }) berth
  obtain ⟨blg', mtr', after'⟩ := settle_spent (b := b) handed rfl fun y hy => by
    rw [show takeHandoff (.outletResult b .success) = outletResultTaken b .success from rfl, left] at hy
    rw [List.mem_singleton.1 hy]
    exact .inl (.inr (.inr rfl))
  obtain ⟨sameBlg, sameMtr⟩ := openSession_congr (b := b) (s := s)
    (u := { bstaTaken (outlet b) .closed s with handoffs := [.serveChannels] })
    (by rw [taken]; simp) (by rw [taken]; simp) (by rw [taken]; simp)
  exact ⟨(blg'.trans blg).trans sameBlg, (mtr'.trans mtr).trans sameMtr, after'.trans after⟩

/-- R89, R102: the confirmation of the outlet's dead-bus close. -/
theorem settle_deadClosed (quiet : Quiet s) (state : (s.berth b).state = .deadClose)
    (pending : ∃ d ∈ s.syu.deadBus, d.target = outlet b) :
    (settle (bstaTaken (outlet b) .closed s)).blg = (openSession b s).blg ∧
      (settle (bstaTaken (outlet b) .closed s)).mtr = (openSession b s).mtr ∧
      ((settle (bstaTaken (outlet b) .closed s)).berth b).state = .shore := by
  obtain ⟨d, mem, is⟩ := pending
  obtain ⟨d', found⟩ := Option.isSome_iff_exists.1
    (List.find?_isSome (p := fun d => decide (d.target = outlet b)) |>.2 ⟨d, mem, by simpa using is⟩)
  have is' : d'.target = outlet b := by simpa using List.find?_some found
  have found' : (recordPosition (outlet b) .closed s).syu.deadBus.find? (fun d => d.target = outlet b) = some d' := found
  have taken : bstaTaken (outlet b) .closed s =
      (dropDeadClose (outlet b) (measureClose (outlet b) d'.commandTime (recordPosition (outlet b) .closed s))).post
        (.outletOutcome b .confirmed) := by
    rw [bstaTaken_closed, ownReport, found']
    dsimp only
    rw [deadCloseReport, is', giveOutcome, targetKind_outlet]
  have handed : (bstaTaken (outlet b) .closed s).handoffs = .outletOutcome b .confirmed :: [] := by
    rw [taken]
    simp [State.post, show s.handoffs = [] from quiet, dropDeadClose]
  have berth : ((bstaTaken (outlet b) .closed s).berth b).state = .deadClose := by
    rw [taken]
    simpa [State.berth] using state
  obtain ⟨left, blg, mtr, after⟩ := outletOutcomeTaken_confirmed
    (s := { bstaTaken (outlet b) .closed s with handoffs := [] }) berth
  obtain ⟨blg', mtr', after'⟩ := settle_spent (b := b) handed rfl fun y hy => by
    rw [show takeHandoff (.outletOutcome b .confirmed) = outletOutcomeTaken b .confirmed from rfl, left] at hy
    cases hy
  obtain ⟨sameBlg, sameMtr⟩ := openSession_congr (b := b) (s := s)
    (u := { bstaTaken (outlet b) .closed s with handoffs := [] })
    (by rw [taken]; simp) (by rw [taken]; simp) (by rw [taken]; simp)
  exact ⟨(blg'.trans blg).trans sameBlg, (mtr'.trans mtr).trans sameMtr, after'.trans after⟩

/-! ### The session closes (R112, R113, R150) -/

/-- R113: what a release hands over where no reservation is to be freed. -/
theorem enterReleasing_spent (listed : ModulesListed s) (slot : s.slot b ≠ .reserved) :
    ∃ hs, (enterReleasing b s).handoffs = s.handoffs ++ hs ∧ ∀ h ∈ hs, h.Cancels ∨ h = .summary b := by
  obtain ⟨c, hc⟩ := exists_other b
  have none : freeSlot b (cancelSync (outlet b) s) = cancelSync (outlet b) s :=
    freeSlot_other (by rw [State.slot, show (cancelSync (outlet b) s).blg = s.blg by simp]; exact slot)
  have cancelled := cancelSync_aside (b := c) (fun e => hc (outlet_injective e)) s
  have released := releaseBerth_aside (b := c) b (cancelSync (outlet b) s)
  rw [cancelled.list, cancelled.lists] at released
  have entered := ((cancelled.mono le_rfl fun h is => (.inl is : h.OfRelease s.mpm.lists (s.list b))).trans released).trans
    (enterState_unwatched (st := .releasing) hc rfl _)
  have emptied : Aside c 1 (Handoff.OfRelease s.mpm.lists (s.list b))
      (enterState b .releasing (releaseBerth b (cancelSync (outlet b) s)))
      (listEmptyTaken b (enterState b .releasing (releaseBerth b (cancelSync (outlet b) s)))) := by
    unfold listEmptyTaken
    split
    · exact enterDead_aside hc _
    · exact .refl c 1 _ _
  obtain ⟨hs, e, given⟩ := (entered.trans emptied).handed
  refine ⟨hs, by rw [enterReleasing, none]; exact e, fun h mem => ?_⟩
  obtain cancels | ⟨d, ⟨m, hm, hd⟩, rfl⟩ := given h mem
  · exact .inl cancels
  · obtain rfl : b = d := listed.2.1 b d m hm hd
    exact .inr rfl

theorem enterReleasing_released_state (b : Berth) (s : State) : ((enterReleasing b s).berth b).state ∈ [.dead, .releasing] := by
  rw [enterReleasing, listEmptyTaken]
  split
  · rw [enterDead, enterState_berth]
    exact List.mem_cons_self
  · rw [enterState_berth]
    exact List.mem_cons_of_mem _ List.mem_cons_self

theorem enterReleasing_blg (slot : s.slot b ≠ .reserved) : (enterReleasing b s).blg = s.blg := by
  have none : freeSlot b (cancelSync (outlet b) s) = cancelSync (outlet b) s :=
    freeSlot_other (by rw [State.slot, show (cancelSync (outlet b) s).blg = s.blg by simp]; exact slot)
  rw [enterReleasing, none]
  simp

/-- R112, R150: the outlet of a berth in OPENING reported open. -/
theorem settle_opened {r : Session} (quiet : Quiet s) (slot : s.slot b = .openSlot r) (state : (s.berth b).state = .opening)
    (noted : (s.berth b).openNoted < s.now) (alone : RaisesAlone evLogFull s) (listed : ModulesListed s) :
    (settle (bstaTaken (outlet b) .openPos s)).blg = (closeSession b .normal s).blg ∧
      (settle (bstaTaken (outlet b) .openPos s)).mtr = (closeSession b .normal s).mtr := by
  generalize hu : (recordPosition (outlet b) .openPos s).modBerth b (fun r => { r with openDue := none }) = u
  have taken : bstaTaken (outlet b) .openPos s = enterReleasing b (closeSession b .normal u) := by
    rw [bstaTaken_open, ← hu]
    exact (if_neg (not_not.2 rfl)).trans ((if_pos state).trans (if_pos noted))
  have blgU : u.blg = s.blg := by rw [← hu]; simp
  have mtrU : u.mtr = s.mtr := by rw [← hu]; simp
  have slotU : u.slot b = .openSlot r := by rw [State.slot, blgU]; exact slot
  obtain ⟨blg, mtr⟩ := closeSession_congr (b := b) (s := s) (u := u) .normal blgU mtrU
  have closed := closeSession_open slotU .normal
  have free : (closeSession b .normal u).slot b ≠ .reserved := by
    rw [closed]
    show (upd u.blg.slots b fun _ => Slot.free)[b] ≠ .reserved
    rw [upd_fin, if_pos rfl]
    exact Slot.noConfusion
  have listedU : ModulesListed (closeSession b .normal u) := by
    have mpm : (closeSession b .normal u).mpm = s.mpm := by rw [← hu]; simp
    simp only [ModulesListed, State.list, State.modu, mpm]
    exact listed
  obtain ⟨hs, handed, spent⟩ := enterReleasing_spent listedU free
  have released := enterReleasing_released_state b (closeSession b .normal u)
  have before : u.handoffs = [] := by rw [← hu]; simpa using (show s.handoffs = [] from quiet)
  have same : (enterReleasing b (closeSession b .normal u)).blg = (closeSession b .normal s).blg ∧
      (enterReleasing b (closeSession b .normal u)).mtr = (closeSession b .normal s).mtr :=
    ⟨(enterReleasing_blg free).trans blg, Eq.trans (by simp [enterReleasing]) mtr⟩
  rw [taken]
  by_cases full : u.blg.taken + u.blg.log.length = 32
  · have raises : (enterReleasing b (closeSession b .normal u)).handoffs = .raise evLogFull :: hs := by
      rw [handed, closed]
      simp [before, full]
    have quietly : RaisesAlone evLogFull (enterReleasing b (closeSession b .normal u)) := by
      have entries : (enterReleasing b (closeSession b .normal u)).evr.entries = s.evr.entries := by
        rw [enterReleasing_entries, ← hu]
        simp
      simp only [RaisesAlone, State.event, entries]
      exact alone
    obtain ⟨blg', mtr'⟩ := settle_raise_spent (b := b) raises quietly fun h mem =>
      (spent h mem).imp id fun is => ⟨is, released⟩
    exact ⟨blg'.trans same.1, mtr'.trans same.2⟩
  · have none : (enterReleasing b (closeSession b .normal u)).handoffs = hs := by
      rw [handed, closed]
      simp [before, full]
    obtain ⟨blg', mtr'⟩ := settle_all_spent (b := b) (s := enterReleasing b (closeSession b .normal u)) fun h mem => by
      rw [none] at mem
      exact (spent h mem).imp id fun is => ⟨is, released⟩
    exact ⟨blg'.trans same.1, mtr'.trans same.2⟩

end
end Sys2Proof.Machine
end

section
open Sys2Proof Sys2Proof.Machine

/-- Settles O19: the opening and the close are computed; of what a report of the outlet hands over, only SYU's result
reaches BLG, and what is taken after it leaves billing and metering as they are. -/
theorem sessionsBilled : Obligations.SessionsBilled := by
  refine ⟨fun schedule sec => bandOf_greatest sec, fun b s => ⟨fun i => openSession_reserved, openSession_other,
    closeSession_shut, fun r why => (closeSession_open · why)⟩, ?_⟩
  intro src p b s quiet reach once length is node
  refine ⟨fun i position _ _ confirms => ?_, fun r position slot state noted alone listed => ?_⟩
  · refine ⟨_, done_bsta quiet reach length is node (by rw [position]; rfl), ?_⟩
    obtain ⟨state, c, w, held, target, closing⟩ | ⟨state, pending⟩ := confirms
    · rw [if_pos state]
      exact settle_synchronised quiet once state held target closing
    · rw [if_neg (by rw [state]; exact BerthState.noConfusion)]
      exact settle_deadClosed quiet state pending
  · exact ⟨_, done_bsta quiet reach length is node (by rw [position]; rfl),
      settle_opened quiet slot state noted alone listed⟩

end

section
namespace Sys2Proof.Machine

section
variable {s t : State} {b : Berth} {x : Byte}

/-! ### The end of a reset (R55, R98, R122, R124) -/

/-- SYU has no work that a stop would end, and BSQ neither a berth to trip nor a trip demand. -/
structure State.Rested (s : State) : Prop where
  chans : ∀ c : Chan, s.syu.chans[c] = none
  deadBus : s.syu.deadBus = []
  states : ∀ b, (s.berth b).state.active = false
  demand : ∀ b, (s.berth b).demand = false

theorem driveOutputs_rested (h : s.Rested) : driveOutputs s =
    { s with evr := { s.evr with outputs := Vector.replicate 4 s.pins.estop } } := by
  have outputs : (Vector.ofFn fun b : Fin 4 => s.bsq.recs[b].demand || s.pins.estop) = Vector.replicate 4 s.pins.estop := by
    ext i hi
    have none : s.bsq.recs[i].demand = false := h.demand ⟨i, hi⟩
    rw [Vector.getElem_ofFn, Vector.getElem_replicate]
    exact (congrArg (· || s.pins.estop) none).trans (Bool.false_or _)
  unfold driveOutputs
  rw [outputs]
  rfl

/-- R91: a stop finds nothing to end in SYU. -/
theorem syuEstop_rested (chans : ∀ c : Chan, s.syu.chans[c] = none) (deadBus : s.syu.deadBus = []) : syuEstop s = s := by
  have idle : ∀ c, estopChannel c s = s := fun c => by
    unfold estopChannel
    rw [chans c]
  unfold syuEstop
  dsimp only
  rw [idle 0, idle 1, deadBus]
  rfl

/-- R122, R124: the input found asserted, or the outputs driven, where nothing is to be ended. -/
theorem estopAtEnd_rested (h : s.Rested) : estopAtEnd s = { s with
    bsq := { s.bsq with estopRepeat := if s.pins.estop then some (s.now + 100) else s.bsq.estopRepeat }
    evr := { s.evr with outputs := Vector.replicate 4 s.pins.estop }
    handoffs := s.handoffs ++ if s.pins.estop then [.raise evEstop] else [] } := by
  unfold estopAtEnd
  by_cases stop : s.pins.estop = true
  · have pins : s.modPins (fun p => { p with estop := true }) = s := by
      rw [State.modPins, ← stop]
    have none : ∀ u : State, (∀ b, (u.berth b).state.active = false) →
        allBerths.foldl (fun s b => tripBerth b .estop s) u = u := fun u states =>
      List.foldl_fixed' (fun b => tripBerth_inactive (states b) .estop) _
    rw [if_pos stop, estopTaken, pins]
    dsimp only
    rw [syuEstop_rested (s := driveOutputs s) h.chans h.deadBus, none (driveOutputs s) h.states, driveOutputs_rested h]
    simp only [stop, if_true]
    rfl
  · rw [if_neg stop, driveOutputs_rested h]
    simp only [Bool.eq_false_iff.2 stop, Bool.false_eq_true, if_false, List.append_nil]

/-- A raise that concerns its entry alone is all that waits. -/
theorem settle_sole {e : EventIx} (handed : s.handoffs = [.raise e]) (alone : RaisesAlone e s) :
    settle s = raised e { s with handoffs := [] } := by
  have posted : s = ({ s with handoffs := [] } : State).post (.raise e) := by
    show s = { s with handoffs := [.raise e] }
    rw [← handed]
  exact (congrArg settle posted).trans (settle_raise rfl alone)

/-- R55: without installed modules no contactor is commanded. -/
theorem openContactors_none (h : ∀ m : Module, s.mpm.table[m].installed = false) : openContactors s = s :=
  List.foldl_fixed' (fun m => by
    unfold openContactor
    rw [h m]
    rfl) _

/-- R98: without configured berths no notice is given. -/
theorem deadNotices_none (h : ∀ b, (s.entry b).configured = false) : deadNotices s = s :=
  List.foldl_fixed' (fun b => by
    unfold deadNotice
    rw [h b]
    rfl) _

/-! ### A cold reset -/

theorem coldWith_rested (pins : Pins) (nid opn bln : BitVec 6) (now overrun : Nat) (pending : List Instr) :
    (State.coldWith pins nid opn bln now overrun pending).Rested where
  chans := by simp [State.coldWith, Syu.cold]
  deadBus := rfl
  states b := by simp [State.coldWith, State.berth, Bsq.cold, BerthRec.cleared, BerthState.active]
  demand b := by simp [State.coldWith, State.berth, Bsq.cold, BerthRec.cleared]

/-- What a cold reset leaves before what it hands over is taken. -/
theorem coldReset_eq (nid opn bln : BitVec 6) (s : State) : coldReset nid opn bln s =
    { State.coldWith s.pins nid opn bln s.now s.overrun s.pending with
      bsq := { Bsq.cold with estopRepeat := if s.pins.estop then some (s.now + 100) else none }
      evr := { Evr.cold with outputs := Vector.replicate 4 s.pins.estop }
      handoffs := if s.pins.estop then [.raise evEstop] else [] } := by
  have contactors := openContactors_none (s := .coldWith s.pins nid opn bln s.now s.overrun s.pending)
    fun m => by simp [State.coldWith, Mpm.cold]
  have notices := deadNotices_none (s := .coldWith s.pins nid opn bln s.now s.overrun s.pending)
    fun b => by simp [State.coldWith, State.entry, Bsq.cold, BerthEntry.cold]
  have log : evalLogFull (.coldWith s.pins nid opn bln s.now s.overrun s.pending) =
      .coldWith s.pins nid opn bln s.now s.overrun s.pending := evalLogFull_room (show Blg.cold.sum ≠ 32 by decide)
  rw [coldReset, resetEnd, contactors, notices, log, estopAtEnd_rested (coldWith_rested ..)]
  rfl

/-- R170, R122: the event table of a cold reset once ESTOP has been raised where the input is asserted. -/
theorem coldEntries (stop : Bool) :
    (if stop then upd Evr.cold.entries evEstop (EventEntry.raised (0, 0)) else Evr.cold.entries) =
      Vector.ofFn fun i : Fin 100 => ({
        enabled := false, notifyOperator := false, notifyBilling := false, notifyShip := false
        action := if i.val = 99 then .tripAll else if i.val < 56 ∧ i.val % 14 = 9 then .tripBerth else .none
        raw := stop && i.val = 99, count := 0, clock := if stop && i.val = 99 then some (0, 0) else none } : EventEntry) := by
  cases stop
  · rfl
  · ext i hi
    rw [if_pos rfl, upd_get, Vector.getElem_ofFn]
    by_cases last : i = 99
    · subst last
      rfl
    · have other : ¬ (evEstop.val = i) := fun is => last is.symm
      rw [if_neg other]
      simp [Evr.cold, EventEntry.cold, coldAction, last]

end
end Sys2Proof.Machine
end

section
open Sys2Proof Sys2Proof.Machine

/-- Settles O20: at the end of a cold reset nothing is installed, configured or under way, and ESTOP, not enabled, is
raised alone where its input is asserted. -/
theorem coldResetClears : Obligations.ColdResetClears := by
  intro nid opn bln s
  have entries := coldEntries s.pins.estop
  refine congrArg Host.Outcome.next ?_
  show settle (coldReset nid opn bln { s with handoffs := [] }) = _
  rw [coldReset_eq]
  dsimp only
  rw [← entries]
  clear entries
  cases stop : s.pins.estop
  · exact settle_quiet rfl
  · exact settle_sole rfl (.inr rfl)

end

section
namespace Sys2Proof.Machine

section
variable {nid : BitVec 6} {now k r d : Nat} {cs : List Bcmd} {ns : List (Nat × Notice)} {l : Lpu} {s : State} {c : Bcmd}
  {body : Notice}

/-! ### What the end of a reset gives the LPU (R17, R55, R98) -/

/-- What makes the own frames of the end of a reset: the command stands in PROTECT or the command list, or egress has
begun it. -/
def Lpu.Commanded (c : Bcmd) (l : Lpu) : Prop :=
  c ∈ l.protect ∨ c ∈ l.commandList ∨ ∃ l₀ : Lpu, l = l₀.begun c.dest 5 0 c.payload

theorem commandGiven_iff (c : Bcmd) (t : State) : CommandGiven c t ↔ t.lpu.Commanded c := Iff.rfl

/-- An LPU that began at `now` and has since been given the commands `cs`, the notices `ns` and at most `k` frames for
the REPLY queue, with `r` places of it reserved. -/
structure Lpu.Restarted (nid : BitVec 6) (now : Nat) (cs : List Bcmd) (ns : List (Nat × Notice)) (k r : Nat) (l : Lpu) :
    Prop where
  strap : l.nid = nid
  loss : l.lossIndicator = false ∧ l.lossDue = now + 20
  forward : l.forward = []
  reservations : l.reservations = r
  reply : (∀ p ∈ l.reply, p.refusal = false) ∧ l.reply.length ≤ k
  seq : l.seq = l.counters.sent
  sent : l.counters.sent = if l.sending = none then 0 else 1
  counters : l.counters = { LinkCounters.zero with
    sent := l.counters.sent, shpnLost := l.counters.shpnLost, noteLost := l.counters.noteLost }
  commands : ∀ x ∈ l.protect ++ l.commandList, x ∈ cs
  control : (∀ p ∈ l.control, ∃ n ∈ ns, p = ⟨.shpn n.1 n.2, now, false⟩) ∧ l.control.length ≤ ns.length
  works : l.Works
  given : strapNode nid ≠ none → l.counters.shpnLost = 0 ∧ (∀ x ∈ cs, l.Commanded x) ∧
    (∀ n ∈ ns, l.Noticed n.1 n.2 now) ∧ (k + r ≤ 15 → l.counters.noteLost = 0)

theorem Lpu.cold_restarted (nid : BitVec 6) (now : Nat) : (Lpu.cold nid now).Restarted nid now [] [] 0 0 where
  strap := rfl
  loss := ⟨rfl, rfl⟩
  forward := rfl
  reservations := rfl
  reply := ⟨fun _ h => (nomatch h), le_rfl⟩
  seq := rfl
  sent := rfl
  counters := rfl
  commands _ h := nomatch h
  control := ⟨fun _ h => (nomatch h), le_rfl⟩
  works _ := ⟨rfl, rfl, rfl, rfl, rfl⟩
  given _ := ⟨rfl, fun _ h => (nomatch h), fun _ h => (nomatch h), fun _ => rfl⟩

theorem Lpu.Restarted.own (h : s.lpu.Restarted nid now cs ns k r) : s.own = strapNode nid := by
  rw [State.own, h.strap]

/-- A free egress of such an LPU has been given nothing. -/
theorem Lpu.Restarted.none_given (h : l.Restarted nid now cs ns k r) (own : strapNode nid ≠ none) (free : l.sending = none) :
    cs = [] ∧ ns = [] := by
  obtain ⟨protect, list, control, -, -⟩ := h.works free
  obtain ⟨-, commanded, noticed, -⟩ := h.given own
  have notBegun : ∀ l₀ : Lpu, ∀ d k f p, l ≠ l₀.begun d k f p := fun l₀ d k f p e => by
    rw [e] at free
    exact nomatch free
  refine ⟨List.eq_nil_iff_forall_not_mem.2 fun c mem => ?_, List.eq_nil_iff_forall_not_mem.2 fun n mem => ?_⟩
  · obtain mem | mem | ⟨l₀, e⟩ := commanded c mem
    · rw [protect] at mem
      cases mem
    · rw [list] at mem
      cases mem
    · exact notBegun _ _ _ _ _ e
  · obtain mem | ⟨l₀, e⟩ := noticed n mem
    · rw [control] at mem
      cases mem
    · exact notBegun _ _ _ _ _ e

/-- The first frame given is begun at once. -/
theorem Lpu.Restarted.begun (h : l.Restarted nid now [] [] k r) (free : l.sending = none) (kind flags : Nat)
    (payload : List Byte) (cs : List Bcmd) (ns : List (Nat × Notice)) (n : Nat)
    (commanded : ∀ x ∈ cs, ∃ l₀ : Lpu, l.begun d kind flags payload = l₀.begun x.dest 5 0 x.payload)
    (noticed : ∀ x ∈ ns, (l.begun d kind flags payload).Noticed x.1 x.2 now) :
    (l.begun d kind flags payload).Restarted nid now cs ns (k + n) r := by
  obtain ⟨protect, list, control, forward, reply⟩ := h.works free
  have zero : l.counters.sent = 0 := by rw [h.sent, if_pos free]
  have one : (l.begun d kind flags payload).counters.sent = 1 := by
    show min (l.counters.sent + 1) Config.u32Max = 1
    rw [zero]
    decide
  exact {
    strap := h.strap
    loss := h.loss
    forward := h.forward
    reservations := h.reservations
    reply := ⟨h.reply.1, h.reply.2.trans (Nat.le_add_right k n)⟩
    seq := by
      rw [one]
      show (l.seq + 1) % 65536 = 1
      rw [h.seq, zero]
    sent := one
    counters := by
      have before := h.counters
      show ({ l.counters with sent := min (l.counters.sent + 1) Config.u32Max } : LinkCounters) = _
      rw [before]
      rfl
    commands := fun x mem => by
      have mem : x ∈ l.protect ++ l.commandList := mem
      rw [protect, list] at mem
      cases mem
    control := by
      have none : (l.begun d kind flags payload).control = [] := control
      rw [none]
      exact ⟨fun p mem => (nomatch mem), Nat.zero_le _⟩
    works := fun e => nomatch e
    given := fun own => by
      obtain ⟨lost, -, -, notes⟩ := h.given own
      exact ⟨lost, fun x mem => .inr (.inr (commanded x mem)), noticed, fun room => notes (by omega)⟩ }

/-- While a frame is being sent, a command waits in PROTECT or the command list. -/
theorem Lpu.Restarted.queueCommand {ps qs : List Bcmd} (h : l.Restarted nid now cs [] k r) (busy : l.sending ≠ none)
    (old : ∀ x ∈ l.protect ++ l.commandList, x ∈ ps ++ qs) (new : c ∈ ps ++ qs) (named : ∀ x ∈ ps ++ qs, x ∈ cs ++ [c]) :
    ({ l with protect := ps, commandList := qs } : Lpu).Restarted nid now (cs ++ [c]) [] k r :=
  { h with
    commands := named
    works := fun free => absurd free busy
    given := fun own => by
      obtain ⟨lost, commanded, -, notes⟩ := h.given own
      have waits : ∀ x ∈ ps ++ qs, ({ l with protect := ps, commandList := qs } : Lpu).Commanded x := fun x mem =>
        (List.mem_append.1 mem).elim .inl fun m => .inr (.inl m)
      refine ⟨lost, fun x mem => ?_, fun x mem => (nomatch mem), notes⟩
      obtain mem | mem := List.mem_append.1 mem
      · obtain mem | mem | ⟨l₀, e⟩ := commanded x mem
        · exact waits x (old x (List.mem_append_left _ mem))
        · exact waits x (old x (List.mem_append_right _ mem))
        · exact .inr (.inr ⟨{ l₀ with protect := ps, commandList := qs }, by rw [e]; rfl⟩)
      · rw [List.mem_singleton.1 mem]
        exact waits c new }

/-- R10, R55: a command for a breaker that none of the others is for. -/
theorem Lpu.Restarted.command (h : s.lpu.Restarted nid now cs [] k r) (new : ∀ x ∈ cs, x.target ≠ c.target) :
    (giveBcmd c s).lpu.Restarted nid now (cs ++ [c]) [] k r := by
  by_cases own : s.own = none
  · have same : giveBcmd c s = s := by
      rw [giveBcmd, if_pos (Option.isNone_iff_eq_none.2 own)]
    rw [same]
    rw [h.own] at own
    exact { h with
      commands := fun x mem => List.mem_append_left _ (h.commands x mem)
      given := fun some => absurd own some }
  · cases sending : s.lpu.sending with
    | none =>
      obtain ⟨rfl, -⟩ := h.none_given (by rwa [← h.own]) sending
      rw [giveBcmd_free own sending h.works]
      refine h.begun sending 5 0 c.payload [c] [] 0 (fun x mem => ?_) fun x mem => nomatch mem
      rw [List.mem_singleton.1 mem]
      exact ⟨_, rfl⟩
    | some f =>
      rw [giveBcmd_busy own sending]
      have fresh : ∀ x ∈ s.lpu.protect ++ s.lpu.commandList, x.target ≠ c.target := fun x mem => new x (h.commands x mem)
      have protect := hasCmd_none fun x mem => fresh x (List.mem_append_left _ mem)
      have list := hasCmd_none fun x mem => fresh x (List.mem_append_right _ mem)
      rw [Lpu.acceptCmd, protect, list, if_neg Bool.false_ne_true, if_neg Bool.false_ne_true]
      have busy : s.lpu.sending ≠ none := by simp [sending]
      have named : ∀ x ∈ s.lpu.protect ++ s.lpu.commandList, x ∈ cs ++ [c] := fun x mem =>
        List.mem_append_left _ (h.commands x mem)
      split
      · exact h.queueCommand busy (fun x mem => by simp at mem ⊢; tauto) (by simp) fun x mem => by
          simp only [List.mem_append, List.mem_singleton] at mem named ⊢
          obtain (mem | rfl) | mem := mem
          · exact named x (.inl mem)
          · exact .inr rfl
          · exact named x (.inr mem)
      · exact h.queueCommand busy (fun x mem => by simp at mem ⊢; tauto) (by simp) fun x mem => by
          simp only [List.mem_append, List.mem_singleton] at mem named ⊢
          obtain mem | mem | rfl := mem
          · exact named x (.inl mem)
          · exact named x (.inr mem)
          · exact .inr rfl

/-- R11, R98: a notice with room in CONTROL. -/
theorem Lpu.Restarted.notice (h : s.lpu.Restarted nid now cs ns k r) (at_ : s.now = now) (room : ns.length < 24) :
    (giveShpn d body s).lpu.Restarted nid now cs (ns ++ [(d, body)]) k r := by
  have grown : ∀ n ∈ ns, n ∈ ns ++ [(d, body)] := fun n mem => List.mem_append_left _ mem
  have length : s.lpu.control.length ≤ (ns ++ [(d, body)]).length := by
    rw [List.length_append]
    exact h.control.2.trans (Nat.le_add_right _ _)
  by_cases own : s.own = none
  · have same : giveShpn d body s = shpnLost s := by
      rw [giveShpn, if_pos (Option.isNone_iff_eq_none.2 own)]
    rw [same]
    rw [h.own] at own
    exact { h with
      counters := by
        show ({ s.lpu.counters with shpnLost := count1 s.lpu.counters.shpnLost } : LinkCounters) = _
        rw [h.counters]
        rfl
      control := ⟨fun p mem => (h.control.1 p mem).imp fun n => And.imp_left (grown n), length⟩
      given := fun some => absurd own some }
  · have free : s.lpu.control.length < 24 := h.control.2.trans_lt room
    rw [giveShpn_room own free]
    cases sending : s.lpu.sending with
    | none =>
      obtain ⟨rfl, rfl⟩ := h.none_given (by rwa [← h.own]) sending
      rw [kick_enterControl _ sending h.works]
      refine h.begun sending _ _ _ [] [(d, body)] 0 (fun x mem => nomatch mem) fun x mem => ?_
      rw [List.mem_singleton.1 mem]
      exact .inr ⟨_, rfl⟩
    | some f =>
      rw [kick_enterControl_busy _ sending, at_]
      exact { h with
        control := by
          refine ⟨fun p mem => ?_, by simpa using h.control.2⟩
          obtain mem | mem := List.mem_append.1 mem
          · exact (h.control.1 p mem).imp fun n => And.imp_left (grown n)
          · exact ⟨(d, body), by simp, List.mem_singleton.1 mem⟩
        works := fun free => by
          rw [sending] at free
          cases free
        given := fun some => by
          obtain ⟨lost, commanded, noticed, notes⟩ := h.given some
          refine ⟨lost, fun x mem => ?_, fun n mem => ?_, notes⟩
          · exact (commanded x mem).imp id (Or.imp id fun ⟨l₀, e⟩ =>
              ⟨{ l₀ with control := s.lpu.control ++ [⟨.shpn d body, now, false⟩] }, by rw [e]; rfl⟩)
          · obtain mem | mem := List.mem_append.1 mem
            · exact (noticed n mem).imp (List.mem_append_left _) fun ⟨l₀, e⟩ =>
                ⟨{ l₀ with control := s.lpu.control ++ [⟨.shpn d body, now, false⟩] }, by rw [e]; rfl⟩
            · rw [List.mem_singleton.1 mem]
              exact .inl (by simp) }

/-- R13: a frame for an ordinary place of the REPLY queue. -/
theorem Lpu.Restarted.enterReply (h : s.lpu.Restarted nid now cs ns k r) (own : strapNode nid ≠ none)
    (f : ReplyFrame) :
    (enterReply f false s).lpu.Restarted nid now cs ns (k + 1) r := by
  rw [enterReply_eq f h.works]
  show (s.lpu.replied f).Restarted nid now cs ns (k + 1) r
  unfold Lpu.replied
  split
  next sending =>
    obtain ⟨rfl, rfl⟩ := h.none_given own sending
    exact h.begun sending _ _ _ [] [] 1 (fun x mem => nomatch mem) fun x mem => nomatch mem
  next g sending =>
    exact { h with
      reply := by
        refine ⟨fun p mem => ?_, by simpa using h.reply.2⟩
        obtain mem | mem := List.mem_append.1 mem
        · exact h.reply.1 p mem
        · rw [List.mem_singleton.1 mem]
      works := fun free => by
        rw [sending] at free
        cases free
      given := fun some => by
        obtain ⟨lost, commanded, noticed, notes⟩ := h.given some
        refine ⟨lost, fun x mem => ?_, fun n mem => ?_, fun room => notes (by omega)⟩
        · exact (commanded x mem).imp id (Or.imp id fun ⟨l₀, e⟩ =>
            ⟨{ l₀ with reply := s.lpu.reply ++ [⟨f, false⟩] }, by rw [e]; rfl⟩)
        · exact (noticed n mem).imp id fun ⟨l₀, e⟩ =>
            ⟨{ l₀ with reply := s.lpu.reply ++ [⟨f, false⟩] }, by rw [e]; rfl⟩ }

/-- R13: a NOTE without a place, after `n` lost ones. -/
def Lpu.loseNote (n : Nat) (l : Lpu) : Lpu := { l with counters := { l.counters with noteLost := count1 n } }

/-- R1, R13: a NOTE; it is lost without an own node, and never while places are left. -/
theorem Lpu.Restarted.note (h : s.lpu.Restarted nid now cs ns k r) (f : ReplyFrame) :
    (giveNote f s).lpu.Restarted nid now cs ns (k + 1) r := by
  unfold giveNote
  split
  next refused =>
    rw [Bool.or_eq_true, h.own] at refused
    exact { h with
      reply := ⟨h.reply.1, h.reply.2.trans (Nat.le_succ k)⟩
      counters := by
        show ({ s.lpu.counters with noteLost := count1 s.lpu.counters.noteLost } : LinkCounters) = _
        rw [h.counters]
        rfl
      given := fun some => by
        obtain ⟨lost, commanded, noticed, -⟩ := h.given some
        refine ⟨lost, fun x mem => ?_, fun n mem => ?_, fun room => ?_⟩
        · exact (commanded x mem).imp id (Or.imp id fun ⟨l₀, e⟩ => ⟨l₀.loseNote s.lpu.counters.noteLost, by
            show s.lpu.loseNote _ = _
            rw [e]
            rfl⟩)
        · exact (noticed n mem).imp id fun ⟨l₀, e⟩ => ⟨l₀.loseNote s.lpu.counters.noteLost, by
            show s.lpu.loseNote _ = _
            rw [e]
            rfl⟩
        obtain own | full := refused
        · exact absurd (Option.isNone_iff_eq_none.1 own) some
        · have ordinary : s.lpu.ordinary ≤ k := List.countP_le_length.trans h.reply.2
          have taken := h.reservations
          simp only [Lpu.placeFree, Bool.not_eq_true', decide_eq_false_iff_not, not_lt, Config.replyPlaces] at full
          omega }
  next accepted =>
    have own : strapNode nid ≠ none := fun none => accepted (by rw [h.own, none]; rfl)
    exact h.enterReply own f

/-- R13, R172: the reserved place becomes that of the reply. -/
theorem Lpu.Restarted.reserved (h : s.lpu.Restarted nid now cs ns k 1) (own : strapNode nid ≠ none) (f : ReplyFrame) :
    (enterReserved f s).lpu.Restarted nid now cs ns (k + 1 + 1) 0 :=
  Lpu.Restarted.enterReply (s := s.modLpu fun l => { l with reservations := l.reservations - 1 })
    { h with
      reservations := by
        show s.lpu.reservations - 1 = 0
        rw [h.reservations]
      reply := ⟨h.reply.1, h.reply.2.trans (Nat.le_succ k)⟩
      given := fun some => by
        obtain ⟨lost, commanded, noticed, notes⟩ := h.given some
        refine ⟨lost, fun x mem => ?_, fun n mem => ?_, fun room => notes room⟩
        · exact (commanded x mem).imp id (Or.imp id fun ⟨l₀, e⟩ =>
            ⟨{ l₀ with reservations := s.lpu.reservations - 1 }, by show ({ s.lpu with reservations := _ } : Lpu) = _; rw [e]; rfl⟩)
        · exact (noticed n mem).imp id fun ⟨l₀, e⟩ =>
            ⟨{ l₀ with reservations := s.lpu.reservations - 1 }, by show ({ s.lpu with reservations := _ } : Lpu) = _; rw [e]; rfl⟩ } own f

end
end Sys2Proof.Machine
end

section
namespace Sys2Proof.Machine

section
variable {nid : BitVec 6} {now k r : Nat} {cs : List Bcmd} {ns : List (Nat × Notice)} {s t u : State} {b : Berth} {e : EventIx}

/-! ### Raises that meet the blocks at rest (R159, R160, R162) -/

/-- No berth can be tripped, and no ramp timer runs. -/
structure State.Still (s : State) : Prop where
  states : ∀ b, (s.berth b).state.active = false
  timers : ∀ b, (s.berth b).rampTimer = .stopped

/-- Outside the LPU and the event table `t` differs from `u` in event holds alone. -/
structure Told (u t : State) : Prop where
  pins : t.pins = u.pins
  scl : t.scl = u.scl
  mpm : t.mpm = u.mpm
  rfg : t.rfg = u.rfg
  syu : t.syu = u.syu
  table : t.bsq.table = u.bsq.table
  ships : t.bsq.ships = u.bsq.ships
  estopRepeat : t.bsq.estopRepeat = u.bsq.estopRepeat
  berth : ∀ b, t.berth b = { u.berth b with eventHold := (t.berth b).eventHold }
  mtr : t.mtr = u.mtr
  blg : t.blg = u.blg
  outputs : t.evr.outputs = u.evr.outputs
  mgu : t.mgu = u.mgu
  mlk : t.mlk = u.mlk
  now : t.now = u.now
  handoffs : t.handoffs = u.handoffs

theorem Told.refl (s : State) : Told s s := ⟨rfl, rfl, rfl, rfl, rfl, rfl, rfl, rfl, fun _ => rfl, rfl, rfl, rfl, rfl, rfl, rfl, rfl⟩

theorem Told.trans (h : Told s t) (g : Told t u) : Told s u where
  pins := g.pins.trans h.pins
  scl := g.scl.trans h.scl
  mpm := g.mpm.trans h.mpm
  rfg := g.rfg.trans h.rfg
  syu := g.syu.trans h.syu
  table := g.table.trans h.table
  ships := g.ships.trans h.ships
  estopRepeat := g.estopRepeat.trans h.estopRepeat
  berth b := by rw [g.berth b, h.berth b]
  mtr := g.mtr.trans h.mtr
  blg := g.blg.trans h.blg
  outputs := g.outputs.trans h.outputs
  mgu := g.mgu.trans h.mgu
  mlk := g.mlk.trans h.mlk
  now := g.now.trans h.now
  handoffs := g.handoffs.trans h.handoffs

theorem Told.still (h : Told s t) (rest : s.Still) : t.Still where
  states b := by rw [h.berth b]; exact rest.states b
  timers b := by rw [h.berth b]; exact rest.timers b

/-- A change of the LPU and the event table. -/
theorem Told.of_lpu_entries (l : Lpu) (es : Vector EventEntry 100) (s : State) :
    Told s { s with lpu := l, evr := { s.evr with entries := es } } :=
  ⟨rfl, rfl, rfl, rfl, rfl, rfl, rfl, rfl, fun _ => rfl, rfl, rfl, rfl, rfl, rfl, rfl, rfl⟩

theorem setEventHold_told {v : Bool} {hs : Vector Bool 4} (rest : s.Still) (b : Berth) :
    Told s (setEventHold b v (s.modEvr fun r => { r with holds := hs })) := by
  refine { Told.refl s with berth := fun c => ?_ }
  by_cases is : b = c
  · subst is
    rw [setEventHold, State.berth_modBerth]
    have still : (s.berth b).rampTimer = .stopped := rest.timers b
    simp only [BerthRec.syncTimer, State.modEvr, State.berth] at still ⊢
    rw [still]
  · have other : (setEventHold b v (s.modEvr fun r => { r with holds := hs })).berth c = s.berth c :=
      State.berth_modBerth_other _ is _
    rw [other]

theorem recomputeHold_told (rest : s.Still) (b : Berth) : Told s (recomputeHold b s) := by
  unfold recomputeHold
  dsimp only
  split
  · exact .refl s
  · exact setEventHold_told rest b

theorem recomputeHolds_told (rest : s.Still) : Told s (recomputeHolds s) := by
  have run : ∀ (bs : List Berth) (u : State), u.Still → Told u (bs.foldl (fun s b => recomputeHold b s) u) := by
    intro bs
    induction bs with
    | nil => exact fun u _ => .refl u
    | cons b bs ih => exact fun u rest => (recomputeHold_told rest b).trans (ih _ ((recomputeHold_told rest b).still rest))
  exact run allBerths s rest

/-- R164: no action of an entry of the terminal finds anything to act on. -/
theorem applyAction_rested (rest : s.Still) (single : eventFamily e = .single) : applyAction e s = s := by
  unfold applyAction
  rw [single]
  cases (s.event e).action
  case tripAll => exact List.foldl_fixed' (fun b => tripBerth_inactive (rest.states b) .event) _
  all_goals rfl

/-- R160: an entry has at most six destinations. -/
theorem noteDests_length (single : eventFamily e = .single) : ((noteDests s e).filter (destOk s)).length ≤ 6 := by
  refine (List.length_filter_le _ _).trans ?_
  have gateway : ∀ b, (gatewayOf s b).length ≤ 1 := fun b => by
    unfold gatewayOf
    split <;> simp
  have ships : (shipDests s e).length ≤ 4 := by
    unfold shipDests
    rw [single]
    have := gateway 0
    have := gateway 1
    have := gateway 2
    have := gateway 3
    simp [allBerths]
    omega
  simp only [noteDests, List.length_append]
  have : ∀ (c : Bool) (n : Nat), (if c then [n] else []).length ≤ 1 := fun c n => by cases c <;> simp
  have operator := this (s.event e).notifyOperator s.mgu.opn.toNat
  have billing := this (s.event e).notifyBilling s.mgu.bln.toNat
  have third : (if (s.event e).notifyShip then shipDests s e else []).length ≤ 4 := by
    split
    · exact ships
    · exact Nat.zero_le _
  omega

theorem giveNote_eq (f : ReplyFrame) (w : s.lpu.Works) : giveNote f s = { s with lpu := (giveNote f s).lpu } := by
  unfold giveNote
  split
  · rfl
  · rw [enterReply_eq f w]

/-- R160: notices change the LPU alone. -/
theorem giveNotes_restarted (single : eventFamily e = .single) (h : s.lpu.Restarted nid now cs ns k r) :
    ∃ l, giveNotes e s = { s with lpu := l } ∧ l.Restarted nid now cs ns (k + 6) r := by
  have run : ∀ (ds : List Nat) (u : State) (k : Nat), u.lpu.Restarted nid now cs ns k r →
      ∃ l, ds.foldl (fun t d => giveNote (noteFrame t e d) t) u = { u with lpu := l } ∧
        l.Restarted nid now cs ns (k + ds.length) r := by
    intro ds
    induction ds with
    | nil => exact fun u k h => ⟨u.lpu, rfl, h⟩
    | cons d ds ih =>
      intro u k h
      obtain ⟨l, eq, given⟩ := ih (giveNote (noteFrame u e d) u) (k + 1) (h.note _)
      refine ⟨l, ?_, by rw [List.length_cons, Nat.add_comm ds.length, ← Nat.add_assoc]; exact given⟩
      rw [List.foldl_cons, eq, giveNote_eq _ h.works]
  obtain ⟨l, eq, given⟩ := run ((noteDests s e).filter (destOk s)) s k h
  have few := noteDests_length (s := s) single
  refine ⟨l, eq, { given with
    reply := ⟨given.reply.1, given.reply.2.trans (by omega)⟩
    given := fun own => ?_ }⟩
  obtain ⟨lost, commanded, noticed, notes⟩ := given.given own
  exact ⟨lost, commanded, noticed, fun room => notes (by omega)⟩

/-- R159: what a raise of an entry of the terminal changes while the blocks are at rest. -/
theorem raiseEntry_rested (rest : s.Still) (single : eventFamily e = .single) (h : s.lpu.Restarted nid now cs ns k r) :
    Told s (raiseEntry e s) ∧ (raiseEntry e s).lpu.Restarted nid now cs ns (k + 6) r ∧
      (raiseEntry e s).evr.entries = upd s.evr.entries e (EventEntry.raised s.clock) := by
  have more : s.lpu.Restarted nid now cs ns (k + 6) r := { h with
    reply := ⟨h.reply.1, h.reply.2.trans (Nat.le_add_right k 6)⟩
    given := fun own => by
      obtain ⟨lost, commanded, noticed, notes⟩ := h.given own
      exact ⟨lost, commanded, noticed, fun room => notes (by omega)⟩ }
  by_cases alone : RaisesAlone e s
  · rw [raiseEntry_alone alone]
    exact ⟨.of_lpu_entries s.lpu _ s, more, rfl⟩
  · obtain ⟨fresh, enabled⟩ := not_or.1 alone
    have entry : upd s.evr.entries e (fun x => { x with raw := true, count := 0, clock := some s.clock }) =
        upd s.evr.entries e (EventEntry.raised s.clock) := by
      refine upd_congr_at ?_
      rw [EventEntry.raised]
      exact (if_neg (by exact fresh)).symm
    generalize hu : s.modEntry e (fun x => { x with raw := true, count := 0, clock := some s.clock }) = u
    have told : Told s u := by
      rw [← hu]
      exact .of_lpu_entries s.lpu _ s
    obtain ⟨l, eq, given⟩ := giveNotes_restarted (s := u) single (by rw [← hu]; exact h)
    have noted : Told u (giveNotes e u) := by
      rw [eq]
      exact .of_lpu_entries l u.evr.entries u
    have still := (told.trans noted).still rest
    have held := recomputeHolds_told still
    have eq' : raiseEntry e s = recomputeHolds (giveNotes e u) := by
      unfold raiseEntry
      rw [if_neg fresh, if_pos (Bool.not_eq_false _ ▸ enabled), hu, applyAction_rested (held.still still) single]
    rw [eq']
    refine ⟨(told.trans noted).trans held, ?_, ?_⟩
    · rw [(recomputeHolds_frame _).2.1, eq]
      exact given
    · rw [recomputeHolds_entries, eq, ← entry, ← hu]
      rfl

end
end Sys2Proof.Machine
end

section
namespace Sys2Proof.Machine

section
variable {s t : State} {b : Berth} {bs : List Berth}

/-! ### The sessions that a reset closes (R150, R157) -/

/-- R144: the slot holds a session bound to set `i`. -/
def Slot.binds (i : Fin 4) : Slot → Bool
  | .openSlot r => r.set = i
  | _ => false

/-- The sessions of the berths `bs` of `s` have been closed in `t` with reason SUPPLY, in their order. -/
structure Closed (bs : List Berth) (s t : State) : Prop where
  records : ∀ before b after r, bs = before ++ b :: after → s.slot b = .openSlot r →
    ∃ x ∈ t.blg.log, x.number = some (s.blg.counter + (before.filter fun a => s.sessionOpen a).length) ∧
      ClosedAs r x .supply s.clock
  log : s.blg.log <+: t.blg.log
  length : t.blg.log.length = s.blg.log.length + (bs.filter fun a => s.sessionOpen a).length
  counter : t.blg.counter = s.blg.counter + (bs.filter fun a => s.sessionOpen a).length
  sets : ∀ i : Fin 4, t.blg.sets[i] = { s.blg.sets[i] with
    bound := s.blg.sets[i].bound - (bs.filter fun a => (s.slot a).binds i).length }
  current : t.blg.current = s.blg.current
  others : ∀ c ∉ bs, t.slot c = s.slot c
  mtr : ∃ recs, t.mtr = { s.mtr with recs := recs }

theorem sessionOpen_shut (h : ∀ r, s.slot b ≠ .openSlot r) : s.sessionOpen b = false := by
  unfold State.sessionOpen
  split
  next r slot => exact absurd slot (h r)
  · rfl

theorem binds_shut (h : ∀ r, s.slot b ≠ .openSlot r) (i : Fin 4) : (s.slot b).binds i = false := by
  unfold Slot.binds
  split
  next r slot => exact absurd slot (h r)
  · rfl

theorem Closed.clock (h : Closed bs s t) : t.clock = s.clock := by
  obtain ⟨recs, e⟩ := h.mtr
  rw [State.clock, e, State.clock]

/-- What has a session open, and on which set, among berths not closed. -/
theorem Closed.filters {cs : List Berth} (h : Closed bs s t) (apart : ∀ c ∈ cs, c ∉ bs) :
    (cs.filter fun a => t.sessionOpen a) = (cs.filter fun a => s.sessionOpen a) ∧
      ∀ i, (cs.filter fun a => (t.slot a).binds i) = cs.filter fun a => (s.slot a).binds i := by
  refine ⟨List.filter_congr fun c mem => ?_, fun i => List.filter_congr fun c mem => ?_⟩
  · rw [State.sessionOpen, h.others c (apart c mem), State.sessionOpen]
  · rw [h.others c (apart c mem)]

/-- One close. -/
theorem closeSession_closed (b : Berth) (s : State) : Closed [b] s (closeSession b .supply s) := by
  have only : ∀ {before after : List Berth} {c : Berth}, [b] = before ++ c :: after → before = [] ∧ c = b := by
    intro before after c e
    cases before with
    | nil => exact ⟨rfl, (List.cons.inj e).1.symm⟩
    | cons x xs =>
      have := congrArg List.length e
      simp at this
  by_cases shut : ∀ r, s.slot b ≠ .openSlot r
  · have none := sessionOpen_shut shut
    rw [closeSession_shut shut]
    exact {
      records := fun before c after r e slot => absurd ((only e).2 ▸ slot) (shut r)
      log := List.prefix_rfl
      length := by simp [none]
      counter := by simp [none]
      sets := fun i => by simp [binds_shut shut i]
      current := rfl
      others := fun _ _ => rfl
      mtr := ⟨_, rfl⟩ }
  · obtain ⟨r, slot⟩ := not_forall.1 shut
    have slot := not_not.1 slot
    have one := sessionOpen_slot slot
    rw [closeSession_open slot]
    exact {
      records := fun before c after r' e slot' => by
        obtain ⟨rfl, rfl⟩ := only e
        obtain rfl : r = r' := Slot.openSlot.inj (slot.symm.trans slot')
        exact ⟨closedRecord s c .supply r, List.mem_append_right _ List.mem_cons_self, rfl,
          rfl, rfl, rfl, rfl, rfl, rfl, rfl, rfl, rfl, rfl⟩
      log := List.prefix_append _ _
      length := by simp [one]
      counter := by simp [one]
      sets := fun i => by
        show (upd s.blg.sets r.set fun x => { x with bound := x.bound - 1 })[i] = _
        rw [upd_fin]
        by_cases is : r.set = i
        · simp [is, slot, Slot.binds]
        · simp [is, slot, Slot.binds]
      current := rfl
      others := fun c apart => upd_other _ _ fun is => apart (by simp [is])
      mtr := ⟨_, rfl⟩ }

/-- Closes one after another. -/
theorem Closed.trans {a : Berth} {u : State} (h : Closed [a] s t) (g : Closed bs t u) (apart : a ∉ bs) :
    Closed (a :: bs) s u := by
  have fresh : ∀ c ∈ bs, c ∉ [a] := fun c mem is => apart (List.mem_singleton.1 is ▸ mem)
  obtain ⟨same, bound⟩ := h.filters fresh
  have count : ∀ (xs : List Berth) (p : Berth → Bool),
      ((a :: xs).filter p).length = ([a].filter p).length + (xs.filter p).length := fun xs p => by
    rw [← List.length_append, ← List.filter_append]
    rfl
  exact {
    records := fun before b after r e slot => by
      cases before with
      | nil =>
        obtain ⟨x, mem, number, closed⟩ := h.records [] a [] r rfl ((List.cons.inj e).1 ▸ slot)
        exact ⟨x, g.log.subset mem, number, closed⟩
      | cons c before =>
        obtain ⟨rfl, tail⟩ := List.cons.inj e
        have e : bs = before ++ b :: after := tail
        have mem : b ∈ bs := by rw [e]; simp
        obtain ⟨x, hx, number, closed⟩ := g.records before b after r e ((h.others b (fresh b mem)).trans slot)
        have rest := (h.filters (cs := before) fun c hc => fresh c (by rw [e]; simp [hc])).1
        refine ⟨x, hx, ?_, by rw [← h.clock]; exact closed⟩
        rw [number, h.counter, rest, Nat.add_assoc, ← count]
    log := h.log.trans g.log
    length := by rw [g.length, h.length, same, Nat.add_assoc, ← count]
    counter := by rw [g.counter, h.counter, same, Nat.add_assoc, ← count]
    sets := fun i => by
      rw [g.sets i, h.sets i, bound i, Nat.sub_sub, ← count]
    current := g.current.trans h.current
    others := fun c apart' => by
      rw [← List.singleton_append, List.mem_append, not_or] at apart'
      exact (g.others c apart'.2).trans (h.others c apart'.1)
    mtr := by
      obtain ⟨recs, e⟩ := h.mtr
      obtain ⟨recs', e'⟩ := g.mtr
      exact ⟨recs', by rw [e', e]⟩ }

theorem Closed.refl (s : State) : Closed [] s s where
  records _ _ _ _ e := by simp at e
  log := List.prefix_rfl
  length := rfl
  counter := rfl
  sets _ := rfl
  current := rfl
  others _ _ := rfl
  mtr := ⟨_, rfl⟩

theorem foldl_closed (distinct : bs.Nodup) (s : State) : Closed bs s (bs.foldl (fun s b => closeSession b .supply s) s) := by
  induction bs generalizing s with
  | nil => exact .refl s
  | cons a bs ih =>
    obtain ⟨apart, rest⟩ := List.nodup_cons.1 distinct
    exact (closeSession_closed a s).trans (ih rest _) apart

theorem supplyCloses_closed (s : State) : Closed allBerths s (supplyCloses s) := foldl_closed (by decide) s

theorem boundTo_eq (s : State) (i : Fin 4) : s.blg.boundTo i = (allBerths.filter fun a => (s.slot a).binds i).length := by
  have slots : s.blg.slots.toList = allBerths.map s.slot := by
    refine List.ext_getElem (by simp [allBerths]) fun n h h' => ?_
    have four : n < 4 := by simpa using h
    interval_cases n <;> simp [allBerths, State.slot]
  rw [Blg.boundTo, slots, List.countP_map, List.countP_eq_length_filter]
  refine congrArg List.length (List.filter_congr fun b _ => ?_)
  show _ = Slot.binds i (s.slot b)
  rw [Function.comp]
  cases s.slot b <;> rfl

end
end Sys2Proof.Machine
end

section
namespace Sys2Proof.Machine

section
variable {nid opn bln : BitVec 6} {now k r : Nat} {cs : List Bcmd} {ns : List (Nat × Notice)} {s t u v : State} {b : Berth}
  {f : Mlk → Mlk}

/-! ### The blocks as a warm reset or RESTART begins them again -/

/-- R55: the OPEN of module `m`'s contactor. -/
def openingOf (s : State) (m : Module) : Bcmd :=
  ⟨(s.breaker (contactor m)).node, .openCmd, contactor m, (s.breaker (contactor m)).margin + 100⟩

/-- R55: the OPENs of the installed modules. -/
def openings (s : State) : List Bcmd := (allModules.filter fun m => s.mpm.table[m].installed).map (openingOf s)

/-- R98: the BERTH notices of the configured berths. -/
def deadNoticesOf (s : State) : List (Nat × Notice) :=
  (allBerths.filter fun b => (s.entry b).configured).map fun b => ((s.entry b).gateway, .berth b 1)

theorem mem_allModules (m : Module) : m ∈ allModules := by
  fin_cases m <;> decide

theorem mem_openings {c : Bcmd} : c ∈ openings s ↔ ∃ m : Module, s.mpm.table[m].installed = true ∧ c = openingOf s m := by
  simp only [openings, List.mem_map, List.mem_filter, mem_allModules, true_and, eq_comm]

theorem mem_deadNoticesOf {n : Nat × Notice} : n ∈ deadNoticesOf s ↔
    ∃ b, (s.entry b).configured = true ∧ n = ((s.entry b).gateway, .berth b 1) := by
  simp only [deadNoticesOf, List.mem_map, List.mem_filter, mem_allBerths, true_and, eq_comm]

theorem contactor_inj {m n : Module} (h : contactor m = contactor n) : m = n := by
  have := congrArg Fin.val h
  simp only [contactor] at this
  exact Fin.ext (by omega)

/-- R55: the contactors' OPENs change the LPU alone. -/
theorem openContactors_restarted (h : s.lpu.Restarted nid now [] [] k r) :
    ∃ l, openContactors s = { s with lpu := l } ∧ l.Restarted nid now (openings s) [] k r := by
  have run : ∀ (ms : List Module) (u : State) (cs : List Bcmd), ms.Nodup → u.mpm = s.mpm → u.syu = s.syu →
      u.lpu.Restarted nid now cs [] k r → (∀ m ∈ ms, ∀ x ∈ cs, x.target ≠ contactor m) →
      ∃ l, ms.foldl (fun t m => openContactor m t) u = { u with lpu := l } ∧
        l.Restarted nid now (cs ++ (ms.filter fun m => s.mpm.table[m].installed).map (openingOf s)) [] k r := by
    intro ms
    induction ms with
    | nil => exact fun u cs _ _ _ h _ => ⟨u.lpu, rfl, by simpa using h⟩
    | cons m ms ih =>
      intro u cs distinct mpm syu h apart
      obtain ⟨notIn, distinct⟩ := List.nodup_cons.1 distinct
      by_cases installed : s.mpm.table[m].installed = true
      · have one : openContactor m u = { u with lpu := (giveBcmd (openingOf s m) u).lpu } := by
          refine (if_pos (by rw [mpm]; exact installed)).trans ?_
          have eq : command .openCmd (contactor m) u = giveBcmd (openingOf s m) u := by
            rw [command, State.breaker, syu]
            rfl
          rw [eq]
          exact giveBcmd_eq _ h.works
        have given := h.command (c := openingOf s m) fun x mem => apart m List.mem_cons_self x mem
        obtain ⟨l, eq, given⟩ := ih { u with lpu := (giveBcmd (openingOf s m) u).lpu } _ distinct mpm syu given (by
          intro n mem x hx
          obtain hx | hx := List.mem_append.1 hx
          · exact apart n (List.mem_cons_of_mem _ mem) x hx
          · rw [List.mem_singleton.1 hx]
            exact fun is => notIn (contactor_inj is ▸ mem))
        refine ⟨l, by rw [List.foldl_cons, one, eq], ?_⟩
        rw [List.filter_cons, if_pos installed, List.map_cons]
        simpa using given
      · have one : openContactor m u = u := by
          rw [openContactor, mpm, if_neg installed]
        obtain ⟨l, eq, given⟩ := ih u cs distinct mpm syu h fun n mem => apart n (List.mem_cons_of_mem _ mem)
        exact ⟨l, by rw [List.foldl_cons, one, eq], by rw [List.filter_cons, if_neg installed]; exact given⟩
  obtain ⟨l, eq, given⟩ := run allModules s [] (by decide) rfl rfl h fun _ _ _ mem => nomatch mem
  exact ⟨l, eq, given⟩

/-- R98: the BERTH notices change the LPU alone. -/
theorem deadNotices_restarted (h : s.lpu.Restarted nid now cs [] k r) (at_ : s.now = now)
    (dead : ∀ b, (s.entry b).configured = true → (s.berth b).state = .dead) :
    ∃ l, deadNotices s = { s with lpu := l } ∧ l.Restarted nid now cs (deadNoticesOf s) k r := by
  have run : ∀ (bs : List Berth) (u : State) (ns : List (Nat × Notice)), u.bsq = s.bsq → u.now = now →
      u.lpu.Restarted nid now cs ns k r → ns.length + bs.length ≤ 24 →
      ∃ l, bs.foldl (fun t b => deadNotice b t) u = { u with lpu := l } ∧
        l.Restarted nid now cs (ns ++ (bs.filter fun b => (s.entry b).configured).map fun b =>
          ((s.entry b).gateway, .berth b 1)) k r := by
    intro bs
    induction bs with
    | nil => exact fun u ns _ _ h _ => ⟨u.lpu, rfl, by simpa using h⟩
    | cons b bs ih =>
      intro u ns bsq at_ h room
      rw [List.length_cons] at room
      have entry : u.entry b = s.entry b := by rw [State.entry, bsq, State.entry]
      by_cases configured : (s.entry b).configured = true
      · have one : deadNotice b u = { u with lpu := (giveShpn (s.entry b).gateway (.berth b 1) u).lpu } := by
          refine (if_pos (by rw [entry]; exact configured)).trans ?_
          have code : (u.berth b).state.code = 1 := by
            rw [State.berth, bsq, show (s.bsq.recs[b]).state = .dead from dead b configured]
            rfl
          rw [berthNotice, code, entry]
          exact giveShpn_eq _ _ h.works
        have given := h.notice (d := (s.entry b).gateway) (body := .berth b 1) at_ (by omega)
        obtain ⟨l, eq, given⟩ := ih { u with lpu := (giveShpn (s.entry b).gateway (.berth b 1) u).lpu } _ bsq at_ given (by
          rw [List.length_append, List.length_singleton]
          omega)
        refine ⟨l, by rw [List.foldl_cons, one, eq], ?_⟩
        rw [List.filter_cons, if_pos configured, List.map_cons]
        simpa using given
      · have one : deadNotice b u = u := by
          rw [deadNotice, entry, if_neg configured]
        obtain ⟨l, eq, given⟩ := ih u ns bsq at_ h (by omega)
        exact ⟨l, by rw [List.foldl_cons, one, eq], by rw [List.filter_cons, if_neg configured]; exact given⟩
  obtain ⟨l, eq, given⟩ := run allBerths s [] rfl at_ h (by decide)
  exact ⟨l, eq, given⟩

/-- The events that the end of a reset raises. -/
def endEvents (full stop : Bool) : List EventIx :=
  (if full then [evLogFull] else []) ++ if stop then [evEstop] else []

/-- R55, R98, R122, R157: what the end of a reset adds to the blocks begun again. -/
theorem resetEnd_warm (nid opn bln : BitVec 6) (f : Mlk → Mlk) (v : State) :
    let w := setInterval ((warmBlocks nid opn bln v).modMlk f)
    ∃ l : Lpu, l.Restarted nid v.now (openings v) (deadNoticesOf v) 0 0 ∧ resetEnd w = { w with
      lpu := l
      blg := { w.blg with logFull := decide (v.blg.log.length = 32) }
      bsq := { w.bsq with estopRepeat := if v.pins.estop then some (v.now + 100) else none }
      evr := { w.evr with outputs := Vector.replicate 4 v.pins.estop }
      handoffs := (endEvents (decide (v.blg.log.length = 32)) v.pins.estop).map .raise } := by
  intro w
  obtain ⟨l, opened, given⟩ := openContactors_restarted (s := w) (nid := nid) (Lpu.cold_restarted nid v.now)
  have same : openings w = openings v := by
    have breaker : ∀ m, openingOf w m = openingOf v m := fun m => by
      have : w.breaker (contactor m) = { v.breaker (contactor m) with lastPosition := none } := Vector.getElem_map ..
      rw [openingOf, this, openingOf]
    rw [openings, openings, funext breaker]
    rfl
  have berth : ∀ b, w.berth b = .cleared (if (v.entry b).configured then .dead else .unused) := fun b => Vector.getElem_map ..
  rw [same] at given
  obtain ⟨l', noticed, given'⟩ := deadNotices_restarted (s := { w with lpu := l }) given rfl fun b configured => by
    show (w.berth b).state = .dead
    rw [berth, BerthRec.cleared]
    exact if_pos configured
  refine ⟨l', given', ?_⟩
  have sum : w.blg.sum = v.blg.log.length := by
    show (Vector.replicate 4 Slot.free).toList.countP _ + v.blg.log.length = _
    rw [show (Vector.replicate 4 Slot.free).toList.countP (fun x => x != .free) = 0 from by decide, Nat.zero_add]
  have rested : ∀ g hs, ({ w with lpu := l', blg := g, handoffs := hs } : State).Rested := fun g hs => {
    chans := fun c => by
      fin_cases c <;> rfl
    deadBus := rfl
    states := fun b => by
      show (w.berth b).state.active = false
      rw [berth, BerthRec.cleared]
      split <;> rfl
    demand := fun b => by
      show (w.berth b).demand = false
      rw [berth, BerthRec.cleared] }
  have logged : evalLogFull { w with lpu := l' } = { w with
      lpu := l', blg := { w.blg with logFull := decide (v.blg.log.length = 32) }
      handoffs := if v.blg.log.length = 32 then [.raise evLogFull] else [] } := by
    unfold evalLogFull
    by_cases full : v.blg.log.length = 32
    · rw [if_pos (show ({ w with lpu := l' } : State).blg.sum = Config.billingPlaces from sum.trans full)]
      simp only [full, decide_true, if_true]
      rfl
    · rw [if_neg (show ¬ ({ w with lpu := l' } : State).blg.sum = Config.billingPlaces from fun e => full (sum.symm.trans e))]
      simp only [full, decide_false, if_false]
      rfl
  rw [resetEnd, opened, noticed]
  show estopAtEnd (evalLogFull { w with lpu := l' }) = _
  rw [logged, estopAtEnd_rested (rested _ _)]
  have events : (if v.blg.log.length = 32 then [Handoff.raise evLogFull] else []) ++
      (if v.pins.estop = true then [Handoff.raise evEstop] else []) =
      (endEvents (decide (v.blg.log.length = 32)) v.pins.estop).map Handoff.raise := by
    unfold endEvents
    by_cases full : v.blg.log.length = 32 <;> cases v.pins.estop <;> simp [full]
  rw [← events]
  rfl

end
end Sys2Proof.Machine
end

section
namespace Sys2Proof.Machine

section
variable {nid opn bln : BitVec 6} {now k r n : Nat} {cs : List Bcmd} {ns : List (Nat × Notice)} {s t u v : State} {b : Berth}
  {f : Mlk → Mlk} {clock closed : Nat × Nat} {es : List EventIx} {x : Vector EventEntry 100} {e : EventIx}

/-! ### The raises at the end of a reset -/

/-- The event table after raises of the entries `es` at `clock`. -/
def raisedAll (clock : Nat × Nat) (es : List EventIx) (x : Vector EventEntry 100) : Vector EventEntry 100 :=
  es.foldl (fun x e => upd x e (EventEntry.raised clock)) x

theorem raisedAll_other (h : e ∉ es) : (raisedAll clock es x)[e] = x[e] := by
  induction es generalizing x with
  | nil => rfl
  | cons a es ih =>
    rw [List.mem_cons, not_or] at h
    exact (ih h.2).trans (upd_other _ _ fun is => h.1 is.symm)

theorem raised_raw (clock : Nat × Nat) (x : EventEntry) : (EventEntry.raised clock x).raw = true := by
  unfold EventEntry.raised
  split
  next raw => exact raw
  · rfl

theorem raised_settings (clock : Nat × Nat) (x : EventEntry) : (EventEntry.raised clock x).enabled = x.enabled ∧
    (EventEntry.raised clock x).notifyOperator = x.notifyOperator ∧
    (EventEntry.raised clock x).notifyBilling = x.notifyBilling ∧
    (EventEntry.raised clock x).notifyShip = x.notifyShip ∧ (EventEntry.raised clock x).action = x.action := by
  unfold EventEntry.raised
  split <;> exact ⟨rfl, rfl, rfl, rfl, rfl⟩

theorem raisedAll_raw (h : x[e].raw = true ∨ e ∈ es) : (raisedAll clock es x)[e].raw = true := by
  induction es generalizing x with
  | nil => exact h.resolve_right List.not_mem_nil
  | cons a es ih =>
    refine ih ?_
    rw [upd_fin]
    split
    · exact .inl (raised_raw _ _)
    next other =>
      exact h.imp id fun mem => (List.mem_cons.1 mem).resolve_left fun is => other is.symm

theorem raisedAll_settings : (raisedAll clock es x)[e].enabled = x[e].enabled ∧
    (raisedAll clock es x)[e].notifyOperator = x[e].notifyOperator ∧
    (raisedAll clock es x)[e].notifyBilling = x[e].notifyBilling ∧
    (raisedAll clock es x)[e].notifyShip = x[e].notifyShip ∧ (raisedAll clock es x)[e].action = x[e].action := by
  induction es generalizing x with
  | nil => exact ⟨rfl, rfl, rfl, rfl, rfl⟩
  | cons a es ih =>
    have one : ∀ {α : Type} (g : EventEntry → α), (∀ y, g (EventEntry.raised clock y) = g y) →
        g (upd x a (EventEntry.raised clock))[e] = g x[e] := fun g h => by
      rw [upd_fin]
      split
      · exact h _
      · rfl
    obtain ⟨enabled, operator, billing, ship, action⟩ := ih (x := upd x a (EventEntry.raised clock))
    exact ⟨enabled.trans (one _ fun y => (raised_settings clock y).1),
      operator.trans (one _ fun y => (raised_settings clock y).2.1),
      billing.trans (one _ fun y => (raised_settings clock y).2.2.1),
      ship.trans (one _ fun y => (raised_settings clock y).2.2.2.1),
      action.trans (one _ fun y => (raised_settings clock y).2.2.2.2)⟩

theorem Told.emptied (h : Told s t) : Told { s with handoffs := [] } { t with handoffs := [] } :=
  { h with handoffs := rfl }

/-- Raises of entries of the terminal alone wait, and the blocks are at rest. -/
theorem drain_rested (single : ∀ e ∈ es, eventFamily e = .single) (rest : s.Still)
    (h : s.lpu.Restarted nid now cs ns k r) (handed : s.handoffs = es.map .raise) (fuel : es.length ≤ n) :
    Told { s with handoffs := [] } (drain n s) ∧ (drain n s).lpu.Restarted nid now cs ns (k + 6 * es.length) r ∧
      (drain n s).evr.entries = raisedAll s.clock es s.evr.entries := by
  induction es generalizing s n k with
  | nil =>
    have none : s.handoffs = [] := handed
    rw [drain_nil n none]
    refine ⟨?_, h, rfl⟩
    rw [show ({ s with handoffs := [] } : State) = s by rw [← none]]
    exact .refl s
  | cons e es ih =>
    obtain ⟨n, rfl⟩ : ∃ m, n = m + 1 := ⟨n - 1, by rw [List.length_cons] at fuel; omega⟩
    rw [drain_cons n (h := .raise e) (hs := es.map .raise) handed]
    obtain ⟨told, given, entries⟩ := raiseEntry_rested (s := { s with handoffs := es.map .raise })
      ⟨rest.states, rest.timers⟩ (single e List.mem_cons_self) h
    rw [show takeHandoff (.raise e) { s with handoffs := es.map .raise } = raiseEntry e { s with handoffs := es.map .raise }
      from rfl]
    generalize raiseEntry e { s with handoffs := es.map .raise } = u at told given entries ⊢
    obtain ⟨told', given', entries'⟩ := ih (s := u) (fun a mem => single a (List.mem_cons_of_mem _ mem))
      (told.still ⟨rest.states, rest.timers⟩) given told.handoffs (Nat.le_of_succ_le_succ fuel)
    have clock : u.clock = s.clock := by rw [State.clock, told.mtr, State.clock]
    refine ⟨Told.trans (t := { u with handoffs := [] }) { told with handoffs := rfl } told', ?_, ?_⟩
    · rw [List.length_cons, Nat.mul_succ, Nat.add_comm (6 * es.length), ← Nat.add_assoc]
      exact given'
    · rw [entries', clock, entries]
      rfl

theorem endEvents_single (full stop : Bool) : ∀ e ∈ endEvents full stop, eventFamily e = .single := by
  cases full <;> cases stop <;> decide

/-- R162: entries of the terminal hold a berth by HOLD_ALL alone. -/
theorem eventHold_single (single : ∀ e : EventIx, x[e].raw = true → eventFamily e = .single)
    (none : ∀ e : EventIx, x[e].action ≠ .holdAll) (b : Berth) : eventHold x b = false := by
  refine List.any_eq_false.2 fun e _ => ?_
  unfold holdsBerth
  by_cases raw : x[e].raw = true
  · rw [single e raw]
    have action := none e
    cases h : x[e].action
    case holdAll => exact absurd h action
    all_goals simp
  · rw [Bool.eq_false_iff.2 raw, Bool.and_false, Bool.false_and]
    exact Bool.false_ne_true

/-! ### What a warm reset and RESTART keep and clear -/

/-- What the closes and the ticks of a reset leave as it was. -/
structure Retained (s v : State) : Prop where
  pins : v.pins = s.pins
  scl : v.scl = s.scl
  mpm : v.mpm = s.mpm
  rfg : v.rfg = s.rfg
  syu : v.syu = s.syu
  bsq : v.bsq = s.bsq
  evr : v.evr = s.evr
  unbilled : v.mtr.unbilled = s.mtr.unbilled
  gapLimit : v.mtr.gapLimit = s.mtr.gapLimit
  demandS : v.mtr.demandS = s.mtr.demandS

theorem Retained.openings (h : Retained s v) : Machine.openings v = Machine.openings s := by
  have breaker : openingOf v = openingOf s := by
    funext m
    rw [openingOf, State.breaker, h.syu, openingOf, State.breaker]
  rw [Machine.openings, breaker, h.mpm, Machine.openings]

theorem Retained.deadNotices (h : Retained s v) : deadNoticesOf v = deadNoticesOf s := by
  have entry : ∀ b, v.entry b = s.entry b := fun b => by rw [State.entry, h.bsq, State.entry]
  simp only [deadNoticesOf, entry]

/-- The blocks begun again from `v` and told of the raises of the end, which are those of `es`. -/
structure Renewed (v t : State) (es : List EventIx) : Prop where
  scl : t.scl = v.scl.warm
  mpm : t.mpm = v.mpm.warm v.now
  rfg : t.rfg = v.rfg.warm v.now
  syu : t.syu = v.syu.warm
  table : t.bsq.table = v.bsq.table
  ships : t.bsq.ships = Vector.replicate 4 none
  estopRepeat : t.bsq.estopRepeat = if v.pins.estop then some (v.now + 100) else none
  berth : ∀ b, t.berth b = { BerthRec.cleared (if (v.entry b).configured then .dead else .unused) with
    eventHold := (t.berth b).eventHold }
  mtr : t.mtr = (setInterval { v with mtr := v.mtr.warm }).mtr
  blg : t.blg = { v.blg.warm with logFull := decide (v.blg.log.length = 32) }
  outputs : t.evr.outputs = Vector.replicate 4 v.pins.estop
  entries : ∃ clock, t.evr.entries = raisedAll clock es v.evr.warm.entries
  now : t.now = v.now
  holds : HoldsAgree t.evr t.bsq

/-- The clauses of `ResetKept` about the LPU. -/
theorem Lpu.Restarted.kept (h : t.lpu.Restarted nid t.now (openings s) (deadNoticesOf s) k 0) :
    (t.lpu.lossIndicator = false ∧ t.lpu.lossDue = t.now + 20 ∧ t.lpu.forward = [] ∧ t.lpu.reservations = 0 ∧
      (∀ p ∈ t.lpu.reply, p.refusal = false) ∧ t.lpu.seq = t.lpu.counters.sent ∧
      t.lpu.counters.sent = (if t.lpu.sending = none then 0 else 1) ∧
      t.lpu.counters = { LinkCounters.zero with
        sent := t.lpu.counters.sent, shpnLost := t.lpu.counters.shpnLost, noteLost := t.lpu.counters.noteLost } ∧
      (∀ c ∈ t.lpu.protect ++ t.lpu.commandList, ∃ m : Module, s.mpm.table[m].installed = true ∧ c = openingOf s m) ∧
      (∀ p ∈ t.lpu.control, ∃ b, (s.entry b).configured = true ∧
        p = ⟨.shpn (s.entry b).gateway (.berth b 1), t.now, false⟩) ∧
      (t.own ≠ none → t.lpu.counters.shpnLost = 0 ∧
        (∀ m : Module, s.mpm.table[m].installed = true → CommandGiven (openingOf s m) t) ∧
        ∀ b, (s.entry b).configured = true → NoticeGiven (s.entry b).gateway (.berth b 1) t)) := by
  refine ⟨h.loss.1, h.loss.2, h.forward, h.reservations, h.reply.1, h.seq, h.sent, h.counters,
    fun c mem => mem_openings.1 (h.commands c mem), fun p mem => ?_, fun own => ?_⟩
  · obtain ⟨n, given, is⟩ := h.control.1 p mem
    obtain ⟨b, configured, rfl⟩ := mem_deadNoticesOf.1 given
    exact ⟨b, configured, is⟩
  · rw [h.own] at own
    obtain ⟨lost, commanded, noticed, -⟩ := h.given own
    exact ⟨lost, fun m installed => commanded _ (mem_openings.2 ⟨m, installed, rfl⟩),
      fun b configured => noticed _ (mem_deadNoticesOf.2 ⟨b, configured, rfl⟩)⟩

/-- The berths before `b`, which the closes come to first. -/
theorem berths_before (b : Berth) : ∃ after, allBerths = ((List.finRange 4).filter fun a => a.val < b.val) ++ b :: after := by
  fin_cases b
  · exact ⟨[1, 2, 3], rfl⟩
  · exact ⟨[2, 3], rfl⟩
  · exact ⟨[3], rfl⟩
  · exact ⟨[], rfl⟩

/-- The clauses of `ResetKept` about BLG, where `u` is the state in which the closes begin. -/
theorem Closed.kept (h : Closed allBerths u v) (from_ : u.blg = s.blg) :
    let before (n : Nat) : Nat := ((List.finRange 4).filter fun a => a.val < n ∧ s.sessionOpen a = true).length
    v.blg.current = s.blg.current ∧ s.blg.log <+: v.blg.log ∧
      (∀ b r, s.slot b = .openSlot r → ∃ x ∈ v.blg.log, x.number = some (s.blg.counter + before b.val) ∧
        ClosedAs r x .supply u.clock) ∧
      v.blg.log.length = s.blg.log.length + before 4 ∧ v.blg.counter = s.blg.counter + before 4 ∧
      (∀ i : Fin 4, v.blg.sets[i] = { s.blg.sets[i] with bound := s.blg.bound i - s.blg.boundTo i }) := by
  intro before
  have slot : ∀ b, u.slot b = s.slot b := fun b => by rw [State.slot, from_, State.slot]
  have opened : ∀ b, u.sessionOpen b = s.sessionOpen b := fun b => by rw [State.sessionOpen, slot, State.sessionOpen]
  have all : (allBerths.filter fun a => u.sessionOpen a).length = before 4 := by
    have berths : allBerths = List.finRange 4 := rfl
    rw [berths]
    refine congrArg List.length (List.filter_congr fun a _ => ?_)
    rw [opened]
    simp
  refine ⟨h.current.trans (by rw [from_]), from_ ▸ h.log, fun b r held => ?_, ?_, ?_, fun i => ?_⟩
  · obtain ⟨after, split⟩ := berths_before b
    obtain ⟨x, mem, number, closed⟩ := h.records _ b after r split ((slot b).trans held)
    refine ⟨x, mem, ?_, closed⟩
    rw [number, from_, List.filter_filter]
    simp only [opened, before, Bool.decide_and, Bool.decide_eq_true, Bool.and_comm]
  · rw [h.length, all, from_]
  · rw [h.counter, all, from_]
  · rw [h.sets i, from_, boundTo_eq]
    simp only [slot]
    rfl

/-- The clauses of `ResetKept` but those about the LPU. -/
theorem Renewed.kept (h : Renewed v t es) (kept : Retained s v) {w : State} (closes : Closed allBerths u w)
    (same : v.blg = w.blg) (from_ : u.blg = s.blg)
    (lpu : t.lpu.Restarted nid t.now (openings s) (deadNoticesOf s) k 0)
    (raises : ∀ e ∈ es, e = evLogFull ∨ e = evEstop ∨ e = evLockExhausted)
    (full : evLogFull ∈ es ↔ v.blg.log.length = 32) (stop : evEstop ∈ es ↔ s.pins.estop = true) :
    ResetKept u.clock s t := by
  obtain ⟨clock, entries⟩ := h.entries
  have cleared : ∀ e : EventIx, (v.evr.warm.entries)[e] = { s.event e with raw := false, count := 0, clock := none } :=
    fun e => by
      rw [kept.evr]
      exact Vector.getElem_map ..
  have untouched : ∀ e ∉ es, t.event e = { s.event e with raw := false, count := 0, clock := none } := fun e apart => by
    rw [State.event, entries, raisedAll_other apart, cleared]
  have isRaw : ∀ e ∈ es, (t.event e).raw = true := fun e mem => by
    rw [State.event, entries]
    exact raisedAll_raw (.inr mem)
  have settings : ∀ e, (t.event e).enabled = (s.event e).enabled ∧
      (t.event e).notifyOperator = (s.event e).notifyOperator ∧ (t.event e).notifyBilling = (s.event e).notifyBilling ∧
      (t.event e).notifyShip = (s.event e).notifyShip ∧ (t.event e).action = (s.event e).action := fun e => by
    have same := raisedAll_settings (clock := clock) (es := es) (x := v.evr.warm.entries) (e := e)
    rw [cleared, ← entries] at same
    exact same
  have rawOf : ∀ e, ((t.event e).raw = true ↔ e ∈ es) := fun e => by
    by_cases mem : e ∈ es
    · simp [isRaw e mem, mem]
    · simp [untouched e mem, mem]
  have sessions := closes.kept from_
  rw [← same] at sessions
  obtain ⟨current, log, records, length, counter, sets⟩ := sessions
  have mtr := h.mtr
  refine ⟨lpu.kept, ?_, ?_, ?_, ?_, ⟨?_, h.ships, ?_, fun b => ?_⟩, ?_, ⟨?_, ?_, ?_, ?_, ?_, ?_, ?_, fun counts i => ?_, ?_⟩,
    ?_, settings, fun e notFull notStop notLock => ?_, ?_, ?_, fun noHoldAll => ?_⟩
  · rw [h.scl, kept.scl]
    rfl
  · rw [h.mpm, kept.mpm, h.now]
    rfl
  · rw [h.rfg, kept.rfg, h.now]
    rfl
  · rw [h.syu, kept.syu]
    rfl
  · rw [h.table, kept.bsq]
  · rw [h.estopRepeat, kept.pins, h.now]
  · rw [h.berth b, State.entry, kept.bsq]
    rfl
  · rw [mtr]
    exact ⟨rfl, kept.unbilled, kept.gapLimit, kept.demandS, by rw [← kept.demandS]; rfl, by rw [← kept.demandS]; rfl, rfl⟩
  · rw [h.blg]
    exact current
  · rw [h.blg]
    rfl
  · rw [h.blg]
    exact log
  · rw [h.blg]
    exact records
  · rw [h.blg]
    exact length
  · rw [h.blg]
    exact counter
  · rw [h.blg]
    exact sets
  · rw [h.blg]
    show (v.blg.sets[i]).bound = 0
    rw [sets i]
    show s.blg.bound i - s.blg.boundTo i = 0
    rw [counts i, Nat.sub_self]
  · rw [h.blg]
    exact decide_eq_true_iff
  · rw [h.outputs, kept.pins]
  · have apart : e ∉ es := fun mem => (raises e mem).elim notFull fun other => other.elim notStop notLock
    rw [untouched e apart]
    exact ⟨rfl, rfl, rfl⟩
  · rw [h.blg]
    rw [Bool.eq_iff_iff, rawOf, full]
    exact decide_eq_true_iff.symm
  · rw [Bool.eq_iff_iff, rawOf, stop]
  · have none : ∀ b : Berth, eventHold t.evr.entries b = false := eventHold_single
      (fun e raw => by
        obtain rfl | rfl | rfl := raises e ((rawOf e).1 raw) <;> rfl)
      fun e => by
        rw [show t.evr.entries[e].action = (s.event e).action from (settings e).2.2.2.2]
        exact noHoldAll e
    have hold : ∀ b : Berth, t.evr.holds[b] = false := fun b => (h.holds b).1.trans (none b)
    refine ⟨?_, fun b => (h.holds b).2.trans (hold b)⟩
    ext i hi
    rw [Vector.getElem_replicate]
    exact hold ⟨i, hi⟩

end
end Sys2Proof.Machine
end

section
namespace Sys2Proof.Machine

section
variable {nid opn bln : BitVec 6} {loss last n : Nat} {s t u v w R : State} {b : Berth} {f : Mlk → Mlk} {es : List EventIx}

/-! ### A warm reset -/

/-- The blocks begun again, once the raises of the end have been taken. -/
theorem renewed_of_told {l : Lpu} {g : Mgu} {hs : List Handoff}
    (told : Told { setInterval ((warmBlocks nid opn bln v).modMlk f) with
      lpu := l
      blg := { v.blg.warm with logFull := decide (v.blg.log.length = 32) }
      bsq := { v.bsq.warm with estopRepeat := if v.pins.estop then some (v.now + 100) else none }
      evr := { v.evr.warm with outputs := Vector.replicate 4 v.pins.estop }
      mgu := g
      handoffs := hs } t)
    (entries : ∃ clock, t.evr.entries = raisedAll clock es v.evr.warm.entries) (holds : HoldsAgree t.evr t.bsq) :
    Renewed v t es where
  scl := told.scl
  mpm := told.mpm
  rfg := told.rfg
  syu := told.syu
  table := told.table
  ships := told.ships
  estopRepeat := told.estopRepeat
  berth b := by
    have cleared : v.bsq.warm.recs[b] = .cleared (if (v.entry b).configured then .dead else .unused) := Vector.getElem_map ..
    rw [told.berth b]
    exact congrArg (fun r : BerthRec => { r with eventHold := (t.berth b).eventHold }) cleared
  mtr := told.mtr
  blg := told.blg
  outputs := told.outputs
  entries := entries
  now := told.now
  holds := holds

/-- No berth of the blocks begun again is in use. -/
theorem warm_still (v x : State) (recs : x.bsq.recs = v.bsq.warm.recs) : x.Still := by
  have cleared : ∀ b : Berth, x.berth b = .cleared (if (v.entry b).configured then .dead else .unused) := fun b => by
    rw [State.berth, recs]
    exact Vector.getElem_map ..
  refine ⟨fun b => ?_, fun b => ?_⟩
  · rw [cleared b, BerthRec.cleared]
    split <;> rfl
  · rw [cleared b]
    rfl

theorem endEvents_length (full stop : Bool) : (endEvents full stop).length ≤ 2 := by
  cases full <;> cases stop <;> decide

theorem mem_endEvents {full stop : Bool} {e : EventIx} :
    e ∈ endEvents full stop ↔ (full = true ∧ e = evLogFull) ∨ stop = true ∧ e = evEstop := by
  cases full <;> cases stop <;> simp [endEvents]

/-- R132, R140, R150, R157: what the ticks and the closes of a reset leave as it was. -/
theorem retained_ticks (loss last : Nat) (s : State) :
    Retained s (passTicks last (supplyCloses (discardResidues (passTicks loss s)))) := by
  obtain ⟨recs, mtr⟩ := (supplyCloses_closed (discardResidues (passTicks loss s))).mtr
  have later : (passTicks last (supplyCloses (discardResidues (passTicks loss s)))).mtr =
      { (supplyCloses (discardResidues (passTicks loss s))).mtr.advanceClock last with
        tickDue := (supplyCloses (discardResidues (passTicks loss s))).mtr.tickDue + last * Config.clockTickMs } := rfl
  constructor
  case unbilled | gapLimit | demandS => rw [later, mtr]; rfl
  all_goals simp [discardResidues]

theorem advanceClock_add (m : Mtr) (k n : Nat) : (m.advanceClock k).advanceClock n = m.advanceClock (k + n) := by
  have day : ((m.day + (m.second + k) / 86400) % 65536 + ((m.second + k) % 86400 + n) / 86400) % 65536 =
      (m.day + (m.second + (k + n)) / 86400) % 65536 := by omega
  have second : ((m.second + k) % 86400 + n) % 86400 = (m.second + (k + n)) % 86400 := by omega
  simp only [Mtr.advanceClock, day, second]

/-- R132, R140: the clock and the instants after a warm reset's ticks. -/
theorem ticks_passed (loss last : Nat) (s : State) :
    let v := passTicks last (supplyCloses (discardResidues (passTicks loss s)))
    v.now = s.now + (loss + last) * 1000 ∧ v.mtr.tickDue = s.mtr.tickDue + (loss + last) * 1000 ∧
      v.mtr.day = (s.mtr.day + (s.mtr.second + (loss + last)) / 86400) % 65536 ∧
      v.mtr.second = (s.mtr.second + (loss + last)) % 86400 := by
  intro v
  obtain ⟨recs, mtr⟩ := (supplyCloses_closed (discardResidues (passTicks loss s))).mtr
  have later : v.mtr = { (supplyCloses (discardResidues (passTicks loss s))).mtr.advanceClock last with
    tickDue := (supplyCloses (discardResidues (passTicks loss s))).mtr.tickDue + last * Config.clockTickMs } := rfl
  have clock := advanceClock_add s.mtr loss last
  have now : (supplyCloses (discardResidues (passTicks loss s))).now = s.now + loss * 1000 := by
    simp [discardResidues, passTicks]
  refine ⟨?_, ?_, ?_, ?_⟩
  · show (supplyCloses (discardResidues (passTicks loss s))).now + last * 1000 = _
    rw [now]
    omega
  · rw [later, mtr]
    show s.mtr.tickDue + loss * 1000 + last * 1000 = _
    omega
  · rw [later, mtr]
    exact congrArg Mtr.day clock
  · rw [later, mtr]
    exact congrArg Mtr.second clock

/-- R55, R98, R122, R157, R159: the blocks begun again, once all that the end hands over has been taken. -/
theorem settle_renewed (nid opn bln : BitVec 6) (f : Mlk → Mlk) (v : State) :
    let t := settle (resetEnd (setInterval ((warmBlocks nid opn bln v).modMlk f)))
    Renewed v t (endEvents (decide (v.blg.log.length = 32)) v.pins.estop) ∧
      t.lpu.Restarted nid v.now (openings v) (deadNoticesOf v) 12 0 ∧ t.pins = v.pins ∧ t.mgu = .cold opn bln ∧
      t.mlk = f v.mlk := by
  intro t
  obtain ⟨l, given, ended⟩ := resetEnd_warm nid opn bln f v
  have holds : HoldsAgree t.evr t.bsq := by
    refine holdsAgree_stays.toStays.settle holdsAgree_stays.toBerths holdsAgree_notes ?_
    rw [ended]
    exact holdsAgree_warm v.evr v.bsq
  have events := endEvents_length (decide (v.blg.log.length = 32)) v.pins.estop
  generalize hR : resetEnd (setInterval ((warmBlocks nid opn bln v).modMlk f)) = R at ended
  obtain ⟨told, restarted, entries⟩ := drain_rested (s := R) (n := Config.settleFuel)
    (endEvents_single _ _) (warm_still v R (by rw [ended]; rfl))
    (by rw [ended]; exact given) (by rw [ended]) (events.trans (by decide))
  have evr : R.evr.entries = v.evr.warm.entries := by rw [ended]; rfl
  have settled : t = { drain Config.settleFuel R with
      overrun := (drain Config.settleFuel R).overrun + (drain Config.settleFuel R).handoffs.length, handoffs := [] } := by
    rw [← hR]
    rfl
  generalize drain Config.settleFuel R = d at told restarted entries settled
  rw [settled] at holds ⊢
  rw [ended] at told
  refine ⟨renewed_of_told (g := .cold opn bln) (hs := []) { told with handoffs := rfl } ⟨_, entries.trans (by rw [evr])⟩ holds,
    ?_, told.pins, told.mgu, told.mlk⟩
  exact { restarted with
    reply := ⟨restarted.reply.1, restarted.reply.2.trans (by omega)⟩
    given := fun own => by
      obtain ⟨lost, commanded, noticed, notes⟩ := restarted.given own
      exact ⟨lost, commanded, noticed, fun _ => notes (by omega)⟩ }

theorem warmReset_eq (nid opn bln : BitVec 6) (loss last : Nat) (s : State) : warmReset nid opn bln loss last s =
    resetEnd (setInterval ((warmBlocks nid opn bln
      (passTicks last (supplyCloses (discardResidues (passTicks loss s))))).modMlk Mlk.warm)) := rfl

theorem passTicks_clock (n : Nat) (s : State) : (discardResidues (passTicks n s)).clock =
    ((s.mtr.day + (s.mtr.second + n) / 86400) % 65536, (s.mtr.second + n) % 86400) := rfl

theorem exec_warmReset (nid opn bln : BitVec 6) (loss last : Nat) (s : State) :
    exec (.warmReset nid opn bln loss last) s = .next (settle (warmReset nid opn bln loss last { s with handoffs := [] })) :=
  rfl

/-- The clauses of a warm reset from the state `v` that its ticks and closes leave. -/
theorem settle_warm {w : State} (kept : Retained s v) (closes : Closed allBerths u w) (same : v.blg = w.blg)
    (from_ : u.blg = s.blg) (is : settle (resetEnd (setInterval ((warmBlocks nid opn bln v).modMlk f))) = t) :
    ResetKept u.clock s t ∧ t.pins = s.pins ∧ t.mgu = .cold opn bln ∧ t.lpu.nid = nid ∧
      (t.own ≠ none → t.lpu.counters.noteLost = 0) ∧ t.now = v.now ∧ t.mtr.tickDue = v.mtr.tickDue ∧
      t.mtr.day = v.mtr.day ∧ t.mtr.second = v.mtr.second ∧
      ((t.event evLockExhausted).raw = false ∧ (t.event evLockExhausted).count = 0 ∧
        (t.event evLockExhausted).clock = none) ∧ t.mlk = f v.mlk := by
  have settled := settle_renewed nid opn bln f v
  dsimp only at settled
  rw [is] at settled
  obtain ⟨renewed, lpu, pins, mgu, mlk⟩ := settled
  have apart : evLockExhausted ∉ endEvents (decide (v.blg.log.length = 32)) v.pins.estop := by
    rw [mem_endEvents]
    rintro (⟨-, is⟩ | ⟨-, is⟩) <;> exact absurd is (by decide)
  have untouched : t.event evLockExhausted = { v.evr.entries[evLockExhausted] with raw := false, count := 0, clock := none } := by
    obtain ⟨clock, entries⟩ := renewed.entries
    rw [State.event, entries, raisedAll_other apart]
    exact Vector.getElem_map ..
  have own : t.own = strapNode nid := lpu.own
  have mtr : t.mtr = (setInterval { v with mtr := v.mtr.warm }).mtr := renewed.mtr
  refine ⟨?_, pins.trans kept.pins, mgu, lpu.strap, fun some => ?_, renewed.now, by rw [mtr]; rfl, by rw [mtr]; rfl,
    by rw [mtr]; rfl, by rw [untouched]; exact ⟨rfl, rfl, rfl⟩, mlk⟩
  · refine renewed.kept (k := 12) (nid := nid) kept closes same from_ ?_ (fun e mem => ?_) ?_ ?_
    · rw [renewed.now, ← kept.openings, ← kept.deadNotices]
      exact lpu
    · obtain ⟨-, is⟩ | ⟨-, is⟩ := mem_endEvents.1 mem
      · exact .inl is
      · exact .inr (.inl is)
    · rw [mem_endEvents]
      have other : evLogFull ≠ evEstop := by decide
      simp [other]
    · rw [mem_endEvents, kept.pins]
      have other : evEstop ≠ evLogFull := by decide
      simp [other]
  · rw [own] at some
    exact (lpu.given some).2.2.2 (by decide)

end
end Sys2Proof.Machine
end

section
open Sys2Proof Sys2Proof.Machine

/-- Settles O21: the blocks begin again at rest, so that what the end of the reset gives and raises meets nothing that
acts on it. -/
theorem warmResetKeeps : Obligations.WarmResetKeeps := by
  intro nid opn bln loss last s
  have mlk : (passTicks last (supplyCloses (discardResidues (passTicks loss { s with handoffs := [] })))).mlk = s.mlk := by
    simp [discardResidues]
  obtain ⟨now, tick, day, second⟩ := ticks_passed loss last { s with handoffs := [] }
  have retained : Retained s (passTicks last (supplyCloses (discardResidues (passTicks loss { s with handoffs := [] })))) :=
    { retained_ticks loss last { s with handoffs := [] } with }
  have blg : (passTicks last (supplyCloses (discardResidues (passTicks loss { s with handoffs := [] })))).blg =
      (supplyCloses (discardResidues (passTicks loss { s with handoffs := [] }))).blg := by simp
  have closes := supplyCloses_closed (discardResidues (passTicks loss { s with handoffs := [] }))
  have before : (discardResidues (passTicks loss { s with handoffs := [] })).blg = s.blg := by
    simp [discardResidues]
  have clock := passTicks_clock loss { s with handoffs := [] }
  have settled := congrArg settle (warmReset_eq nid opn bln loss last { s with handoffs := [] })
  obtain ⟨kept, pins, mgu, strap, notes, now', tick', day', second', lock, locked⟩ :=
    settle_warm retained closes blg before settled.symm
  rw [clock] at kept
  rw [mlk] at locked
  exact ⟨_, exec_warmReset nid opn bln loss last s, kept, pins, mgu, strap, notes, now'.trans now, tick'.trans tick,
    day'.trans day, second'.trans second, lock, locked⟩

end

section
namespace Sys2Proof.Machine

section
variable {nid opn bln : BitVec 6} {now k n : Nat} {cs : List Bcmd} {ns : List (Nat × Notice)} {s t u v : State} {es : List EventIx}
  {e : EventIx} {src : Byte} {tag : BitVec 16} {l : Lpu}

/-! ### RESTART (R181, R185) -/

theorem restartAllowed_iff (s : State) :
    restartAllowed s = true ↔ ∀ b, (s.berth b).state = if (s.entry b).configured then .dead else .unused := by
  unfold restartAllowed
  rw [List.all_eq_true]
  simp only [mem_allBerths, true_imp_iff, decide_eq_true_eq]

/-- R13: the place that the reply will take is held. -/
theorem Lpu.Restarted.reserve (h : l.Restarted nid now cs ns k 0) :
    ({ l with reservations := l.reservations + 1 } : Lpu).Restarted nid now cs ns k 1 :=
  { h with
    reservations := congrArg (· + 1) h.reservations
    given := fun own => by
      obtain ⟨lost, commanded, noticed, notes⟩ := h.given own
      refine ⟨lost, fun x mem => ?_, fun n mem => ?_, fun room => notes (by omega)⟩
      · exact (commanded x mem).imp id (Or.imp id fun ⟨l₀, e⟩ =>
          ⟨{ l₀ with reservations := l.reservations + 1 }, by
            show ({ l with reservations := l.reservations + 1 } : Lpu) = _
            rw [e]
            rfl⟩)
      · exact (noticed n mem).imp id fun ⟨l₀, e⟩ =>
          ⟨{ l₀ with reservations := l.reservations + 1 }, by
            show ({ l with reservations := l.reservations + 1 } : Lpu) = _
            rw [e]
            rfl⟩ }

/-- After the blocks begin again, the events raised are those raised since. -/
theorem Renewed.raw_iff (h : Renewed v t es) (e : EventIx) : (t.event e).raw = true ↔ e ∈ es := by
  obtain ⟨clock, entries⟩ := h.entries
  rw [State.event, entries]
  by_cases mem : e ∈ es
  · simp only [mem, iff_true]
    exact raisedAll_raw (.inr mem)
  · rw [raisedAll_other mem]
    have clear : v.evr.warm.entries[e].raw = false := congrArg EventEntry.raw (Vector.getElem_map ..)
    simp only [mem, iff_false]
    exact fun raw => Bool.false_ne_true (clear.symm.trans raw)

/-- The events that RESTART raises: those of the end of a reset, and LOCK_EXHAUSTED with no attempt left. -/
def restartEvents (v : State) : List EventIx :=
  endEvents (decide (v.blg.log.length = 32)) v.pins.estop ++ if v.mlk.attempts = 0 then [evLockExhausted] else []

theorem mem_restartEvents : e ∈ restartEvents v ↔ (v.blg.log.length = 32 ∧ e = evLogFull) ∨
    (v.pins.estop = true ∧ e = evEstop) ∨ v.mlk.attempts = 0 ∧ e = evLockExhausted := by
  rw [restartEvents, List.mem_append, mem_endEvents, decide_eq_true_eq]
  by_cases none : v.mlk.attempts = 0 <;> simp [none, or_assoc]

theorem restartEvents_single (v : State) : ∀ e ∈ restartEvents v, eventFamily e = .single := by
  intro e mem
  obtain mem | mem := List.mem_append.1 mem
  · exact endEvents_single _ _ e mem
  · split at mem
    · rw [List.mem_singleton.1 mem]
      rfl
    · cases mem

theorem restartEvents_length (v : State) : (restartEvents v).length ≤ 3 := by
  have first := endEvents_length (decide (v.blg.log.length = 32)) v.pins.estop
  rw [restartEvents, List.length_append]
  split
  · rw [List.length_singleton]
    omega
  · rw [List.length_nil]
    omega

/-- R181: the end of a restart from `v`, with the place of the reply held. -/
def restartEnd (nid opn bln : BitVec 6) (v : State) : State :=
  let r := resetEnd (setInterval (warmBlocks nid opn bln v))
  reservePlace (if r.mlk.attempts = 0 then r.post (.raise evLockExhausted) else r)

theorem restartBlocks_reserved (s : State) : reservePlace (restartBlocks s) =
    restartEnd s.lpu.nid s.mgu.opn s.mgu.bln (supplyCloses (discardResidues s)) := rfl

/-- R181: what the blocks begun again hand over. -/
theorem restartEnd_eq (nid opn bln : BitVec 6) (v : State) :
    ∃ l : Lpu, l.Restarted nid v.now (openings v) (deadNoticesOf v) 0 1 ∧
      restartEnd nid opn bln v = { setInterval (warmBlocks nid opn bln v) with
        lpu := l
        blg := { v.blg.warm with logFull := decide (v.blg.log.length = 32) }
        bsq := { v.bsq.warm with estopRepeat := if v.pins.estop then some (v.now + 100) else none }
        evr := { v.evr.warm with outputs := Vector.replicate 4 v.pins.estop }
        handoffs := (restartEvents v).map .raise } := by
  obtain ⟨l, given, ended⟩ := resetEnd_warm nid opn bln id v
  refine ⟨_, given.reserve, ?_⟩
  have same : resetEnd (setInterval (warmBlocks nid opn bln v)) = _ := ended
  rw [restartEnd]
  dsimp only
  rw [same, restartEvents, List.map_append]
  by_cases none : v.mlk.attempts = 0
  · rw [if_pos none]
    refine (congrArg reservePlace (if_pos none)).trans ?_
    rfl
  · rw [if_neg none, List.map_nil, List.append_nil]
    refine (congrArg reservePlace (if_neg none)).trans ?_
    rfl

/-- What a restart from `v` leaves once all that it hands over has been taken. -/
theorem drain_restarted (nid opn bln : BitVec 6) (v : State) {d : State}
    (is : drain Config.settleFuel (restartEnd nid opn bln v) = d) :
    Renewed v d (restartEvents v) ∧ d.lpu.Restarted nid v.now (openings v) (deadNoticesOf v) 18 1 ∧
      d.pins = v.pins ∧ d.mgu = .cold opn bln ∧ d.mlk = v.mlk ∧ d.handoffs = [] := by
  obtain ⟨l, given, ended⟩ := restartEnd_eq nid opn bln v
  have holds : HoldsAgree d.evr d.bsq := by
    rw [← is]
    refine holdsAgree_stays.toStays.drain holdsAgree_stays.toBerths holdsAgree_notes _ ?_
    rw [ended]
    exact holdsAgree_warm v.evr v.bsq
  have few := restartEvents_length v
  generalize restartEnd nid opn bln v = r at is ended
  have evr : r.evr.entries = v.evr.warm.entries := by rw [ended]
  obtain ⟨told, restarted, entries⟩ := drain_rested (s := r) (n := Config.settleFuel)
    (restartEvents_single v) (warm_still v r (by rw [ended])) (by rw [ended]; exact given) (by rw [ended])
    (few.trans (by decide))
  rw [is] at told restarted entries
  rw [ended] at told
  refine ⟨renewed_of_told (f := id) told ⟨_, entries.trans (by rw [evr])⟩ holds, ?_, told.pins, told.mgu, told.mlk,
    told.handoffs⟩
  exact { restarted with
    reply := ⟨restarted.reply.1, restarted.reply.2.trans (by omega)⟩
    given := fun own => by
      obtain ⟨lost, commanded, noticed, notes⟩ := restarted.given own
      exact ⟨lost, commanded, noticed, fun _ => notes (by omega)⟩ }

/-- R157, R172: what the acceptance of a request and the closes leave as it was. -/
theorem retained_served (src : Byte) (p : MguReq) (s : State) : Retained s (supplyCloses (discardResidues (served src p s))) := by
  obtain ⟨recs, mtr⟩ := (supplyCloses_closed (discardResidues (served src p s))).mtr
  have before : (discardResidues (served src p s)).mtr = (discardResidues s).mtr := by
    simp [discardResidues, served, accepted]
  constructor
  case unbilled | gapLimit | demandS => rw [mtr, before]; rfl
  all_goals simp [discardResidues, served, accepted]

theorem restartAllowed_served (p : MguReq) : restartAllowed (served src p s) = restartAllowed s := by
  have bsq : (served src p s).bsq = s.bsq := by simp [served, accepted]
  unfold restartAllowed State.berth State.entry
  rw [bsq]

/-- R181: RESTART is taken. -/
theorem request_restarted (q : Quiet s) (h : Served s src) (o : isOperator s src.toNat = true)
    (allowed : restartAllowed s = true) :
    let p : MguReq := ⟨src.toNat, tag, BitVec.ofNat 8 20, []⟩
    let v := supplyCloses (discardResidues (served src p s))
    done (request src tag 20 []) s = .next (settle ((enterReserved (reply src tag 20 .done [])
      (drain Config.settleFuel (restartEnd s.lpu.nid s.mgu.opn s.mgu.bln v))).modMgu fun g =>
        { g with parts := [], queue := [] })) := by
  intro p v
  have judged : judge src.toNat 20 (prepared s src.toNat) .restart (served src p s) =
      (plain .done, reservePlace (restartBlocks (served src p s))) := by
    have performed : performRestart (served src p s) = (.done, reservePlace (restartBlocks (served src p s))) :=
      if_pos ((restartAllowed_served p).trans allowed)
    refine (judge_passed (s := s) (r := .restart) o rfl rfl _ p).trans ?_
    exact congrArg ofOwner performed
  have straps : (served src p s).lpu.nid = s.lpu.nid ∧ (served src p s).mgu.opn = s.mgu.opn ∧
      (served src p s).mgu.bln = s.mgu.bln := by
    unfold served setPrepared
    simp only [accepted]
    exact ⟨rfl, rfl, rfl⟩
  rw [restartBlocks_reserved, straps.1, straps.2.1, straps.2.2] at judged
  have queue : (drain Config.settleFuel (restartEnd s.lpu.nid s.mgu.opn s.mgu.bln v)).mgu.queue.length ≤ 1 := by
    obtain ⟨-, -, -, mgu, -, -⟩ := drain_restarted s.lpu.nid s.mgu.opn s.mgu.bln v rfl
    rw [mgu]
    exact Nat.zero_le _
  exact request_served q h (by decide) rfl judged rfl queue

theorem reaches_own (h : reaches s src.toNat = true) : strapNode s.lpu.nid ≠ none := by
  have known : s.own.isSome = true := by
    simp only [reaches, Bool.and_eq_true] at h
    exact h.1.2
  exact fun none => by
    rw [State.own, none] at known
    cases known

/-- R140, R157: the closes leave the lock, device time and the terminal clock. -/
theorem served_closed (src : Byte) (p : MguReq) (s : State) :
    let v := supplyCloses (discardResidues (served src p s))
    v.mlk = s.mlk ∧ v.now = s.now ∧ v.mtr.day = s.mtr.day ∧ v.mtr.second = s.mtr.second ∧ v.mtr.tickDue = s.mtr.tickDue := by
  intro v
  obtain ⟨recs, mtr⟩ := (supplyCloses_closed (discardResidues (served src p s))).mtr
  have before : (discardResidues (served src p s)).mtr = (discardResidues s).mtr := by
    simp [discardResidues, served, accepted]
  have mtr : v.mtr = { (discardResidues s).mtr with recs := recs } := by
    rw [← before]
    exact mtr
  refine ⟨?_, ?_, by rw [mtr]; rfl, by rw [mtr]; rfl, by rw [mtr]; rfl⟩ <;> simp [v, discardResidues, served, accepted]

/-- The clauses of a restart taken, `v` being what the closes leave. -/
theorem restarted_settled {f : ReplyFrame} (own : strapNode s.lpu.nid ≠ none) (kept : Retained s v)
    (closes : Closed allBerths u v) (blg : u.blg = s.blg) (clock : u.clock = s.clock) (now : v.now = s.now)
    (is : settle ((enterReserved f (drain Config.settleFuel (restartEnd s.lpu.nid s.mgu.opn s.mgu.bln v))).modMgu
      fun g => { g with parts := [], queue := [] }) = t) :
    ReplyGiven f t ∧ ResetKept s.clock s t ∧ t.mlk = v.mlk ∧ t.pins = s.pins ∧ t.now = s.now ∧ t.lpu.nid = s.lpu.nid ∧
      t.mgu = .cold s.mgu.opn s.mgu.bln ∧ t.mtr.day = v.mtr.day ∧ t.mtr.second = v.mtr.second ∧
      t.mtr.tickDue = v.mtr.tickDue ∧ ((t.event evLockExhausted).raw = true ↔ v.mlk.attempts = 0) := by
  obtain ⟨renewed, lpu, pins, mgu, mlk, none⟩ := drain_restarted s.lpu.nid s.mgu.opn s.mgu.bln v rfl
  generalize drain Config.settleFuel (restartEnd s.lpu.nid s.mgu.opn s.mgu.bln v) = d at *
  have replied := lpu.reserved own f
  have entered : enterReserved f d = { d with lpu := { d.lpu with reservations := d.lpu.reservations - 1 }.replied f } :=
    enterReply_eq f (s := d.modLpu fun l => { l with reservations := l.reservations - 1 }) lpu.works
  rw [entered] at replied
  have last : t = { d with
      lpu := { d.lpu with reservations := d.lpu.reservations - 1 }.replied f
      mgu := { d.mgu with parts := [], queue := [] } } := by
    rw [← is, entered]
    exact settle_quiet none
  have again : Renewed v t (restartEvents v) := by
    rw [last]
    exact { renewed with }
  have given : t.lpu.Restarted s.lpu.nid t.now (openings s) (deadNoticesOf s) 20 0 := by
    rw [again.now, now, ← kept.openings, ← kept.deadNotices, last, ← now]
    exact replied
  have reset : ResetKept u.clock s t := by
    refine again.kept (k := 20) (nid := s.lpu.nid) kept closes rfl blg given (fun e mem => ?_) ?_ ?_
    · exact (mem_restartEvents.1 mem).imp And.right (Or.imp And.right And.right)
    · simp [mem_restartEvents, show evLogFull ≠ evEstop by decide, show evLogFull ≠ evLockExhausted by decide]
    · simp [mem_restartEvents, kept.pins, show evEstop ≠ evLogFull by decide, show evEstop ≠ evLockExhausted by decide]
  rw [clock] at reset
  refine ⟨replied_given f (congrArg State.lpu last), reset, ?_, ?_, again.now.trans now, given.strap, ?_,
    by rw [again.mtr]; rfl, by rw [again.mtr]; rfl, by rw [again.mtr]; rfl, ?_⟩
  · rw [last]
    exact mlk
  · rw [last]
    exact pins.trans kept.pins
  · rw [last, mgu]
    rfl
  · rw [again.raw_iff]
    simp [mem_restartEvents, show evLockExhausted ≠ evLogFull by decide, show evLockExhausted ≠ evEstop by decide]

end
end Sys2Proof.Machine
end

section
open Sys2Proof Sys2Proof.Machine

/-- Settles O60: every block but MLK begins again at rest, so that what is given and raised at the end, the reply
included, meets nothing that acts on it. -/
theorem restartRequest : Obligations.RestartRequest := by
  intro src tag s quiet works h operator
  refine ⟨fun inUse => ?_, fun idle => ?_⟩
  · have refused : restartAllowed s = false := by
      rw [Bool.eq_false_iff, ne_eq, restartAllowed_iff]
      exact fun all => inUse.elim fun b other => other (all b)
    have busy : ∀ p, perform src.toNat (prepared s src.toNat) .restart (served src p s) = (⟨.busy, [[]]⟩, served src p s) :=
      fun p => congrArg ofOwner (if_neg (by rw [restartAllowed_served, refused]; exact Bool.false_ne_true))
    exact request_plain (u := s) (kind := 20) (r := .restart) quiet works h (by decide) rfl operator rfl rfl busy quiet rfl rfl
  · have allowed := (restartAllowed_iff s).2 idle
    have own : strapNode s.lpu.nid ≠ none := reaches_own h.1
    have kept := retained_served src ⟨src.toNat, tag, BitVec.ofNat 8 20, []⟩ s
    have closes := supplyCloses_closed (discardResidues (served src ⟨src.toNat, tag, BitVec.ofNat 8 20, []⟩ s))
    obtain ⟨mlk, now, day, second, tick⟩ := served_closed src ⟨src.toNat, tag, BitVec.ofNat 8 20, []⟩ s
    have blg : (discardResidues (served src ⟨src.toNat, tag, BitVec.ofNat 8 20, []⟩ s)).blg = s.blg := by
      simp [discardResidues, served, accepted]
    have clock : (discardResidues (served src ⟨src.toNat, tag, BitVec.ofNat 8 20, []⟩ s)).clock = s.clock := by
      simp [discardResidues, served, accepted, State.clock]
    obtain ⟨given, reset, mlk', pins, now', nid, mgu, day', second', tick', raised⟩ :=
      restarted_settled (f := reply src tag 20 .done []) own kept closes blg clock now rfl
    rw [mlk] at mlk' raised
    exact ⟨_, request_restarted quiet h operator allowed, given, reset, mlk', pins, now', nid, mgu, day'.trans day,
      second'.trans second, tick'.trans tick, raised⟩

end

section
namespace Sys2Proof.Machine

/-! ### What SYU has left after an emergency stop (R90, R91) -/

/-- SYU has neither a dead-bus close pending nor a channel in WATCHING or CLOSING. -/
def Syu.Stopped (y : Syu) : Prop :=
  y.deadBus = [] ∧ ∀ (c : Chan) w, y.chans[c] = some w → w.phase = .adjusting ∨ w.phase = .backoff

/-- SYU has lost work, and taken none up. -/
structure Syu.Shrinks (y z : Syu) : Prop where
  breakers : z.breakers = y.breakers
  deadBus : z.deadBus ⊆ y.deadBus
  chans : ∀ (c : Chan) w, z.chans[c] = some w → y.chans[c] = some w

section
variable {s t u : State} {y z w : Syu} {b : Berth} {n k : Nat}

theorem Syu.Shrinks.refl (y : Syu) : y.Shrinks y := ⟨rfl, fun _ h => h, fun _ _ h => h⟩

theorem Syu.Shrinks.trans (h : y.Shrinks z) (g : z.Shrinks w) : y.Shrinks w :=
  ⟨g.breakers.trans h.breakers, fun _ hx => h.deadBus (g.deadBus hx), fun c v hv => h.chans c v (g.chans c v hv)⟩

theorem Syu.Stopped.shrinks (h : y.Stopped) (g : y.Shrinks z) : z.Stopped :=
  ⟨List.subset_nil.1 (h.1 ▸ g.deadBus), fun c v hv => h.2 c v (g.chans c v hv)⟩

theorem cancelSync_shrinks (t : Target) (s : State) : s.syu.Shrinks (cancelSync t s).syu := by
  have channel : ∀ (c : Chan) (s : State), s.syu.Shrinks (cancelChannel t c s).syu := fun c s => by
    rw [cancelChannel_syu]
    split
    · refine ⟨rfl, fun _ h => h, fun d w held => ?_⟩
      by_cases same : c = d
      · subst same; exact nomatch (upd_self s.syu.chans c fun _ => none).symm.trans held
      · exact (upd_other s.syu.chans _ same).symm.trans held
    · exact .refl _
  have queued : s.syu.Shrinks (cancelQueued t s).syu := by
    rw [cancelQueued_syu]
    exact ⟨rfl, fun _ h => h, fun _ _ h => h⟩
  have dead : ∀ s : State, s.syu.Shrinks (cancelDeadClose t s).syu := fun s => by
    rw [cancelDeadClose_syu]
    exact ⟨rfl, fun _ h => (List.mem_filter.1 h).1, fun _ _ h => h⟩
  exact ((queued.trans (channel 0 _)).trans (channel 1 _)).trans (dead _)

theorem release_shrinks (m : Module) (s : State) : s.syu.Shrinks (release m s).syu := by
  have stopped : s.syu.Shrinks (stopModule m s).syu := by
    have cancelled := cancelSync_shrinks (contactor m) (dropModulePair m
      (s.modModule m (ModuleRec.stopping s.now (s.mpm.table[m].stopLimit * 1000))))
    simpa [stopModule] using cancelled
  cases served : (s.modu m).state.serving with
  | false => rw [release_idle served]; exact .refl _
  | true =>
    obtain e | ⟨c, -, e⟩ := release_serving served
    · rw [e]; exact stopped
    · rw [e, tellSummary, State.post]; exact stopped

theorem releaseBerth_shrinks (b : Berth) (s : State) : s.syu.Shrinks (releaseBerth b s).syu := by
  have fold : ∀ (ms : List Module) (s : State), s.syu.Shrinks (ms.foldl (fun s m => release m s) s).syu := by
    intro ms
    induction ms with
    | nil => exact fun s => .refl _
    | cons m ms ih => exact fun s => (release_shrinks m s).trans (ih _)
  exact fold _ s

theorem tripBerth_shrinks (b : Berth) (why : TripReason) (s : State) : s.syu.Shrinks (tripBerth b why s).syu := by
  cases active : (s.berth b).state.active with
  | false => rw [tripBerth_inactive active]; exact .refl _
  | true =>
    have ended : (tripBerth b why s).syu = (releaseBerth b (tripCommanded b s)).syu := by
      rw [tripBerth_eq active]
      simp [tripEnded]
    have cancelled : s.syu.Shrinks (tripCommanded b s).syu := by
      have h := cancelSync_shrinks (outlet b)
        (driveOutputs (s.modBerth b fun r => { r with demand := true, fromOpening := false }))
      simpa [tripCommanded] using h
    rw [ended]
    exact cancelled.trans (releaseBerth_shrinks b _)

theorem fillChannels_stopped (h : s.syu.Stopped) : (fillChannels s).syu.Stopped := by
  have fill : ∀ (c : Chan) {s : State}, s.syu.Stopped → (fillChannel c s).syu.Stopped := by
    intro c s h
    unfold fillChannel
    split
    · refine ⟨h.1, fun d w held => ?_⟩
      by_cases same : c = d
      · subst same
        have taken := (upd_self s.syu.chans c _).symm.trans held
        exact .inl (by rw [← Option.some.inj taken]; rfl)
      · exact h.2 d w ((upd_other s.syu.chans _ same).symm.trans held)
    · exact h
  exact fill 1 (fill 0 h)

/-! ### The hand-offs that a stop gives (R41, R90, R91) -/

/-- A hand-off that brings no module into service and blocks none. -/
def Handoff.Gentle (h : Handoff) : Prop := h.Mild ∨ ∃ m b, h = .contactorOutcome m b .refused

/-- What SYU does at a stop: it gives commands and reports. -/
structure Stopping (n : Nat) (s t : State) : Prop where
  handed : ∃ hs, t.handoffs = s.handoffs ++ hs ∧ hs.length ≤ n ∧ ∀ h ∈ hs, h.Gentle
  link : Lpu.Kept (fun _ => False) 0 s.lpu t.lpu
  lists : t.mpm.lists = s.mpm.lists
  breakers : t.syu.breakers = s.syu.breakers

theorem Stopping.refl (s : State) : Stopping 0 s s :=
  ⟨⟨[], by simp⟩, .refl _ 0 _, rfl, rfl⟩

theorem Stopping.trans (h : Stopping n s t) (g : Stopping k t u) : Stopping (n + k) s u where
  handed := by
    obtain ⟨hs, e, bound, given⟩ := h.handed
    obtain ⟨gs, e', bound', given'⟩ := g.handed
    refine ⟨hs ++ gs, by rw [e', e, List.append_assoc], by rw [List.length_append]; omega, fun x hx => ?_⟩
    exact (List.mem_append.1 hx).elim (given x) (given' x)
  link := h.link.trans g.link
  lists := g.lists.trans h.lists
  breakers := g.breakers.trans h.breakers

theorem Stopping.mono (h : Stopping n s t) (le : n ≤ k) : Stopping k s t :=
  { h with
    handed := by
      obtain ⟨hs, e, bound, given⟩ := h.handed
      exact ⟨hs, e, bound.trans le, given⟩ }

theorem command_stopping (c : BreakerCmd) (t : Target) (s : State) : Stopping 0 s (command c t s) where
  handed := ⟨[], by simp⟩
  link := giveBcmd_kept not_false s
  lists := (command_sends c t s).lists
  breakers := by simp

theorem post_stopping {h : Handoff} (g : h.Gentle) (s : State) : Stopping 1 s (s.post h) :=
  ⟨⟨[h], rfl, le_rfl, fun x hx => by rw [List.mem_singleton.1 hx]; exact g⟩, .refl _ 0 _, rfl, rfl⟩

theorem modChan_stopping (c : Chan) (g : Option ChanWork → Option ChanWork) (s : State) : Stopping 0 s (s.modChan c g) :=
  ⟨⟨[], by simp⟩, .refl _ 0 _, rfl, rfl⟩

theorem endCancelled_stopping (req : SyncReq) (s : State) : Stopping 1 s (endRequest req .cancelled s) := by
  have paired : Stopping 0 s (releasePair req.target s) := ⟨⟨[], by simp⟩, by simp [Lpu.Kept.refl], by simp, by simp⟩
  have given : ∀ s : State, Stopping 1 s (giveResult req.target .cancelled s) := fun s => by
    unfold giveResult
    split
    · refine post_stopping (.inl ?_) s; trivial
    · refine post_stopping (.inl ?_) s; rfl
  exact (paired.trans (given _)).mono (by omega)

theorem estopChannel_stopping (c : Chan) (s : State) : Stopping 2 s (estopChannel c s) := by
  unfold estopChannel
  split
  · exact (Stopping.refl s).mono (by omega)
  split
  · exact ((command_stopping _ _ s).trans (endCancelled_stopping _ _)).trans
      ((modChan_stopping c _ _).trans (post_stopping (h := .serveChannels) (.inl trivial) _))
  · exact (modChan_stopping c _ s).mono (by omega)
  · exact (Stopping.refl s).mono (by omega)
  · exact (Stopping.refl s).mono (by omega)

theorem estopDeadClose_stopping (d : DeadClose) (s : State) : Stopping 1 s (estopDeadClose d s) := by
  have dropped : ∀ s : State, Stopping 0 s (dropDeadClose d.target s) := fun s =>
    ⟨⟨[], by simp [dropDeadClose]⟩, .refl _ 0 _, rfl, rfl⟩
  have given : ∀ s : State, Stopping 1 s (giveOutcome d.target d.berth .refused s) := fun s => by
    unfold giveOutcome
    split
    · refine post_stopping (.inl ?_) s; trivial
    next m _ => exact post_stopping (.inr ⟨m, d.berth, rfl⟩) s
  exact (((command_stopping _ _ s).trans (dropped _)).trans (given _)).mono (by omega)

theorem estopChannel_deadBus (c : Chan) (s : State) : (estopChannel c s).syu.deadBus = s.syu.deadBus := by
  unfold estopChannel
  (repeat' split) <;> simp [idleChannel, State.post, State.modChan]

/-- R91: what SYU gives at a stop. -/
theorem syuEstop_stopping (s : State) : Stopping (4 + s.syu.deadBus.length) s (syuEstop s) := by
  have fold : ∀ (ds : List DeadClose) (s : State), Stopping ds.length s (ds.foldl (fun s d => estopDeadClose d s) s) := by
    intro ds
    induction ds with
    | nil => exact fun s => .refl s
    | cons d ds ih =>
      exact fun s => ((estopDeadClose_stopping d s).trans (ih _)).mono (by rw [List.length_cons]; omega)
  have closed := fold (estopChannel 1 (estopChannel 0 s)).syu.deadBus (estopChannel 1 (estopChannel 0 s))
  have same : (estopChannel 1 (estopChannel 0 s)).syu.deadBus = s.syu.deadBus := by
    rw [estopChannel_deadBus, estopChannel_deadBus]
  exact (((estopChannel_stopping 0 s).trans (estopChannel_stopping 1 _)).trans closed).mono (by rw [same])

/-- R91: a channel's phase after the stop. -/
theorem estopChannel_phase (c : Chan) (s : State) {d : Chan} {w : ChanWork} (held : (estopChannel c s).syu.chans[d] = some w)
    (h : c = d ∨ ∀ v, s.syu.chans[d] = some v → v.phase = .adjusting ∨ v.phase = .backoff) :
    w.phase = .adjusting ∨ w.phase = .backoff := by
  have set : ∀ {u : State} {x : Option ChanWork}, u.syu.chans = s.syu.chans →
      (u.modChan c fun _ => x).syu.chans[d] = some w → (∀ v, x = some v → v.phase = .adjusting) →
      w.phase = .adjusting ∨ w.phase = .backoff := by
    intro u x same hw phase
    by_cases e : c = d
    · subst e
      exact .inl (phase w ((upd_self u.syu.chans c _).symm.trans hw))
    · have kept : (u.modChan c fun _ => x).syu.chans[d] = u.syu.chans[d] := upd_other u.syu.chans _ e
      rw [kept, same] at hw
      exact h.resolve_left e w hw
  have stays : ∀ v, s.syu.chans[c] = some v → v.phase = .adjusting ∨ v.phase = .backoff → s.syu.chans[d] = some w →
      w.phase = .adjusting ∨ w.phase = .backoff := by
    intro v hv phase hw
    obtain rfl | other := h
    · rw [hv, Option.some.injEq] at hw; subst hw; exact phase
    · exact other w hw
  unfold estopChannel at held
  split at held
  next idle =>
    obtain rfl | other := h
    · rw [idle] at held; exact nomatch held
    · exact other w held
  next v hv =>
    split at held
    next => exact set (u := endRequest v.req .cancelled (command .openCmd v.req.target s)) (by simp) held fun v h => nomatch h
    next => exact set (x := some _) rfl held fun v h => by rw [← Option.some.inj h]
    next phase => exact stays v hv (.inl phase) held
    next phase => exact stays v hv (.inr phase) held

/-- R91: the stop leaves no dead-bus close, and channels in ADJUSTING and BACKOFF only. -/
theorem syuEstop_stopped (s : State) : (syuEstop s).syu.Stopped := by
  have one : ∀ (d : DeadClose) (s : State), (estopDeadClose d s).syu =
      { s.syu with deadBus := s.syu.deadBus.filter fun x => x.target ≠ d.target } := fun d s => by
    simp [estopDeadClose, giveOutcome, dropDeadClose]
    split <;> simp [State.post]
  have fold : ∀ (ds : List DeadClose) (s : State), (ds.foldl (fun s d => estopDeadClose d s) s).syu.chans = s.syu.chans ∧
      ∀ x ∈ (ds.foldl (fun s d => estopDeadClose d s) s).syu.deadBus, x ∈ s.syu.deadBus ∧ x ∉ ds := by
    intro ds
    induction ds with
    | nil => exact fun s => ⟨rfl, fun x hx => ⟨hx, List.not_mem_nil⟩⟩
    | cons d ds ih =>
      intro s
      obtain ⟨chans, dead⟩ := ih (estopDeadClose d s)
      refine ⟨by rw [List.foldl_cons, chans, one], fun x hx => ?_⟩
      obtain ⟨here, other⟩ := dead x hx
      rw [one] at here
      obtain ⟨here, target⟩ := List.mem_filter.1 here
      refine ⟨here, fun h => ?_⟩
      obtain rfl | h := List.mem_cons.1 h
      · simp at target
      · exact other h
  obtain ⟨chans, dead⟩ := fold (estopChannel 1 (estopChannel 0 s)).syu.deadBus (estopChannel 1 (estopChannel 0 s))
  refine ⟨List.eq_nil_iff_forall_not_mem.2 fun x hx => (dead x hx).2 (dead x hx).1, fun c w held => ?_⟩
  have held' : (estopChannel 1 (estopChannel 0 s)).syu.chans[c] = some w := by
    rw [← chans]; exact held
  refine estopChannel_phase 1 _ held' ?_
  match c with
  | 0 => exact .inr fun v hv => estopChannel_phase 0 s hv (.inl rfl)
  | 1 => exact .inl rfl

end
end Sys2Proof.Machine
end

section
namespace Sys2Proof.Machine

/-! ### Gentle hand-offs where no trip acts (R49, R159) -/

/-- No berth is in a state in which a trip acts. -/
def State.AllStill (s : State) : Prop := ∀ b, (s.berth b).state.active = false

/-- What taking a gentle hand-off does where no trip acts. -/
inductive GentleWork (s : State) : State → Prop
  | idle : GentleWork s s
  | raise (e : EventIx) (mild : (Handoff.raise e).Mild) : GentleWork s (raiseEntry e s)
  | summary (c : Berth) (v : Summary) : GentleWork s (s.modBerth c fun r => { r with summary := v })
  | release (m : Module) (c : Berth) : GentleWork s ((release m s).post (.firstFailure c))
  | serve : GentleWork s (serveChannelsTaken s)

section
variable {s t u : State} {b : Berth} {n k : Nat} {x : Option Nat} {d : Nat} {body : Notice} {now : Nat} {why : TripReason}

theorem State.AllStill.ne (still : s.AllStill) {c : Berth} {st : BerthState} (h : st.active = true) :
    (s.berth c).state ≠ st := by
  intro e
  have := still c
  rw [e, h] at this
  cases this

theorem contactorResult_cancelled (m : Module) (s : State) : contactorResult m .cancelled s = s := by
  unfold contactorResult
  split <;> rfl

theorem contactorOutcome_refused (m : Module) (c : Berth) (s : State) :
    contactorOutcome m c .refused s = s ∨ contactorOutcome m c .refused s = (release m s).post (.firstFailure c) := by
  unfold contactorOutcome
  dsimp only
  split
  · exact .inr rfl
  · exact .inl rfl

theorem takeHandoff_gentle {h : Handoff} (still : s.AllStill) (g : h.Gentle) : GentleWork s (takeHandoff h s) := by
  have same : ∀ {v : State}, v = s → GentleWork s v := fun e => e ▸ .idle
  obtain mild | ⟨m, c, rfl⟩ := g
  · cases h with
    | raise e => exact .raise e mild
    | summary c =>
      show GentleWork s (summaryTaken c s)
      unfold summaryTaken
      split
      · exact .idle
      · rw [actOnSummary_inactive (by rw [State.berth_modBerth]; exact still c)]
        exact .summary c _
    | firstFailure c => exact same (if_neg (still.ne rfl))
    | listEmpty c => exact same (if_neg fun h => still.ne rfl h.1)
    | outletResult c r => exact same (if_neg (still.ne rfl))
    | outletOutcome c o => exact same (if_neg (still.ne rfl))
    | contactorResult m r =>
      obtain rfl : r = .cancelled := mild
      exact same (contactorResult_cancelled m s)
    | contactorOutcome m c o => exact mild.elim
    | energised c => exact same (if_neg (still.ne rfl))
    | pollSkipped m j => exact mild.elim
    | serveChannels => exact .serve
  · obtain e | e := contactorOutcome_refused m c s
    · exact same e
    · exact (show takeHandoff (.contactorOutcome m c .refused) s = _ from e) ▸ GentleWork.release m c

/-- R164: an action where no trip acts. -/
theorem applyAction_still {e : EventIx} (still : s.AllStill) (mild : (Handoff.raise e).Mild) :
    applyAction e s = s ∨ (s.event e).action = .shed ∧ ∃ c, applyAction e s = shedAction c s := by
  have quiet : ∀ c, tripEvent c s = s := fun c => tripBerth_inactive (still c) .event
  unfold applyAction
  split
  next c k shed _ => exact .inr ⟨shed, c, rfl⟩
  · exact .inl (quiet _)
  · split
    · exact .inl rfl
    · exact .inl (quiet _)
  · exact .inl (List.foldl_fixed' quiet _)
  next m k _ family => exact absurd family (mild m k)
  · exact .inl rfl

/-- R162: the event holds are apart from the repeat timer of the emergency stop. -/
theorem recomputeHolds_estopRepeat (s : State) : (recomputeHolds s).bsq.estopRepeat = s.bsq.estopRepeat := by
  have one : ∀ (c : Berth) (u : State), (recomputeHold c u).bsq.estopRepeat = u.bsq.estopRepeat := fun c u => by
    unfold recomputeHold
    dsimp only
    split <;> rfl
  show (recomputeHold 3 (recomputeHold 2 (recomputeHold 1 (recomputeHold 0 s)))).bsq.estopRepeat = _
  rw [one, one, one, one]

/-- R159: the parts of a raise where no trip acts: the entry is counted, or marked and noted, with at most a SHED. -/
theorem raiseEntry_still {P : Handoff → Prop} {e : EventIx} (still : s.AllStill) (mild : (Handoff.raise e).Mild) :
    ∃ u : State, (∀ b, Aside b 0 P s u) ∧ u.syu = s.syu ∧ u.bsq.estopRepeat = s.bsq.estopRepeat ∧
      (raiseEntry e s = u ∨ (s.event e).raw = false ∧ (s.event e).enabled = true ∧ (s.event e).action = .shed ∧
        ∃ c, raiseEntry e s = shedAction c u) := by
  unfold raiseEntry
  split
  · refine ⟨s.modEntry e fun x => { x with count := satAdd 255 x.count 1 }, fun b => modEntry_aside ?_ s, rfl, rfl, .inl rfl⟩
    exact fun _ => ⟨id, rfl, rfl⟩
  next raw =>
  dsimp only
  have marked : ∀ b, Aside b 0 P s (s.modEntry e fun x => { x with raw := true, count := 0, clock := some s.clock }) :=
    fun b => modEntry_aside (by exact fun _ => ⟨fun _ => rfl, rfl, rfl⟩) s
  split
  next enabled =>
    have noted := fun b => ((marked b).trans (giveNotes_aside e _)).trans (recomputeHolds_aside _)
    refine ⟨_, noted, by simp [State.modEntry, State.modEvr],
      (recomputeHolds_estopRepeat _).trans (by simp [State.modEntry, State.modEvr]), ?_⟩
    obtain same | ⟨shed, c, given⟩ := applyAction_still (s := recomputeHolds (giveNotes e (s.modEntry e fun x =>
      { x with raw := true, count := 0, clock := some s.clock }))) (fun b => by rw [(noted b).state]; exact still b) mild
    · exact .inl same
    · exact .inr ⟨Bool.eq_false_iff.2 raw, enabled, ((noted 0).entries e).2 ▸ shed, c, given⟩
  · exact ⟨_, marked, rfl, rfl, .inl rfl⟩

theorem release_gentle (m : Module) (c : Berth) (s : State) :
    Aside b 0 Handoff.Gentle s ((release m s).post (.firstFailure c)) :=
  ((release_aside m s).mono le_rfl fun _ h => .inl h.mild).trans (post_aside (.inl trivial) _)

/-- What gentle work leaves of a berth. -/
theorem GentleWork.aside (w : GentleWork s t) (still : s.AllStill) (b : Berth) : Aside b 4 Handoff.Gentle s t := by
  cases w with
  | idle => exact .refl b 4 _ s
  | raise e mild => exact (raiseEntry_aside (still b) mild).mono le_rfl fun _ => .inl
  | summary c v => exact (keepSummary_aside c v s).mono (n := 0) (by omega) fun _ => id
  | release m c => exact (release_gentle m c s).mono (by omega) fun _ => id
  | serve => exact (serveChannelsTaken_aside s).mono (by omega) fun _ h => .inl h.mild

/-- Gentle work gives no SHPN where no entry has the SHED action. -/
theorem GentleWork.aside_silent (w : GentleWork s t) (still : s.AllStill)
    (events : ∀ e, RaisesAlone e s ∨ (s.event e).action ∈ [.tripBerth, .tripAll]) (b : Berth) :
    Aside b 0 Handoff.Gentle s t := by
  cases w with
  | idle => exact .refl b 0 _ s
  | raise e mild =>
    obtain ⟨u, noted, -, -, same | ⟨raw, enabled, shed, -⟩⟩ := raiseEntry_still (P := Handoff.Gentle) still mild
    · rw [same]; exact noted b
    · obtain alone | trips := events e
      · obtain h | h := alone
        · rw [h] at raw; exact nomatch raw
        · rw [h] at enabled; exact nomatch enabled
      · rw [shed] at trips; exact absurd trips (by decide)
  | summary c v => exact keepSummary_aside c v s
  | release m c => exact release_gentle m c s
  | serve => exact (serveChannelsTaken_aside s).mono le_rfl fun _ h => .inl h.mild

/-- No trip acts, and what waits is gentle. -/
structure Hushed (s : State) : Prop where
  still : s.AllStill
  gentle : ∀ h ∈ s.handoffs, h.Gentle

/-- The state that an emergency stop leaves while its hand-offs are taken; `x` is the repeat timer. -/
structure Ceased (x : Option Nat) (s : State) : Prop extends Hushed s where
  syu : s.syu.Stopped
  timer : s.bsq.estopRepeat = x

theorem GentleWork.hushed (w : GentleWork s t) (h : Hushed s) : Hushed t := by
  have aside := w.aside h.still
  refine ⟨fun b => by rw [(aside b).state]; exact h.still b, fun y hy => ?_⟩
  obtain ⟨hs, e, given⟩ := (aside 0).handed
  rw [e] at hy
  exact (List.mem_append.1 hy).elim (h.gentle y) (given y)

theorem GentleWork.ceased (w : GentleWork s t) (h : Ceased x s) : Ceased x t := by
  have parts : t.syu.Stopped ∧ t.bsq.estopRepeat = s.bsq.estopRepeat := by
    cases w with
    | idle => exact ⟨h.syu, rfl⟩
    | raise e mild =>
      obtain ⟨u, -, syu, timer, same | ⟨-, -, -, c, given⟩⟩ := raiseEntry_still (P := Handoff.Gentle) h.still mild
      · rw [same, syu, timer]; exact ⟨h.syu, rfl⟩
      · have kept : (shedAction c u).syu = u.syu ∧ (shedAction c u).bsq = u.bsq := by simp
        rw [given, kept.1, kept.2, syu, timer]; exact ⟨h.syu, rfl⟩
    | summary c v => exact ⟨h.syu, rfl⟩
    | release m c => exact ⟨h.syu.shrinks (release_shrinks m s), by simp [State.post]⟩
    | serve =>
      unfold serveChannelsTaken
      split
      · exact ⟨fillChannels_stopped h.syu, by simp⟩
      split
      · exact ⟨h.syu, rfl⟩
      · exact ⟨h.syu, rfl⟩
  exact { w.hushed h.toHushed with syu := parts.1, timer := parts.2.trans h.timer }

theorem Hushed.take {h : Handoff} {rest : List Handoff} (c : Hushed s) (e : s.handoffs = h :: rest) :
    Hushed { s with handoffs := rest } ∧ GentleWork { s with handoffs := rest } (takeHandoff h { s with handoffs := rest }) :=
  ⟨{ c with gentle := fun y hy => c.gentle y (by rw [e]; exact List.mem_cons_of_mem _ hy) },
    takeHandoff_gentle c.still (c.gentle h (by simp [e]))⟩

theorem Hushed.drain (c : Hushed s) (n : Nat) : Hushed (Machine.drain n s) ∧ ∀ b, Later b s (Machine.drain n s) := by
  induction n generalizing s with
  | zero => exact ⟨c, fun b => .refl b s⟩
  | succ n ih =>
    cases e : s.handoffs with
    | nil => rw [drain_nil _ e]; exact ⟨c, fun b => .refl b s⟩
    | cons h rest =>
      rw [drain_cons n e]
      obtain ⟨rested, work⟩ := c.take e
      obtain ⟨hushed, later⟩ := ih (work.hushed rested)
      exact ⟨hushed, fun b => ((later_handoffs b s rest).trans (work.aside rested.still b).later).trans (later b)⟩

theorem Hushed.settle (c : Hushed s) (b : Berth) : Later b s (Machine.settle s) := by
  obtain ⟨n, l⟩ := (c.drain Config.settleFuel).2 b
  exact ⟨n, { l with }⟩

theorem Ceased.drain (c : Ceased x s) (n : Nat) : Ceased x (Machine.drain n s) := by
  induction n generalizing s with
  | zero => exact c
  | succ n ih =>
    cases e : s.handoffs with
    | nil => rw [drain_nil _ e]; exact c
    | cons h rest =>
      rw [drain_cons n e]
      obtain ⟨rested, work⟩ := c.toHushed.take e
      exact ih (work.ceased { rested with syu := c.syu, timer := c.timer })

theorem Ceased.settle (c : Ceased x s) : Ceased x (Machine.settle s) := by
  have ceased := c.drain Config.settleFuel
  exact { ceased with gentle := fun h hh => absurd hh List.not_mem_nil }

/-- R159: a mild raise among the hand-offs that are taken leaves its entry raw. -/
theorem Hushed.raises {e : EventIx} (c : Hushed s) (mild : (Handoff.raise e).Mild) {before after : List Handoff}
    (h : s.handoffs = before ++ .raise e :: after) {n : Nat} (hn : before.length < n) :
    ((Machine.drain n s).event e).raw = true := by
  obtain ⟨n, rfl⟩ : ∃ k, n = k + 1 := ⟨n - 1, by omega⟩
  induction before generalizing s after n with
  | nil =>
    obtain ⟨rested, work⟩ := c.take h
    rw [drain_cons n h]
    exact (((work.hushed rested).drain n).2 0).raw (raiseEntry_raw (b := 0) (rested.still 0) mild)
  | cons y before ih =>
    rw [List.cons_append] at h
    obtain ⟨rested, work⟩ := c.take h
    obtain ⟨gs, eq, -⟩ := (work.aside rested.still 0).handed
    obtain ⟨k, rfl⟩ : ∃ k, n = k + 1 := ⟨n - 1, by simp at hn; omega⟩
    rw [drain_cons (k + 1) h]
    exact ih (work.hushed rested) (by rw [eq, List.append_assoc, List.cons_append]) k (by simp at hn; omega)

theorem Hushed.settle_raises {e : EventIx} (c : Hushed s) (mild : (Handoff.raise e).Mild) {before after : List Handoff}
    (h : s.handoffs = before ++ .raise e :: after) (hn : before.length < Config.settleFuel) :
    ((Machine.settle s).event e).raw = true :=
  c.raises mild h hn

theorem Later.demand (h : Later b s t) : (t.berth b).demand = (s.berth b).demand := by
  obtain ⟨n, h⟩ := h
  exact h.demand

/-! ### Notices with room for those of trips to come (R11, R115) -/

/-- CONTROL has room for the notices of the berths that may still trip, and raises bring trips only. -/
structure Roomy (s : State) : Prop where
  room : s.lpu.control.length + (activeBerths s).card ≤ 24
  events : ∀ e, RaisesAlone e s ∨ (s.event e).action ∈ [.tripBerth, .tripAll]

theorem activeBerths_trip (active : (s.berth b).state.active = true) :
    activeBerths (tripBerth b why s) = (activeBerths s).erase b := by
  ext c
  rw [Finset.mem_erase, mem_activeBerths, mem_activeBerths]
  by_cases same : b = c
  · subst same
    rw [(tripBerth_tripped active why).1]
    simp [BerthState.active]
  · rw [(tripBerth_aside same why s).state]
    simp [Ne.symm same]

/-- A trip uses one of the rooms kept for notices. -/
theorem Roomy.trip (h : Roomy s) (w : EgressWorks s) (c : Berth) (why : TripReason) : Roomy (tripBerth c why s) := by
  cases active : (s.berth c).state.active with
  | false => rw [tripBerth_inactive active]; exact h
  | true =>
    obtain ⟨b, other⟩ := exists_other c
    have aside := tripBerth_aside other why s
    have card := Finset.card_erase_add_one (mem_activeBerths.2 active)
    have room := h.room
    have length := (aside.link.works w).2 (by omega)
    refine ⟨?_, aside.events h.events⟩
    rw [activeBerths_trip active]
    omega

theorem Roomy.aside (h : Roomy s) (w : EgressWorks s) {P : Handoff → Prop} (a : ∀ b, Aside b 0 P s t) : Roomy t := by
  have length := ((a 0).link.works w).2 (by have := h.room; omega)
  have same : activeBerths t = activeBerths s := by
    ext c
    rw [mem_activeBerths, mem_activeBerths, (a c).state]
  refine ⟨?_, (a 0).events h.events⟩
  rw [same]
  have := h.room
  omega

/-- A notice given stands, with room for more. -/
structure Standing (d : Nat) (body : Notice) (now : Nat) (s : State) : Prop extends Roomy s where
  works : EgressWorks s
  noticed : s.lpu.Noticed d body now
  sending : s.lpu.sending ≠ none

theorem Standing.trip (h : Standing d body now s) (c : Berth) (why : TripReason) :
    Standing d body now (tripBerth c why s) := by
  cases active : (s.berth c).state.active with
  | false => rw [tripBerth_inactive active]; exact h
  | true =>
    obtain ⟨b, other⟩ := exists_other c
    have aside := tripBerth_aside other why s
    have card := Finset.card_erase_add_one (mem_activeBerths.2 active)
    have room := h.room
    have q := aside.link.busy h.sending
    exact ⟨h.toRoomy.trip h.works c why, (aside.link.works h.works).1, h.noticed.queued q (by omega),
      by rw [q.sending]; exact h.sending⟩

theorem Standing.aside (h : Standing d body now s) {P : Handoff → Prop} (a : ∀ b, Aside b 0 P s t) :
    Standing d body now t := by
  have q := (a 0).link.busy h.sending
  exact ⟨h.toRoomy.aside h.works a, ((a 0).link.works h.works).1, h.noticed.queued q (by have := h.room; omega),
    by rw [q.sending]; exact h.sending⟩

theorem Standing.drain (h : Standing d body now s) (c : Hushed s) (n : Nat) :
    Standing d body now (Machine.drain n s) := by
  induction n generalizing s with
  | zero => exact h
  | succ n ih =>
    cases e : s.handoffs with
    | nil => rw [drain_nil _ e]; exact h
    | cons y rest =>
      rw [drain_cons n e]
      obtain ⟨rested, work⟩ := c.take e
      have h' : Standing d body now { s with handoffs := rest } := { h with }
      exact ih (h'.aside (work.aside_silent rested.still h'.events)) (work.hushed rested)

theorem Standing.settled (h : Standing d body now s) (c : Hushed s) : (settle s).lpu.Noticed d body now :=
  (h.drain c Config.settleFuel).noticed

end
end Sys2Proof.Machine
end

section
namespace Sys2Proof.Machine

section
variable {s t u : State} {b c : Berth} {why : TripReason} {x : Option Nat}

/-! ### A trip among others (R115, R122) -/

theorem tripBerth_idle (active : (s.berth b).state.active = true) (why : TripReason) :
    (tripBerth b why s).syu.busy (outlet b) = false := by
  have ended : (tripBerth b why s).syu = (releaseBerth b (tripCommanded b s)).syu := by
    rw [tripBerth_eq active]
    simp [tripEnded]
  rw [ended]
  exact (releaseBerth_aside (b := b) b (tripCommanded b s)).idle (tripCommanded_idle b s)

theorem closeSession_clock (b : Berth) (why : EndReason) (s : State) : (closeSession b why s).clock = s.clock := by
  unfold closeSession
  split
  · simp [State.clock, State.modMeter, State.modMtr, State.modSlot, State.modBlg]
  · rfl

theorem tripBerth_clock (b : Berth) (why : TripReason) (s : State) : (tripBerth b why s).clock = s.clock := by
  cases active : (s.berth b).state.active with
  | false => rw [tripBerth_inactive active]
  | true =>
    have mtr : (tripBerth b why s).mtr = (closeSession b why.endReason (releaseBerth b (tripCommanded b s))).mtr := by
      rw [tripBerth_eq active]
      simp [tripEnded, endBilling]
    have before : (releaseBerth b (tripCommanded b s)).clock = s.clock := by simp [State.clock, tripCommanded]
    rw [← before, ← closeSession_clock b why.endReason (releaseBerth b (tripCommanded b s)), State.clock, mtr]
    rfl

theorem tripBerth_entry (b c : Berth) (why : TripReason) (s : State) : (tripBerth b why s).entry c = s.entry c := by
  cases active : (s.berth b).state.active with
  | false => rw [tripBerth_inactive active]
  | true =>
    rw [tripBerth_eq active, enterState_entry]
    simp [tripEnded, State.entry, stopTimers, stopRamp, setShipHold, tripCommanded]

/-- R115: the BERTH notice of a trip. -/
theorem tripBerth_noticed (active : (s.berth b).state.active = true) (why : TripReason) (w : EgressWorks s)
    (o : s.own ≠ none) (room : s.lpu.control.length < 24) :
    NoticeGiven (s.entry b).gateway (.berth b 12) (tripBerth b why s) := by
  have before := (tripCommanded_kept (x := fun _ => False) not_false s).trans
    ((tripEnded_kept b why s).mono le_rfl fun _ => False.elim)
  obtain ⟨works, length⟩ := before.works w
  have table : (tripEnded b why s).entry b = s.entry b := by
    simp [tripEnded, State.entry, stopTimers, stopRamp, setShipHold, tripCommanded]
  rw [tripBerth_eq active, ← table]
  exact (enterState_notice works (by rw [State.own, before.nid]; exact o)
    (by have := length (by omega); omega)).1

/-- For the trip of berth `b`, `u` is as `s` was: the other blocks' work so far is of no account for it. -/
structure Alike (b : Berth) (s u : State) : Prop where
  state : (u.berth b).state = (s.berth b).state
  slot : u.slot b = s.slot b
  clock : u.clock = s.clock
  list : u.list b = s.list b
  entry : u.entry b = s.entry b
  breakers : u.syu.breakers = s.syu.breakers
  nid : u.lpu.nid = s.lpu.nid
  now : u.now = s.now
  works : EgressWorks s → EgressWorks u
  roomy : EgressWorks s → Roomy s → Roomy u

/-- R115: a trip of another berth is of no account. -/
theorem Alike.trip (h : Alike b s u) (other : c ≠ b) (why : TripReason) : Alike b s (tripBerth c why u) := by
  have aside := tripBerth_aside other why u
  refine ⟨aside.state.trans h.state, aside.slot.trans h.slot, (tripBerth_clock c why u).trans h.clock,
    (aside.list b).trans h.list, (tripBerth_entry c b why u).trans h.entry,
    (tripBerth_shrinks c why u).breakers.trans h.breakers, aside.link.nid.trans h.nid, ?_,
    fun w => (aside.link.works (h.works w)).1, fun w r => (h.roomy w r).trip (h.works w) c why⟩
  simpa using h.now

theorem Alike.trips (h : Alike b s u) {bs : List Berth} (hb : b ∉ bs) (why : TripReason) :
    Alike b s (bs.foldl (fun s c => tripBerth c why s) u) := by
  induction bs generalizing u with
  | nil => exact h
  | cons c cs ih =>
    exact ih (h.trip (fun e => hb (by rw [e]; exact List.mem_cons_self)) why) fun m => hb (List.mem_cons_of_mem c m)

theorem roomy_of_room (events : ∀ e, RaisesAlone e s ∨ (s.event e).action ∈ [.tripBerth, .tripAll])
    (room : s.lpu.control.length + 4 ≤ 24) : Roomy s := by
  have card : (activeBerths s).card ≤ 4 := (Finset.card_le_univ _).trans (by simp)
  exact ⟨by omega, events⟩

theorem Alike.standing (h : Alike b s u) (active : (s.berth b).state.active = true) (why : TripReason)
    (w : EgressWorks s) (o : s.own ≠ none) (roomy : Roomy s) :
    Standing (s.entry b).gateway (.berth b 12) s.now (tripBerth b why u) := by
  have active' : (u.berth b).state.active = true := by rw [h.state]; exact active
  have own : u.own ≠ none := by rw [State.own, h.nid]; exact o
  have room := (h.roomy w roomy).room
  have member : 0 < (activeBerths u).card := Finset.card_pos.2 ⟨b, mem_activeBerths.2 active'⟩
  have noticed := tripBerth_noticed active' why (h.works w) own (by omega)
  obtain ⟨other, hb⟩ := exists_other b
  have aside := tripBerth_aside hb why u
  refine ⟨(h.roomy w roomy).trip (h.works w) b why, (aside.link.works (h.works w)).1, ?_,
    tripBerth_sending active' why (h.works w) own⟩
  rw [noticeGiven_iff, h.entry] at noticed
  have now : (tripBerth b why u).now = s.now := by simpa using h.now
  rwa [now] at noticed

/-- R115: a trip after other work that is of no account, and before work aside from its berth. -/
theorem Alike.tripped (h : Alike b s u) (active : (s.berth b).state.active = true) (why : TripReason)
    (l : Later b (tripBerth b why u) t) (now : t.now = s.now)
    (stands : Standing (s.entry b).gateway (.berth b 12) s.now (tripBerth b why u) →
      t.lpu.Noticed (s.entry b).gateway (.berth b 12) s.now) : TrippedFrom b why s t := by
  have active' : (u.berth b).state.active = true := by rw [h.state]; exact active
  have own : s.own ≠ none → u.own ≠ none := fun o => by rw [State.own, h.nid]; exact o
  obtain ⟨state, demand, opening, reason, output, rampDue, rampTimer, holdEnd, genDue, openDue, capacity, power, slot,
    log, modules, -, given⟩ := tripBerth_tripped active' why
  have tripped : TrippedFrom b why s (tripBerth b why u) := by
    refine ⟨state, demand, opening, reason, output, rampDue, rampTimer, holdEnd, genDue, openDue, capacity, power, slot,
      fun r hr => ?_, fun m hm => ?_, fun _ => tripBerth_idle active' why, fun w o => ⟨?_, fun events _ room => ?_⟩⟩
    · rw [← h.clock]; exact log r (h.slot.trans hr)
    · exact modules m (by rw [h.list]; exact hm)
    · have command := (given (h.works w) (own o)).1
      rw [State.breaker, h.breakers] at command
      exact command
    · have noticed := (h.standing active why w o (roomy_of_room events room)).noticed
      have same : (tripBerth b why u).now = s.now := by simpa using h.now
      rw [noticeGiven_iff, same]
      exact noticed
  refine tripped.later l (fun w o => tripBerth_sending active' why (h.works w) (own o)) fun w o events _ room => ?_
  rw [noticeGiven_iff, now]
  exact stands (h.standing active why w o (roomy_of_room events room))

/-! ### The assertion of the emergency-stop input (R91, R122) -/

/-- Trips for one reason. -/
def trips (why : TripReason) (bs : List Berth) (s : State) : State := bs.foldl (fun s b => tripBerth b why s) s

theorem trips_append (why : TripReason) (bs cs : List Berth) (s : State) :
    trips why (bs ++ cs) s = trips why cs (trips why bs s) :=
  List.foldl_append ..

theorem tripBerth_gentle (c : Berth) (why : TripReason) (s : State) : ∃ hs,
    (tripBerth c why s).handoffs = s.handoffs ++ hs ∧ hs.length ≤ 55 ∧ ∀ h ∈ hs, h.Gentle := by
  obtain ⟨b, other⟩ := exists_other c
  obtain ⟨hs, e, given⟩ := (tripBerth_aside other why s).handed
  have length := tripBerth_length c why s
  rw [e, List.length_append] at length
  exact ⟨hs, e, by omega, fun h hh => .inl (given h hh).mild⟩

theorem trips_gentle (why : TripReason) (bs : List Berth) (s : State) : ∃ hs,
    (trips why bs s).handoffs = s.handoffs ++ hs ∧ hs.length ≤ 55 * bs.length ∧ ∀ h ∈ hs, h.Gentle := by
  induction bs generalizing s with
  | nil => exact ⟨[], by simp [trips]⟩
  | cons c cs ih =>
    obtain ⟨hs, e, bound, gentle⟩ := tripBerth_gentle c why s
    obtain ⟨gs, e', bound', gentle'⟩ := ih (tripBerth c why s)
    refine ⟨hs ++ gs, ?_, by rw [List.length_append, List.length_cons]; omega, fun h hh => ?_⟩
    · rw [← List.append_assoc, ← e]; exact e'
    · exact (List.mem_append.1 hh).elim (gentle h) (gentle' h)

theorem trips_shrinks (why : TripReason) (bs : List Berth) (s : State) : s.syu.Shrinks (trips why bs s).syu := by
  induction bs generalizing s with
  | nil => exact .refl _
  | cons c cs ih => exact (tripBerth_shrinks c why s).trans (ih _)

/-- R115: where a trip of the berth acts no more, the trips go aside from it. -/
theorem trips_aside (inactive : (s.berth b).state.active = false) (why : TripReason) (bs : List Berth) :
    Aside b bs.length Handoff.Mild s (trips why bs s) := by
  induction bs generalizing s with
  | nil => exact .refl b 0 _ s
  | cons c cs ih =>
    have first := tripBerth_mild inactive c why
    exact (first.trans (ih (by rw [first.state]; exact inactive))).mono (by rw [List.length_cons]; omega) fun _ => id

theorem trips_inactive (why : TripReason) {bs : List Berth} (hb : b ∈ bs) (s : State) : ((trips why bs s).berth b).state.active = false := by
  obtain ⟨before, after, rfl⟩ := List.append_of_mem hb
  have tripped : ((tripBerth b why (trips why before s)).berth b).state.active = false := by
    cases active : ((trips why before s).berth b).state.active with
    | false => rw [tripBerth_inactive active]; exact active
    | true => rw [(tripBerth_tripped active why).1]; rfl
  have later := (trips_aside tripped why after).state
  rw [trips_append]
  exact (congrArg BerthState.active later).trans tripped

theorem Standing.trips {d : Nat} {body : Notice} {now : Nat} (h : Standing d body now s) (why : TripReason) (bs : List Berth) :
    Standing d body now (Machine.trips why bs s) := by
  induction bs generalizing s with
  | nil => exact h
  | cons c cs ih => exact ih (h.trip c why)

/-- R91, R122: SYU's part of the assertion, after the outputs are driven. -/
def stopBegun (s : State) : State := syuEstop (driveOutputs (s.modPins fun p => { p with estop := true }))

theorem stopBegun_stopping (s : State) : Stopping (4 + s.syu.deadBus.length) s (stopBegun s) := by
  have driven : Stopping 0 s (driveOutputs (s.modPins fun p => { p with estop := true })) :=
    ⟨⟨[], by simp⟩, .refl _ 0 _, rfl, rfl⟩
  exact (driven.trans (syuEstop_stopping _)).mono (by simp)

theorem stopBegun_berths (s : State) : (stopBegun s).bsq = s.bsq := by simp [stopBegun]

theorem alike_stopBegun (b : Berth) (s : State) : Alike b s (stopBegun s) := by
  have stopping := stopBegun_stopping s
  have berths : ∀ c, ((stopBegun s).berth c) = s.berth c := fun c => by rw [State.berth, stopBegun_berths]; rfl
  refine ⟨by rw [berths], by simp [stopBegun, State.slot], by simp [stopBegun, State.clock], ?_,
    by simp [stopBegun, State.entry], stopping.breakers, stopping.link.nid, by simp [stopBegun],
    fun w => (stopping.link.works w).1, fun w r => ⟨?_, fun e => ?_⟩⟩
  · rw [State.list, stopping.lists]; rfl
  · have same : activeBerths (stopBegun s) = activeBerths s := by
      ext c
      rw [mem_activeBerths, mem_activeBerths, berths]
    have length := (stopping.link.works w).2 (by have := r.room; omega)
    rw [same]
    have := r.room
    omega
  · have entries : ∀ e, (stopBegun s).event e = s.event e := fun e => by
      simp [stopBegun, State.event, driveOutputs, State.modEvr, State.modPins]
    have event := r.events e
    rw [entries]
    exact event.imp_left fun alone => by
      unfold RaisesAlone at alone ⊢
      rw [entries]; exact alone

/-- R122: the raise and the repeat timer that end the assertion. -/
def stopRaised (due : Nat) (s : State) : State :=
  (s.post (.raise evEstop)).modBsq fun q => { q with estopRepeat := some due }

theorem stopRaised_parts (due : Nat) (s : State) : (stopRaised due s).syu = s.syu ∧ (stopRaised due s).lpu = s.lpu ∧
    (stopRaised due s).pins = s.pins ∧ (stopRaised due s).now = s.now ∧
    (stopRaised due s).handoffs = s.handoffs ++ [.raise evEstop] := ⟨rfl, rfl, rfl, rfl, rfl⟩

theorem stopRaised_later (due : Nat) (b : Berth) (s : State) : Later b s (stopRaised due s) :=
  ⟨0, { Aside.refl b 0 _ s with }⟩

theorem stopRaised_berth (due : Nat) (b : Berth) (s : State) : (stopRaised due s).berth b = s.berth b := rfl

theorem Standing.stopRaised {d : Nat} {body : Notice} {now : Nat} (h : Standing d body now s) (due : Nat) :
    Standing d body now (Machine.stopRaised due s) := { h with }

theorem estopTaken_eq (s : State) : estopTaken s = stopRaised (s.now + 100) (trips .estop allBerths (stopBegun s)) := rfl

theorem mild_estop : (Handoff.raise evEstop).Mild := by
  intro m j
  rw [show eventFamily evEstop = .single from rfl]
  exact EventFamily.noConfusion

theorem estopTaken_ceased (q : Quiet s) : Ceased (some (s.now + 100)) (estopTaken s) := by
  obtain ⟨hs, e, -, gentle⟩ := (stopBegun_stopping s).handed
  obtain ⟨gs, e', -, gentle'⟩ := trips_gentle .estop allBerths (stopBegun s)
  have inactive : (trips .estop allBerths (stopBegun s)).AllStill := fun b => trips_inactive .estop (mem_allBerths b) _
  have stopped := (syuEstop_stopped _).shrinks (trips_shrinks .estop allBerths (stopBegun s))
  rw [e, q, List.nil_append] at e'
  rw [estopTaken_eq]
  generalize trips .estop allBerths (stopBegun s) = u at e' inactive stopped
  refine { still := inactive, syu := stopped, timer := rfl, gentle := fun h hh => ?_ }
  rw [(stopRaised_parts _ u).2.2.2.2, e'] at hh
  obtain hh | hh := List.mem_append.1 hh
  · exact (List.mem_append.1 hh).elim (gentle h) (gentle' h)
  · rw [List.mem_singleton.1 hh]; exact .inl mild_estop

/-- R74: the dead-bus closes are no more than the breakers. -/
theorem SyncOnce.deadBus_length (h : SyncOnce s) : s.syu.deadBus.length ≤ 12 := by
  have nodup : (s.syu.deadBus.map fun d => d.target).Nodup := (List.nodup_append.1 h).2.1
  have := nodup.length_le_card
  simpa using this

/-- R122, R159: ESTOP is raw after the assertion. -/
theorem settle_estop_raw (q : Quiet s) (once : SyncOnce s) : ((settle (estopTaken s)).event evEstop).raw = true := by
  have ceased := estopTaken_ceased q
  obtain ⟨hs, e, bound, -⟩ := (stopBegun_stopping s).handed
  obtain ⟨gs, e', bound', -⟩ := trips_gentle .estop allBerths (stopBegun s)
  have dead := SyncOnce.deadBus_length once
  have handed : (estopTaken s).handoffs = (hs ++ gs) ++ .raise evEstop :: [] := by
    rw [estopTaken_eq, (stopRaised_parts _ _).2.2.2.2, e', e, q, List.nil_append]
  refine ceased.toHushed.settle_raises mild_estop handed ?_
  have four : allBerths.length = 4 := rfl
  have fuel : Config.settleFuel = 4096 := rfl
  rw [List.length_append]
  omega

/-- R122: the berths that a stop trips. -/
theorem settle_estop_tripped (q : Quiet s) (active : (s.berth b).state.active = true) :
    TrippedFrom b .estop s (settle (estopTaken s)) := by
  have ceased := estopTaken_ceased q
  obtain ⟨before, after, split⟩ := List.append_of_mem (mem_allBerths b)
  have nodup : (before ++ b :: after).Nodup := split ▸ (by decide : allBerths.Nodup)
  have notBefore : b ∉ before := fun h => (List.nodup_append.1 nodup).2.2 b h b List.mem_cons_self rfl
  have alike : Alike b s (trips .estop before (stopBegun s)) := (alike_stopBegun b s).trips notBefore .estop
  have active' : ((trips .estop before (stopBegun s)).berth b).state.active = true := by rw [alike.state]; exact active
  have tripped : ((tripBerth b .estop (trips .estop before (stopBegun s))).berth b).state.active = false := by
    rw [(tripBerth_tripped active' .estop).1]; rfl
  have whole : estopTaken s =
      stopRaised (s.now + 100) (trips .estop after (tripBerth b .estop (trips .estop before (stopBegun s)))) := by
    rw [estopTaken_eq, split, trips_append]
    rfl
  have ended := (trips_aside tripped .estop after).later.trans (stopRaised_later (s.now + 100) b _)
  rw [← whole] at ended
  refine alike.tripped active .estop (ended.trans (ceased.toHushed.settle b)) ?_ fun stands => ?_
  · simp [estopTaken_eq, stopRaised_parts, trips, stopBegun, allBerths]
  · have stands' := (stands.trips .estop after).stopRaised (s.now + 100)
    rw [← whole] at stands'
    exact stands'.settled ceased.toHushed

/-- R122: the berths that a stop leaves. -/
theorem settle_estop_left (q : Quiet s) (inactive : (s.berth b).state.active = false) :
    ((settle (estopTaken s)).berth b).state = (s.berth b).state ∧
      ((settle (estopTaken s)).berth b).demand = (s.berth b).demand := by
  have same : (stopBegun s).berth b = s.berth b := by rw [State.berth, stopBegun_berths]; rfl
  have aside := trips_aside (s := stopBegun s) (b := b) (by rw [same]; exact inactive) .estop allBerths
  have later := (estopTaken_ceased q).toHushed.settle b
  have taken : (estopTaken s).berth b = (trips .estop allBerths (stopBegun s)).berth b := by
    rw [estopTaken_eq, stopRaised_berth]
  constructor
  · rw [later.state, taken, aside.state, same]
  · rw [later.demand, taken, aside.demand, same]

theorem settle_estop_outputs (s : State) (b : Berth) : (settle (estopTaken s)).evr.outputs[b] = true := by
  have safe := (settle_follows (estopTaken s)).safe (estopTaken_safe s)
  have asserted : (settle (estopTaken s)).pins.estop = true := by
    simp [estopTaken_eq, stopRaised_parts, trips, stopBegun, allBerths]
  have output := safe.1 b
  rw [asserted] at output
  simpa using output

end
end Sys2Proof.Machine
end

section
open Sys2Proof Sys2Proof.Machine

/-- Settles O23: SYU's part of the assertion goes before the trips, each of which acts as if it stood alone, and what all
this hands over brings no module into service and trips no further berth. -/
theorem emergencyStop : Obligations.EmergencyStop := by
  unfold Obligations.EmergencyStop
  intro s q
  refine ⟨fun held => done_unchanged q (if_pos held), fun free once => ?_, ?_, fun stopped => ?_, fun due running alone => ?_,
    fun due running => ?_⟩
  · have ceased := (estopTaken_ceased q).settle
    have taken : estopAsserted s = estopTaken s := if_neg (by rw [free]; decide)
    refine ⟨settle (estopTaken s), ?_, ?_, settle_estop_outputs s, fun b active => ?_, fun b inactive => ?_,
      ceased.timer, settle_estop_raw q once, ceased.syu.1, ceased.syu.2⟩
    · rw [← taken]; exact done_quiet estopAsserted q
    · simp [estopTaken_eq, stopRaised_parts, trips, stopBegun, allBerths]
    · exact settle_estop_tripped q ((active_iff _).2 active)
    · refine settle_estop_left q (Bool.eq_false_iff.2 fun active => (active_iff _).1 active inactive)
  · refine (done_eq estopReleased q q).trans (congrArg Host.Outcome.next ?_)
    have outputs : (Vector.ofFn fun b : Fin 4 => s.bsq.recs[b].demand || false) = s.bsq.recs.map fun r => r.demand := by
      ext i hi
      simp
    rw [← outputs]
    rfl
  · refine done_unchanged q ?_
    unfold estopRepeatTaken
    rw [stopped]
  · have taken : estopRepeatTaken s = ({ s with
        now := max s.now due, bsq := { s.bsq with estopRepeat := some (due + 100) } } : State).post (.raise evEstop) := by
      unfold estopRepeatTaken
      rw [running]
      rfl
    exact done_raise_alone q taken q alone
  · have taken : estopRepeatTaken s = ({ s with
        now := max s.now due, bsq := { s.bsq with estopRepeat := some (due + 100) } } : State).post (.raise evEstop) := by
      unfold estopRepeatTaken
      rw [running]
      rfl
    obtain ⟨t, h, raw, -⟩ := done_raised q taken
    exact ⟨t, h, raw⟩

end

section
namespace Sys2Proof.Machine

/-! ### Which entries the work that hand-offs lead to may raise (R29, R48, R75, R100, R103, R149) -/

/-- No work that hand-offs lead to raises entry `e`: what is raised in it is LOG_FULL, SYNC_FAIL and MODULE_LOST, and
for a berth that is in service CAPACITY_LIMIT and the staleness events. -/
structure Spared (e : EventIx) (s : State) : Prop where
  logFull : e ≠ evLogFull
  syncFail : ∀ c, e ≠ evSyncFail c
  lost : ∀ m, e ≠ evModuleLost m
  berth : ∀ c, (s.berth c).state.active = true → e ≠ evCapacityLimit c ∧ ∀ side, e ≠ staleEvent c side

/-- Entry `e` is left, and is not raised again; no berth has come into service. -/
structure Mutes (e : EventIx) (s t : State) : Prop where
  handed : ∃ hs, t.handoffs = s.handoffs ++ hs ∧ .raise e ∉ hs
  entry : t.event e = s.event e
  active : ∀ c, (t.berth c).state.active = true → (s.berth c).state.active = true

/-- What all work that hand-offs lead to keeps: a working egress, replies given, and in the event table the settings and
what is raw. -/
structure Onward (s t : State) : Prop where
  works : EgressWorks s → EgressWorks t
  sending : s.lpu.sending ≠ none → t.lpu.sending ≠ none
  replies : s.lpu.sending ≠ none → ∀ f, ReplyGiven f s → ReplyGiven f t
  entries : ∀ x, (t.event x).enabled = (s.event x).enabled ∧ (t.event x).action = (s.event x).action
  raw : ∀ x, (s.event x).raw = true → (t.event x).raw = true ∧ (t.event x).clock = (s.event x).clock

/-- Work that hand-offs lead to, which leaves entry `e`, where it is spared, and does not raise it. -/
structure Deaf (e : EventIx) (s t : State) : Prop where
  onward : Onward s t
  mutes : Spared e s → Mutes e s t

section
variable {e : EventIx} {s t u : State} {b : Berth}

theorem Spared.mutes (h : Spared e s) (m : Mutes e s t) : Spared e t :=
  { h with berth := fun c active => h.berth c (m.active c active) }

theorem Onward.trans (h : Onward s t) (g : Onward t u) : Onward s u where
  works w := g.works (h.works w)
  sending b := g.sending (h.sending b)
  replies b f r := g.replies (h.sending b) f (h.replies b f r)
  entries x := ⟨(g.entries x).1.trans (h.entries x).1, (g.entries x).2.trans (h.entries x).2⟩
  raw x r := by
    obtain ⟨raw, clock⟩ := h.raw x r
    obtain ⟨raw', clock'⟩ := g.raw x raw
    exact ⟨raw', clock'.trans clock⟩

/-- Work that leaves the event table. -/
theorem Onward.of_kept {x : Target → Prop} {n : Nat} (link : Lpu.Kept x n s.lpu t.lpu) (event : ∀ y, t.event y = s.event y) :
    Onward s t where
  works w := (link.works w).1
  sending b := by rw [(link.busy b).sending]; exact b
  replies b _ r := r.queued (link.busy b)
  entries y := by rw [event]; exact ⟨rfl, rfl⟩
  raw y r := by rw [event]; exact ⟨r, rfl⟩

theorem Onward.of_same (lpu : t.lpu = s.lpu) (event : ∀ y, t.event y = s.event y) : Onward s t :=
  .of_kept (x := fun _ => False) (n := 0) (by rw [lpu]; exact .refl _ 0 _) event

theorem Deaf.trans (h : Deaf e s t) (g : Deaf e t u) : Deaf e s u where
  onward := h.onward.trans g.onward
  mutes spared := by
    have first := h.mutes spared
    have second := g.mutes (spared.mutes first)
    obtain ⟨hs, eq, none⟩ := first.handed
    obtain ⟨gs, eq', none'⟩ := second.handed
    refine ⟨⟨hs ++ gs, by rw [eq', eq, List.append_assoc], fun m => ?_⟩, second.entry.trans first.entry,
      fun c active => first.active c (second.active c active)⟩
    exact (List.mem_append.1 m).elim none none'

/-- Work on the link that leaves the hand-offs, the event table and the berths. -/
theorem Deaf.of_kept {x : Target → Prop} {n : Nat} (link : Lpu.Kept x n s.lpu t.lpu)
    (handoffs : t.handoffs = s.handoffs := by simp) (evr : t.evr = s.evr := by simp)
    (bsq : t.bsq = s.bsq := by simp) : Deaf e s t where
  onward := .of_kept link fun y => by rw [State.event, evr]; rfl
  mutes _ := ⟨⟨[], by simp [handoffs]⟩, by rw [State.event, evr]; rfl, fun c h => by rw [State.berth, bsq] at h; exact h⟩

/-- Work that leaves the link, the hand-offs, the event table and the berths. -/
theorem Deaf.of_frame (handoffs : t.handoffs = s.handoffs := by simp) (evr : t.evr = s.evr := by simp)
    (bsq : t.bsq = s.bsq := by simp) (lpu : t.lpu = s.lpu := by simp) : Deaf e s t :=
  .of_kept (x := fun _ => False) (n := 0) (by rw [lpu]; exact .refl _ 0 _) handoffs evr bsq

theorem Deaf.refl (e : EventIx) (s : State) : Deaf e s s := .of_frame (by rfl) (by rfl) (by rfl) (by rfl)

theorem command_deaf (c : BreakerCmd) (t : Target) (s : State) : Deaf e s (command c t s) :=
  .of_kept (giveBcmd_kept (x := fun _ => False) not_false s)

theorem giveShpn_deaf (d : Nat) (body : Notice) (s : State) : Deaf e s (giveShpn d body s) :=
  .of_kept (giveShpn_kept (fun _ => False) d body s)

theorem post_deaf {h : Handoff} (other : Spared e s → h ≠ .raise e) : Deaf e s (s.post h) where
  onward := .of_same rfl fun _ => rfl
  mutes spared := ⟨⟨[h], rfl, fun m => other spared (List.mem_singleton.1 m).symm⟩, rfl, fun _ => id⟩

theorem modBerth_deaf {g : BerthRec → BerthRec} (state : ∀ r, (g r).state = r.state) : Deaf e s (s.modBerth b g) where
  onward := .of_same rfl fun _ => rfl
  mutes _ := ⟨⟨[], by simp⟩, rfl, fun c h => by
    by_cases same : b = c
    · subst same; rw [s.berth_modBerth, state] at h; exact h
    · rw [s.berth_modBerth_other same] at h; exact h⟩

theorem Deaf.foldl {α : Type} {f : State → α → State} (h : ∀ t a, Deaf e t (f t a)) (as : List α) (s : State) :
    Deaf e s (as.foldl f s) := by
  induction as generalizing s with
  | nil => exact .refl e s
  | cons a as ih => exact (h s a).trans (ih _)

/-! ### SYU -/

theorem giveResult_deaf (t : Target) (r : SyncResult) (s : State) : Deaf e s (giveResult t r s) := by
  unfold giveResult
  split <;> exact post_deaf fun _ => Handoff.noConfusion

theorem endRequest_deaf (req : SyncReq) (r : SyncResult) (s : State) : Deaf e s (endRequest req r s) :=
  (Deaf.of_frame).trans (giveResult_deaf req.target r _)

theorem requestSync_deaf (t : Target) (b : Berth) (q : Requester) (s : State) : Deaf e s (requestSync t b q s) := by
  unfold requestSync
  split
  · exact .refl e s
  split
  · refine (post_deaf fun spared h => ?_).trans (endRequest_deaf _ _ _)
    exact spared.syncFail b (Handoff.raise.inj h).symm
  · exact (Deaf.of_frame).trans (post_deaf fun _ => Handoff.noConfusion)

theorem requestDeadBus_deaf (t : Target) (b : Berth) (q : Requester) (s : State) : Deaf e s (requestDeadBus t b q s) := by
  unfold requestDeadBus
  split
  · exact (command_deaf .close t s).trans (.of_frame (by rfl) (by rfl) (by rfl) (by rfl))
  · unfold giveOutcome
    split <;> exact post_deaf fun _ => Handoff.noConfusion

theorem cancelSync_deaf (t : Target) (s : State) : Deaf e s (cancelSync t s) := by
  have queued : Deaf e s (cancelQueued t s) := by
    unfold cancelQueued
    split
    · exact .refl e s
    · exact (Deaf.of_frame).trans (endRequest_deaf _ _ _)
  have channel : ∀ (c : Chan) (s : State), Deaf e s (cancelChannel t c s) := fun c s => by
    unfold cancelChannel
    split
    · exact .refl e s
    split
    · have idled : ∀ u : State, Deaf e u (idleChannel c u) := fun u =>
        (Deaf.of_frame (by rfl) (by rfl) (by rfl) (by rfl)).trans (post_deaf fun _ => Handoff.noConfusion)
      split
      · exact ((command_deaf _ _ s).trans (endRequest_deaf _ _ _)).trans (idled _)
      · exact (endRequest_deaf _ _ _).trans (idled _)
    · exact .refl e s
  have dead : ∀ s : State, Deaf e s (cancelDeadClose t s) := fun s => by
    unfold cancelDeadClose
    split
    · exact (command_deaf .openCmd t s).trans (.of_frame (by rfl) (by rfl) (by rfl) (by rfl))
    · exact .refl e s
  exact ((queued.trans (channel 0 _)).trans (channel 1 _)).trans (dead _)

theorem serveChannelsTaken_deaf (s : State) : Deaf e s (serveChannelsTaken s) := by
  unfold serveChannelsTaken
  split
  · exact .of_frame
  split
  · exact .refl e s
  · exact post_deaf fun _ => Handoff.noConfusion

/-! ### MPM -/

theorem release_deaf (m : Module) (s : State) : Deaf e s (release m s) := by
  have stopped : Deaf e s (stopModule m s) := by
    have marked : Deaf e s (dropModulePair m
        (s.modModule m (ModuleRec.stopping s.now (s.mpm.table[m].stopLimit * 1000)))) := .of_frame
    unfold stopModule
    exact marked.trans ((cancelSync_deaf (contactor m) _).trans (command_deaf _ _ _))
  cases serving : (s.modu m).state.serving with
  | false => rw [release_idle serving]; exact .refl e s
  | true =>
    obtain h | ⟨c, -, h⟩ := release_serving serving
    · rw [h]; exact stopped
    · rw [h]; exact stopped.trans (post_deaf fun _ => Handoff.noConfusion)

theorem releaseBerth_deaf (b : Berth) (s : State) : Deaf e s (releaseBerth b s) :=
  .foldl (fun t m => release_deaf m t) _ s

theorem tellSummary_deaf (b : Berth) (s : State) : Deaf e s (tellSummary b s) := post_deaf fun _ => Handoff.noConfusion

theorem tellLeft_deaf (b : Option Berth) (s : State) : Deaf e s (tellLeft b s) := by
  unfold tellLeft
  split
  · exact .refl e s
  split
  · exact (tellSummary_deaf _ s).trans (post_deaf fun _ => Handoff.noConfusion)
  · exact tellSummary_deaf _ s

theorem tellFailure_deaf (v : Bool) (b : Option Berth) (s : State) : Deaf e s (tellFailure v b s) := by
  unfold tellFailure
  split
  · exact .refl e s
  split
  · exact post_deaf fun _ => Handoff.noConfusion
  · exact .refl e s

theorem lose_deaf (m : Module) (s : State) : Deaf e s (lose m s) := by
  have left : Deaf e s ((leaveList m .lost s).post (.raise (evModuleLost m))) :=
    (Deaf.of_frame).trans (post_deaf fun spared h => spared.lost m (Handoff.raise.inj h).symm)
  unfold lose
  dsimp only
  split
  · exact left.trans ((cancelSync_deaf (contactor m) _).trans ((command_deaf .openCmd (contactor m) _).trans
      ((Deaf.of_frame).trans ((tellFailure_deaf _ _ _).trans (tellLeft_deaf _ _)))))
  · exact left

theorem pollSkippedTaken_deaf (m : Module) (n : Nat) (s : State) : Deaf e s (pollSkippedTaken m n s) := by
  unfold pollSkippedTaken
  split
  · exact .refl e s
  split
  · unfold miss
    dsimp only
    split
    · exact (Deaf.of_frame (by rfl) (by rfl) (by rfl) (by rfl)).trans (lose_deaf m _)
    · exact .of_frame (by rfl) (by rfl) (by rfl) (by rfl)
  · exact .refl e s

theorem becomeOnline_deaf (b : Berth) (m : Module) (s : State) : Deaf e s (becomeOnline b m s) := by
  have deferred : ∀ (t : State) (x : Module), Deaf e t (queueDeferred b x t) := fun t x => by
    unfold queueDeferred
    split
    · exact (Deaf.of_frame (by rfl) (by rfl) (by rfl) (by rfl)).trans (requestSync_deaf _ _ _ _)
    · exact .refl e t
  unfold becomeOnline
  dsimp only
  split
  · exact ((Deaf.of_frame).trans (.foldl deferred _ _)).trans (tellSummary_deaf b _)
  · exact (Deaf.of_frame).trans (tellSummary_deaf b _)

theorem becomeSyncing_deaf (b : Berth) (m : Module) (s : State) : Deaf e s (becomeSyncing b m s) := by
  unfold becomeSyncing
  dsimp only
  split
  · exact (Deaf.of_frame (by rfl) (by rfl) (by rfl) (by rfl)).trans (requestSync_deaf _ _ _ _)
  · exact .of_frame (by rfl) (by rfl) (by rfl) (by rfl)

theorem startCheck_deaf (m : Module) (s : State) : Deaf e s (startCheck m s) := by
  unfold startCheck
  dsimp only
  split
  · (repeat' split)
    · exact .refl e s
    · exact becomeOnline_deaf _ m s
    · exact .refl e s
    · exact becomeSyncing_deaf _ m s
  · exact .refl e s

theorem contactorOutcome_deaf (m : Module) (b : Berth) (o : DeadOutcome) (s : State) :
    Deaf e s (contactorOutcome m b o s) := by
  have failed : Deaf e s ((release m s).post (.firstFailure b)) :=
    (release_deaf m s).trans (post_deaf fun _ => Handoff.noConfusion)
  unfold contactorOutcome
  dsimp only
  split
  · cases o with
    | confirmed => exact (Deaf.of_frame (by rfl) (by rfl) (by rfl) (by rfl)).trans (startCheck_deaf m _)
    | refused => exact failed
    | notConfirmed => exact failed
  · exact .refl e s

theorem contactorResult_deaf (m : Module) (r : SyncResult) (s : State) : Deaf e s (contactorResult m r s) := by
  unfold contactorResult
  split
  · cases r with
    | success => exact becomeOnline_deaf _ m s
    | failedWait => exact release_deaf m s
    | failedAttempts => exact release_deaf m s
    | cancelled => exact .refl e s
  · exact .refl e s

theorem blockModule_deaf (m : Module) (s : State) : Deaf e s (blockModule m s) := by
  have out : Deaf e s (leaveList m .blocked s) := .of_frame
  have left : ∀ {b : Option Berth} {f w : Bool} {g : ModuleRec → ModuleRec}, Deaf e s (tellFailure f b (replaceAfter w b
      ((release m s).modModule m g))) := fun {b f w g} => by
    have replaced : Deaf e (release m s) (replaceAfter w b ((release m s).modModule m g)) := .of_frame
    exact (release_deaf m s).trans (replaced.trans (tellFailure_deaf f b _))
  unfold blockModule
  dsimp only
  split
  · exact out
  · exact out
  · exact left
  · exact left
  · exact left
  · exact .of_frame (by rfl) (by rfl) (by rfl) (by rfl)
  · exact .refl e s
  · exact .refl e s

/-! ### BLG and the berths -/

theorem evalLogFull_deaf (s : State) : Deaf e s (evalLogFull s) := by
  unfold evalLogFull
  split
  · exact (Deaf.of_frame (by rfl) (by rfl) (by rfl) (by rfl)).trans
      (post_deaf fun spared h => spared.logFull (Handoff.raise.inj h).symm)
  · exact .of_frame (by rfl) (by rfl) (by rfl) (by rfl)

theorem freeSlot_deaf (b : Berth) (s : State) : Deaf e s (freeSlot b s) := by
  unfold freeSlot
  split
  · exact (Deaf.of_frame (by rfl) (by rfl) (by rfl) (by rfl)).trans (evalLogFull_deaf _)
  · exact .refl e s

theorem closeSession_deaf (b : Berth) (why : EndReason) (s : State) : Deaf e s (closeSession b why s) := by
  unfold closeSession
  split
  · exact (Deaf.of_frame).trans (evalLogFull_deaf _)
  · exact .refl e s

/-- R29, R98: a berth passes between states of service. -/
theorem enterState_deaf {st : BerthState} (watched : st.watched = true → (s.berth b).state.active = true)
    (active : st.active = true → (s.berth b).state.active = true) : Deaf e s (enterState b st s) := by
  have begun : ∀ (side : Side) (t : State), st.watched = true → Deaf e s t → Deaf e s (watchBegin b side t) := by
    intro side t h before
    unfold watchBegin
    split
    · have set : Deaf e s (setStaleCond b side (some (t.now + Config.staleRepeatMs)) t) := before.trans .of_frame
      refine ⟨set.onward.trans (.of_same rfl fun _ => rfl), fun spared => ?_⟩
      have m := set.mutes spared
      obtain ⟨hs, eq, none⟩ := m.handed
      refine ⟨⟨hs ++ [.raise (staleEvent b side)], ?_, fun mem => ?_⟩, m.entry, m.active⟩
      · rw [← List.append_assoc, ← eq]; rfl
      · refine (List.mem_append.1 mem).elim none fun same => ?_
        exact (spared.berth b (watched h)).2 side (Handoff.raise.inj (List.mem_singleton.1 same))
    · exact before
  have set : Deaf e s (s.modBerth b fun r => { r with state := st }) :=
    ⟨.of_same rfl fun _ => rfl, fun _ => ⟨⟨[], by simp⟩, rfl, fun c h => by
      by_cases same : b = c
      · subst same; rw [s.berth_modBerth] at h; exact active h
      · rw [s.berth_modBerth_other same] at h; exact h⟩⟩
  have change : Deaf e s (watchChange b (s.berth b).state st (s.modBerth b fun r => { r with state := st })) := by
    unfold watchChange
    split
    next h =>
      have new : st.watched = true := (Bool.and_eq_true_iff.1 h).2
      exact begun .converter _ new (begun .ship _ new set)
    next =>
      split
      · exact set.trans .of_frame
      · exact set
  have after : ∀ {t : State} {p q : Prop} [Decidable p] [Decidable q], Deaf e t
      (if q then dropBerthPair b (if p then clearBands b t else t) else if p then clearBands b t else t) := by
    intro t p q _ _
    refine .of_frame ?_ ?_ ?_ ?_ <;> (split <;> split <;> simp)
  have noticed : ∀ t, Deaf e t (berthNotice b t) := fun t => giveShpn_deaf _ _ t
  unfold enterState changeState
  exact (change.trans after).trans (noticed _)

/-- Only the trip outputs change in EVR. -/
theorem driveOutputs_deaf (s : State) : Deaf e s (driveOutputs s) :=
  ⟨.of_same rfl fun _ => rfl, fun _ => ⟨⟨[], by simp⟩, rfl, fun _ => id⟩⟩

theorem syncTimer_state (now : Nat) (r : BerthRec) : (BerthRec.syncTimer now r).state = r.state := by
  obtain ⟨rt, eq, -⟩ := syncTimer_eq now r
  rw [eq]

theorem startRamp_deaf (b : Berth) (s : State) : Deaf e s (startRamp b s) := modBerth_deaf fun _ => syncTimer_state _ _

theorem stopTimers_deaf (b : Berth) (s : State) : Deaf e s (stopTimers b s) := by
  have held : Deaf e s (setShipHold b none s) := modBerth_deaf fun _ => syncTimer_state _ _
  have stopped : ∀ t : State, Deaf e t (t.modBerth b fun r =>
      { r with rampDue := none, rampTimer := .stopped, capacityCond := false }) := fun _ => modBerth_deaf fun _ => rfl
  have due : ∀ t : State, Deaf e t (t.modBerth b fun r => { r with genDue := none, openDue := none }) :=
    fun _ => modBerth_deaf fun _ => rfl
  exact ((held.trans (stopped _)).trans (due _)).trans (.of_frame (by rfl) (by rfl) (by rfl) (by rfl))

theorem leave_deaf {st : BerthState} (watched : st.watched = false) (active : st.active = false) (b : Berth) (s : State) :
    Deaf e s (enterState b st s) :=
  enterState_deaf (fun h => by rw [watched] at h; exact nomatch h) fun h => by rw [active] at h; exact nomatch h

/-- R115: a trip. -/
theorem tripBerth_deaf (b : Berth) (why : TripReason) (s : State) : Deaf e s (tripBerth b why s) := by
  cases active : (s.berth b).state.active with
  | false => rw [tripBerth_inactive active]; exact .refl e s
  | true =>
    have demanded : Deaf e s (s.modBerth b fun r => { r with demand := true, fromOpening := false }) :=
      modBerth_deaf fun _ => rfl
    have commanded : Deaf e s (tripCommanded b s) := by
      unfold tripCommanded
      exact demanded.trans ((driveOutputs_deaf _).trans ((cancelSync_deaf (outlet b) _).trans (command_deaf _ _ _)))
    have billed : Deaf e s (endBilling b why.endReason (releaseBerth b (tripCommanded b s))) :=
      (commanded.trans (releaseBerth_deaf b _)).trans ((closeSession_deaf b _ _).trans (freeSlot_deaf b _))
    have ended : Deaf e s (tripEnded b why s) :=
      (billed.trans (stopTimers_deaf b _)).trans (modBerth_deaf fun _ => rfl)
    rw [tripBerth_eq active]
    exact ended.trans (leave_deaf rfl rfl b _)

theorem listEmptyTaken_deaf (b : Berth) (s : State) : Deaf e s (listEmptyTaken b s) := by
  unfold listEmptyTaken
  split
  · have cleared : ∀ t : State, Deaf e t (clearCall b t) := fun t => by
      have marked : Deaf e t (t.modBerth b fun r => { r with deadShip := false, energised := false }) :=
        modBerth_deaf fun _ => rfl
      exact marked.trans (.of_frame (by rfl) (by rfl) (by rfl) (by rfl))
    have opened : Deaf e s (s.modBerth b fun r =>
        { r with demand := r.demand && !r.fromOpening, fromOpening := false, lastLimit := 0 }) := modBerth_deaf fun _ => rfl
    exact ((opened.trans (cleared _)).trans (driveOutputs_deaf _)).trans (leave_deaf rfl rfl b _)
  · exact .refl e s

/-- R113: a berth in service is released. -/
theorem enterReleasing_deaf (active : (s.berth b).state.active = true) : Deaf e s (enterReleasing b s) := by
  have released : Deaf e s (releaseBerth b (freeSlot b (cancelSync (outlet b) s))) :=
    ((cancelSync_deaf (outlet b) s).trans (freeSlot_deaf b _)).trans (releaseBerth_deaf b _)
  have same : (releaseBerth b (freeSlot b (cancelSync (outlet b) s))).berth b = s.berth b := by simp [State.berth]
  exact (released.trans (enterState_deaf (fun h => absurd h (by decide)) fun _ => by rw [same]; exact active)).trans
    (listEmptyTaken_deaf b _)

theorem energisedTest_deaf (b : Berth) (s : State) : Deaf e s (energisedTest b s) := by
  unfold energisedTest
  dsimp only
  split
  next h =>
    have active : (s.berth b).state.active = true := by rw [h.1]; rfl
    split
    · have same : (requestDeadBus (outlet b) b .bsq s).berth b = s.berth b := by simp [State.berth]
      exact (requestDeadBus_deaf _ _ _ s).trans (enterState_deaf (fun _ => by rw [same]; exact active) fun _ => by
        rw [same]; exact active)
    · have same : (requestSync (outlet b) b .bsq s).berth b = s.berth b := by simp [State.berth]
      exact (requestSync_deaf _ _ _ s).trans (enterState_deaf (fun _ => by rw [same]; exact active) fun _ => by
        rw [same]; exact active)
  · exact .refl e s

theorem capacityLimit_deaf (active : (s.berth b).state.active = true) : Deaf e s (s.post (.raise (evCapacityLimit b))) :=
  post_deaf fun spared h => (spared.berth b active).1 (Handoff.raise.inj h).symm

theorem loseSource_deaf (active : (s.berth b).state.active = true) : Deaf e s (loseSource b s) := by
  have same : (cancelSync (outlet b) s).berth b = s.berth b := by simp [State.berth]
  exact ((cancelSync_deaf (outlet b) s).trans (capacityLimit_deaf (by rw [same]; exact active))).trans
    (enterReleasing_deaf (by rw [show ((cancelSync (outlet b) s).post (.raise (evCapacityLimit b))).berth b =
      (cancelSync (outlet b) s).berth b from rfl, same]; exact active))

theorem actOnSummary_deaf (b : Berth) (s : State) : Deaf e s (actOnSummary b s) := by
  have lost : ∀ {st : BerthState}, (s.berth b).state = st → st.active = true → Deaf e s (loseSource b s) :=
    fun h active => loseSource_deaf (by rw [h]; exact active)
  have formed : (s.berth b).state = .allocating → Deaf e s (energisedTest b (enterState b .energising s)) := fun h =>
    (enterState_deaf (fun w => absurd w (by decide)) fun _ => by rw [h]; rfl).trans (energisedTest_deaf b _)
  unfold actOnSummary
  dsimp only
  split
  next h => split <;> [exact formed h; exact .refl e s]
  next h => split <;> [exact lost h rfl; exact energisedTest_deaf b s]
  iterate 2 (next h => split <;> [exact lost h rfl; exact .refl e s])
  iterate 4 (next => split <;> [exact tripBerth_deaf b _ s; exact .refl e s])
  all_goals exact .refl e s

theorem summaryTaken_deaf (b : Berth) (s : State) : Deaf e s (summaryTaken b s) := by
  unfold summaryTaken
  split
  · exact .refl e s
  · exact (modBerth_deaf (by exact fun _ => rfl)).trans (actOnSummary_deaf b _)

theorem firstFailureTaken_deaf (b : Berth) (s : State) : Deaf e s (firstFailureTaken b s) := by
  unfold firstFailureTaken
  split
  next h =>
    have active : (s.berth b).state.active = true := by rw [h]; rfl
    exact (capacityLimit_deaf active).trans (enterReleasing_deaf active)
  · exact .refl e s

theorem outletResultTaken_deaf (b : Berth) (r : SyncResult) (s : State) : Deaf e s (outletResultTaken b r s) := by
  unfold outletResultTaken
  split
  next h =>
    have active : (s.berth b).state.active = true := by rw [h]; rfl
    cases r with
    | success =>
      have begun : Deaf e s ((startRamp b (openSession b s)).modBerth b fun r =>
          { r with rampDone := false, capacityCond := false }) :=
        (Deaf.of_frame (t := openSession b s)).trans ((startRamp_deaf b _).trans (modBerth_deaf fun _ => rfl))
      have state : (((startRamp b (openSession b s)).modBerth b fun r =>
          { r with rampDone := false, capacityCond := false }).berth b).state.active = true := by
        rw [State.berth_modBerth, startRamp, State.berth_modBerth, syncTimer_state]
        simpa [State.berth] using active
      exact begun.trans (enterState_deaf (fun _ => state) fun _ => state)
    | failedWait => exact enterReleasing_deaf active
    | failedAttempts => exact enterReleasing_deaf active
    | cancelled => exact .refl e s
  · exact .refl e s

theorem outletOutcomeTaken_deaf (b : Berth) (o : DeadOutcome) (s : State) : Deaf e s (outletOutcomeTaken b o s) := by
  unfold outletOutcomeTaken
  split
  next h =>
    have active : (s.berth b).state.active = true := by rw [h]; rfl
    have failed : Deaf e s (enterReleasing b (s.post (.raise (evSyncFail b)))) :=
      (post_deaf fun spared h => spared.syncFail b (Handoff.raise.inj h).symm).trans (enterReleasing_deaf active)
    cases o with
    | confirmed =>
      have state : ((openSession b s).berth b).state.active = true := by simpa [State.berth] using active
      exact (Deaf.of_frame (t := openSession b s)).trans (enterState_deaf (fun _ => state) fun _ => state)
    | refused => exact failed
    | notConfirmed => exact failed
  · exact .refl e s

theorem energisedTaken_deaf (b : Berth) (s : State) : Deaf e s (energisedTaken b s) := by
  unfold energisedTaken
  split
  · exact (modBerth_deaf (by exact fun _ => rfl)).trans (energisedTest_deaf b _)
  · exact .refl e s

/-! ### EVR -/

theorem recomputeHolds_deaf (s : State) : Deaf e s (recomputeHolds s) := by
  refine .foldl (fun t c => ?_) allBerths s
  unfold recomputeHold
  dsimp only
  split
  · exact .refl e t
  · have noted : ∀ v, Deaf e t (t.modEvr fun r => { r with holds := v }) := fun v =>
      ⟨.of_same rfl fun _ => rfl, fun _ => ⟨⟨[], by simp⟩, rfl, fun _ => id⟩⟩
    exact (noted _).trans (modBerth_deaf fun _ => syncTimer_state _ _)

theorem shedAction_deaf (b : Berth) (s : State) : Deaf e s (shedAction b s) :=
  .of_kept (shedAction_aside (b := b) (P := fun _ => True) b s).link

theorem applyAction_deaf (x : EventIx) (s : State) : Deaf e s (applyAction x s) := by
  unfold applyAction
  split
  · exact shedAction_deaf _ s
  · exact tripBerth_deaf _ _ s
  · split
    · exact .refl e s
    · exact tripBerth_deaf _ _ s
  · exact .foldl (fun t c => tripBerth_deaf c _ t) allBerths s
  · exact blockModule_deaf _ s
  · exact .refl e s

/-- R159: a raise of another entry. -/
theorem raiseEntry_deaf {x : EventIx} (other : x ≠ e) (s : State) : Deaf e s (raiseEntry x s) := by
  have marked : ∀ g : EventEntry → EventEntry, ((g (s.event x)).enabled = (s.event x).enabled ∧
      (g (s.event x)).action = (s.event x).action) →
      ((s.event x).raw = true → (g (s.event x)).raw = true ∧ (g (s.event x)).clock = (s.event x).clock) →
      Deaf e s (s.modEntry x g) := fun g settings raw =>
    ⟨⟨id, id, fun _ _ => id, fun y => by
      by_cases is : x = y
      · subst is; rw [s.event_modEntry]; exact settings
      · rw [s.event_modEntry_other is]; exact ⟨rfl, rfl⟩, fun y r => by
      by_cases is : x = y
      · subst is; rw [s.event_modEntry]; exact raw r
      · rw [s.event_modEntry_other is]; exact ⟨r, rfl⟩⟩,
      fun _ => ⟨⟨[], by simp [State.modEntry, State.modEvr]⟩, s.event_modEntry_other other g, fun _ => id⟩⟩
  unfold raiseEntry
  split
  · exact marked _ ⟨rfl, rfl⟩ fun r => ⟨r, rfl⟩
  next clear =>
  dsimp only
  have set := marked (fun y => { y with raw := true, count := 0, clock := some s.clock }) ⟨rfl, rfl⟩ fun r => absurd r clear
  split
  · have noted : ∀ t : State, Deaf e t (recomputeHolds (giveNotes x t)) := fun t =>
      (Deaf.of_kept (giveNotes_aside (b := 0) (P := fun _ => True) x t).link).trans (recomputeHolds_deaf _)
    exact set.trans ((noted _).trans (applyAction_deaf x _))
  · exact set

/-! ### Settling -/

theorem takeHandoff_deaf {h : Handoff} (other : h ≠ .raise e) (s : State) : Deaf e s (takeHandoff h s) := by
  cases h with
  | raise x => exact raiseEntry_deaf (fun same => other (by rw [same])) s
  | summary c => exact summaryTaken_deaf c s
  | firstFailure c => exact firstFailureTaken_deaf c s
  | listEmpty c => exact listEmptyTaken_deaf c s
  | outletResult c r => exact outletResultTaken_deaf c r s
  | outletOutcome c o => exact outletOutcomeTaken_deaf c o s
  | contactorResult m r => exact contactorResult_deaf m r s
  | contactorOutcome m c o => exact contactorOutcome_deaf m c o s
  | energised c => exact energisedTaken_deaf c s
  | pollSkipped m n => exact pollSkippedTaken_deaf m n s
  | serveChannels => exact serveChannelsTaken_deaf s

/-- An entry that is spared, and whose raise does not wait, stays as it is while hand-offs are taken. -/
theorem drain_spared (spared : Spared e s) (none : .raise e ∉ s.handoffs) (n : Nat) :
    (drain n s).event e = s.event e ∧ Spared e (drain n s) ∧ .raise e ∉ (drain n s).handoffs := by
  induction n generalizing s with
  | zero => exact ⟨rfl, spared, none⟩
  | succ n ih =>
    cases waiting : s.handoffs with
    | nil => rw [drain_nil _ waiting]; exact ⟨rfl, spared, by rw [waiting]; exact List.not_mem_nil⟩
    | cons h rest =>
      have rested : Spared e { s with handoffs := rest } := { spared with }
      rw [waiting] at none
      have m := (takeHandoff_deaf (fun same => none (same ▸ List.mem_cons_self)) { s with handoffs := rest }).mutes rested
      obtain ⟨hs, eq, absent⟩ := m.handed
      have still : .raise e ∉ (takeHandoff h { s with handoffs := rest }).handoffs := fun mem => by
        rw [eq] at mem
        exact (List.mem_append.1 mem).elim (fun h => none (List.mem_cons_of_mem _ h)) absent
      obtain ⟨same, later⟩ := ih (rested.mutes m) still
      rw [drain_cons n waiting]
      exact ⟨same.trans m.entry, later⟩

theorem takeHandoff_onward (h : Handoff) (s : State) : Onward s (takeHandoff h s) := by
  have other : ∃ x : EventIx, h ≠ .raise x := by
    by_cases first : h = .raise 0
    · exact ⟨1, by rw [first]; decide⟩
    · exact ⟨0, first⟩
  obtain ⟨x, other⟩ := other
  exact (takeHandoff_deaf other s).onward

theorem Onward.of_handoffs (s : State) (hs : List Handoff) : Onward s { s with handoffs := hs } :=
  .of_same rfl fun _ => rfl

theorem drain_onward (n : Nat) (s : State) : Onward s (drain n s) := by
  induction n generalizing s with
  | zero => exact .of_same rfl fun _ => rfl
  | succ n ih =>
    cases waiting : s.handoffs with
    | nil => rw [drain_nil _ waiting]; exact .of_same rfl fun _ => rfl
    | cons h rest =>
      rw [drain_cons n waiting]
      exact ((Onward.of_handoffs s rest).trans (takeHandoff_onward h _)).trans (ih _)

theorem settle_onward (s : State) : Onward s (settle s) :=
  { drain_onward Config.settleFuel s with }

end
end Sys2Proof.Machine
end

section
namespace Sys2Proof.Machine

section
variable {s t u v : State} {b : Berth} {e : EventIx}

/-! ### The owner's condition of an entry (section 9.1, R166) -/

theorem eventFamily_moduleEvent (m : Module) (k : Fin 4) : eventFamily (moduleEvent m k) = .module m k := by
  have high : ¬ 56 + 4 * m.val + k.val < 56 := by omega
  have low : 56 + 4 * m.val + k.val < 88 := by omega
  have hd : (56 + 4 * m.val + k.val - 56) / 4 = m.val := by omega
  have hm : (56 + 4 * m.val + k.val - 56) % 4 = k.val := by omega
  simp [eventFamily, moduleEvent, high, low, hd, hm]

theorem eventFamily_cases (e : EventIx) : (∃ b k, e = berthEvent b k) ∨ (∃ m k, e = moduleEvent m k) ∨
    88 ≤ e.val ∧ eventFamily e = .single := by
  by_cases low : e.val < 56
  · exact .inl ⟨⟨e.val / 14, by omega⟩, ⟨e.val % 14, by omega⟩, Fin.ext (Nat.div_add_mod e.val 14).symm⟩
  by_cases mid : e.val < 88
  · refine .inr (.inl ⟨⟨(e.val - 56) / 4, by omega⟩, ⟨(e.val - 56) % 4, by omega⟩, Fin.ext ?_⟩)
    show e.val = 56 + 4 * ((e.val - 56) / 4) + (e.val - 56) % 4
    omega
  · exact .inr (.inr ⟨by omega, by simp [eventFamily, low, mid]⟩)

/-- R166: the owner's condition holds at entry `e`. -/
def Conditioned (s : State) (e : EventIx) : Prop :=
  (∃ b : Berth, e.val = 14 * b.val + 0 ∧ s.scl.shipStale[b] ≠ none) ∨
    (∃ b : Berth, e.val = 14 * b.val + 1 ∧ s.scl.convStale[b] ≠ none) ∨
    (∃ b : Berth, e.val = 14 * b.val + 6 ∧ ∃ r, s.berthRef b = some r ∧ r.overload = true ∧ r.overloadDue = none) ∨
    (∃ b : Berth, e.val = 14 * b.val + 11 ∧ (s.berth b).capacityCond = true) ∨
    (∃ b : Berth, e.val = 14 * b.val + 12 ∧ (s.point (shPoint b)).vOut = true) ∨
    (∃ b : Berth, e.val = 14 * b.val + 13 ∧ (s.point (shPoint b)).fOut = true) ∨
    (∃ m : Module, e.val = 56 + 4 * m.val + 2 ∧ (s.modu m).derateCond = true) ∨
    (e.val = 88 ∧ s.lpu.lossIndicator = true) ∨ (e.val = 92 ∧ (s.point 0).vOut = true) ∨
    (e.val = 93 ∧ (s.point 0).fOut = true) ∨ (e.val = 94 ∧ s.blg.logFull = true) ∨
    (e.val = 97 ∧ s.mlk.exhausted = true) ∨ (e.val = 99 ∧ s.pins.estop = true)

theorem exists_berth_iff {k : Fin 14} {j : Nat} (hj : j < 14) {p : Berth → Prop} :
    (∃ c : Berth, (berthEvent b k).val = 14 * c.val + j ∧ p c) ↔ k.val = j ∧ p b := by
  have val : (berthEvent b k).val = 14 * b.val + k.val := rfl
  constructor
  · rintro ⟨c, is, hp⟩
    obtain rfl : b = c := Fin.ext (by omega)
    exact ⟨by omega, hp⟩
  · rintro ⟨is, hp⟩
    exact ⟨b, by omega, hp⟩

theorem exists_module_iff {m : Module} {k : Fin 4} {p : Module → Prop} :
    (∃ c : Module, (moduleEvent m k).val = 56 + 4 * c.val + 2 ∧ p c) ↔ k.val = 2 ∧ p m := by
  have val : (moduleEvent m k).val = 56 + 4 * m.val + k.val := rfl
  constructor
  · rintro ⟨c, is, hp⟩
    obtain rfl : m = c := Fin.ext (by omega)
    exact ⟨by omega, hp⟩
  · rintro ⟨is, hp⟩
    exact ⟨m, by omega, hp⟩

theorem conditioned_berth (s : State) (b : Berth) (k : Fin 14) : Conditioned s (berthEvent b k) ↔
    (k.val = 0 ∧ s.scl.shipStale[b] ≠ none) ∨ (k.val = 1 ∧ s.scl.convStale[b] ≠ none) ∨
    (k.val = 6 ∧ ∃ r, s.berthRef b = some r ∧ r.overload = true ∧ r.overloadDue = none) ∨
    (k.val = 11 ∧ (s.berth b).capacityCond = true) ∨ (k.val = 12 ∧ (s.point (shPoint b)).vOut = true) ∨
    (k.val = 13 ∧ (s.point (shPoint b)).fOut = true) := by
  have val : (berthEvent b k).val = 14 * b.val + k.val := rfl
  have noModule : ∀ p : Module → Prop, ¬ ∃ c : Module, (berthEvent b k).val = 56 + 4 * c.val + 2 ∧ p c := by
    rintro p ⟨c, is, -⟩
    omega
  have single : ∀ n, 88 ≤ n → ∀ p : Prop, ¬ ((berthEvent b k).val = n ∧ p) := by
    rintro n high p ⟨is, -⟩
    omega
  unfold Conditioned
  simp only [exists_berth_iff (b := b) (k := k) (show 0 < 14 by omega), exists_berth_iff (b := b) (k := k) (show 1 < 14 by omega),
    exists_berth_iff (b := b) (k := k) (show 6 < 14 by omega), exists_berth_iff (b := b) (k := k) (show 11 < 14 by omega),
    exists_berth_iff (b := b) (k := k) (show 12 < 14 by omega), exists_berth_iff (b := b) (k := k) (show 13 < 14 by omega),
    noModule, single 88 (by omega), single 92 (by omega), single 93 (by omega), single 94 (by omega), single 97 (by omega),
    single 99 (by omega), or_false]

theorem conditioned_module (s : State) (m : Module) (k : Fin 4) : Conditioned s (moduleEvent m k) ↔
    k.val = 2 ∧ (s.modu m).derateCond = true := by
  have val : (moduleEvent m k).val = 56 + 4 * m.val + k.val := rfl
  have noBerth : ∀ j, j < 14 → ∀ p : Berth → Prop, ¬ ∃ c : Berth, (moduleEvent m k).val = 14 * c.val + j ∧ p c := by
    rintro j hj p ⟨c, is, -⟩
    omega
  have single : ∀ n, 88 ≤ n → ∀ p : Prop, ¬ ((moduleEvent m k).val = n ∧ p) := by
    rintro n high p ⟨is, -⟩
    omega
  unfold Conditioned
  simp only [exists_module_iff, noBerth 0 (by omega), noBerth 1 (by omega), noBerth 6 (by omega), noBerth 11 (by omega),
    noBerth 12 (by omega), noBerth 13 (by omega), single 88 (by omega), single 92 (by omega), single 93 (by omega),
    single 94 (by omega), single 97 (by omega), single 99 (by omega), or_false, false_or]

theorem conditioned_single (s : State) (high : 88 ≤ e.val) : Conditioned s e ↔
    (e.val = 88 ∧ s.lpu.lossIndicator = true) ∨ (e.val = 92 ∧ (s.point 0).vOut = true) ∨
    (e.val = 93 ∧ (s.point 0).fOut = true) ∨ (e.val = 94 ∧ s.blg.logFull = true) ∨
    (e.val = 97 ∧ s.mlk.exhausted = true) ∨ (e.val = 99 ∧ s.pins.estop = true) := by
  have noBerth : ∀ j, j < 14 → ∀ p : Berth → Prop, ¬ ∃ c : Berth, e.val = 14 * c.val + j ∧ p c := by
    rintro j hj p ⟨c, is, -⟩
    omega
  have noModule : ∀ p : Module → Prop, ¬ ∃ c : Module, e.val = 56 + 4 * c.val + 2 ∧ p c := by
    rintro p ⟨c, is, -⟩
    omega
  unfold Conditioned
  simp only [noModule, noBerth 0 (by omega), noBerth 1 (by omega), noBerth 6 (by omega), noBerth 11 (by omega),
    noBerth 12 (by omega), noBerth 13 (by omega), false_or]

theorem overloaded_iff (o : Option BerthRef) : (o.any fun r => r.overload && r.overloadDue.isNone) = true ↔
    ∃ r, o = some r ∧ r.overload = true ∧ r.overloadDue = none := by
  cases o <;> simp

theorem conditionHolds_iff (s : State) (e : EventIx) : conditionHolds s e = true ↔ Conditioned s e := by
  obtain ⟨b, k, rfl⟩ | ⟨m, k, rfl⟩ | ⟨high, single⟩ := eventFamily_cases e
  · rw [conditioned_berth, conditionHolds, eventFamily_berthEvent]
    dsimp only
    split
    next is => simp [is, staleCond, Option.isSome_iff_ne_none]
    next is => simp [is, staleCond, Option.isSome_iff_ne_none]
    next is => simp only [is]; rw [overloaded_iff]; simp
    next is => simp [is]
    next is => simp [is]
    next is => simp [is]
    next => simp_all
  · rw [conditioned_module, conditionHolds, eventFamily_moduleEvent]
    simp
  · rw [conditioned_single s high, conditionHolds, single]
    dsimp only
    split
    next is => simp [is]
    next is => simp [is, gridPoint]
    next is => simp [is, gridPoint]
    next is => simp [is]
    next is => simp [is]
    next is => simp [is]
    next => simp_all

/-- An entry with a condition is spared, at the latest once its berth is out of service; LOG_FULL is not. -/
theorem conditioned_spared (c : Conditioned s e) (other : e ≠ evLogFull) : (∀ u, Spared e u) ∨
    ∃ b k, eventFamily e = .berth b k ∧ ∀ u, (u.berth b).state.active = false → Spared e u := by
  have full : evLogFull.val = 94 := rfl
  have sync : ∀ c, (evSyncFail c).val = 14 * c.val + 2 := fun _ => rfl
  have lost : ∀ m, (evModuleLost m).val = 56 + 4 * m.val + 0 := fun _ => rfl
  have limit : ∀ c, (evCapacityLimit c).val = 14 * c.val + 11 := fun _ => rfl
  have stale : ∀ c side, (staleEvent c side).val = 14 * c.val + 0 ∨ (staleEvent c side).val = 14 * c.val + 1 :=
    fun c side => by cases side; exacts [.inl rfl, .inr rfl]
  obtain ⟨b, k, rfl⟩ | ⟨m, k, rfl⟩ | ⟨high, -⟩ := eventFamily_cases e
  · have val : (berthEvent b k).val = 14 * b.val + k.val := rfl
    rw [conditioned_berth] at c
    refine .inr ⟨b, k, eventFamily_berthEvent b k, fun u still => ⟨other, fun c' is => ?_, fun m is => ?_, fun c' active =>
      ⟨fun is => ?_, fun side is => ?_⟩⟩⟩
    · have := sync c'; rw [← is] at this; omega
    · have := lost m; rw [← is] at this; omega
    · have := limit c'; rw [← is] at this
      obtain rfl : b = c' := Fin.ext (by omega)
      rw [still] at active; exact nomatch active
    · have := stale c' side; rw [← is] at this
      obtain rfl : b = c' := Fin.ext (by omega)
      rw [still] at active; exact nomatch active
  · have val : (moduleEvent m k).val = 56 + 4 * m.val + k.val := rfl
    rw [conditioned_module] at c
    refine .inl fun u => ⟨other, fun c' is => ?_, fun m is => ?_, fun c' _ => ⟨fun is => ?_, fun side is => ?_⟩⟩
    · have := sync c'; rw [← is] at this; omega
    · have := lost m; rw [← is] at this; omega
    · have := limit c'; rw [← is] at this; omega
    · have := stale c' side; rw [← is] at this; omega
  · refine .inl fun u => ⟨other, fun c' is => ?_, fun m is => ?_, fun c' _ => ⟨fun is => ?_, fun side is => ?_⟩⟩
    · have := sync c'; rw [← is] at this; omega
    · have := lost m; rw [← is] at this; omega
    · have := limit c'; rw [← is] at this; omega
    · have := stale c' side; rw [← is] at this; omega

end
end Sys2Proof.Machine
end

section
namespace Sys2Proof.Machine

section
variable {s t u v : State} {b : Berth} {e : EventIx} {f : ReplyFrame} {src : Byte} {tag : BitVec 16} {kind : Nat}
  {params d : List Byte} {r : Request} {res : Result}

/-! ### A request whose owner's action hands over further work (R172) -/

/-- R172: what is left once all that an owner's action led to, to `v`, is taken and the reply has been given. -/
def concluded (f : ReplyFrame) (v : State) : State :=
  settle ((enterReserved f (drain Config.settleFuel v)).modMgu fun g => { g with parts := [], queue := [] })

/-- R172 to R176: a request that reaches its owner. -/
theorem request_acted {v : MguReq → State} (q : Quiet s) (h : Served s src) (hk : kind < 256)
    (form : parseRequest kind params = some r) (may : admitted s src.toNat r.sender = true)
    (inside : r.outOfRange = false) (free : r.guarded = false)
    (owner : ∀ p, perform src.toNat (prepared s src.toNat) r (served src p s) = (⟨res, [d]⟩, v p))
    (mgu : ∀ p, (v p).mgu = (served src p s).mgu) :
    ∃ p, done (request src tag kind params) s = .next (concluded (reply src tag kind res d) (v p)) := by
  refine ⟨⟨src.toNat, tag, BitVec.ofNat 8 kind, params⟩,
    request_served q h hk form ((judge_passed may inside free _ _).trans (owner _)) rfl ?_⟩
  have same : (drain Config.settleFuel (v ⟨src.toNat, tag, BitVec.ofNat 8 kind, params⟩)).mgu =
      (served src ⟨src.toNat, tag, BitVec.ofNat 8 kind, params⟩ s).mgu := by
    rw [← mgu]
    simp
  rw [same]
  exact le_refl 1

@[simp] theorem concluded_frame (f : ReplyFrame) (v : State) :
    (concluded f v).pins = v.pins ∧ (concluded f v).mlk = v.mlk ∧ (concluded f v).now = v.now := by
  simp [concluded]

theorem enterReserved_deaf (f : ReplyFrame) (s : State) : Deaf e s (enterReserved f s) :=
  .of_kept (enterReserved_aside (b := 0) (P := fun _ => True) f s).link

theorem modMgu_deaf (g : Mgu → Mgu) (s : State) : Deaf e s (s.modMgu g) := .of_frame (by rfl) (by rfl) (by rfl) (by rfl)

theorem concluded_onward (f : ReplyFrame) (v : State) : Onward v (concluded f v) :=
  ((drain_onward _ v).trans ((enterReserved_deaf (e := 0) f _).trans (modMgu_deaf _ _)).onward).trans (settle_onward _)

theorem enterReserved_works (w : EgressWorks s) :
    enterReserved f s = { s with lpu := { s.lpu with reservations := s.lpu.reservations - 1 }.replied f } :=
  enterReply_eq f (s := s.modLpu fun l => { l with reservations := l.reservations - 1 }) w

/-- R13: the reply stands while what it was given after is taken. -/
theorem concluded_given (w : EgressWorks v) : ReplyGiven f (concluded f v) := by
  have entered := enterReserved_works (f := f) ((drain_onward Config.settleFuel v).works w)
  have given : ReplyGiven f (enterReserved f (drain Config.settleFuel v)) := replied_given f (by rw [entered])
  have sending : (enterReserved f (drain Config.settleFuel v)).lpu.sending ≠ none := by
    rw [entered]
    exact Lpu.replied_sending _ _
  exact (settle_onward ((enterReserved f (drain Config.settleFuel v)).modMgu
    fun g => { g with parts := [], queue := [] })).replies sending f given

/-- An entry that is spared stays as the owner's action left it. -/
theorem concluded_spared (spared : Spared e v) (none : .raise e ∉ v.handoffs) : (concluded f v).event e = v.event e := by
  obtain ⟨same, spared', none'⟩ := drain_spared spared none Config.settleFuel
  have m := ((enterReserved_deaf f _).trans (modMgu_deaf (fun g => { g with parts := [], queue := [] }) _)).mutes spared'
  obtain ⟨hs, eq, absent⟩ := m.handed
  have still : .raise e ∉ ((enterReserved f (drain Config.settleFuel v)).modMgu
      fun g => { g with parts := [], queue := [] }).handoffs := fun mem => by
    rw [eq] at mem
    exact (List.mem_append.1 mem).elim none' absent
  exact ((drain_spared (spared'.mutes m) still Config.settleFuel).1.trans m.entry).trans same

/-- An action that hands nothing over. -/
theorem concluded_quiet (w : EgressWorks v) (none : v.handoffs = []) : ∃ l m, concluded f v = { v with lpu := l, mgu := m } := by
  have q : Quiet ((enterReserved f v).modMgu fun g => { g with parts := [], queue := [] }) :=
    (enterReserved_frame f v).2.2.2.2.2.2.2.2.2.2.1.trans none
  rw [concluded, drain_nil _ none, settle_quiet q, enterReserved_works w]
  exact ⟨_, _, rfl⟩

theorem concluded_parts (w : EgressWorks v) (none : v.handoffs = []) : (∀ x, (concluded f v).event x = v.event x) ∧
    (concluded f v).evr = v.evr ∧ (concluded f v).bsq = v.bsq ∧ (concluded f v).mpm = v.mpm := by
  obtain ⟨l, m, is⟩ := concluded_quiet (f := f) w none
  rw [is]
  exact ⟨fun _ => rfl, rfl, rfl, rfl⟩

/-! ### The action of a raise and the entry raised (R164) -/

/-- R115: a trip raises LOG_FULL at most. -/
theorem tripBerth_unraised (other : e ≠ evLogFull) (none : .raise e ∉ s.handoffs) (c : Berth) (why : TripReason) :
    .raise e ∉ (tripBerth c why s).handoffs := by
  obtain ⟨b, hb⟩ := exists_other c
  obtain ⟨hs, eq, given⟩ := (tripBerth_aside hb why s).handed
  intro mem
  rw [eq] at mem
  refine (List.mem_append.1 mem).elim none fun h => ?_
  obtain ((⟨o, is⟩ | ⟨m, is⟩ | is) | ⟨y, -, is⟩) | is := given _ h
  · exact nomatch is
  · exact nomatch is
  · exact nomatch is
  · exact nomatch is
  · exact other (Handoff.raise.inj is)

theorem tripBerth_event (c : Berth) (why : TripReason) (s : State) (x : EventIx) :
    (tripBerth c why s).event x = s.event x := by
  cases active : (s.berth c).state.active with
  | false => rw [tripBerth_inactive active]
  | true =>
    have outputs : (tripBerth c why s).evr = (tripCommanded c s).evr := by
      rw [tripBerth_eq active]
      simp [tripEnded]
    have driven : (tripCommanded c s).evr =
        (driveOutputs (s.modBerth c fun r => { r with demand := true, fromOpening := false })).evr := by
      simp [tripCommanded]
    rw [State.event, outputs, driven]
    rfl

theorem tripEvents_event (bs : List Berth) (s : State) (x : EventIx) :
    (bs.foldl (fun s c => tripEvent c s) s).event x = s.event x := by
  induction bs generalizing s with
  | nil => rfl
  | cons c cs ih => exact (ih _).trans (tripBerth_event c .event s x)

theorem tripEvents_unraised (other : e ≠ evLogFull) (bs : List Berth) (none : .raise e ∉ s.handoffs) :
    .raise e ∉ (bs.foldl (fun s c => tripEvent c s) s).handoffs := by
  induction bs generalizing s with
  | nil => exact none
  | cons c cs ih => exact ih (tripBerth_unraised other none c .event)

theorem tripEvent_inactive (b : Berth) (s : State) : ((tripEvent b s).berth b).state.active = false := by
  cases active : (s.berth b).state.active with
  | false => rw [tripEvent, tripBerth_inactive active]; exact active
  | true => rw [tripEvent, (tripBerth_tripped active .event).1]; rfl

theorem tripEvents_inactive {bs : List Berth} (hb : b ∈ bs) (s : State) :
    ((bs.foldl (fun s c => tripEvent c s) s).berth b).state.active = false := by
  have stays : ∀ (cs : List Berth) (u : State), (u.berth b).state.active = false →
      ((cs.foldl (fun s c => tripEvent c s) u).berth b).state.active = false := by
    intro cs
    induction cs with
    | nil => exact fun u h => h
    | cons c cs ih => exact fun u h => ih _ ((congrArg _ (tripBerth_mild h c .event).state).trans h)
  induction bs generalizing s with
  | nil => exact absurd hb List.not_mem_nil
  | cons c cs ih =>
    obtain rfl | later := List.mem_cons.1 hb
    · exact stays cs _ (tripEvent_inactive b s)
    · exact ih later _

/-- R164: the action of an entry that is spared, at the latest once its berth is out of service, leaves the entry, and so
does all that it leads to. -/
theorem applyAction_spared (c : (∀ u, Spared e u) ∨
      ∃ b k, eventFamily e = .berth b k ∧ ∀ u, (u.berth b).state.active = false → Spared e u) (other : e ≠ evLogFull)
    (none : s.handoffs = []) :
    (applyAction e s).event e = s.event e ∧ .raise e ∉ (applyAction e s).handoffs ∧
      ((applyAction e s).handoffs = [] ∨ Spared e (applyAction e s)) := by
  have unraised : .raise e ∉ s.handoffs := by rw [none]; exact List.not_mem_nil
  obtain spared | ⟨b, k, family, spared⟩ := c
  · have m := (applyAction_deaf e s).mutes (spared s)
    obtain ⟨hs, eq, absent⟩ := m.handed
    refine ⟨m.entry, fun mem => ?_, .inr (spared _)⟩
    rw [eq] at mem
    exact (List.mem_append.1 mem).elim unraised absent
  · unfold applyAction
    rw [family]
    split
    · next is => simp [State.event, none]
    · next is =>
      obtain ⟨rfl, -⟩ := EventFamily.berth.inj is
      exact ⟨tripBerth_event _ _ s e, tripBerth_unraised other unraised _ _, .inr (spared _ (tripEvent_inactive _ s))⟩
    · next is => exact nomatch is
    · exact ⟨tripEvents_event _ s e, tripEvents_unraised other _ unraised,
        .inr (spared _ (tripEvents_inactive (mem_allBerths b) s))⟩
    · next is => exact nomatch is
    · exact ⟨rfl, unraised, .inl none⟩

end
end Sys2Proof.Machine
end

section
namespace Sys2Proof.Machine

section
variable {s t u : State} {b : Berth} {e : EventIx} {src : Byte} {tag : BitVec 16} {kind : Nat} {r : Request}
  {g : EventIx → State → State}

/-! ### The event requests (R161, R166, R167) -/

/-- A request of a station node that acts on one event entry by `g`. -/
structure EventAct (r : Request) (i : Nat) (g : EventIx → State → State) : Prop where
  sender : r.sender = .either
  inside : r.outOfRange = false
  free : r.guarded = false
  acts : ∀ src prep s, perform src prep r s = ofOwner (performEvent g i s)

theorem eventClear_act (i : Nat) : EventAct (.eventClear i) i clearEntry := ⟨rfl, rfl, rfl, fun _ _ _ => rfl⟩
theorem eventSet_act (i : Nat) : EventAct (.eventSet i) i raiseEntry := ⟨rfl, rfl, rfl, fun _ _ _ => rfl⟩
theorem eventEnable_act (i : Nat) : EventAct (.eventEnable i) i enableEntry := ⟨rfl, rfl, rfl, fun _ _ _ => rfl⟩
theorem eventDisable_act (i : Nat) : EventAct (.eventDisable i) i disableEntry := ⟨rfl, rfl, rfl, fun _ _ _ => rfl⟩

theorem EventAct.admits (a : EventAct r i g) (station : fromStation s src) : admitted s src.toNat r.sender = true := by
  rw [a.sender]
  simpa [admitted, fromStation] using station

/-- R166: an index that names no entry. -/
theorem EventAct.beyond {params : List Byte} (a : EventAct r i g) (q : Quiet s) (w : EgressWorks s) (h : Served s src)
    (station : fromStation s src) (hk : kind < 256) (form : parseRequest kind params = some r) (beyond : 100 ≤ i) :
    done (request src tag kind params) s = .next (answered src tag kind .badValue [] s) := by
  refine request_plain q w h hk form (a.admits station) a.inside a.free (fun p => ?_) q rfl rfl
  rw [a.acts, performEvent, eventOf?, dif_neg (by omega)]
  rfl

theorem EventAct.owner {i : Nat} (a : EventAct r i g) (named : eventOf? i = some e) (src : Nat) (prep : Bool) (s : State) :
    perform src prep r s = (⟨.done, [[]]⟩, g e s) := by
  rw [a.acts, performEvent, named]
  rfl

/-- R161, R166, R167: an action on an entry that concerns EVR alone. -/
theorem EventAct.plain {i : Nat} {params : List Byte} (a : EventAct r i g) (q : Quiet s) (w : EgressWorks s) (h : Served s src)
    (station : fromStation s src) (hk : kind < 256) (form : parseRequest kind params = some r)
    (named : eventOf? i = some e) (none : u.handoffs = []) (lpu : u.lpu = s.lpu) (mgu : u.mgu = s.mgu)
    (acts : ∀ p, g e (served src p s) = served src p u) :
    done (request src tag kind params) s = .next (answered src tag kind .done [] u) := by
  refine request_plain q w h hk form (a.admits station) a.inside a.free (fun _ => ?_) none lpu mgu
  rw [a.owner named, acts]

/-- R161, R166, R167: any action on an entry. -/
theorem EventAct.acted {i : Nat} {params : List Byte} (a : EventAct r i g) (q : Quiet s) (h : Served s src)
    (station : fromStation s src) (hk : kind < 256) (form : parseRequest kind params = some r)
    (named : eventOf? i = some e) (mgu : ∀ u, (g e u).mgu = u.mgu) :
    ∃ p, done (request src tag kind params) s =
      .next (concluded (reply src tag kind .done []) (g e (served src p s))) :=
  request_acted (v := fun p => g e (served src p s)) q h hk form (a.admits station) a.inside a.free
    (fun _ => a.owner named _ _ _) fun _ => mgu _

theorem eventOf?_byte (e : EventIx) : eventOf? (BitVec.ofNat 8 e.val).toNat = some e := by
  have small : (BitVec.ofNat 8 e.val).toNat = e.val := by
    rw [BitVec.toNat_ofNat]
    omega
  rw [small, eventOf?, dif_pos e.isLt]

/-! ### Entries and holds (R161, R162) -/

theorem recomputeHolds_event (s : State) (x : EventIx) : (recomputeHolds s).event x = s.event x := by
  rw [State.event, recomputeHolds_entries]
  rfl

/-- R162: with the holds current nothing is recomputed. -/
theorem recomputeHolds_agreed (h : ∀ b : Berth, s.evr.holds[b] = eventHold s.evr.entries b) : recomputeHolds s = s :=
  List.foldl_fixed' (fun b => if_pos (h b)) _

theorem holdsAgree_iff (s : State) : HoldsCurrent s ↔ HoldsAgree s.evr s.bsq := Iff.rfl

/-- R162: a change that leaves what the entry holds leaves the holds. -/
theorem modEntry_agreed {f : EventEntry → EventEntry} (h : HoldsCurrent s)
    (same : ∀ b, holdsBerth (f (s.event e)) e b = holdsBerth (s.event e) e b) : recomputeHolds (s.modEntry e f) =
      s.modEntry e f := by
  refine recomputeHolds_agreed fun b => (h b).1.trans (eventHold_congr fun x => ?_)
  by_cases is : e = x
  · subst is
    show _ = holdsBerth (upd s.evr.entries e f)[e.val] e b
    rw [upd_self]
    exact (same b).symm
  · show _ = holdsBerth (upd s.evr.entries e f)[x] x b
    rw [show (upd s.evr.entries e f)[x] = s.evr.entries[x] from upd_other _ _ is]

/-- R162: after a change of one entry the holds are current. -/
theorem modEntry_holds {f : EventEntry → EventEntry} (h : HoldsCurrent s) : HoldsCurrent (recomputeHolds (s.modEntry e f)) :=
  recomputeHolds_agree (s := s.modEntry e f) fun b => (h b).2

theorem holdsBerth_idle {x : EventEntry} (h : ¬ (x.action = .hold ∨ x.action = .holdAll)) (e : EventIx) (b : Berth) :
    holdsBerth x e b = false := by
  rw [not_or] at h
  unfold holdsBerth
  rw [Bool.and_eq_false_iff]
  right
  split
  next is _ => exact absurd is h.1
  next is => exact absurd is h.2
  · rfl

theorem holdsBerth_off {x : EventEntry} (h : x.enabled = false ∨ x.raw = false) (e : EventIx) (b : Berth) :
    holdsBerth x e b = false := by
  unfold holdsBerth
  obtain h | h := h <;> simp [h]

theorem holdsBerth_same {x y : EventEntry} (h : ¬ (x.action = .hold ∨ x.action = .holdAll) ∨ x.raw = false ∨ x.enabled = false)
    (action : y.action = x.action) (raw : x.raw = false → y.raw = false ∨ y.enabled = false)
    (off : x.enabled = false → y.raw = false ∨ y.enabled = false) (e : EventIx) (b : Berth) :
    holdsBerth y e b = holdsBerth x e b := by
  obtain h | h | h := h
  · rw [holdsBerth_idle h, holdsBerth_idle (by rw [action]; exact h)]
  · rw [holdsBerth_off (.inr h), holdsBerth_off (raw h).symm]
  · rw [holdsBerth_off (.inl h), holdsBerth_off (off h).symm]

/-! ### The condition after a clear (R166) -/

theorem recomputeHolds_capacityCond (s : State) (b : Berth) :
    ((recomputeHolds s).berth b).capacityCond = (s.berth b).capacityCond := by
  obtain ⟨v, h, rt, is, -⟩ := (recomputeHolds_aside (b := b) (P := fun _ => True) s).berth
  rw [is]

theorem conditioned_cleared (s : State) (e x : EventIx) (f : EventEntry → EventEntry) (p : MguReq) :
    Conditioned (recomputeHolds ((served src p s).modEntry e f)) x ↔ Conditioned s x := by
  unfold Conditioned
  simp only [recomputeHolds_capacityCond]
  simp only [State.point, State.berthRef, State.modu, recomputeHolds_frame]
  rfl

/-- R160: notices given by a working egress change the LPU alone. -/
theorem giveNotes_link (e : EventIx) (w : EgressWorks s) : ∃ l, giveNotes e s = { s with lpu := l } := by
  have run : ∀ (ds : List Nat) (u : State), EgressWorks u →
      ∃ l, ds.foldl (fun t d => giveNote (noteFrame t e d) t) u = { u with lpu := l } := by
    intro ds
    induction ds with
    | nil => exact fun u _ => ⟨u.lpu, rfl⟩
    | cons d ds ih =>
      intro u w
      obtain ⟨l, eq⟩ := ih (giveNote (noteFrame u e d) u) ((giveNote_kept (fun _ => False) _ u).works w).1
      exact ⟨l, by rw [List.foldl_cons, eq, giveNote_eq _ w]⟩
  exact run _ s w

theorem giveNotes_works (e : EventIx) (w : EgressWorks s) : EgressWorks (giveNotes e s) :=
  ((giveNotes_aside (b := 0) (P := fun _ => True) e s).link.works w).1

/-- R162: a recomputation of holds leaves the trip outputs. -/
theorem recomputeHolds_outputs (s : State) : (recomputeHolds s).evr.outputs = s.evr.outputs := by
  have one : ∀ (c : Berth) (u : State), (recomputeHold c u).evr.outputs = u.evr.outputs := fun c u => by
    unfold recomputeHold
    dsimp only
    split <;> rfl
  show (recomputeHold 3 (recomputeHold 2 (recomputeHold 1 (recomputeHold 0 s)))).evr.outputs = _
  rw [one, one, one, one]

/-! ### A raise at a request (R159, R166, R167) -/

/-- The marks of an entry that becomes raw. -/
def EventEntry.marked (clock : Nat × Nat) (x : EventEntry) : EventEntry :=
  { x with raw := true, count := 0, clock := some clock }

/-- The marks of an entry that is cleared. -/
def EventEntry.cleared (x : EventEntry) : EventEntry := { x with raw := false, count := 0, clock := none }

theorem clearEntry_eq (e : EventIx) (s : State) : clearEntry e s =
    if conditionHolds (recomputeHolds (s.modEntry e EventEntry.cleared)) e then
      raiseEntry e (recomputeHolds (s.modEntry e EventEntry.cleared))
    else recomputeHolds (s.modEntry e EventEntry.cleared) := rfl

/-- R159: the entry of a raise once all that the raise leads to is taken. -/
theorem concluded_raise {f : ReplyFrame} (w : EgressWorks s) (none : s.handoffs = []) (raw : (s.event e).raw = false)
    (c : (s.event e).action = .none ∨ (∀ u, Spared e u) ∨
      ∃ b k, eventFamily e = .berth b k ∧ ∀ u, (u.berth b).state.active = false → Spared e u) (other : (s.event e).action = .none ∨ e ≠ evLogFull) :
    (concluded f (raiseEntry e s)).event e = (s.event e).marked s.clock := by
  have marked : (s.modEntry e (EventEntry.marked s.clock)).event e = (s.event e).marked s.clock := s.event_modEntry e _
  have quiet : ∀ v : State, EgressWorks v → v.handoffs = [] → (concluded f v).event e = v.event e := fun v w none => by
    obtain ⟨l, m, is⟩ := concluded_quiet (f := f) w none
    rw [is]; rfl
  have works := (takeHandoff_onward (.raise e) s).works w
  have eq : raiseEntry e s = if (s.event e).enabled then
      applyAction e (recomputeHolds (giveNotes e (s.modEntry e (EventEntry.marked s.clock))))
    else s.modEntry e (EventEntry.marked s.clock) := if_neg (by rw [raw]; decide)
  have is : takeHandoff (.raise e) s = raiseEntry e s := rfl
  rw [is, eq] at works
  rw [eq]
  split at works
  next enabled =>
    rw [if_pos enabled]
    have noted : (recomputeHolds (giveNotes e (s.modEntry e (EventEntry.marked s.clock)))).event e =
        (s.event e).marked s.clock := by
      rw [recomputeHolds_event, ← marked]
      simp [State.event]
    have none' : (recomputeHolds (giveNotes e (s.modEntry e (EventEntry.marked s.clock)))).handoffs = [] := by
      simpa using none
    generalize recomputeHolds (giveNotes e (s.modEntry e (EventEntry.marked s.clock))) = n at works noted none'
    by_cases idle : (s.event e).action = .none
    · have same : applyAction e n = n := by
        have action : (n.event e).action = .none := by rw [noted]; exact idle
        unfold applyAction
        rw [action]
      rw [same] at works ⊢
      exact (quiet n works none').trans noted
    · obtain ⟨same, unraised, settled⟩ := applyAction_spared (c.resolve_left idle) (other.resolve_left idle) none'
      obtain none'' | spared := settled
      · exact ((quiet _ works none'').trans same).trans noted
      · exact ((concluded_spared spared unraised).trans same).trans noted
  next enabled =>
    rw [if_neg enabled]
    exact (quiet _ works none).trans marked

end
end Sys2Proof.Machine
end

section
open Sys2Proof Sys2Proof.Machine

/-- Settles O56: an action on an entry is followed through all it leads to; of the entries with a condition only LOG_FULL
can be raised again by what its own action leads to. -/
theorem eventRequests : Obligations.EventRequests := by
  unfold Obligations.EventRequests
  intro src tag e s q w h station n with' at14 condition holding
  have named : eventOf? (byteAt [n] 0) = some e := eventOf?_byte e
  have cond : ∀ (p : MguReq), conditionHolds (recomputeHolds ((served src p s).modEntry e EventEntry.cleared)) e = true ↔
      condition := fun p => (conditionHolds_iff _ e).trans (conditioned_cleared s e e _ p)
  have works : ∀ p, EgressWorks (served src p s) := fun p => w
  refine ⟨fun k beyond => ⟨?_, ?_, ?_, ?_⟩, fun alone => ?_, ?_, fun current idle free => ?_, fun free => ?_, fun held => ?_,
    fun current held off => ?_, fun on => ?_, fun off clear => ?_, fun off raw => ?_, fun current idle => ?_, ?_⟩
  · exact (eventClear_act k.toNat).beyond q w h station (by omega) rfl beyond
  · exact (eventSet_act k.toNat).beyond q w h station (by omega) rfl beyond
  · exact (eventEnable_act k.toNat).beyond q w h station (by omega) rfl beyond
  · exact (eventDisable_act k.toNat).beyond q w h station (by omega) rfl beyond
  · exact (eventSet_act _).plain (params := [n]) q w h station (by omega) rfl named q rfl rfl
      fun p => raiseEntry_alone (s := served src p s) alone
  · obtain ⟨p, is⟩ := (eventSet_act _).acted (tag := tag) (kind := 6) (params := [n]) q h station (by omega) rfl named (by simp)
    have onward := (takeHandoff_onward (.raise e) (served src p s)).trans
      (concluded_onward (reply src tag 6 .done []) (raiseEntry e (served src p s)))
    refine ⟨_, is, concluded_given ((takeHandoff_onward (.raise e) _).works (works p)), ?_, (onward.entries e).1, ?_, ?_⟩
    · exact ((concluded_onward _ _).raw e (raiseEntry_is_raw e _)).1
    · simp [served, accepted]
    · simp [served, accepted]
  · refine (eventClear_act _).plain (params := [n]) (u := s.modEntry e EventEntry.cleared) q w h station (by omega) rfl named
      q rfl rfl fun p => ?_
    rw [clearEntry_eq, if_neg (by rw [cond]; exact free)]
    exact modEntry_agreed (s := served src p s) current fun b =>
      holdsBerth_same (y := (s.event e).cleared) (idle.imp_right .inl) rfl (fun _ => .inl rfl) (fun _ => .inl rfl) e b
  · obtain ⟨p, is⟩ := (eventClear_act _).acted (tag := tag) (kind := 5) (params := [n]) q h station (by omega) rfl named
      (by simp)
    rw [clearEntry_eq, if_neg (by rw [cond]; exact free)] at is
    have cleared : EgressWorks (recomputeHolds ((served src p s).modEntry e EventEntry.cleared)) := by
      rw [egressWorks_iff, (recomputeHolds_frame _).2.1]
      exact works p
    have none : (recomputeHolds ((served src p s).modEntry e EventEntry.cleared)).handoffs = [] := by
      rw [(recomputeHolds_frame _).2.2.2.2.2.2.2.2.2.2.2.1]
      exact q
    obtain ⟨event, evr, bsq, -⟩ := concluded_parts (f := reply src tag 5 .done []) cleared none
    have own : ((served src p s).modEntry e EventEntry.cleared).event e = (s.event e).cleared := State.event_modEntry _ e _
    refine ⟨_, is, concluded_given cleared, ?_, ?_, ?_, fun current => ?_, fun x other => ?_, ?_, ?_, ?_⟩
    · rw [event, recomputeHolds_event, own]; rfl
    · rw [event, recomputeHolds_event, own]; rfl
    · rw [event, recomputeHolds_event, own]; rfl
    · rw [holdsAgree_iff, evr, bsq]
      exact modEntry_holds (s := served src p s) current
    · rw [event, recomputeHolds_event]
      exact State.event_modEntry_other _ (Ne.symm other) _
    · rw [evr]; exact recomputeHolds_outputs _
    · simp [served, accepted]
    · simp [served, accepted]
  · obtain ⟨p, is⟩ := (eventClear_act _).acted (tag := tag) (kind := 5) (params := [n]) q h station (by omega) rfl named
      (by simp)
    rw [clearEntry_eq, if_pos ((cond p).2 held)] at is
    have cleared : EgressWorks (recomputeHolds ((served src p s).modEntry e EventEntry.cleared)) := by
      rw [egressWorks_iff, (recomputeHolds_frame _).2.1]
      exact works p
    have none : (recomputeHolds ((served src p s).modEntry e EventEntry.cleared)).handoffs = [] := by
      rw [(recomputeHolds_frame _).2.2.2.2.2.2.2.2.2.2.2.1]
      exact q
    have own : (recomputeHolds ((served src p s).modEntry e EventEntry.cleared)).event e = (s.event e).cleared :=
      (recomputeHolds_event _ e).trans (State.event_modEntry _ e _)
    have clock : (recomputeHolds ((served src p s).modEntry e EventEntry.cleared)).clock = s.clock := by
      simp [State.clock, served, accepted]
    have held' : Conditioned s e := held
    refine ⟨_, is, concluded_given ((takeHandoff_onward (.raise e) _).works cleared), ?_, fun alone => ?_, ?_, ?_⟩
    · exact ((concluded_onward _ _).raw e (raiseEntry_is_raw e _)).1
    · have action : ∀ y : EventEntry, y.cleared.action = y.action := fun _ => rfl
      rw [concluded_raise cleared none (by rw [own]; rfl) ?_ (by rw [own, action]; exact alone), own, clock]
      · rfl
      · rw [own, action]
        exact alone.imp_right (conditioned_spared held')
    · simp [served, accepted]
    · simp [served, accepted]
  · have marked : raised e (s.modEntry e EventEntry.cleared) = s.modEntry e (EventEntry.marked s.clock) := by
      show ({ s with evr := { s.evr with
        entries := upd (upd s.evr.entries e EventEntry.cleared) e (EventEntry.raised s.clock) } } : State) = _
      rw [upd_upd]
      rfl
    refine (eventClear_act _).plain (params := [n]) (u := s.modEntry e (EventEntry.marked s.clock)) q w h station (by omega)
      rfl named q rfl rfl fun p => ?_
    have same : recomputeHolds ((served src p s).modEntry e EventEntry.cleared) =
        (served src p s).modEntry e EventEntry.cleared :=
      modEntry_agreed (s := served src p s) current fun b =>
        holdsBerth_same (y := (s.event e).cleared) (.inr (.inr off)) rfl (fun _ => .inl rfl) (fun _ => .inl rfl) e b
    have alone : RaisesAlone e ((served src p s).modEntry e EventEntry.cleared) := by
      refine .inr ?_
      rw [State.event_modEntry]
      exact off
    rw [clearEntry_eq, if_pos ((cond p).2 held), same, raiseEntry_alone alone, ← marked]
    rfl
  · exact (eventEnable_act _).plain (params := [n]) q w h station (by omega) rfl named q rfl rfl fun p => if_pos on
  · refine (eventEnable_act _).plain (params := [n]) (u := s.modEntry e fun x => { x with enabled := true }) q w h station
      (by omega) rfl named q rfl rfl fun p => ?_
    have off' : ¬ ((served src p s).event e).enabled = true := by rw [show (served src p s).event e = s.event e from rfl, off]; decide
    have clear' : ¬ ((served src p s).event e).raw = true := by rw [show (served src p s).event e = s.event e from rfl, clear]; decide
    unfold enableEntry
    rw [if_neg off']
    dsimp only
    rw [if_neg clear']
    rfl
  · obtain ⟨p, is⟩ := (eventEnable_act _).acted (tag := tag) (kind := 7) (params := [n]) q h station (by omega) rfl named
      (by simp)
    have off' : ¬ ((served src p s).event e).enabled = true := by rw [show (served src p s).event e = s.event e from rfl, off]; decide
    have taken : enableEntry e (served src p s) =
        recomputeHolds (giveNotes e ((served src p s).modEntry e fun x => { x with enabled := true })) :=
      (if_neg off').trans (if_pos raw)
    have noted : EgressWorks (giveNotes e ((served src p s).modEntry e fun x => { x with enabled := true })) :=
      giveNotes_works e (works p)
    have enabled : EgressWorks (enableEntry e (served src p s)) := by
      rw [taken, egressWorks_iff, (recomputeHolds_frame _).2.1]
      exact noted
    have none : (enableEntry e (served src p s)).handoffs = [] := by
      have quiet : s.handoffs = [] := q
      rw [taken]
      simpa [served, accepted] using quiet
    obtain ⟨event, evr, bsq, mpm⟩ := concluded_parts (f := reply src tag 7 .done []) enabled none
    have entry : ∀ x, (enableEntry e (served src p s)).event x =
        ((served src p s).modEntry e fun x => { x with enabled := true }).event x := fun x => by
      rw [taken, recomputeHolds_event]
      simp [State.event]
    obtain ⟨l, lpu⟩ := giveNotes_link e (s := (served src p s).modEntry e fun x => { x with enabled := true }) (works p)
    refine ⟨_, is, concluded_given enabled, ?_, fun x other => ?_, fun current => ?_, ?_, ?_, ?_, fun b => ?_⟩
    · rw [event, entry, State.event_modEntry]; rfl
    · rw [event, entry]; exact State.event_modEntry_other _ (Ne.symm other) _
    · rw [holdsAgree_iff, evr, bsq, taken]
      exact recomputeHolds_agree fun b => by rw [lpu]; exact (current b).2
    · rw [evr, taken, recomputeHolds_outputs, lpu]; rfl
    · simp [served, accepted]
    · rw [mpm, taken, (recomputeHolds_frame _).2.2.2.1, lpu]; simp [served, accepted]
    · rw [State.berth, bsq, taken]
      have state := (recomputeHolds_aside (b := b) (P := fun _ => True)
        (giveNotes e ((served src p s).modEntry e fun x => { x with enabled := true }))).state
      exact state.trans (by rw [lpu]; rfl)
  · refine (eventDisable_act _).plain (params := [n]) (u := s.modEntry e fun x => { x with enabled := false }) q w h station
      (by omega) rfl named q rfl rfl fun p => ?_
    exact modEntry_agreed (s := served src p s) current fun b =>
      holdsBerth_same (y := { s.event e with enabled := false }) idle rfl (fun _ => .inr rfl) (fun _ => .inr rfl) e b
  · obtain ⟨p, is⟩ := (eventDisable_act _).acted (tag := tag) (kind := 8) (params := [n]) q h station (by omega) rfl named
      (by simp)
    have taken : disableEntry e (served src p s) =
        recomputeHolds ((served src p s).modEntry e fun x => { x with enabled := false }) := rfl
    have disabled : EgressWorks (disableEntry e (served src p s)) := by
      rw [taken, egressWorks_iff, (recomputeHolds_frame _).2.1]
      exact works p
    have none : (disableEntry e (served src p s)).handoffs = [] := by
      rw [taken, (recomputeHolds_frame _).2.2.2.2.2.2.2.2.2.2.2.1]
      exact q
    obtain ⟨event, evr, bsq, mpm⟩ := concluded_parts (f := reply src tag 8 .done []) disabled none
    refine ⟨_, is, concluded_given disabled, ?_, fun x other => ?_, fun current => ?_, ?_, ?_, fun b => ?_⟩
    · rw [event, taken, recomputeHolds_event, State.event_modEntry]; rfl
    · rw [event, taken, recomputeHolds_event]; exact State.event_modEntry_other _ (Ne.symm other) _
    · rw [holdsAgree_iff, evr, bsq]
      exact modEntry_holds (s := served src p s) current
    · simp [served, accepted]
    · rw [mpm, taken, (recomputeHolds_frame _).2.2.2.1]; simp [served, accepted]
    · rw [State.berth, bsq, taken]
      exact (recomputeHolds_aside (b := b) (P := fun _ => True)
        ((served src p s).modEntry e fun x => { x with enabled := false })).state

end

section
namespace Sys2Proof.Machine

section
variable {s t u : State} {b c : Berth} {e : EventIx}

/-! ### What a recomputation of the holds does (R107, R162) -/

/-- BSQ is handed an event hold where it has changed. -/
def BerthRec.handedHold (now : Nat) (new old : Bool) (r : BerthRec) : BerthRec :=
  if old = new then r else BerthRec.syncTimer now { r with eventHold := new }

theorem recomputeHold_eq (c : Berth) (s : State) : recomputeHold c s = { s with
    evr := { s.evr with holds := upd s.evr.holds c fun _ => eventHold s.evr.entries c }
    bsq := { s.bsq with
      recs := upd s.bsq.recs c (BerthRec.handedHold s.now (eventHold s.evr.entries c) s.evr.holds[c]) } } := by
  unfold recomputeHold
  dsimp only
  split
  next same =>
    have holds : (upd s.evr.holds c fun _ => eventHold s.evr.entries c) = s.evr.holds := by
      rw [← same]
      exact Vector.set_getElem_self _
    have recs : upd s.bsq.recs c (BerthRec.handedHold s.now (eventHold s.evr.entries c) s.evr.holds[c]) = s.bsq.recs := by
      have id : BerthRec.handedHold s.now (eventHold s.evr.entries c) s.evr.holds[c] = fun r => r :=
        funext fun r => if_pos same
      rw [id]
      exact Vector.set_getElem_self _
    rw [holds, recs]
  next other =>
    have handed : BerthRec.handedHold s.now (eventHold s.evr.entries c) s.evr.holds[c] =
        fun r => BerthRec.syncTimer s.now { r with eventHold := eventHold s.evr.entries c } := funext fun r => if_neg other
    rw [handed]
    rfl

/-- R162: the four holds become what the table gives, and those that change are handed over. -/
theorem recomputeHolds_eq (s : State) : recomputeHolds s = { s with
    evr := { s.evr with holds := Vector.ofFn fun c : Fin 4 => eventHold s.evr.entries c }
    bsq := { s.bsq with recs := Vector.ofFn fun c : Fin 4 =>
      BerthRec.handedHold s.now (eventHold s.evr.entries c) s.evr.holds[c] s.bsq.recs[c] } } := by
  have run : recomputeHolds s = recomputeHold 3 (recomputeHold 2 (recomputeHold 1 (recomputeHold 0 s))) := rfl
  have holds : ∀ (v : Vector Bool 4) (f : Fin 4 → Bool), (upd (upd (upd (upd v 0 fun _ => f 0) 1 fun _ => f 1) 2
      fun _ => f 2) 3 fun _ => f 3) = Vector.ofFn f := by
    intro v f
    ext i hi
    rw [Vector.getElem_ofFn]
    simp only [upd_get]
    interval_cases i <;> rfl
  have recs : ∀ (v : Vector BerthRec 4) (f : Fin 4 → BerthRec → BerthRec),
      (upd (upd (upd (upd v 0 (f 0)) 1 (f 1)) 2 (f 2)) 3 (f 3)) = Vector.ofFn fun c : Fin 4 => f c v[c] := by
    intro v f
    ext i hi
    rw [Vector.getElem_ofFn]
    simp only [upd_get]
    interval_cases i <;> rfl
  have one : ∀ f g h : Bool → Bool, (upd s.evr.holds 0 f)[(1 : Fin 4)] = s.evr.holds[(1 : Fin 4)] ∧
      (upd (upd s.evr.holds 0 f) 1 g)[(2 : Fin 4)] = s.evr.holds[(2 : Fin 4)] ∧
      (upd (upd (upd s.evr.holds 0 f) 1 g) 2 h)[(3 : Fin 4)] = s.evr.holds[(3 : Fin 4)] := fun f g h => by
    refine ⟨upd_other _ _ (by decide), (upd_other _ _ (by decide)).trans (upd_other _ _ (by decide)),
      (upd_other _ _ (by decide)).trans ((upd_other _ _ (by decide)).trans (upd_other _ _ (by decide)))⟩
  rw [run, recomputeHold_eq 0, recomputeHold_eq 1, recomputeHold_eq 2, recomputeHold_eq 3]
  dsimp only
  obtain ⟨h1, h2, h3⟩ := one (fun _ => eventHold s.evr.entries 0) (fun _ => eventHold s.evr.entries 1)
    fun _ => eventHold s.evr.entries 2
  rw [h1, h2, h3, holds s.evr.holds (eventHold s.evr.entries),
    recs s.bsq.recs fun c => BerthRec.handedHold s.now (eventHold s.evr.entries c) s.evr.holds[c]]

/-- R162: the table's hold with one entry changed that held nothing. -/
theorem eventHold_changed {t : Vector EventEntry 100} {f : EventEntry → EventEntry} (old : holdsBerth t[e] e b = false) :
    eventHold (upd t e f) b = (eventHold t b || holdsBerth (f t[e]) e b) := by
  have self : (upd t e f)[e] = f t[e] := upd_self t e f
  have other : ∀ x : EventIx, e ≠ x → (upd t e f)[x] = t[x] := fun x is => upd_other t f is
  have mem : ∀ x : EventIx, x ∈ List.finRange 100 := List.mem_finRange
  rw [Bool.eq_iff_iff, Bool.or_eq_true]
  unfold eventHold
  simp only [List.any_eq_true]
  constructor
  · rintro ⟨x, -, holds⟩
    by_cases is : e = x
    · subst is
      rw [self] at holds
      exact .inr holds
    · rw [other x is] at holds
      exact .inl ⟨x, mem x, holds⟩
  · rintro (⟨x, -, holds⟩ | holds)
    · by_cases is : e = x
      · subst is
        rw [old] at holds
        exact nomatch holds
      · exact ⟨x, mem x, by rw [other x is]; exact holds⟩
    · exact ⟨e, mem e, by rw [self]; exact holds⟩

/-! ### The notices of a raise (R160) -/

/-- The ship gateways an entry's notices go to, by the entry's number. -/
def shipsOf (s : State) (e : EventIx) : List Nat :=
  let gate (b : Berth) : List Nat := if (s.entry b).configured then [(s.entry b).gateway] else []
  if e.val < 56 then ((List.finRange 4).filter fun b => b.val = e.val / 14).flatMap gate
  else if e.val < 88 then
    match (List.finRange 4).find? fun b => (s.list b).any fun m => m.val = (e.val - 56) / 4 with
    | none => []
    | some b => gate b
  else (List.finRange 4).flatMap gate

theorem shipsOf_eq (s : State) (e : EventIx) : shipsOf s e = shipDests s e := by
  unfold shipsOf
  dsimp only
  obtain ⟨b, k, rfl⟩ | ⟨m, k, rfl⟩ | ⟨high, single⟩ := eventFamily_cases e
  · have val : (berthEvent b k).val = 14 * b.val + k.val := rfl
    have only : ((List.finRange 4).filter fun c => c.val = (berthEvent b k).val / 14) = [b] := by
      have is : (berthEvent b k).val / 14 = b.val := by omega
      rw [is]
      match b with
      | 0 => rfl
      | 1 => rfl
      | 2 => rfl
      | 3 => rfl
    rw [if_pos (by omega), only, shipDests, eventFamily_berthEvent]
    simp [gatewayOf]
  · have val : (moduleEvent m k).val = 56 + 4 * m.val + k.val := rfl
    have listed : ((List.finRange 4).find? fun c => (s.list c).any fun x => x.val = ((moduleEvent m k).val - 56) / 4) =
        s.berthOfModule m := by
      have is : ((moduleEvent m k).val - 56) / 4 = m.val := by omega
      unfold State.berthOfModule
      rw [show List.finRange 4 = allBerths from rfl, is]
      congr 1
      funext c
      rw [Bool.eq_iff_iff]
      rw [List.any_eq_true, List.contains_iff_mem]
      simp only [decide_eq_true_eq]
      constructor
      · rintro ⟨x, mem, val⟩
        rwa [← Fin.ext val]
      · exact fun mem => ⟨m, mem, rfl⟩
    rw [if_neg (by omega), if_pos (by omega), listed, shipDests, eventFamily_moduleEvent]
    dsimp only
    cases s.berthOfModule m <;> rfl
  · rw [if_neg (by omega), if_neg (by omega), shipDests, single]
    rfl

/-- The destinations of an entry's notices. -/
def destsOf (s : State) (e : EventIx) : List Nat :=
  ((if (s.event e).notifyOperator then [s.mgu.opn.toNat] else []) ++
    (if (s.event e).notifyBilling then [s.mgu.bln.toNat] else []) ++
    if (s.event e).notifyShip then shipsOf s e else []).filter fun n => n ≠ 0 ∧ n ≠ 63 ∧ s.own ≠ some n

/-- The notice of an entry that becomes raw. -/
def noticeOf (s : State) (e : EventIx) (n : Nat) : ReplyFrame := .note n e 0 s.mtr.day s.mtr.second

/-- R159, R160: an entry that becomes raw, and its notices. -/
def noted (e : EventIx) (s : State) : State :=
  (destsOf s e).foldl (fun u n => giveNote (noticeOf s e n) u) (raised e s)

theorem raised_clear (clear : (s.event e).raw = false) : raised e s = s.modEntry e (EventEntry.marked s.clock) := by
  have own : EventEntry.raised s.clock s.evr.entries[e] = (s.evr.entries[e]).marked s.clock :=
    if_neg (by rw [show s.evr.entries[e].raw = false from clear]; decide)
  have same : upd s.evr.entries e (EventEntry.raised s.clock) = upd s.evr.entries e (EventEntry.marked s.clock) :=
    congrArg (fun x => s.evr.entries.set e.val x e.isLt) own
  rw [raised, same]
  rfl

theorem giveNotes_marked (clear : (s.event e).raw = false) : giveNotes e (raised e s) = noted e s := by
  have event : (raised e s).event e = (s.event e).marked s.clock := by
    rw [raised_clear clear]
    exact s.event_modEntry e _
  have dests : (noteDests (raised e s) e).filter (destOk (raised e s)) = destsOf s e := by
    unfold destsOf noteDests
    rw [event, shipsOf_eq]
    congr 1
    funext n
    rw [Bool.eq_iff_iff]
    have own : (raised e s).own = s.own := rfl
    simp [destOk, own, and_assoc]
  have run : ∀ (ds : List Nat) (u : State), u.event e = (s.event e).marked s.clock →
      ds.foldl (fun u d => giveNote (noteFrame u e d) u) u = ds.foldl (fun u d => giveNote (noticeOf s e d) u) u := by
    intro ds
    induction ds with
    | nil => exact fun _ _ => rfl
    | cons d ds ih =>
      intro u is
      have frame : noteFrame u e d = noticeOf s e d := by
        rw [noteFrame, is]
        rfl
      have kept : (giveNote (noticeOf s e d) u).event e = (s.event e).marked s.clock := by
        rw [State.event, (giveNote_frame _ u).2.2.2.2.2.2.1]
        exact is
      rw [List.foldl_cons, List.foldl_cons, frame]
      exact ih _ kept
  rw [giveNotes, dests]
  exact run _ _ event

/-- R159: the raise of an enabled entry that is not raw. -/
theorem raiseEntry_enabled (clear : (s.event e).raw = false) (enabled : (s.event e).enabled = true) :
    raiseEntry e s = applyAction e (recomputeHolds (noted e s)) := by
  rw [← giveNotes_marked clear, raised_clear clear]
  exact (if_neg (by rw [clear]; decide)).trans (if_pos enabled)

theorem noted_sends (e : EventIx) (s : State) : Sends (raised e s) (noted e s) := by
  have run : ∀ (ds : List Nat) (u : State), Sends u (ds.foldl (fun u n => giveNote (noticeOf s e n) u) u) := by
    intro ds
    induction ds with
    | nil => exact fun u => .refl u
    | cons d ds ih => exact fun u => (giveNote_sends _ u).trans (ih _)
  exact run _ _

theorem noted_kept (x : Target → Prop) (e : EventIx) (s : State) : Lpu.Kept x 0 s.lpu (noted e s).lpu := by
  have run : ∀ (ds : List Nat) (u : State), Lpu.Kept x 0 u.lpu (ds.foldl (fun u n => giveNote (noticeOf s e n) u) u).lpu := by
    intro ds
    induction ds with
    | nil => exact fun u => .refl x 0 _
    | cons d ds ih => exact fun u => (giveNote_kept x _ u).trans (ih _)
  exact run _ (raised e s)

/-- R160: notices leave EVR, the berths and the clock of the raise. -/
theorem noted_parts (e : EventIx) (s : State) : (noted e s).evr = (raised e s).evr ∧ (noted e s).bsq = s.bsq ∧
    (noted e s).now = s.now ∧ (noted e s).handoffs = s.handoffs := by
  obtain ⟨l, p, ms, is⟩ := noted_sends e s
  rw [is]
  exact ⟨rfl, rfl, rfl, rfl⟩

/-! ### The holds after a raise (R162, R163) -/

/-- R163: a berth whose event hold is set: its running ramp timer pauses. -/
def BerthRec.heldByEvent (now : Nat) (r : BerthRec) : BerthRec :=
  if r.eventHold then r
  else { r with
    eventHold := true
    rampTimer :=
      match r.rampTimer with
      | .running due => .paused (due - now)
      | t => t }

theorem handedHold_set {now : Nat} {old : Bool} {r : BerthRec} (handed : r.eventHold = old) :
    BerthRec.handedHold now true old r = r.heldByEvent now := by
  subst handed
  unfold BerthRec.handedHold BerthRec.heldByEvent
  split
  · rfl
  · unfold BerthRec.syncTimer BerthRec.held
    cases r.rampTimer <;> simp

/-- R162: the recomputation at the raise of an entry. -/
theorem recompute_noted (current : HoldsCurrent s) (clear : (s.event e).raw = false) :
    recomputeHolds (noted e s) = { noted e s with
      evr := { (noted e s).evr with
        holds := Vector.ofFn fun c : Fin 4 => s.evr.holds[c] || holdsBerth ((s.event e).marked s.clock) e c }
      bsq := { (noted e s).bsq with
        recs := Vector.ofFn fun c : Fin 4 =>
          if holdsBerth ((s.event e).marked s.clock) e c then (s.bsq.recs[c]).heldByEvent s.now else s.bsq.recs[c] } } := by
  obtain ⟨evr, bsq, now, -⟩ := noted_parts e s
  have table : ∀ c, eventHold (raised e s).evr.entries c =
      (s.evr.holds[c] || holdsBerth ((s.event e).marked s.clock) e c) := fun c => by
    rw [raised_clear clear, (current c).1]
    exact eventHold_changed (holdsBerth_off (.inr clear) e c)
  have handed : ∀ c : Fin 4, BerthRec.handedHold s.now (s.evr.holds[c] || holdsBerth ((s.event e).marked s.clock) e c)
      s.evr.holds[c] s.bsq.recs[c] =
      if holdsBerth ((s.event e).marked s.clock) e c then (s.bsq.recs[c]).heldByEvent s.now else s.bsq.recs[c] := fun c => by
    split
    next holds => rw [holds, Bool.or_true]; exact handedHold_set (current c).2
    next idle => rw [Bool.eq_false_iff.2 idle, Bool.or_false]; exact if_pos rfl
  rw [recomputeHolds_eq, evr, bsq, now]
  simp only [table]
  have holds : (raised e s).evr.holds = s.evr.holds := rfl
  simp only [holds, handed]
  rw [now]

theorem recompute_idle (current : HoldsCurrent s) (clear : (s.event e).raw = false)
    (idle : ¬ ((s.event e).action = .hold ∨ (s.event e).action = .holdAll)) : recomputeHolds (noted e s) = noted e s := by
  have none : ∀ c, holdsBerth ((s.event e).marked s.clock) e c = false :=
    holdsBerth_idle (x := (s.event e).marked s.clock) idle e
  obtain ⟨evr, bsq, -, -⟩ := noted_parts e s
  refine recomputeHolds_agreed fun c => ?_
  have table : eventHold (raised e s).evr.entries c = s.evr.holds[c] := by
    rw [raised_clear clear, (current c).1]
    refine (eventHold_changed (holdsBerth_off (.inr clear) e c)).trans ?_
    rw [show holdsBerth (EventEntry.marked s.clock s.evr.entries[e]) e c = false from none c, Bool.or_false]
  rw [evr, table]
  rfl

/-! ### The actions of a raise (R163, R165) -/

theorem applyAction_still_of {a : Action} (action : (s.event e).action = a) (quiet : a = .none ∨ a = .hold ∨ a = .holdAll) :
    applyAction e s = s := by
  unfold applyAction
  rw [action]
  obtain rfl | rfl | rfl := quiet <;> rfl

theorem noted_event (clear : (s.event e).raw = false) : (noted e s).event e = (s.event e).marked s.clock := by
  rw [State.event, (noted_parts e s).1, raised_clear clear]
  exact s.event_modEntry e _

theorem recompute_event (clear : (s.event e).raw = false) :
    (recomputeHolds (noted e s)).event e = (s.event e).marked s.clock :=
  (recomputeHolds_event _ e).trans (noted_event clear)

/-- R162: the raise of an entry that holds the berths of `p`. -/
theorem raiseEntry_holds {p : Berth → Bool} (current : HoldsCurrent s) (clear : (s.event e).raw = false)
    (enabled : (s.event e).enabled = true) (action : (s.event e).action = .hold ∨ (s.event e).action = .holdAll)
    (holds : ∀ c, holdsBerth ((s.event e).marked s.clock) e c = p c) : raiseEntry e s = { noted e s with
      evr := { (noted e s).evr with holds := Vector.ofFn fun c : Fin 4 => s.evr.holds[c] || p c }
      bsq := { (noted e s).bsq with
        recs := Vector.ofFn fun c : Fin 4 => if p c then (s.bsq.recs[c]).heldByEvent s.now else s.bsq.recs[c] } } := by
  have quiet : applyAction e (recomputeHolds (noted e s)) = recomputeHolds (noted e s) := by
    refine applyAction_still_of (congrArg EventEntry.action (recompute_event clear)) (.inr ?_)
    exact action
  rw [raiseEntry_enabled clear enabled, quiet, recompute_noted current clear]
  simp only [holds]

/-- R68: what a SHED sends. -/
def shedAsked (s : State) (b : Berth) : Nat :=
  let sum := (((s.list b).filter fun m => (s.modu m).state = .online).map fun m => (s.modu m).capacity.getD 0).sum
  let power := roundHalfAway (s.point (cbPoint b)).pCal 1000
  match s.berthRef b with
  | none => 0
  | some r =>
    if r.overload = false then 0
    else if (s.point (cbPoint b)).state = .stale then r.lastShed
    else (max 0 (min 65535 (power - (sum : Int) + (s.rfg.inForce.shedMargin : Int)))).toNat

theorem shedAmount_eq (s : State) (b : Berth) : shedAmount s b = shedAsked s b := by
  unfold shedAmount shedAsked
  cases s.berthRef b with
  | none => rfl
  | some r =>
    dsimp only
    cases r.overload <;> rfl

theorem shedAsked_noted (e : EventIx) (s : State) (b : Berth) : shedAsked (noted e s) b = shedAsked s b := by
  obtain ⟨l, p, ms, is⟩ := noted_sends e s
  rw [is]
  rfl

/-- R68: RFG's answer to SHED. -/
theorem shedAction_eq (b : Berth) (s : State) : shedAction b s =
    if (s.entry b).configured = true ∧ (s.entry b).gateway ≠ 0 ∧ (s.entry b).gateway ≠ 63 ∧ s.own ≠ some (s.entry b).gateway then
      giveShpn (s.entry b).gateway (.shed b (shedAsked s b)) (s.modBerthRef b fun r =>
        if shedAsked s b = 0 then r else { r with lastShed := shedAsked s b })
    else s.modBerthRef b fun r => if shedAsked s b = 0 then r else { r with lastShed := shedAsked s b } := by
  have kept : (if shedAmount s b ≠ 0 then s.modBerthRef b fun r => { r with lastShed := shedAmount s b } else s) =
      s.modBerthRef b fun r => if shedAsked s b = 0 then r else { r with lastShed := shedAsked s b } := by
    rw [shedAmount_eq]
    by_cases zero : shedAsked s b = 0
    · have same : (Option.map fun r : BerthRef => if shedAsked s b = 0 then r else { r with lastShed := shedAsked s b }) = id := by
        funext o
        simp [zero]
      rw [if_neg (not_not.2 zero), State.modBerthRef, same]
      simp [State.modRfg, upd]
    · simp [zero]
  unfold shedAction
  dsimp only
  rw [kept, shedAmount_eq]
  by_cases gates : (s.entry b).configured = true ∧ (s.entry b).gateway ≠ 0 ∧ (s.entry b).gateway ≠ 63 ∧
      s.own ≠ some (s.entry b).gateway
  · obtain ⟨configured, zero, none, own⟩ := id gates
    rw [if_pos gates, if_neg (by simp [configured, zero, none, own])]
  · rw [if_neg gates, if_pos]
    simp only [not_and_or, not_not] at gates
    simpa [or_assoc] using gates

end
end Sys2Proof.Machine
end

section
namespace Sys2Proof.Machine

/-! ### What work that hand-offs lead to does to MPM

`Pass R` says that `R` relates the states before and after each single change that such work makes to MPM, each under what
the model has checked before it makes it; then `R` relates the states before and after the work as a whole. -/

/-- What the poll of a module has last found (R36, R37). -/
def ModuleRec.found (r : ModuleRec) : Nat × Bool × Option Reported × Option Nat × Bool × Bool :=
  (r.missCount, r.answered, r.reported, r.capacity, r.derateFlag, r.derateCond)

/-- Module `x` is in a list, or in a state in which it should be in one. -/
def Engaged (x : Module) (s : State) : Prop := (s.modu x).state.allocated = true ∨ ∃ c, x ∈ s.list c

/-- The change `g` of the record of an engaged module leaves what its poll has found, and neither ends a stop nor takes the
block mark of one. -/
structure Worked (x : Module) (g : ModuleRec → ModuleRec) (s : State) : Prop where
  engaged : Engaged x s
  found : ∀ r, (g r).found = r.found
  stopping : (s.modu x).state = .stopping → (g (s.modu x)).state = .stopping ∧
    ((s.modu x).blockPending = true → (g (s.modu x)).blockPending = true)

/-- No poll is opened, and of MPM and RFG only what egress tells of frames it begins differs. -/
def Egressed (s t : State) : Prop := Sends s t ∧ (s.mpm.poll = none → t.mpm.poll = none)

/-- The single changes to MPM under which `R` holds. -/
structure Pass (R : State → State → Prop) : Prop where
  trans : ∀ {s t u}, R s t → R t u → R s u
  outside : ∀ {s t}, t.mpm = s.mpm → R s t
  egressed : ∀ {s t}, Egressed s t → R s t
  worked : ∀ {x g s}, Worked x g s → R s (s.modModule x g)

section
variable {s t u : State} {x : Module} {b : Berth} {e : EventIx}

/-! ### The link (R14, R36) -/

theorem Egressed.refl (s : State) : Egressed s s := ⟨.refl s, id⟩

theorem Egressed.trans (h : Egressed s t) (g : Egressed t u) : Egressed s u := ⟨h.1.trans g.1, g.2 ∘ h.2⟩

theorem Egressed.modLpu (g : Lpu → Lpu) (s : State) : Egressed s (s.modLpu g) := ⟨.modLpu g s, id⟩

theorem onControlSent_egressed (f : ControlFrame) (s : State) : Egressed s (onControlSent f s) := by
  refine ⟨onControlSent_sends f s, fun none => ?_⟩
  cases f with
  | setp f => exact none
  | poll d m n =>
    show s.mpm.poll.map _ = _
    rw [none]
    rfl
  | shpn d b => exact none

theorem sendControl_egressed (p : ControlPlace) (rest : List ControlPlace) (s : State) : Egressed s (sendControl p rest s) :=
  ((Egressed.modLpu _ s).trans (.modLpu _ _)).trans (onControlSent_egressed _ _)

theorem kick_egressed (s : State) : Egressed s (kick s) := by
  have own : ∀ (g : Lpu → Lpu) d kind flags p, Egressed s (sendOwn d kind flags p (s.modLpu g)) := fun g d kind flags p =>
    (Egressed.modLpu g s).trans (.modLpu _ _)
  unfold kick
  split
  · unfold beginNext
    split
    · exact own _ _ _ _ _
    split
    · exact sendControl_egressed _ _ s
    split
    · exact .modLpu _ s
    split
    · exact sendControl_egressed _ _ s
    split
    · exact own _ _ _ _ _
    · exact .refl s
  · exact .refl s

theorem command_egressed (c : BreakerCmd) (k : Target) (s : State) : Egressed s (command c k s) := by
  unfold command giveBcmd
  split
  · exact .refl s
  · exact (Egressed.modLpu _ s).trans (kick_egressed _)

theorem giveShpn_egressed (d : Nat) (body : Notice) (s : State) : Egressed s (giveShpn d body s) := by
  have lost : Egressed s (shpnLost s) := ⟨⟨_, s.mpm.poll, s.rfg.modules, rfl⟩, id⟩
  unfold giveShpn
  split
  · exact lost
  split
  · exact (Egressed.modLpu _ s).trans (kick_egressed _)
  split
  · exact ((Egressed.modLpu _ s).trans (.modLpu _ _)).trans ((Egressed.modLpu _ _).trans (kick_egressed _))
  · exact lost

theorem enterReply_egressed (f : ReplyFrame) (r : Bool) (s : State) : Egressed s (enterReply f r s) :=
  (Egressed.modLpu _ s).trans (kick_egressed _)

theorem giveNote_egressed (f : ReplyFrame) (s : State) : Egressed s (giveNote f s) := by
  unfold giveNote
  split
  · exact .modLpu _ s
  · exact enterReply_egressed f false s

theorem giveNotes_event (e f : EventIx) (s : State) : (giveNotes e s).event f = s.event f := by
  rw [State.event, show (giveNotes e s).evr = s.evr by simp]
  rfl

/-! ### SYU and MPM -/

theorem serving_allocated {st : ModuleState} (h : st.serving = true) : st.allocated = true ∧ st ≠ .stopping := by
  revert h
  cases st <;> decide

theorem Worked.of_allocated {g : ModuleRec → ModuleRec} (h : (s.modu x).state.allocated = true)
    (other : (s.modu x).state ≠ .stopping) (found : ∀ r, (g r).found = r.found) : Worked x g s :=
  ⟨.inl h, found, fun is => absurd is other⟩

end

section
variable {R : State → State → Prop} (k : Pass R) {s t u : State} {x : Module} {b : Berth} {e : EventIx}
include k

theorem Pass.refl (s : State) : R s s := k.outside rfl

theorem Pass.foldl {α : Type} {f : State → α → State} (h : ∀ t a, R t (f t a)) (as : List α) (s : State) :
    R s (as.foldl f s) := by
  induction as generalizing s with
  | nil => exact k.refl s
  | cons a as ih => exact k.trans (h s a) (ih _)

theorem Pass.post (h : Handoff) (s : State) : R s (s.post h) := k.outside rfl

theorem Pass.modBerth (b : Berth) (g : BerthRec → BerthRec) (s : State) : R s (s.modBerth b g) := k.outside rfl

theorem Pass.command (c : BreakerCmd) (j : Target) (s : State) : R s (command c j s) := k.egressed (command_egressed c j s)

theorem Pass.giveShpn (d : Nat) (body : Notice) (s : State) : R s (giveShpn d body s) := k.egressed (giveShpn_egressed d body s)

theorem Pass.cancelSync (j : Target) (s : State) : R s (cancelSync j s) := by
  have channel : ∀ (c : Chan) (s : State), R s (cancelChannel j c s) := fun c s => by
    unfold cancelChannel
    split
    · exact k.refl s
    split
    · split
      · exact k.trans (k.command .openCmd j s) (k.outside (by simp))
      · exact k.outside (by simp)
    · exact k.refl s
  have dead : ∀ s : State, R s (cancelDeadClose j s) := fun s => by
    unfold cancelDeadClose
    split
    · exact k.trans (k.command .openCmd j s) (k.outside (by simp))
    · exact k.refl s
  have queued : R s (cancelQueued j s) := k.outside (by simp)
  exact k.trans (k.trans (k.trans queued (channel 0 _)) (channel 1 _)) (dead _)

theorem Pass.requestDeadBus (j : Target) (b : Berth) (q : Requester) (s : State) : R s (requestDeadBus j b q s) := by
  unfold Machine.requestDeadBus
  split
  · exact k.trans (k.command .close j s) (k.outside rfl)
  · unfold giveOutcome
    split <;> exact k.outside rfl

theorem Pass.tellSummary (c : Berth) (s : State) : R s (tellSummary c s) := k.outside rfl

theorem Pass.stopModule (serving : (s.modu x).state.serving = true) : R s (stopModule x s) := by
  obtain ⟨allocated, other⟩ := serving_allocated serving
  have stopping : R s (s.modModule x (ModuleRec.stopping s.now (s.mpm.table[x].stopLimit * 1000))) :=
    k.worked (.of_allocated allocated other fun _ => rfl)
  have dropped : ∀ u : State, R u (dropModulePair x u) := fun u => k.outside (by simp)
  unfold Machine.stopModule
  exact k.trans (k.trans stopping (dropped _)) (k.trans (k.cancelSync (contactor x) _) (k.command _ _ _))

theorem Pass.release (x : Module) (s : State) : R s (release x s) := by
  cases serving : (s.modu x).state.serving with
  | false => rw [release_idle serving]; exact k.refl s
  | true =>
    obtain h | ⟨c, -, h⟩ := release_serving serving
    · rw [h]; exact k.stopModule serving
    · rw [h]; exact k.trans (k.stopModule serving) (k.tellSummary c _)

theorem Pass.releaseBerth (b : Berth) (s : State) : R s (releaseBerth b s) := k.foldl (fun t x => k.release x t) _ s

theorem Pass.tellFailure (v : Bool) (b : Option Berth) (s : State) : R s (tellFailure v b s) := by
  refine k.outside ?_
  unfold Machine.tellFailure
  (repeat' split) <;> rfl

theorem Pass.tellLeft (b : Option Berth) (s : State) : R s (tellLeft b s) := by
  refine k.outside ?_
  unfold Machine.tellLeft
  (repeat' split) <;> rfl

/-- R42: the deferred requests of the modules of a list are queued. -/
theorem Pass.queueDeferred (b : Berth) (xs : List Module) (s : State) (listed : ∀ y ∈ xs, ∃ c, y ∈ s.list c) :
    R s (xs.foldl (fun s y => queueDeferred b y s) s) := by
  induction xs generalizing s with
  | nil => exact k.refl s
  | cons y ys ih =>
    obtain ⟨here, later⟩ := List.forall_mem_cons.1 listed
    have lists : (Machine.queueDeferred b y s).mpm.lists = s.mpm.lists := by
      unfold Machine.queueDeferred
      split <;> simp
    have one : R s (Machine.queueDeferred b y s) := by
      unfold Machine.queueDeferred
      split
      · have undeferred : R s (s.modModule y fun r => { r with deferred := false }) :=
          k.worked ⟨.inr here, fun _ => rfl, fun is => ⟨is, id⟩⟩
        exact k.trans undeferred (k.outside (by simp))
      · exact k.refl s
    refine k.trans one (ih _ fun z mem => ?_)
    obtain ⟨c, held⟩ := later z mem
    exact ⟨c, (congrArg (fun l => z ∈ l[c]) lists).mpr held⟩

theorem Pass.becomeOnline (allocated : (s.modu x).state.allocated = true) (other : (s.modu x).state ≠ .stopping) (b : Berth) :
    R s (becomeOnline b x s) := by
  have online : R s (s.modModule x fun r => { r with state := .online, startDue := none }) :=
    k.worked (.of_allocated allocated other fun _ => rfl)
  have dropped : ∀ u : State, R u (dropModulePair x u) := fun u => k.outside (by simp)
  unfold Machine.becomeOnline
  dsimp only
  split
  · exact k.trans (k.trans (k.trans online (dropped _)) (k.queueDeferred b _ _ fun y mem => ⟨b, mem⟩)) (k.tellSummary b _)
  · exact k.trans (k.trans online (dropped _)) (k.tellSummary b _)

theorem Pass.becomeSyncing (starting : (s.modu x).state = .starting) (b : Berth) : R s (becomeSyncing b x s) := by
  have syncing : R s (s.modModule x fun r => { r with state := .syncing, startDue := none }) :=
    k.worked (.of_allocated (by rw [starting]; rfl) (by rw [starting]; decide) fun _ => rfl)
  unfold Machine.becomeSyncing
  dsimp only
  split
  · exact k.trans syncing (k.outside (by simp))
  · have state : ((s.modModule x fun r => { r with state := .syncing, startDue := none }).modu x).state = .syncing :=
      congrArg ModuleRec.state (s.modu_modModule x _)
    exact k.trans syncing (k.worked (.of_allocated (by rw [state]; rfl) (by rw [state]; decide) fun _ => rfl))

theorem Pass.startCheck (x : Module) (s : State) : R s (startCheck x s) := by
  unfold Machine.startCheck
  dsimp only
  split
  next starting _ =>
    (repeat' split)
    · exact k.refl s
    · exact k.becomeOnline (by rw [starting]; rfl) (by rw [starting]; decide) _
    · exact k.refl s
    · exact k.becomeSyncing starting _
  · exact k.refl s

theorem Pass.contactorOutcome (x : Module) (b : Berth) (o : DeadOutcome) (s : State) : R s (contactorOutcome x b o s) := by
  have failed : R s ((Machine.release x s).post (.firstFailure b)) := k.trans (k.release x s) (k.post _ _)
  unfold Machine.contactorOutcome
  dsimp only
  split
  next is =>
    cases o with
    | confirmed =>
      have closed : R s (s.modModule x fun r => { r with closedNoted := true, startIssued := true }) :=
        k.worked (.of_allocated (by rw [is.1]; rfl) (by rw [is.1]; decide) fun _ => rfl)
      exact k.trans closed (k.startCheck x _)
    | refused => exact failed
    | notConfirmed => exact failed
  · exact k.refl s

theorem Pass.contactorResult (x : Module) (r : SyncResult) (s : State) : R s (contactorResult x r s) := by
  unfold Machine.contactorResult
  split
  next syncing _ =>
    cases r with
    | success => exact k.becomeOnline (by rw [syncing]; rfl) (by rw [syncing]; decide) _
    | failedWait => exact k.release x s
    | failedAttempts => exact k.release x s
    | cancelled => exact k.refl s
  · exact k.refl s

/-! ### BSQ -/

theorem Pass.enterState (b : Berth) (st : BerthState) (s : State) : R s (enterState b st s) := by
  rw [enterState_eq]
  exact k.trans (k.outside (by simp)) (k.giveShpn _ _ _)

theorem Pass.tripBerth (b : Berth) (why : TripReason) (s : State) : R s (tripBerth b why s) := by
  cases active : (s.berth b).state.active with
  | false => rw [tripBerth_inactive active]; exact k.refl s
  | true =>
    have demanded : R s (driveOutputs (s.modBerth b fun r => { r with demand := true, fromOpening := false })) :=
      k.outside (by simp [driveOutputs])
    have commanded : R s (tripCommanded b s) := by
      unfold tripCommanded
      exact k.trans demanded (k.trans (k.cancelSync (outlet b) _) (k.command _ _ _))
    have ended : R (Machine.releaseBerth b (tripCommanded b s)) (tripEnded b why s) := k.outside (by simp [tripEnded])
    rw [tripBerth_eq active]
    exact k.trans (k.trans (k.trans commanded (k.releaseBerth b _)) ended) (k.enterState b _ _)

theorem Pass.listEmptyTaken (b : Berth) (s : State) : R s (listEmptyTaken b s) := by
  unfold Machine.listEmptyTaken
  split
  · have cleared : R s (driveOutputs (clearCall b (s.modBerth b fun r =>
        { r with demand := r.demand && !r.fromOpening, fromOpening := false, lastLimit := 0 }))) :=
      k.outside (by simp [driveOutputs])
    exact k.trans cleared (k.enterState b _ _)
  · exact k.refl s

theorem Pass.enterReleasing (b : Berth) (s : State) : R s (enterReleasing b s) := by
  have freed : ∀ t : State, R t (freeSlot b t) := fun t => k.outside (by simp)
  exact k.trans (k.trans (k.trans (k.cancelSync (outlet b) s) (freed _)) (k.releaseBerth b _))
    (k.trans (k.enterState b _ _) (k.listEmptyTaken b _))

theorem Pass.energisedTest (b : Berth) (s : State) : R s (energisedTest b s) := by
  unfold Machine.energisedTest
  dsimp only
  split
  · split
    · exact k.trans (k.requestDeadBus _ _ _ s) (k.enterState b _ _)
    · exact k.trans (k.outside (t := requestSync (outlet b) b .bsq s) (by simp)) (k.enterState b _ _)
  · exact k.refl s

theorem Pass.loseSource (b : Berth) (s : State) : R s (loseSource b s) :=
  k.trans (k.cancelSync (outlet b) s) (k.trans (k.post _ _) (k.enterReleasing b _))

theorem Pass.actOnSummary (b : Berth) (s : State) : R s (actOnSummary b s) := by
  have formed : R s (Machine.energisedTest b (Machine.enterState b .energising s)) :=
    k.trans (k.enterState b _ s) (k.energisedTest b _)
  unfold Machine.actOnSummary
  dsimp only
  split
  · split <;> [exact formed; exact k.refl s]
  · split <;> [exact k.loseSource b s; exact k.energisedTest b s]
  iterate 2 (next => split <;> [exact k.loseSource b s; exact k.refl s])
  iterate 4 (next => split <;> [exact k.tripBerth b _ s; exact k.refl s])
  all_goals exact k.refl s

theorem Pass.summaryTaken (b : Berth) (s : State) : R s (summaryTaken b s) := by
  unfold Machine.summaryTaken
  split
  · exact k.refl s
  · exact k.trans (k.modBerth b _ s) (k.actOnSummary b _)

theorem Pass.firstFailureTaken (b : Berth) (s : State) : R s (firstFailureTaken b s) := by
  unfold Machine.firstFailureTaken
  split
  · exact k.trans (k.post _ s) (k.enterReleasing b _)
  · exact k.refl s

theorem Pass.outletResultTaken (b : Berth) (r : SyncResult) (s : State) : R s (outletResultTaken b r s) := by
  have begun : R s ((startRamp b (openSession b s)).modBerth b fun r => { r with rampDone := false, capacityCond := false }) :=
    k.outside (by simp)
  unfold Machine.outletResultTaken
  split
  · cases r with
    | success => exact k.trans begun (k.enterState b _ _)
    | failedWait => exact k.enterReleasing b s
    | failedAttempts => exact k.enterReleasing b s
    | cancelled => exact k.refl s
  · exact k.refl s

theorem Pass.outletOutcomeTaken (b : Berth) (o : DeadOutcome) (s : State) : R s (outletOutcomeTaken b o s) := by
  have failed : R s (Machine.enterReleasing b (s.post (.raise (evSyncFail b)))) :=
    k.trans (k.post _ s) (k.enterReleasing b _)
  unfold Machine.outletOutcomeTaken
  split
  · cases o with
    | confirmed => exact k.trans (k.outside (t := openSession b s) (by simp)) (k.enterState b _ _)
    | refused => exact failed
    | notConfirmed => exact failed
  · exact k.refl s

theorem Pass.energisedTaken (b : Berth) (s : State) : R s (energisedTaken b s) := by
  unfold Machine.energisedTaken
  split
  · exact k.trans (k.modBerth b _ s) (k.energisedTest b _)
  · exact k.refl s

/-! ### EVR -/

theorem Pass.giveNotes (e : EventIx) (s : State) : R s (giveNotes e s) :=
  k.foldl (fun t d => k.egressed (giveNote_egressed (noteFrame t e d) t)) _ s

theorem Pass.shedAction (b : Berth) (s : State) : R s (shedAction b s) := by
  have shed : ∀ g, R s (s.modBerthRef b g) := fun g => k.outside rfl
  rw [shedAction_eq]
  split
  · exact k.trans (shed _) (k.giveShpn _ _ _)
  · exact shed _

/-- R163 to R165: an action, where a block is as `R` says. -/
theorem Pass.applyAction (e : EventIx) (s : State) (block : ∀ m i, (s.event e).action = .blockModule →
    eventFamily e = .module m i → R s (blockModule m s)) : R s (applyAction e s) := by
  unfold Machine.applyAction
  split
  · exact k.shedAction _ s
  · exact k.tripBerth _ _ s
  · split
    · exact k.refl s
    · exact k.tripBerth _ _ s
  · exact k.foldl (fun t c => k.tripBerth c _ t) allBerths s
  next action family => exact block _ _ action family
  · exact k.refl s

/-- R159: a raise, where a block at an entry that was not raw is as `R` says. -/
theorem Pass.raiseEntry (e : EventIx) (s : State) (block : ∀ u m i, R s u → (s.event e).raw = false →
    (s.event e).action = .blockModule → eventFamily e = .module m i → R u (blockModule m u)) : R s (raiseEntry e s) := by
  unfold Machine.raiseEntry
  split
  · exact k.outside rfl
  next clear =>
    dsimp only
    split
    · have marked : R s (s.modEntry e fun x => { x with raw := true, count := 0, clock := some s.clock }) := k.outside rfl
      have held : ∀ u : State, R u (recomputeHolds u) := fun u => k.outside (by simp)
      have before := k.trans (k.trans marked (k.giveNotes e _)) (held _)
      have same : ((recomputeHolds (Machine.giveNotes e (s.modEntry e fun x =>
          { x with raw := true, count := 0, clock := some s.clock }))).event e).action = (s.event e).action := by
        rw [recomputeHolds_event, giveNotes_event]
        exact (congrArg EventEntry.action (upd_self s.evr.entries e _)).trans rfl
      exact k.trans before (k.applyAction e _ fun m i action family =>
        block _ m i before (Bool.eq_false_iff.2 clear) (same ▸ action) family)
    · exact k.outside rfl

theorem Pass.takeHandoff {h : Handoff} (s : State) (skipped : ∀ x n, R s (pollSkippedTaken x n s))
    (raised : ∀ e, h = .raise e → R s (Machine.raiseEntry e s)) : R s (takeHandoff h s) := by
  cases h with
  | raise e => exact raised e rfl
  | summary c => exact k.summaryTaken c s
  | firstFailure c => exact k.firstFailureTaken c s
  | listEmpty c => exact k.listEmptyTaken c s
  | outletResult c r => exact k.outletResultTaken c r s
  | outletOutcome c o => exact k.outletOutcomeTaken c o s
  | contactorResult x r => exact k.contactorResult x r s
  | contactorOutcome x c o => exact k.contactorOutcome x c o s
  | energised c => exact k.energisedTaken c s
  | pollSkipped x n => exact skipped x n
  | serveChannels => exact k.outside (by simp [Machine.takeHandoff])

theorem Pass.drain (skipped : ∀ x n s, R s (pollSkippedTaken x n s)) (raised : ∀ e s, R s (Machine.raiseEntry e s)) (n : Nat)
    (s : State) : R s (drain n s) := by
  induction n generalizing s with
  | zero => exact k.refl s
  | succ n ih =>
    cases waiting : s.handoffs with
    | nil => rw [drain_nil _ waiting]; exact k.refl s
    | cons h rest =>
      have rested : R s { s with handoffs := rest } := k.outside rfl
      rw [drain_cons n waiting]
      exact k.trans (k.trans rested (k.takeHandoff _ (fun x n => skipped x n _) fun e _ => raised e _)) (ih _)

end
end Sys2Proof.Machine
end

section
namespace Sys2Proof.Machine

/-! ### A blocked module that stops goes on stopping (R46, R50) -/

/-- Module `m` is in STOPPING with its block mark. -/
def Parked (m : Module) (s : State) : Prop := (s.modu m).state = .stopping ∧ (s.modu m).blockPending = true

/-- Work that a module in STOPPING with its block mark outlasts. -/
def Parks (m : Module) (s t : State) : Prop := Parked m s → Parked m t

section
variable {m : Module} {s t u : State} {b : Berth}

theorem Parks.refl (m : Module) (s : State) : Parks m s s := id

theorem Parks.trans (h : Parks m s t) (g : Parks m t u) : Parks m s u := g ∘ h

theorem Parks.of_modu (h : t.modu m = s.modu m) : Parks m s t := fun p => by
  unfold Parked at p ⊢
  rwa [h]

theorem Parks.of_mpm (h : t.mpm = s.mpm := by simp) : Parks m s t := .of_modu (by rw [State.modu, h]; rfl)

theorem Sends.parks (h : Sends s t) : Parks m s t := .of_modu (h.modu m)

theorem modModule_parks {g : ModuleRec → ModuleRec} (x : Module)
    (h : x = m → Parked m s → (g (s.modu m)).state = .stopping ∧ (g (s.modu m)).blockPending = true) :
    Parks m s (s.modModule x g) := fun p => by
  unfold Parked at p ⊢
  by_cases is : x = m
  · subst is
    rw [s.modu_modModule]
    exact h rfl p
  · rw [s.modu_modModule_other is]
    exact p

/-- Work on a module in another state. -/
theorem modModule_parks_other {g : ModuleRec → ModuleRec} (x : Module) (h : (s.modu x).state ≠ .stopping) :
    Parks m s (s.modModule x g) :=
  modModule_parks x fun is p => absurd p.1 (is ▸ h)

theorem parks_pass (m : Module) : Pass (Parks m) where
  trans := Parks.trans
  outside h := .of_mpm h
  egressed h := h.1.parks
  worked h := modModule_parks _ fun is p => by
    subst is
    exact ⟨(h.stopping p.1).1, (h.stopping p.1).2 p.2⟩

/-- A module in another state that changes its list. -/
theorem relisted_parks {x : Module} (h : (s.modu x).state ≠ .stopping) (f : Vector (List Module) 4 → Vector (List Module) 4)
    (g : ModuleRec → ModuleRec) :
    Parks m s (clearModuleRef x ((s.modMpm fun c => { c with lists := f c.lists }).modModule x g)) := by
  have left : Parks m s (s.modMpm fun c => { c with lists := f c.lists }) := .of_modu rfl
  have cleared : ∀ u : State, Parks m u (clearModuleRef x u) := fun u => .of_mpm (by rfl)
  exact (left.trans (modModule_parks_other (s := s.modMpm _) x h)).trans (cleared _)

theorem leaveList_parks {x : Module} {st : ModuleState} (h : (s.modu x).state ≠ .stopping) : Parks m s (leaveList x st s) :=
  relisted_parks h (fun lists => lists.map fun l => l.filter fun y => y ≠ x) _

theorem takeModule_parks {x : Module} (h : (s.modu x).state ≠ .stopping) (b : Berth) (first : Bool) :
    Parks m s (takeModule b first x s) :=
  relisted_parks h (fun lists => upd lists b fun l => l ++ [x]) _

theorem replaceAfter_parks (w : Bool) (b : Option Berth) (s : State) : Parks m s (replaceAfter w b s) := by
  unfold replaceAfter
  split
  · exact .refl m s
  split
  · unfold replaceModule
    split
    · split
      · exact .refl m s
      next x xs is =>
        have standby : (s.modu x).state = .standby := by
          have mem : x ∈ standbyModules s := by rw [is]; exact List.mem_cons_self
          simpa using (List.mem_filter.1 mem).2
        exact takeModule_parks (by rw [standby]; decide) _ _
    · exact .refl m s
  · exact .refl m s

theorem lose_parks {x : Module} (h : (s.modu x).state ≠ .stopping) : Parks m s (lose x s) := by
  have left : Parks m s ((leaveList x .lost s).post (.raise (evModuleLost x))) := (leaveList_parks h).trans (.of_mpm (by rfl))
  unfold lose
  dsimp only
  split
  · exact left.trans (((parks_pass m).cancelSync (contactor x) _).trans (((parks_pass m).command .openCmd _ _).trans
      ((replaceAfter_parks _ _ _).trans (((parks_pass m).tellFailure _ _ _).trans ((parks_pass m).tellLeft _ _)))))
  · exact left

theorem pollSkippedTaken_parks (x : Module) (n : Nat) (s : State) : Parks m s (pollSkippedTaken x n s) := by
  unfold pollSkippedTaken
  split
  · exact .refl m s
  split
  · have counted : Parks m s ((s.modMpm fun c => { c with poll := none }).modModule x fun r =>
        { r with missCount := satAdd 255 r.missCount 1, answered := false }) :=
      (Parks.of_modu rfl).trans (modModule_parks (s := s.modMpm fun c => { c with poll := none }) x fun _ p => p)
    unfold miss
    dsimp only
    split
    next losable =>
      refine counted.trans (lose_parks fun is => ?_)
      rw [is] at losable
      exact nomatch losable.2
    · exact counted
  · exact .refl m s

/-- R50: the block of any module. -/
theorem blockModule_parks (x : Module) (s : State) : Parks m s (blockModule x s) := by
  have marked : ∀ t : State, Parks m t (t.modModule x fun r => { r with blockPending := true }) := fun t =>
    modModule_parks x fun _ p => ⟨p.1, rfl⟩
  have served : ∀ {b : Option Berth} {f w : Bool}, Parks m s (tellFailure f b (replaceAfter w b
      ((release x s).modModule x fun r => { r with blockPending := true }))) := fun {b f w} =>
    ((parks_pass m).release x s).trans ((marked _).trans ((replaceAfter_parks _ _ _).trans ((parks_pass m).tellFailure _ _ _)))
  unfold blockModule
  dsimp only
  split
  next is => exact leaveList_parks (by rw [is]; decide)
  next is => exact leaveList_parks (by rw [is]; decide)
  · exact served
  · exact served
  · exact served
  · exact marked s
  · exact .refl m s
  · exact .refl m s

theorem drain_parks (n : Nat) (s : State) : Parks m s (drain n s) :=
  (parks_pass m).drain (fun x n s => pollSkippedTaken_parks x n s)
    (fun e s => (parks_pass m).raiseEntry e s fun u x _ _ _ _ _ => blockModule_parks x u) n s

theorem concluded_parks (f : ReplyFrame) (v : State) : Parks m v (concluded f v) := by
  have entered : ∀ u : State, Parks m u (enterReserved f u) := fun u =>
    (Parks.of_mpm (t := u.modLpu fun l => { l with reservations := l.reservations - 1 }) (by rfl)).trans
      (enterReply_sends f false _).parks
  have settled : ∀ u : State, Parks m u (settle u) := fun u => (drain_parks Config.settleFuel u).trans (.of_modu rfl)
  exact ((drain_parks _ v).trans ((entered _).trans (.of_mpm (by rfl)))).trans (settled _)

end
end Sys2Proof.Machine
end

section
namespace Sys2Proof.Machine

section
variable {s t u v : State} {b c : Berth} {e : EventIx} {m : Module} {f : ReplyFrame} {why : TripReason} {src : Byte}

/-! ### The notices given (R13, R160) -/

/-- R13: a notice without a place is lost. -/
theorem giveNote_lost (f : ReplyFrame) (full : ¬ (s.own ≠ none ∧ s.lpu.ordinary + s.lpu.reservations < 15)) :
    giveNote f s = { s with
      lpu := { s.lpu with counters := { s.lpu.counters with
        noteLost := min (s.lpu.counters.noteLost + 1) Config.u32Max } } } := by
  have lost : (s.own.isNone || !s.lpu.placeFree) = true := by
    rw [Bool.or_eq_true, Option.isNone_iff_eq_none, Bool.not_eq_true', ← Bool.not_eq_true, placeFree_iff]
    by_cases own : s.own = none
    · exact .inl own
    · exact .inr fun room => full ⟨own, room⟩
  rw [giveNote, if_pos lost]
  rfl

theorem giveNote_entered (f : ReplyFrame) (w : EgressWorks s) (o : s.own ≠ none)
    (room : s.lpu.ordinary + s.lpu.reservations < 15) : giveNote f s = { s with lpu := s.lpu.replied f } := by
  have free : ¬ (s.own.isNone || !s.lpu.placeFree) = true := by
    rw [Bool.or_eq_true, Option.isNone_iff_eq_none, Bool.not_eq_true', ← Bool.not_eq_true, placeFree_iff]
    exact not_or.2 ⟨o, not_not.2 room⟩
  rw [giveNote, if_neg free, enterReply_eq f w]

theorem giveNote_onward (f : ReplyFrame) (s : State) : Onward s (giveNote f s) :=
  .of_kept (giveNote_kept (· = outlet 0) f s) fun y => by
    rw [State.event, (giveNote_frame f s).2.2.2.2.2.2.1]; rfl

theorem notices_onward (note : Nat → ReplyFrame) (ds : List Nat) (s : State) :
    Onward s (ds.foldl (fun u n => giveNote (note n) u) s) := by
  induction ds generalizing s with
  | nil => exact .of_same rfl fun _ => rfl
  | cons d ds ih => exact (giveNote_onward _ s).trans (ih _)

theorem noted_onward (e : EventIx) (s : State) : Onward (raised e s) (noted e s) := notices_onward _ _ _

/-- R160: with places enough every notice is given. -/
theorem notices_given (note : Nat → ReplyFrame) (ds : List Nat) (w : EgressWorks s) (o : s.own ≠ none)
    (room : s.lpu.ordinary + s.lpu.reservations + ds.length ≤ 15) :
    ∀ n ∈ ds, ReplyGiven (note n) (ds.foldl (fun u n => giveNote (note n) u) s) ∧
      (ds.foldl (fun u n => giveNote (note n) u) s).lpu.sending ≠ none := by
  induction ds generalizing s with
  | nil => exact fun n mem => absurd mem List.not_mem_nil
  | cons d ds ih =>
    rw [List.length_cons] at room
    have entered := giveNote_entered (note d) w o (by omega)
    have places := Lpu.replied_places (note d) s.lpu
    intro n mem
    obtain rfl | later := List.mem_cons.1 mem
    · have sending : (giveNote (note n) s).lpu.sending ≠ none := by rw [entered]; exact Lpu.replied_sending _ _
      have given : ReplyGiven (note n) (giveNote (note n) s) := replied_given _ (by rw [entered])
      have onward := notices_onward note ds (giveNote (note n) s)
      exact ⟨onward.replies sending _ given, onward.sending sending⟩
    · refine ih ((giveNote_onward _ s).works w) ?_ ?_ n later
      · rw [State.own, (giveNote_kept (· = outlet 0) _ s).nid]; exact o
      · rw [entered]; dsimp only; omega

theorem noted_given (w : EgressWorks s) (o : s.own ≠ none)
    (room : s.lpu.ordinary + s.lpu.reservations + (destsOf s e).length ≤ 15) :
    ∀ n ∈ destsOf s e, ReplyGiven (noticeOf s e n) (noted e s) ∧ (noted e s).lpu.sending ≠ none :=
  notices_given (s := raised e s) (noticeOf s e) (destsOf s e) w o room

/-! ### The state in which the action of a raise begins (R159, R162) -/

/-- The state of a raise once its notices are given and its hold is taken. -/
def announced (e : EventIx) (s : State) : State := recomputeHolds (noted e s)

theorem announced_sends (e : EventIx) (s : State) : ∃ l p ms v rs, announced e s = { s with
    lpu := l
    mpm := { s.mpm with poll := p }
    rfg := { s.rfg with modules := ms }
    evr := v
    bsq := { s.bsq with recs := rs } } := by
  obtain ⟨l, p, ms, is⟩ := noted_sends e s
  refine ⟨l, p, ms, (announced e s).evr, (announced e s).bsq.recs, ?_⟩
  rw [announced, is, recomputeHolds_eq]
  rfl

theorem raised_aside (clear : (s.event e).raw = false) (b : Berth) (P : Handoff → Prop) : Aside b 0 P s (raised e s) := by
  rw [raised_clear clear]
  exact modEntry_aside (g := EventEntry.marked s.clock) (fun _ => ⟨fun _ => rfl, rfl, rfl⟩) s

/-- R159: up to its action a raise goes aside from every berth. -/
theorem announced_aside (clear : (s.event e).raw = false) (b : Berth) (P : Handoff → Prop) : Aside b 0 P s (announced e s) := by
  have notices := giveNotes_aside (b := b) (P := P) e (raised e s)
  rw [giveNotes_marked clear] at notices
  exact ((raised_aside clear b P).trans notices).trans (recomputeHolds_aside _)

theorem announced_onward (e : EventIx) (s : State) : Onward (raised e s) (announced e s) :=
  (noted_onward e s).trans (recomputeHolds_deaf (e := e) _).onward

theorem announced_event (clear : (s.event e).raw = false) : (announced e s).event e = (s.event e).marked s.clock :=
  recompute_event clear

theorem announced_other (clear : (s.event e).raw = false) {x : EventIx} (other : e ≠ x) : (announced e s).event x = s.event x := by
  rw [announced, recomputeHolds_event, State.event, (noted_parts e s).1, raised_clear clear]
  exact s.event_modEntry_other other _

/-- What a trip is about is as it was when the action of a raise begins. -/
theorem alike_announced (clear : (s.event e).raw = false) (b : Berth) : Alike b s (announced e s) := by
  have aside := announced_aside clear
  obtain ⟨l, p, ms, v, rs, is⟩ := announced_sends e s
  refine ⟨(aside b fun _ => True).state, ?_, ?_, ?_, ?_, ?_, (aside b fun _ => True).link.nid, ?_,
    fun w => ((aside b fun _ => True).link.works w).1, fun w r => r.aside w fun b => aside b fun _ => True⟩
  all_goals exact is ▸ rfl

end
end Sys2Proof.Machine
end

section
namespace Sys2Proof.Machine

section
variable {s t u v : State} {b c : Berth} {e : EventIx} {m : Module} {f : ReplyFrame} {why : TripReason} {src : Byte}

/-! ### The trips of a raise (R165) -/

/-- A trip from the state in which the action of a raise begins is one from the state before the raise. -/
theorem tripped_announced (clear : (s.event e).raw = false) (h : TrippedFrom b why (announced e s) t) :
    TrippedFrom b why s t := by
  have aside := announced_aside clear b fun _ => True
  obtain ⟨l, p, ms, v, rs, is⟩ := announced_sends e s
  have syu : (announced e s).syu = s.syu := by rw [is]
  have lists : (announced e s).mpm.lists = s.mpm.lists := by rw [is]
  have recs : (announced e s).mpm.recs = s.mpm.recs := by rw [is]
  have slot : (announced e s).slot b = s.slot b := is ▸ rfl
  have clock : (announced e s).clock = s.clock := is ▸ rfl
  have entry : (announced e s).entry b = s.entry b := is ▸ rfl
  obtain ⟨state, demand, opening, reason, output, rampDue, rampTimer, holdEnd, genDue, openDue, capacity, power, free,
    log, modules, idle, given⟩ := h
  refine ⟨state, demand, opening, reason, output, rampDue, rampTimer, holdEnd, genDue, openDue, capacity, power, free,
    fun r hr => clock ▸ log r (slot.trans hr), fun m hm => modules m ?_, fun once => idle ?_, fun w o => ?_⟩
  · rw [State.list, lists]; exact hm
  · unfold SyncOnce at once ⊢; rwa [syu]
  · obtain ⟨command, notice⟩ := given (aside.link.works w).1 (by rw [State.own, aside.link.nid]; exact o)
    refine ⟨?_, fun events listed room => ?_⟩
    · rw [State.breaker, syu] at command
      exact command
    · rw [← entry]
      refine notice (aside.events events) ?_ ?_
      · unfold ModulesListed State.list State.modu at listed ⊢
        rwa [lists, recs]
      · have := (aside.link.works w).2 (by omega)
        omega

theorem trips_mild (why : TripReason) (bs : List Berth) (none : s.handoffs = []) : ∀ h ∈ (trips why bs s).handoffs, h.Mild := by
  have one : ∀ (c : Berth) (u : State), (∀ h ∈ u.handoffs, h.Mild) → ∀ h ∈ (tripBerth c why u).handoffs, h.Mild := by
    intro c u mild
    obtain ⟨b, other⟩ := exists_other c
    exact ((tripBerth_aside other why u).mono le_rfl fun _ => Handoff.OfTrip.mild).mild_handoffs mild
  have run : ∀ (bs : List Berth) (u : State), (∀ h ∈ u.handoffs, h.Mild) → ∀ h ∈ (trips why bs u).handoffs, h.Mild := by
    intro bs
    induction bs with
    | nil => exact fun _ mild => mild
    | cons c cs ih => exact fun u mild => ih _ (one c u mild)
  exact run bs s (by rw [none]; exact fun h mem => absurd mem List.not_mem_nil)

theorem concluded_later (inactive : (v.berth b).state.active = false) (mild : ∀ h ∈ v.handoffs, h.Mild) :
    Later b v (concluded f v) := by
  obtain ⟨answered, settled⟩ := answer_later inactive mild f fun g => { g with parts := [], queue := [] }
  exact answered.trans settled

theorem concluded_noticed {d : Nat} {body : Notice} {now : Nat} (h : Standing d body now v) (c : Hushed v) :
    (concluded f v).lpu.Noticed d body now := by
  obtain ⟨hushed, -⟩ := c.drain Config.settleFuel
  have entered : ∀ b, Aside b 0 Handoff.Gentle (drain Config.settleFuel v)
      ((enterReserved f (drain Config.settleFuel v)).modMgu fun g => { g with parts := [], queue := [] }) := fun b =>
    (enterReserved_aside f _).trans (modMgu_aside (n := 0) _ _)
  refine ((h.drain c Config.settleFuel).aside entered).settled
    ⟨fun b => by rw [(entered b).state]; exact hushed.still b, fun y hy => ?_⟩
  obtain ⟨hs, is, given⟩ := (entered 0).handed
  rw [is] at hy
  exact (List.mem_append.1 hy).elim (hushed.gentle y) (given y)

/-- R165: every berth in use is tripped. -/
theorem concluded_trips (alike : Alike b s u) (none : u.handoffs = []) (active : (s.berth b).state.active = true) :
    TrippedFrom b why s (concluded f (trips why allBerths u)) := by
  obtain ⟨before, after, split⟩ := List.append_of_mem (mem_allBerths b)
  have nodup : (before ++ b :: after).Nodup := split ▸ (by decide : allBerths.Nodup)
  have notBefore : b ∉ before := fun h => (List.nodup_append.1 nodup).2.2 b h b List.mem_cons_self rfl
  have alike' : Alike b s (trips why before u) := alike.trips notBefore why
  have active' : ((trips why before u).berth b).state.active = true := by rw [alike'.state]; exact active
  have tripped : ((tripBerth b why (trips why before u)).berth b).state.active = false := by
    rw [(tripBerth_tripped active' why).1]; rfl
  have whole : trips why allBerths u = trips why after (tripBerth b why (trips why before u)) := by
    rw [split, trips_append]; rfl
  have gentle : ∀ h ∈ (trips why allBerths u).handoffs, h.Gentle := fun h mem => .inl (trips_mild why allBerths none h mem)
  have still : (trips why allBerths u).AllStill := fun c => trips_inactive why (mem_allBerths c) u
  have ended := (trips_aside tripped why after).later
  rw [← whole] at ended
  refine alike'.tripped active why (ended.trans (concluded_later (still b) (trips_mild why allBerths none))) ?_
    fun stands => ?_
  · simp [alike.now, trips, allBerths]
  · have stands' := stands.trips why after
    rw [← whole] at stands'
    exact concluded_noticed stands' ⟨still, gentle⟩

theorem concluded_trips_idle (none : u.handoffs = []) (inactive : (u.berth b).state.active = false) :
    ((concluded f (trips why allBerths u)).berth b).state = (u.berth b).state := by
  have aside := trips_aside inactive why allBerths
  have later := concluded_later (f := f) (by rw [aside.state]; exact inactive) (trips_mild why allBerths none)
  rw [later.state, aside.state]

/-! ### The block of a raise (R50, R165) -/

theorem blockModule_idle (is : (s.modu m).state ∈ [.standby, .lost]) : ((blockModule m s).modu m).state = .blocked ∧
    (blockModule m s).handoffs = s.handoffs ∧ (blockModule m s).lpu = s.lpu := by
  have left : blockModule m s = leaveList m .blocked s := by
    unfold blockModule
    obtain is | is : (s.modu m).state = .standby ∨ (s.modu m).state = .lost := by simpa using is
    all_goals simp only [is]
  rw [left]
  refine ⟨?_, rfl, rfl⟩
  have same : (leaveList m .blocked s).modu m =
      ((s.modMpm fun c => { c with lists := c.lists.map fun l => l.filter fun x => x ≠ m }).modModule m _).modu m := rfl
  rw [same, State.modu_modModule]

theorem blockModule_none (is : (s.modu m).state ∈ [.blocked, .absent]) : blockModule m s = s := by
  unfold blockModule
  obtain is | is : (s.modu m).state = .blocked ∨ (s.modu m).state = .absent := by simpa using is
  all_goals simp only [is]

theorem release_stopping (serving : (s.modu m).state.serving = true) : ((release m s).modu m).state = .stopping := by
  obtain is | ⟨c, -, is⟩ := release_serving serving
  · rw [is, stopModule_state]
  · rw [is, tellSummary_modu, stopModule_state]

/-- R50: the block of a module in service or stopping. -/
theorem blockModule_parked (is : (s.modu m).state ∈ [.starting, .syncing, .online, .stopping]) : Parked m (blockModule m s) := by
  have marked : ∀ v : State, (v.modu m).state = .stopping → Parked m (v.modModule m fun r => { r with blockPending := true }) :=
    fun v stopping => by
      unfold Parked
      rw [v.modu_modModule]
      exact ⟨stopping, rfl⟩
  have released : (s.modu m).state.serving = true → ∀ w b x c, Parked m (tellFailure x c (replaceAfter w b
      ((release m s).modModule m fun r => { r with blockPending := true }))) := fun serving w b x c =>
    ((replaceAfter_parks w b _).trans ((parks_pass m).tellFailure x c _)) (marked _ (release_stopping serving))
  unfold blockModule
  dsimp only
  cases state : (s.modu m).state with
  | starting => exact released (by rw [state]; rfl) _ _ _ _
  | syncing => exact released (by rw [state]; rfl) _ _ _ _
  | online => exact released (by rw [state]; rfl) _ _ _ _
  | stopping => exact marked s state
  | _ => rw [state] at is; exact absurd is (by decide)

end
end Sys2Proof.Machine
end

section
namespace Sys2Proof.Machine

section
variable {s t u v : State} {b c : Berth} {e : EventIx} {m : Module} {f : ReplyFrame} {why : TripReason} {src : Byte}

/-! ### An entry raised by EVENT_SET (R165, R166) -/

theorem applyAction_tripBerth {k : Fin 14} (action : (s.event (berthEvent b k)).action = .tripBerth) :
    applyAction (berthEvent b k) s = tripBerth b .event s := by
  unfold applyAction
  rw [action, eventFamily_berthEvent]
  rfl

theorem applyAction_tripModule {k : Fin 4} (action : (s.event (moduleEvent m k)).action = .tripBerth)
    (listed : s.berthOfModule m = some b) : applyAction (moduleEvent m k) s = tripBerth b .event s := by
  unfold applyAction
  rw [action, eventFamily_moduleEvent]
  dsimp only
  rw [listed]
  rfl

theorem applyAction_tripAll (action : (s.event e).action = .tripAll) : applyAction e s = trips .event allBerths s := by
  unfold applyAction
  rw [action]
  rfl

theorem applyAction_blockModule {k : Fin 4} (action : (s.event (moduleEvent m k)).action = .blockModule) :
    applyAction (moduleEvent m k) s = blockModule m s := by
  unfold applyAction
  rw [action, eventFamily_moduleEvent]

theorem applyAction_shed {k : Fin 14} (action : (s.event (berthEvent b k)).action = .shed) :
    applyAction (berthEvent b k) s = shedAction b s := by
  unfold applyAction
  rw [action, eventFamily_berthEvent]

theorem raiseEntry_announced (clear : (s.event e).raw = false) (enabled : (s.event e).enabled = true) :
    raiseEntry e s = applyAction e (announced e s) := raiseEntry_enabled clear enabled

theorem announced_action (clear : (s.event e).raw = false) : ((announced e s).event e).action = (s.event e).action := by
  rw [announced_event clear]
  rfl

theorem announced_handoffs (e : EventIx) (s : State) : (announced e s).handoffs = s.handoffs := by
  obtain ⟨l, p, ms, v, rs, is⟩ := announced_sends e s
  rw [is]

theorem announced_modu (e : EventIx) (m : Module) (s : State) : (announced e s).modu m = s.modu m := by
  obtain ⟨l, p, ms, v, rs, is⟩ := announced_sends e s
  rw [is]
  rfl

theorem announced_berthOfModule (e : EventIx) (m : Module) (s : State) :
    (announced e s).berthOfModule m = s.berthOfModule m := by
  obtain ⟨l, p, ms, v, rs, is⟩ := announced_sends e s
  rw [is]
  rfl

theorem ofFn_upd {α : Type} {n : Nat} (v : Vector α n) (b : Fin n) (f : α → α) :
    (Vector.ofFn fun c : Fin n => if c = b then f v[c] else v[c]) = upd v b f := by
  ext i hi
  rw [Vector.getElem_ofFn, upd_get]
  by_cases is : i = b.val
  · subst is
    simp
  · rw [if_neg (fun same => is (congrArg Fin.val same)), if_neg (Ne.symm is)]
    rfl

/-- R115, R165: the trip of one berth by a raise. -/
theorem raised_trip (q : s.handoffs = []) (w : EgressWorks s) (o : s.own ≠ none) (clear : (s.event e).raw = false)
    (active : (s.berth b).state.active = true) :
    TrippedFrom b .event s (concluded f (tripBerth b .event (announced e s))) := by
  have aside := announced_aside clear b fun _ => True
  refine tripped_announced clear (trip_answered ?_ (aside.link.works w).1 ?_ ?_ .event f _).2
  · exact (announced_handoffs e s).trans q
  · rw [State.own, aside.link.nid]; exact o
  · rw [aside.state]; exact active

/-- A berth that is not in use is left by the trip. -/
theorem raised_trip_idle (q : s.handoffs = []) (w : EgressWorks s) (clear : (s.event e).raw = false)
    (inactive : (s.berth b).state.active = false) :
    ((concluded f (tripBerth b .event (announced e s))).berth b).state = (s.berth b).state := by
  have aside := announced_aside clear b fun _ => True
  rw [tripBerth_inactive (by rw [aside.state]; exact inactive)]
  have parts := (concluded_parts (f := f) ((aside.link.works w).1) ((announced_handoffs e s).trans q)).2.2.1
  rw [State.berth, parts]
  exact aside.state

theorem concluded_modu (w : EgressWorks v) (none : v.handoffs = []) (m : Module) : (concluded f v).modu m = v.modu m := by
  obtain ⟨l, g, same⟩ := concluded_quiet (f := f) w none
  rw [same]
  rfl

/-- R162, R163: a raise that holds one berth. -/
theorem raised_hold (current : HoldsCurrent s) {k : Fin 14} (clear : (s.event (berthEvent b k)).raw = false)
    (enabled : (s.event (berthEvent b k)).enabled = true) (action : (s.event (berthEvent b k)).action = .hold) :
    raiseEntry (berthEvent b k) s = { noted (berthEvent b k) s with
      evr := { (noted (berthEvent b k) s).evr with holds := upd (noted (berthEvent b k) s).evr.holds b fun _ => true }
      bsq := { (noted (berthEvent b k) s).bsq with
        recs := upd (noted (berthEvent b k) s).bsq.recs b (BerthRec.heldByEvent s.now) } } := by
  have one : ∀ c, holdsBerth ((s.event (berthEvent b k)).marked s.clock) (berthEvent b k) c = decide (c = b) := fun c => by
    have fields : ((s.event (berthEvent b k)).marked s.clock).action = .hold ∧
        ((s.event (berthEvent b k)).marked s.clock).enabled = true ∧
        ((s.event (berthEvent b k)).marked s.clock).raw = true := ⟨action, enabled, rfl⟩
    unfold holdsBerth
    rw [fields.1, fields.2.1, fields.2.2, eventFamily_berthEvent]
    simp [eq_comm]
  obtain ⟨evr, bsq, -, -⟩ := noted_parts (berthEvent b k) s
  have holds : (Vector.ofFn fun c : Fin 4 => s.evr.holds[c] || decide (c = b)) =
      upd (noted (berthEvent b k) s).evr.holds b fun _ => true := by
    rw [evr, ← ofFn_upd]
    congr 1
    funext c
    by_cases is : c = b <;> simp [is, raised]
  have recs : (Vector.ofFn fun c : Fin 4 => if decide (c = b) = true then (s.bsq.recs[c]).heldByEvent s.now else s.bsq.recs[c]) =
      upd (noted (berthEvent b k) s).bsq.recs b (BerthRec.heldByEvent s.now) := by
    rw [bsq, ← ofFn_upd]
    simp only [decide_eq_true_eq]
  rw [raiseEntry_holds current clear enabled (.inl action) one, holds, recs]

/-- R162, R163: a raise that holds every berth. -/
theorem raised_holdAll (current : HoldsCurrent s) (clear : (s.event e).raw = false)
    (enabled : (s.event e).enabled = true) (action : (s.event e).action = .holdAll) :
    raiseEntry e s = { noted e s with
      evr := { (noted e s).evr with holds := Vector.replicate 4 true }
      bsq := { (noted e s).bsq with recs := (noted e s).bsq.recs.map (BerthRec.heldByEvent s.now) } } := by
  have all : ∀ c, holdsBerth ((s.event e).marked s.clock) e c = true := fun c => by
    have fields : ((s.event e).marked s.clock).action = .holdAll ∧ ((s.event e).marked s.clock).enabled = true ∧
        ((s.event e).marked s.clock).raw = true := ⟨action, enabled, rfl⟩
    unfold holdsBerth
    rw [fields.1, fields.2.1, fields.2.2]
    rfl
  have holds : (Vector.ofFn fun c : Fin 4 => s.evr.holds[c] || true) = Vector.replicate 4 true := by
    ext i hi
    simp
  have recs : (Vector.ofFn fun c : Fin 4 => if true = true then (s.bsq.recs[c]).heldByEvent s.now else s.bsq.recs[c]) =
      (noted e s).bsq.recs.map (BerthRec.heldByEvent s.now) := by
    rw [(noted_parts e s).2.1]
    ext i hi
    simp
  rw [raiseEntry_holds (p := fun _ => true) current clear enabled (.inr action) all, holds, recs]

/-- R68, R165: a raise that sheds. -/
theorem raised_shed (current : HoldsCurrent s) {k : Fin 14} (clear : (s.event (berthEvent b k)).raw = false)
    (enabled : (s.event (berthEvent b k)).enabled = true) (action : (s.event (berthEvent b k)).action = .shed) :
    raiseEntry (berthEvent b k) s = shedAction b (noted (berthEvent b k) s) := by
  have idle : ¬ ((s.event (berthEvent b k)).action = .hold ∨ (s.event (berthEvent b k)).action = .holdAll) := by
    rw [action]; decide
  rw [raiseEntry_enabled clear enabled, recompute_idle current clear idle]
  exact applyAction_shed (congrArg EventEntry.action (noted_event clear) |>.trans action)

theorem raised_block (q : s.handoffs = []) (w : EgressWorks s) (e : EventIx) (m : Module) :
    ((s.modu m).state ∈ [.standby, .lost] → ((concluded f (blockModule m (announced e s))).modu m).state = .blocked) ∧
      ((s.modu m).state ∈ [.starting, .syncing, .online, .stopping] →
        Parked m (concluded f (blockModule m (announced e s)))) ∧
      ((s.modu m).state ∈ [.blocked, .absent] → (concluded f (blockModule m (announced e s))).modu m = s.modu m) := by
  have works := (announced_onward e s).works w
  have none := (announced_handoffs e s).trans q
  have modu := announced_modu e m s
  refine ⟨fun is => ?_, fun is => ?_, fun is => ?_⟩
  · obtain ⟨blocked, handoffs, lpu⟩ := blockModule_idle (m := m) (s := announced e s) (by rw [modu]; exact is)
    rw [concluded_modu (by rw [egressWorks_iff, lpu]; exact works) (handoffs.trans none)]
    exact blocked
  · exact concluded_parks _ _ (blockModule_parked (by rw [modu]; exact is))
  · rw [blockModule_none (by rw [modu]; exact is), concluded_modu works none]
    exact modu

end
end Sys2Proof.Machine
end

section
open Sys2Proof Sys2Proof.Machine

/-- Settles O42: a raise is its notices, the recomputation of the holds and its action, and what the action hands over
leaves what the action did. -/
theorem enabledRaises : Obligations.EnabledRaises := by
  unfold Obligations.EnabledRaises
  refine ⟨fun dest e count day second s => ⟨rfl, fun full => giveNote_lost _ full,
    fun room w => giveNote_entered _ w room.1 room.2⟩, fun e s clear enabled => ?_⟩
  intro x gate ships dests note after holdOf
  have noted_is : after = noted e s := rfl
  have held : holdOf = BerthRec.heldByEvent s.now := by
    funext r
    unfold BerthRec.heldByEvent
    cases timer : r.rampTimer <;> simp only [holdOf, timer]
  refine ⟨fun current => ⟨fun action => ?_, fun b k is action => ?_, fun action => ?_, fun b k is action => ?_⟩,
    fun src tag q w h station => ?_⟩
  · have idle : ¬ ((s.event e).action = .hold ∨ (s.event e).action = .holdAll) := by
      rw [show (s.event e).action = .none from action]; decide
    rw [raiseEntry_enabled clear enabled, recompute_idle current clear idle,
      applyAction_still_of (congrArg EventEntry.action (noted_event clear)) (.inl action), noted_is]
  · subst is
    rw [held]
    exact raised_hold current clear enabled action
  · rw [held]
    exact raised_holdAll current clear enabled action
  · subst is
    have shed := (raised_shed current clear enabled action).trans (shedAction_eq b _)
    rw [shedAsked_noted] at shed
    obtain ⟨l, p, ms, same⟩ := noted_sends (berthEvent b k) s
    have entry : (noted (berthEvent b k) s).entry b = s.entry b := by rw [same]; rfl
    have own : (noted (berthEvent b k) s).own = s.own := by
      rw [State.own, (noted_kept (· = outlet b) _ s).nid]
      rfl
    rw [entry, own] at shed
    exact shed
  · intro inUse
    obtain ⟨p, is⟩ := (eventSet_act _).acted (tag := tag) (kind := 6) (params := [BitVec.ofNat 8 e.val]) q h station
      (by omega) rfl (eventOf?_byte e) (by simp)
    have own : s.own ≠ none := h.own
    have acts : raiseEntry e (served src p s) = applyAction e (announced e (served src p s)) :=
      raiseEntry_announced (s := served src p s) clear enabled
    have action : ((announced e (served src p s)).event e).action = x.action := announced_action (s := served src p s) clear
    have concludes := concluded_onward (reply src tag 6 .done []) (raiseEntry e (served src p s))
    have onward := (takeHandoff_onward (.raise e) (served src p s)).trans concludes
    have works := (takeHandoff_onward (.raise e) (served src p s)).works w
    have announced_raw : ((announced e (served src p s)).event e).raw = true := by
      rw [announced_event (s := served src p s) clear]; rfl
    obtain ⟨raw, clock⟩ := concludes.raw e (raiseEntry_is_raw e _)
    refine ⟨_, is, concluded_given works, raw, ?_, fun room n mem => ?_, fun b k family trips => ?_,
      fun b m k family trips listed use => ?_, fun b trips => ?_, fun m k family blocks => ?_⟩
    · rw [clock, acts, ((applyAction_deaf (e := e) e _).onward.raw e announced_raw).2,
        announced_event (s := served src p s) clear]
      rfl
    · have given := noted_given (s := served src p s) (e := e) w own
        (show s.lpu.ordinary + (s.lpu.reservations + 1) + dests.length ≤ 15 by omega) n mem
      have acted := (recomputeHolds_deaf (e := e) (noted e (served src p s))).onward.trans (applyAction_deaf (e := e) e _).onward
      rw [acts]
      rw [acts] at concludes
      exact (acted.trans concludes).replies given.2 _ given.1
    · subst family
      rw [acts, applyAction_tripBerth (action.trans trips)]
      refine ⟨fun use => ?_, fun idle => ?_⟩
      · exact raised_trip (s := served src p s) q w own clear ((active_iff _).2 use)
      · exact raised_trip_idle (s := served src p s) q w clear (Bool.eq_false_iff.2 fun active => idle ((active_iff _).1 active))
    · subst family
      rw [acts, applyAction_tripModule (action.trans trips) ((announced_berthOfModule _ m _).trans listed)]
      exact raised_trip (s := served src p s) q w own clear ((active_iff _).2 use)
    · rw [acts, applyAction_tripAll (action.trans trips)]
      have none : (announced e (served src p s)).handoffs = [] := (announced_handoffs e _).trans q
      have alike : Alike b (served src p s) (announced e (served src p s)) := alike_announced (s := served src p s) clear b
      refine ⟨fun use => ?_, fun idle => ?_⟩
      · exact concluded_trips (s := served src p s) alike none ((active_iff _).2 use)
      · have inactive : (s.berth b).state.active = false := Bool.eq_false_iff.2 fun active => idle ((active_iff _).1 active)
        exact (concluded_trips_idle none (by rw [alike.state]; exact inactive)).trans alike.state
    · subst family
      rw [acts, applyAction_blockModule (action.trans blocks)]
      exact raised_block (s := served src p s) q w _ m

end

section
namespace Sys2Proof.Machine

section
variable {s t u : State} {b : Berth} {c : Chan} {w : ChanWork} {k : Target} {req : SyncReq}

/-! ### The channels take requests (R76) -/

/-- The attempt that a channel begins with a request. -/
def ChanWork.started (s : State) (r : SyncReq) : ChanWork where
  req := r
  profile := s.syu.profiles[profileIx r.target]
  phase := .adjusting
  k := 0
  settle := 0
  watchDue := some (s.now + s.syu.profiles[profileIx r.target].watchLimit * 1000)
  confirmDue := none
  backoffDue := none
  commandTime := none
  pair := none
  eval := none

theorem fillChannel_taken {rest : List SyncReq} (idle : s.syu.chans[c] = none) (queue : s.syu.queue = req :: rest) :
    fillChannel c s =
      { s with syu := { s.syu with queue := rest, chans := upd s.syu.chans c fun _ => some (.started s req) } } := by
  rw [fillChannel, idle, queue]
  rfl

theorem fillChannel_busy (h : s.syu.chans[c] ≠ none ∨ s.syu.queue = []) : fillChannel c s = s := by
  unfold fillChannel
  split
  next idle queue =>
    exact h.elim (absurd idle) fun empty => nomatch queue.symm.trans empty
  · rfl

/-! ### The stages of an evaluation (R79) -/

theorem signed16_range (n : Int) : -32768 ≤ signed16 n ∧ signed16 n ≤ 32767 ∧ 65536 ∣ signed16 n - n := by
  unfold signed16
  dsimp only
  split <;> omega

theorem wrap16_range {n : Int} (low : -98304 ≤ n) (high : n ≤ 98303) :
    -32768 ≤ wrap16 n ∧ wrap16 n ≤ 32767 ∧ 65536 ∣ wrap16 n - n := by
  unfold wrap16
  split
  · omega
  · split <;> omega

/-- A rounding to the nearest is at most half a unit away. -/
theorem roundHalfAway_near (n : Int) {d : Nat} (pos : 0 < d) : 2 * (roundHalfAway n d * d - n).natAbs ≤ d := by
  have near : ∀ a : Nat, (2 * a + d) / (2 * d) * (2 * d) ≤ 2 * a + d ∧ 2 * a + d < (2 * a + d) / (2 * d) * (2 * d) + 2 * d :=
    fun a => ⟨Nat.div_mul_le_self _ _, Nat.lt_div_mul_add (by omega)⟩
  obtain ⟨below, above⟩ := near n.natAbs
  have whole : (2 * n.natAbs + d) / (2 * d) * (2 * d) = 2 * ((2 * n.natAbs + d) / (2 * d) * d) := by ring
  rw [whole] at below above
  unfold roundHalfAway
  generalize (2 * n.natAbs + d) / (2 * d) = x at below above
  split
  · have : ((x : Int) * d) = ((x * d : Nat) : Int) := by push_cast; ring
    rw [this]
    omega
  · have : (-(x : Int) * d) = -((x * d : Nat) : Int) := by push_cast; ring
    rw [this]
    omega

/-! ### The target pair (R62, R77) -/

/-- The pair that RFG holds of a target pair. -/
def heldPair (f : Int) (v : Nat) : Nat × Nat := ((max 40000 (min 70000 f)).toNat, min v 65535)

/-- R62: what RFG holds of a berth after a target pair for breaker `k`. -/
def pairedBerth (k : Target) (f : Int) (v : Nat) (s : State) (b : Berth) : Option BerthRef :=
  if k.val = b.val ∧ (s.berth b).state = .syncing then
    (s.berthRef b).map fun x => { x with pair := some (heldPair f v) } else s.berthRef b

/-- R62: what RFG holds of a module after a target pair for breaker `k`. -/
def pairedModule (k : Target) (f : Int) (v : Nat) (s : State) (m : Module) : ModuleRef :=
  if k.val = 4 + m.val ∧ (s.modu m).state = .syncing then
    { s.rfg.modules[m] with own := some (heldPair f v) } else s.rfg.modules[m]

theorem ofFn_same {α : Type} {n : Nat} (v : Vector α n) (f : Fin n → α) (same : ∀ c : Fin n, f c = v[c]) :
    Vector.ofFn f = v := by
  ext i hi
  rw [Vector.getElem_ofFn]
  exact same ⟨i, hi⟩

theorem handPair_eq (k : Target) (f : Int) (v : Nat) (s : State) : handPair k f v s = { s with
    rfg := { s.rfg with
      berths := Vector.ofFn (pairedBerth k f v s)
      modules := Vector.ofFn (pairedModule k f v s) } } := by
  have sameBerths : (∀ b : Berth, ¬ (k.val = b.val ∧ (s.berth b).state = .syncing)) →
      Vector.ofFn (pairedBerth k f v s) = s.rfg.berths := fun other => ofFn_same _ _ fun b => if_neg (other b)
  have sameModules : (∀ m : Module, ¬ (k.val = 4 + m.val ∧ (s.modu m).state = .syncing)) →
      Vector.ofFn (pairedModule k f v s) = s.rfg.modules := fun other => ofFn_same _ _ fun m => if_neg (other m)
  unfold handPair targetKind
  by_cases low : k.val < 4
  · rw [dif_pos low, sameModules fun m is => by omega]
    show takeBerthPair ⟨k.val, low⟩ f v s = _
    unfold takeBerthPair
    split
    next syncing =>
      have taken : Vector.ofFn (pairedBerth k f v s) = upd s.rfg.berths ⟨k.val, low⟩
          (Option.map fun r => { r with pair := some (heldPair f v) }) := by
        rw [← ofFn_upd]
        congr 1
        funext b
        unfold pairedBerth
        by_cases is : b = ⟨k.val, low⟩
        · subst is
          rw [if_pos ⟨rfl, syncing⟩, if_pos rfl]
          rfl
        · rw [if_neg fun same => is (Fin.ext same.1.symm), if_neg is]
          rfl
      rw [taken]
      rfl
    next other =>
      rw [sameBerths fun b is => other ?_]
      rw [show (⟨k.val, low⟩ : Berth) = b from Fin.ext is.1]
      exact is.2
  · rw [dif_neg low, sameBerths fun b is => by omega]
    show takeModulePair ⟨k.val - 4, by omega⟩ f v s = _
    unfold takeModulePair
    split
    next syncing =>
      have taken : Vector.ofFn (pairedModule k f v s) = upd s.rfg.modules ⟨k.val - 4, by omega⟩
          fun r => { r with own := some (heldPair f v) } := by
        rw [← ofFn_upd]
        congr 1
        funext m
        unfold pairedModule
        by_cases is : m = ⟨k.val - 4, by omega⟩
        · subst is
          rw [if_pos ⟨by simp only; omega, syncing⟩, if_pos rfl]
        · rw [if_neg fun same => is (Fin.ext (by simp only; omega)), if_neg is]
      rw [taken]
      rfl
    next other =>
      rw [sameModules fun m is => other ?_]
      rw [show (⟨k.val - 4, by omega⟩ : Module) = m from Fin.ext (by simp only; omega)]
      exact is.2

/-! ### A record at a channel that steers by its point (R77 to R83) -/

/-- R77: the target pair of a record of the reference point. -/
def pairOf (w : ChanWork) (s : State) : Int × Nat :=
  ((s.point w.req.refPoint).freq + w.profile.slipTarget, (s.point w.req.refPoint).voltage)

/-- The state once the target pair of a record has been handed over and the attempt has become `x`. -/
def steered (c : Chan) (w x : ChanWork) (s : State) : State := { s with
  rfg := { s.rfg with
    berths := Vector.ofFn (pairedBerth w.req.target (pairOf w s).1 (pairOf w s).2 s)
    modules := Vector.ofFn (pairedModule w.req.target (pairOf w s).1 (pairOf w s).2 s) }
  syu := { s.syu with chans := upd s.syu.chans c fun _ => some { x with pair := some (pairOf w s) } } }

theorem steer_eq (taken : s.syu.chans[c] = some w) : steer c s = steered c w w s := by
  unfold steer
  rw [taken]
  exact handPair_eq _ _ _ _

/-- An evaluation of the channel's two points. -/
def evaluated (w : ChanWork) (s : State) : Evaluation :=
  evaluate w.profile (s.breaker w.req.target).tc (s.point w.req.matchPoint) (s.point w.req.refPoint)

theorem steered_chan (c : Chan) (w x : ChanWork) (s : State) :
    (steered c w x s).syu.chans[c] = some { x with pair := some (pairOf w s) } := upd_self _ _ _

theorem steered_again {x y : ChanWork} {g : Option ChanWork → Option ChanWork}
    (h : ∀ o, g o = some { y with pair := some (pairOf w s) }) : (steered c w x s).modChan c g = steered c w y s := by
  have same : upd (upd s.syu.chans c fun _ => some { x with pair := some (pairOf w s) }) c g =
      upd s.syu.chans c fun _ => some { y with pair := some (pairOf w s) } := by
    rw [upd_upd]
    exact congrArg (upd s.syu.chans c) (funext fun _ => h _)
  show ({ steered c w x s with syu := { s.syu with chans := upd (upd s.syu.chans c _) c g } } : State) = _
  rw [same]
  rfl

theorem channelRecord_own (taken : s.syu.chans[c] = some w) :
    channelRecord w.req.refPoint c s = evaluateChannel c (steered c w w s) := by
  unfold channelRecord
  rw [taken, ← steer_eq taken]
  exact if_pos rfl

theorem channelRecord_other {p : Point} (taken : s.syu.chans[c] = some w) (other : p ≠ w.req.refPoint) :
    channelRecord p c s = s := by
  unfold channelRecord
  rw [taken]
  exact if_neg (Ne.symm other)

theorem judgeAdjusting_paired (estop : Bool) (e : Evaluation) (x : ChanWork) (p : Option (Int × Nat)) :
    judgeAdjusting estop e { x with pair := p } = { judgeAdjusting estop e x with pair := p } := by
  unfold judgeAdjusting
  by_cases steady : (e.vOk && e.sOk && !estop) = true
  · rw [if_pos steady, if_pos steady]
  · rw [if_neg steady, if_neg steady]

/-- R78: an evaluation that does not run. -/
theorem evaluateChannel_idle (idle : w.phase = .closing ∨ w.phase = .backoff ∨ (s.point w.req.matchPoint).state ≠ .fresh) :
    evaluateChannel c (steered c w w s) = steered c w w s := by
  unfold evaluateChannel
  rw [steered_chan]
  dsimp only
  by_cases fresh : (s.point w.req.matchPoint).state = .fresh
  · rw [if_pos (show ((steered c w w s).point w.req.matchPoint).state = .fresh from fresh)]
    obtain is | is | is := idle
    · simp only [is]
    · simp only [is]
    · exact absurd fresh is
  · exact if_neg fresh

theorem evaluateChannel_adjusting (phase : w.phase = .adjusting) (fresh : (s.point w.req.matchPoint).state = .fresh) :
    evaluateChannel c (steered c w w s) =
      steered c w (judgeAdjusting s.pins.estop (evaluated w s) { w with eval := some (evaluated w s) }) s := by
  unfold evaluateChannel
  rw [steered_chan]
  dsimp only
  rw [if_pos (show ((steered c w w s).point w.req.matchPoint).state = .fresh from fresh)]
  split
  next => exact steered_again fun _ => congrArg some (judgeAdjusting_paired _ _ { w with eval := some (evaluated w s) } _)
  all_goals (next is => exact nomatch phase.symm.trans is)

theorem evaluateChannel_watching (phase : w.phase = .watching) (fresh : (s.point w.req.matchPoint).state = .fresh) :
    evaluateChannel c (steered c w w s) = judgeWatching c (evaluated w s)
      { w with eval := some (evaluated w s), pair := some (pairOf w s) }
      (steered c w { w with eval := some (evaluated w s) } s) := by
  have again : ∀ y : ChanWork, ((steered c w w s).modChan c fun _ => some { y with pair := some (pairOf w s) }) =
      steered c w y s := fun y => steered_again fun _ => rfl
  unfold evaluateChannel
  rw [steered_chan]
  dsimp only
  rw [if_pos (show ((steered c w w s).point w.req.matchPoint).state = .fresh from fresh)]
  split
  next is => exact nomatch phase.symm.trans is
  next => exact congrArg _ (again { w with eval := some (evaluated w s) })
  all_goals (next is => exact nomatch phase.symm.trans is)

/-- R83: the close of a channel in window. -/
theorem enterClosing_steered (e : Option Evaluation) (works : EgressWorks s) :
    enterClosing c (steered c w { w with eval := e } s) = { steered c w { w with
        eval := e
        phase := .closing
        watchDue := none
        commandTime := some s.now
        confirmDue := some (s.now + confirmWindow (s.breaker w.req.target)) } s with
      lpu := (command .close w.req.target s).lpu } := by
  have link : (command .close w.req.target (steered c w { w with eval := e } s)).lpu = (command .close w.req.target s).lpu :=
    giveBcmd_lpu_congr works rfl
  have given := command_eq .close w.req.target (s := steered c w { w with eval := e } s) works
  have again : (steered c w { w with eval := e } s).modChan c (fun _ => some { w with
      eval := e
      phase := .closing
      watchDue := none
      commandTime := some s.now
      confirmDue := some (s.now + confirmWindow (s.breaker w.req.target))
      pair := some (pairOf w s) }) = steered c w { w with
        eval := e
        phase := .closing
        watchDue := none
        commandTime := some s.now
        confirmDue := some (s.now + confirmWindow (s.breaker w.req.target)) } s := steered_again fun _ => rfl
  rw [link] at given
  unfold enterClosing
  rw [steered_chan]
  dsimp only
  rw [given]
  exact congrArg (fun v : State => { v with lpu := (command .close w.req.target s).lpu }) again

end
end Sys2Proof.Machine
end

section
open Sys2Proof Sys2Proof.Machine

/-- Settles O36: the fill of both channels by cases, the evaluation's stages by their ranges, and a record's evaluation
from the channel's phase. -/
theorem syncAttempts : Obligations.SyncAttempts := by
  unfold Obligations.SyncAttempts
  refine ⟨fun s none => ?_, fun p tc m r closing low high => ?_, fun c w s taken => ?_⟩
  · intro start served
    have started : start = ChanWork.started s := rfl
    have fills : serveChannelsTaken s = fillChannel 1 (fillChannel 0 s) := if_pos none
    have upd0 : ∀ (v : Vector (Option ChanWork) 2) x, upd v 0 (fun _ => x) = #v[x, v[1]] := fun v x => by
      ext i hi
      rw [upd_get]
      interval_cases i <;> rfl
    have upd1 : ∀ (v : Vector (Option ChanWork) 2) x, upd v 1 (fun _ => x) = #v[v[0], x] := fun v x => by
      ext i hi
      rw [upd_get]
      interval_cases i <;> rfl
    refine ⟨fun queue => ?_, fun r rest queue busy0 busy1 => ?_, fun r queue idle0 => ?_, fun r rest queue idle0 busy1 => ?_,
      fun r rest queue busy0 idle1 => ?_, fun r0 r1 rest queue idle0 idle1 => ?_⟩
    · rw [fills, fillChannel_busy (.inr queue), fillChannel_busy (.inr queue)]
    · rw [fills, fillChannel_busy (c := 0) (.inl busy0), fillChannel_busy (.inl busy1)]
    · refine fills.trans ?_
      rw [fillChannel_taken idle0 queue, fillChannel_busy (.inr rfl), upd0]
      rfl
    · refine fills.trans ?_
      rw [fillChannel_taken idle0 queue, upd0, fillChannel_busy (.inl (by exact busy1))]
      rfl
    · refine fills.trans ?_
      rw [fillChannel_busy (c := 0) (.inl busy0), fillChannel_taken idle1 queue, upd1]
      rfl
    · refine fills.trans ?_
      rw [fillChannel_taken idle0 queue, upd0, fillChannel_taken (req := r1) (rest := rest) (by exact idle1) (by rfl), upd1]
      rfl
  · intro e d
    have slip : (d * tc * 65536).natAbs ≤ 9830400000 ∨ ¬ (p.slipLow ≤ d ∧ d ≤ p.slipHigh) := by
      by_cases inside : p.slipLow ≤ d ∧ d ≤ p.slipHigh
      · have bound : d.natAbs ≤ 500 := by omega
        have product : d.natAbs * tc ≤ 500 * 300 := Nat.mul_le_mul bound closing
        refine .inl ?_
        rw [Int.natAbs_mul, Int.natAbs_mul, Int.natAbs_natCast]
        exact Nat.mul_le_mul_right 65536 product
      · exact .inr inside
    obtain ⟨low16, high16, mod16⟩ := signed16_range ((m.angle : Int) - r.angle)
    have near := roundHalfAway_near (d * tc * 65536) (d := 1000000) (by decide)
    by_cases out : m.freq < 40000 ∨ 70000 < m.freq ∨ r.freq < 40000 ∨ 70000 < r.freq ∨ d < p.slipLow ∨ p.slipHigh < d
    · have is : e = ⟨none, some d, none, none, decide (((m.voltage : Int) - r.voltage).natAbs ≤ p.vWindow), false, false⟩ :=
        if_pos out
      rw [is]
      refine ⟨decide_eq_true_iff, ⟨fun no => (nomatch no), fun inside => ?_⟩, rfl, fun _ => ⟨rfl, rfl, rfl, rfl⟩,
        fun no => nomatch no⟩
      omega
    · have is : e = ⟨some (signed16 ((m.angle : Int) - r.angle)), some d, some (roundHalfAway (d * tc * 65536) 1000000),
          some (wrap16 (signed16 ((m.angle : Int) - r.angle) + roundHalfAway (d * tc * 65536) 1000000)),
          decide (((m.voltage : Int) - r.voltage).natAbs ≤ p.vWindow), true,
          decide ((wrap16 (signed16 ((m.angle : Int) - r.angle) +
            roundHalfAway (d * tc * 65536) 1000000)).natAbs ≤ p.angleWindow)⟩ := if_neg out
      rw [is]
      obtain ⟨lowP, highP, modP⟩ := wrap16_range (n := signed16 ((m.angle : Int) - r.angle) +
        roundHalfAway (d * tc * 65536) 1000000) (by omega) (by omega)
      exact ⟨decide_eq_true_iff, ⟨fun _ => by omega, fun _ => rfl⟩, rfl, fun no => (nomatch no),
        fun _ => ⟨_, _, _, rfl, rfl, rfl, low16, high16, mod16, near, lowP, highP, modP, decide_eq_true_iff⟩⟩
  · intro r fresh k e f held berthRef moduleRef becomes result steady
    have becomes_eq : ∀ x, becomes x = steered c w x s := fun x => rfl
    have own : result = evaluateChannel c (steered c w w s) := channelRecord_own taken
    have adjusted := fun phase fr => own.trans (evaluateChannel_adjusting (c := c) (w := w) (s := s) phase fr)
    have watched := fun phase fr => own.trans (evaluateChannel_watching (c := c) (w := w) (s := s) phase fr)
    have e_eq : evaluated w s = e := rfl
    refine ⟨fun p other => channelRecord_other taken other, fun idle => own.trans (evaluateChannel_idle idle),
      fun phase fr stable free => ?_, fun phase fr unstable => ?_, fun phase fr back => ?_, fun phase fr stable out => ?_,
      fun phase fr stable inWindow free works => ?_⟩
    · rw [adjusted phase fr, becomes_eq, judgeAdjusting, e_eq, if_pos (by simp [stable.1, stable.2, free])]
    · rw [adjusted phase fr, becomes_eq, judgeAdjusting, e_eq, if_neg]
      rw [Bool.and_eq_true, Bool.and_eq_true, Bool.not_eq_true']
      rintro ⟨stable, free⟩
      obtain unstable | stopped := unstable
      · exact unstable stable
      · rw [free] at stopped; exact nomatch stopped
    · rw [watched phase fr, becomes_eq, judgeWatching, e_eq, if_pos]
      · exact steered_again fun _ => rfl
      · obtain unstable | ⟨inWindow, stopped⟩ := back
        · simp only [steady, not_and_or, Bool.not_eq_true] at unstable
          obtain off | off := unstable <;> simp [off]
        · have held : (steered c w { w with eval := some e } s).pins.estop = true := stopped
          rw [inWindow, held]
          simp
    · rw [watched phase fr, becomes_eq, judgeWatching, e_eq, if_neg, if_neg (by rw [out]; decide)]
      simp [stable.1, stable.2, out]
    · rw [watched phase fr, becomes_eq, judgeWatching, e_eq, if_neg, if_pos inWindow]
      · exact enterClosing_steered _ works
      · have open' : (steered c w { w with eval := some e } s).pins.estop = false := free
        rw [open', stable.1, stable.2]
        simp

end

section
namespace Sys2Proof.Machine

/-! ### What hand-offs leave of the points (R27, R29) -/

/-- SCL has been left but for band flags that were cleared as a berth left SHORE and staleness conditions of STALE points,
and no berth has entered SHORE. -/
structure Seen (s t : State) : Prop where
  tables : t.scl.streams = s.scl.streams ∧ t.scl.gains = s.scl.gains ∧ t.scl.unmatched = s.scl.unmatched
  points : ∀ o, t.point o = s.point o ∨
    (∃ c, o = shPoint c ∧ (s.berth c).state = .shore) ∧ t.point o = { s.point o with vOut := false, fOut := false }
  stale : ∀ c side, (s.point (sidePoint c side)).state ≠ .stale → staleCond s c side = none → staleCond t c side = none
  shore : ∀ c, (t.berth c).state = .shore → (s.berth c).state = .shore

/-- Work that hand-offs lead to, none of which confirms a dead-bus close of an outlet. -/
structure Watches (s t : State) : Prop where
  seen : Seen s t
  handed : ∃ hs, t.handoffs = s.handoffs ++ hs ∧ ∀ c, .outletOutcome c .confirmed ∉ hs

section
variable {s t u : State} {b : Berth}

theorem Seen.refl (s : State) : Seen s s := ⟨⟨rfl, rfl, rfl⟩, fun _ => .inl rfl, fun _ _ _ => id, fun _ => id⟩

theorem Seen.state (h : Seen s t) (o : Point) : (t.point o).state = (s.point o).state := by
  obtain is | ⟨-, is⟩ := h.points o <;> rw [is]

theorem Seen.trans (h : Seen s t) (g : Seen t u) : Seen s u where
  tables := by
    obtain ⟨streams, gains, unmatched⟩ := h.tables
    obtain ⟨streams', gains', unmatched'⟩ := g.tables
    exact ⟨streams'.trans streams, gains'.trans gains, unmatched'.trans unmatched⟩
  points o := by
    obtain is | ⟨⟨c, at', shore⟩, is⟩ := g.points o
    · rw [is]; exact h.points o
    · refine .inr ⟨⟨c, at', h.shore c shore⟩, ?_⟩
      obtain is' | ⟨-, is'⟩ := h.points o <;> rw [is, is']
  stale c side fresh none := g.stale c side (by rw [h.state]; exact fresh) (h.stale c side fresh none)
  shore c is := h.shore c (g.shore c is)

theorem Watches.trans (h : Watches s t) (g : Watches t u) : Watches s u where
  seen := h.seen.trans g.seen
  handed := by
    obtain ⟨hs, is, none⟩ := h.handed
    obtain ⟨gs, is', none'⟩ := g.handed
    exact ⟨hs ++ gs, by rw [is', is, List.append_assoc], fun c m => (List.mem_append.1 m).elim (none c) (none' c)⟩

/-- Work that leaves the hand-offs, the berths and SCL. -/
theorem Watches.of_frame (handoffs : t.handoffs = s.handoffs := by simp) (bsq : t.bsq = s.bsq := by simp)
    (scl : t.scl = s.scl := by simp) : Watches s t where
  seen := {
    tables := by rw [scl]; exact ⟨rfl, rfl, rfl⟩
    points := fun o => .inl (by rw [State.point, scl]; rfl)
    stale := fun c side _ none => by unfold staleCond at none ⊢; rw [scl]; exact none
    shore := fun c is => by rw [State.berth, bsq] at is; exact is }
  handed := ⟨[], by simp [handoffs], fun _ => List.not_mem_nil⟩

theorem Watches.refl (s : State) : Watches s s := .of_frame (by rfl) (by rfl) (by rfl)

theorem command_watches (c : BreakerCmd) (t : Target) (s : State) : Watches s (command c t s) := .of_frame

theorem giveShpn_watches (d : Nat) (body : Notice) (s : State) : Watches s (giveShpn d body s) := .of_frame

theorem post_watches {h : Handoff} (open' : ∀ c, h ≠ .outletOutcome c .confirmed) : Watches s (s.post h) where
  seen := { Seen.refl s with }
  handed := ⟨[h], rfl, fun c m => open' c (List.mem_singleton.1 m).symm⟩

theorem modBerth_watches {g : BerthRec → BerthRec} (state : ∀ r, (g r).state = r.state ∨ (g r).state ≠ .shore) :
    Watches s (s.modBerth b g) where
  seen := { Seen.refl s with
    shore := fun c is => by
      by_cases same : b = c
      · subst same
        rw [s.berth_modBerth] at is
        obtain kept | other := state (s.berth b)
        · rw [kept] at is; exact is
        · exact absurd is other
      · rw [s.berth_modBerth_other same] at is; exact is }
  handed := ⟨[], by simp, fun _ => List.not_mem_nil⟩

theorem setStaleCond_point (c : Berth) (side : Side) (v : Option Nat) (s : State) (o : Point) :
    (setStaleCond c side v s).point o = s.point o := by
  cases side <;> rfl

theorem setStaleCond_get (c : Berth) (side : Side) (v : Option Nat) (s : State) (c' : Berth) (side' : Side) :
    staleCond (setStaleCond c side v s) c' side' = if c = c' ∧ side = side' then v else staleCond s c' side' := by
  by_cases same : c = c'
  · subst same
    cases side <;> cases side' <;> simp [setStaleCond, staleCond]
  · have other : ∀ (x : Vector (Option Nat) 4) f, (upd x c f)[c'] = x[c'] := fun x f => upd_other x f same
    cases side <;> cases side' <;> simp only [setStaleCond, staleCond, State.modScl_scl, other, same, false_and, if_false]

theorem setStaleCond_seen {side : Side} {v : Option Nat} (stale : v = none ∨ (s.point (sidePoint b side)).state = .stale) :
    Seen s (setStaleCond b side v s) where
  tables := by cases side <;> exact ⟨rfl, rfl, rfl⟩
  points o := .inl (setStaleCond_point b side v s o)
  stale c side' fresh none := by
    rw [setStaleCond_get]
    split
    next is =>
      obtain ⟨rfl, rfl⟩ := is
      exact stale.resolve_right fresh
    · exact none
  shore c is := by cases side <;> exact is

/-- R29: a staleness condition that begins is that of a STALE point. -/
theorem watchBegin_watches (side : Side) (s : State) : Watches s (watchBegin b side s) := by
  unfold watchBegin
  split
  next stale =>
    have set : Watches s (setStaleCond b side (some (s.now + Config.staleRepeatMs)) s) :=
      ⟨setStaleCond_seen (.inr stale), ⟨[], by cases side <;> simp [setStaleCond], fun _ => List.not_mem_nil⟩⟩
    exact set.trans (post_watches fun _ => Handoff.noConfusion)
  · exact .refl s

theorem watchEnds_watches (s : State) : Watches s (watchEnds b s) := by
  have ends : ∀ (side : Side) (u : State), Watches u (setStaleCond b side none u) := fun side u =>
    ⟨setStaleCond_seen (.inl rfl), ⟨[], by cases side <;> simp [setStaleCond], fun _ => List.not_mem_nil⟩⟩
  exact (ends .converter s).trans (ends .ship _)

theorem point_modPoint (p : Point) (g : PointRec → PointRec) (s : State) : (s.modPoint p g).point p = g (s.point p) :=
  upd_self s.scl.points p g

theorem point_modPoint_other {p o : Point} (other : p ≠ o) (g : PointRec → PointRec) (s : State) :
    (s.modPoint p g).point o = s.point o := upd_other s.scl.points g other

/-- R27: the band flags of a berth that leaves SHORE are cleared. -/
theorem clearBands_watches (h : Watches s t) (shore : (s.berth b).state = .shore) : Watches s (clearBands b t) where
  seen := { h.seen with
    points := fun o => by
      by_cases is : shPoint b = o
      · subst is
        refine .inr ⟨⟨b, rfl, shore⟩, (point_modPoint _ _ t).trans ?_⟩
        obtain is | ⟨-, is⟩ := h.seen.points (shPoint b) <;> rw [is]
      · rw [clearBands, point_modPoint_other is]
        exact h.seen.points o }
  handed := h.handed

theorem changeState_watches {st : BerthState} (other : st ≠ .shore) (b : Berth) (s : State) :
    Watches s (changeState b st s) := by
  have set : Watches s (s.modBerth b fun r => { r with state := st }) := modBerth_watches fun _ => .inr other
  have change : Watches s (watchChange b (s.berth b).state st (s.modBerth b fun r => { r with state := st })) := by
    unfold watchChange
    split
    · exact set.trans ((watchBegin_watches .ship _).trans (watchBegin_watches .converter _))
    split
    · exact set.trans (watchEnds_watches _)
    · exact set
  have cleared : Watches s (if (s.berth b).state = .shore ∧ st ≠ .shore then
      clearBands b (watchChange b (s.berth b).state st (s.modBerth b fun r => { r with state := st }))
      else watchChange b (s.berth b).state st (s.modBerth b fun r => { r with state := st })) := by
    split
    next leaves => exact clearBands_watches change leaves.1
    · exact change
  unfold changeState
  dsimp only
  split
  · exact cleared.trans .of_frame
  · exact cleared

theorem Watches.foldl {α : Type} {f : State → α → State} (h : ∀ t a, Watches t (f t a)) (as : List α) (s : State) :
    Watches s (as.foldl f s) := by
  induction as generalizing s with
  | nil => exact .refl s
  | cons a as ih => exact (h s a).trans (ih _)

/-! ### SYU -/

theorem giveResult_watches (t : Target) (r : SyncResult) (s : State) : Watches s (giveResult t r s) := by
  unfold giveResult
  split <;> exact post_watches fun _ => Handoff.noConfusion

theorem endRequest_watches (req : SyncReq) (r : SyncResult) (s : State) : Watches s (endRequest req r s) :=
  (Watches.of_frame).trans (giveResult_watches req.target r _)

theorem requestSync_watches (t : Target) (b : Berth) (q : Requester) (s : State) : Watches s (requestSync t b q s) := by
  unfold requestSync
  split
  · exact .refl s
  split
  · exact (post_watches fun _ => Handoff.noConfusion).trans (endRequest_watches _ _ _)
  · exact (Watches.of_frame).trans (post_watches fun _ => Handoff.noConfusion)

theorem requestDeadBus_watches (t : Target) (b : Berth) (q : Requester) (s : State) : Watches s (requestDeadBus t b q s) := by
  unfold requestDeadBus
  split
  · exact (command_watches .close t s).trans (.of_frame (by rfl) (by rfl) (by rfl))
  · unfold giveOutcome
    split
    · exact post_watches fun _ is => nomatch (Handoff.outletOutcome.inj is).2
    · exact post_watches fun _ => Handoff.noConfusion

theorem cancelSync_watches (t : Target) (s : State) : Watches s (cancelSync t s) := by
  have queued : Watches s (cancelQueued t s) := by
    unfold cancelQueued
    split
    · exact .refl s
    · exact (Watches.of_frame).trans (endRequest_watches _ _ _)
  have channel : ∀ (c : Chan) (s : State), Watches s (cancelChannel t c s) := fun c s => by
    unfold cancelChannel
    split
    · exact .refl s
    split
    · have idled : ∀ u : State, Watches u (idleChannel c u) := fun u =>
        (Watches.of_frame (by rfl) (by rfl) (by rfl)).trans (post_watches fun _ => Handoff.noConfusion)
      split
      · exact ((command_watches _ _ s).trans (endRequest_watches _ _ _)).trans (idled _)
      · exact (endRequest_watches _ _ _).trans (idled _)
    · exact .refl s
  have dead : ∀ s : State, Watches s (cancelDeadClose t s) := fun s => by
    unfold cancelDeadClose
    split
    · exact (command_watches .openCmd t s).trans (.of_frame (by rfl) (by rfl) (by rfl))
    · exact .refl s
  exact ((queued.trans (channel 0 _)).trans (channel 1 _)).trans (dead _)

theorem serveChannelsTaken_watches (s : State) : Watches s (serveChannelsTaken s) := by
  unfold serveChannelsTaken
  split
  · exact .of_frame
  split
  · exact .refl s
  · exact post_watches fun _ => Handoff.noConfusion

/-! ### MPM -/

theorem release_watches (m : Module) (s : State) : Watches s (release m s) := by
  have stopped : Watches s (stopModule m s) := by
    have marked : Watches s (dropModulePair m
        (s.modModule m (ModuleRec.stopping s.now (s.mpm.table[m].stopLimit * 1000)))) := .of_frame
    unfold stopModule
    exact marked.trans ((cancelSync_watches (contactor m) _).trans (command_watches _ _ _))
  cases serving : (s.modu m).state.serving with
  | false => rw [release_idle serving]; exact .refl s
  | true =>
    obtain h | ⟨c, -, h⟩ := release_serving serving
    · rw [h]; exact stopped
    · rw [h]; exact stopped.trans (post_watches fun _ => Handoff.noConfusion)

theorem releaseBerth_watches (b : Berth) (s : State) : Watches s (releaseBerth b s) :=
  .foldl (fun t m => release_watches m t) _ s

theorem tellSummary_watches (b : Berth) (s : State) : Watches s (tellSummary b s) := post_watches fun _ => Handoff.noConfusion

theorem tellLeft_watches (b : Option Berth) (s : State) : Watches s (tellLeft b s) := by
  unfold tellLeft
  split
  · exact .refl s
  split
  · exact (tellSummary_watches _ s).trans (post_watches fun _ => Handoff.noConfusion)
  · exact tellSummary_watches _ s

theorem tellFailure_watches (v : Bool) (b : Option Berth) (s : State) : Watches s (tellFailure v b s) := by
  unfold tellFailure
  split
  · exact .refl s
  split
  · exact post_watches fun _ => Handoff.noConfusion
  · exact .refl s

theorem lose_watches (m : Module) (s : State) : Watches s (lose m s) := by
  have left : Watches s ((leaveList m .lost s).post (.raise (evModuleLost m))) :=
    (Watches.of_frame).trans (post_watches fun _ => Handoff.noConfusion)
  unfold lose
  dsimp only
  split
  · exact left.trans ((cancelSync_watches (contactor m) _).trans ((command_watches .openCmd (contactor m) _).trans
      ((Watches.of_frame).trans ((tellFailure_watches _ _ _).trans (tellLeft_watches _ _)))))
  · exact left

theorem pollSkippedTaken_watches (m : Module) (n : Nat) (s : State) : Watches s (pollSkippedTaken m n s) := by
  unfold pollSkippedTaken
  split
  · exact .refl s
  split
  · unfold miss
    dsimp only
    split
    · exact (Watches.of_frame (by rfl) (by rfl) (by rfl)).trans (lose_watches m _)
    · exact .of_frame (by rfl) (by rfl) (by rfl)
  · exact .refl s

theorem becomeOnline_watches (b : Berth) (m : Module) (s : State) : Watches s (becomeOnline b m s) := by
  have deferred : ∀ (t : State) (x : Module), Watches t (queueDeferred b x t) := fun t x => by
    unfold queueDeferred
    split
    · exact (Watches.of_frame (by rfl) (by rfl) (by rfl)).trans (requestSync_watches _ _ _ _)
    · exact .refl t
  unfold becomeOnline
  dsimp only
  split
  · exact ((Watches.of_frame).trans (.foldl deferred _ _)).trans (tellSummary_watches b _)
  · exact (Watches.of_frame).trans (tellSummary_watches b _)

theorem becomeSyncing_watches (b : Berth) (m : Module) (s : State) : Watches s (becomeSyncing b m s) := by
  unfold becomeSyncing
  dsimp only
  split
  · exact (Watches.of_frame (by rfl) (by rfl) (by rfl)).trans (requestSync_watches _ _ _ _)
  · exact .of_frame (by rfl) (by rfl) (by rfl)

theorem startCheck_watches (m : Module) (s : State) : Watches s (startCheck m s) := by
  unfold startCheck
  dsimp only
  split
  · (repeat' split)
    · exact .refl s
    · exact becomeOnline_watches _ m s
    · exact .refl s
    · exact becomeSyncing_watches _ m s
  · exact .refl s

theorem contactorOutcome_watches (m : Module) (b : Berth) (o : DeadOutcome) (s : State) :
    Watches s (contactorOutcome m b o s) := by
  have failed : Watches s ((release m s).post (.firstFailure b)) :=
    (release_watches m s).trans (post_watches fun _ => Handoff.noConfusion)
  unfold contactorOutcome
  dsimp only
  split
  · cases o with
    | confirmed => exact (Watches.of_frame (by rfl) (by rfl) (by rfl)).trans (startCheck_watches m _)
    | refused => exact failed
    | notConfirmed => exact failed
  · exact .refl s

theorem contactorResult_watches (m : Module) (r : SyncResult) (s : State) : Watches s (contactorResult m r s) := by
  unfold contactorResult
  split
  · cases r with
    | success => exact becomeOnline_watches _ m s
    | failedWait => exact release_watches m s
    | failedAttempts => exact release_watches m s
    | cancelled => exact .refl s
  · exact .refl s

theorem blockModule_watches (m : Module) (s : State) : Watches s (blockModule m s) := by
  have out : Watches s (leaveList m .blocked s) := .of_frame
  have left : ∀ {b : Option Berth} {f w : Bool} {g : ModuleRec → ModuleRec}, Watches s (tellFailure f b (replaceAfter w b
      ((release m s).modModule m g))) := fun {b f w g} => by
    have replaced : Watches (release m s) (replaceAfter w b ((release m s).modModule m g)) := .of_frame
    exact (release_watches m s).trans (replaced.trans (tellFailure_watches f b _))
  unfold blockModule
  dsimp only
  split
  · exact out
  · exact out
  · exact left
  · exact left
  · exact left
  · exact .of_frame (by rfl) (by rfl) (by rfl)
  · exact .refl s
  · exact .refl s

/-! ### BLG and the berths -/

theorem evalLogFull_watches (s : State) : Watches s (evalLogFull s) := by
  unfold evalLogFull
  split
  · exact (Watches.of_frame (by rfl) (by rfl) (by rfl)).trans
      (post_watches fun _ => Handoff.noConfusion)
  · exact .of_frame (by rfl) (by rfl) (by rfl)

theorem freeSlot_watches (b : Berth) (s : State) : Watches s (freeSlot b s) := by
  unfold freeSlot
  split
  · exact (Watches.of_frame (by rfl) (by rfl) (by rfl)).trans (evalLogFull_watches _)
  · exact .refl s

theorem closeSession_watches (b : Berth) (why : EndReason) (s : State) : Watches s (closeSession b why s) := by
  unfold closeSession
  split
  · exact (Watches.of_frame).trans (evalLogFull_watches _)
  · exact .refl s

/-- R29, R98: a berth enters another state than SHORE. -/
theorem enterState_watches {st : BerthState} (other : st ≠ .shore) (b : Berth) (s : State) :
    Watches s (enterState b st s) := by
  have noticed : ∀ t, Watches t (berthNotice b t) := fun t => giveShpn_watches _ _ t
  unfold enterState
  exact (changeState_watches other b s).trans (noticed _)

/-- Only the trip outputs change in EVR. -/
theorem driveOutputs_watches (s : State) : Watches s (driveOutputs s) := .of_frame (by rfl) (by rfl) (by rfl)

theorem startRamp_watches (b : Berth) (s : State) : Watches s (startRamp b s) := modBerth_watches fun _ => .inl (syncTimer_state _ _)

theorem stopTimers_watches (b : Berth) (s : State) : Watches s (stopTimers b s) := by
  have held : Watches s (setShipHold b none s) := modBerth_watches fun _ => .inl (syncTimer_state _ _)
  have stopped : ∀ t : State, Watches t (t.modBerth b fun r =>
      { r with rampDue := none, rampTimer := .stopped, capacityCond := false }) := fun _ => modBerth_watches fun _ => .inl rfl
  have due : ∀ t : State, Watches t (t.modBerth b fun r => { r with genDue := none, openDue := none }) :=
    fun _ => modBerth_watches fun _ => .inl rfl
  exact ((held.trans (stopped _)).trans (due _)).trans (.of_frame (by rfl) (by rfl) (by rfl))

/-- R115: a trip. -/
theorem tripBerth_watches (b : Berth) (why : TripReason) (s : State) : Watches s (tripBerth b why s) := by
  cases active : (s.berth b).state.active with
  | false => rw [tripBerth_inactive active]; exact .refl s
  | true =>
    have demanded : Watches s (s.modBerth b fun r => { r with demand := true, fromOpening := false }) :=
      modBerth_watches fun _ => .inl rfl
    have commanded : Watches s (tripCommanded b s) := by
      unfold tripCommanded
      exact demanded.trans ((driveOutputs_watches _).trans ((cancelSync_watches (outlet b) _).trans (command_watches _ _ _)))
    have billed : Watches s (endBilling b why.endReason (releaseBerth b (tripCommanded b s))) :=
      (commanded.trans (releaseBerth_watches b _)).trans ((closeSession_watches b _ _).trans (freeSlot_watches b _))
    have ended : Watches s (tripEnded b why s) :=
      (billed.trans (stopTimers_watches b _)).trans (modBerth_watches fun _ => .inl rfl)
    rw [tripBerth_eq active]
    exact ended.trans (enterState_watches (by decide) b _)

theorem listEmptyTaken_watches (b : Berth) (s : State) : Watches s (listEmptyTaken b s) := by
  unfold listEmptyTaken
  split
  · have cleared : ∀ t : State, Watches t (clearCall b t) := fun t => by
      have marked : Watches t (t.modBerth b fun r => { r with deadShip := false, energised := false }) :=
        modBerth_watches fun _ => .inl rfl
      exact marked.trans (.of_frame (by rfl) (by rfl) (by rfl))
    have opened : Watches s (s.modBerth b fun r =>
        { r with demand := r.demand && !r.fromOpening, fromOpening := false, lastLimit := 0 }) := modBerth_watches fun _ => .inl rfl
    exact ((opened.trans (cleared _)).trans (driveOutputs_watches _)).trans (enterState_watches (by decide) b _)
  · exact .refl s

/-- R113: a berth is released. -/
theorem enterReleasing_watches (b : Berth) (s : State) : Watches s (enterReleasing b s) :=
  (((cancelSync_watches (outlet b) s).trans (freeSlot_watches b _)).trans (releaseBerth_watches b _)).trans
    ((enterState_watches (by decide) b _).trans (listEmptyTaken_watches b _))

theorem energisedTest_watches (b : Berth) (s : State) : Watches s (energisedTest b s) := by
  unfold energisedTest
  dsimp only
  split
  · split
    · exact (requestDeadBus_watches _ _ _ s).trans (enterState_watches (by decide) b _)
    · exact (requestSync_watches _ _ _ s).trans (enterState_watches (by decide) b _)
  · exact .refl s

theorem loseSource_watches (b : Berth) (s : State) : Watches s (loseSource b s) :=
  ((cancelSync_watches (outlet b) s).trans (post_watches fun _ => Handoff.noConfusion)).trans (enterReleasing_watches b _)

theorem actOnSummary_watches (b : Berth) (s : State) : Watches s (actOnSummary b s) := by
  have formed : Watches s (energisedTest b (enterState b .energising s)) :=
    (enterState_watches (by decide) b s).trans (energisedTest_watches b _)
  unfold actOnSummary
  dsimp only
  split
  · split <;> [exact formed; exact .refl s]
  · split <;> [exact loseSource_watches b s; exact energisedTest_watches b s]
  iterate 2 (next => split <;> [exact loseSource_watches b s; exact .refl s])
  iterate 4 (next => split <;> [exact tripBerth_watches b _ s; exact .refl s])
  all_goals exact .refl s

theorem summaryTaken_watches (b : Berth) (s : State) : Watches s (summaryTaken b s) := by
  unfold summaryTaken
  split
  · exact .refl s
  · exact (modBerth_watches (by exact fun _ => .inl rfl)).trans (actOnSummary_watches b _)

theorem firstFailureTaken_watches (b : Berth) (s : State) : Watches s (firstFailureTaken b s) := by
  unfold firstFailureTaken
  split
  · exact (post_watches fun _ => Handoff.noConfusion).trans (enterReleasing_watches b _)
  · exact .refl s

theorem outletResultTaken_watches (b : Berth) (r : SyncResult) (s : State) : Watches s (outletResultTaken b r s) := by
  have begun : Watches s ((startRamp b (openSession b s)).modBerth b fun r =>
      { r with rampDone := false, capacityCond := false }) :=
    (Watches.of_frame (t := openSession b s)).trans ((startRamp_watches b _).trans (modBerth_watches fun _ => .inl rfl))
  unfold outletResultTaken
  split
  · cases r with
    | success => exact begun.trans (enterState_watches (by decide) b _)
    | failedWait => exact enterReleasing_watches b s
    | failedAttempts => exact enterReleasing_watches b s
    | cancelled => exact .refl s
  · exact .refl s

theorem outletOutcomeTaken_watches {o : DeadOutcome} (open' : o ≠ .confirmed) (b : Berth) (s : State) :
    Watches s (outletOutcomeTaken b o s) := by
  have failed : Watches s (enterReleasing b (s.post (.raise (evSyncFail b)))) :=
    (post_watches fun _ => Handoff.noConfusion).trans (enterReleasing_watches b _)
  unfold outletOutcomeTaken
  split
  · cases o with
    | confirmed => exact absurd rfl open'
    | refused => exact failed
    | notConfirmed => exact failed
  · exact .refl s

theorem energisedTaken_watches (b : Berth) (s : State) : Watches s (energisedTaken b s) := by
  unfold energisedTaken
  split
  · exact (modBerth_watches (by exact fun _ => .inl rfl)).trans (energisedTest_watches b _)
  · exact .refl s

/-! ### EVR -/

theorem recomputeHolds_watches (s : State) : Watches s (recomputeHolds s) := by
  refine .foldl (fun t c => ?_) allBerths s
  unfold recomputeHold
  dsimp only
  split
  · exact .refl t
  · have noted : ∀ v, Watches t (t.modEvr fun r => { r with holds := v }) := fun v => .of_frame (by rfl) (by rfl) (by rfl)
    exact (noted _).trans (modBerth_watches fun _ => .inl (syncTimer_state _ _))

theorem shedAction_watches (b : Berth) (s : State) : Watches s (shedAction b s) := .of_frame

theorem applyAction_watches (x : EventIx) (s : State) : Watches s (applyAction x s) := by
  unfold applyAction
  split
  · exact shedAction_watches _ s
  · exact tripBerth_watches _ _ s
  · split
    · exact .refl s
    · exact tripBerth_watches _ _ s
  · exact .foldl (fun t c => tripBerth_watches c _ t) allBerths s
  · exact blockModule_watches _ s
  · exact .refl s

theorem modEntry_watches (e : EventIx) (g : EventEntry → EventEntry) (s : State) : Watches s (s.modEntry e g) :=
  .of_frame (by rfl) (by rfl) (by rfl)

theorem raiseEntry_watches (e : EventIx) (s : State) : Watches s (raiseEntry e s) := by
  unfold raiseEntry
  split
  · exact modEntry_watches _ _ s
  dsimp only
  split
  · have noted : ∀ t : State, Watches t (recomputeHolds (giveNotes e t)) := fun t =>
      (Watches.of_frame).trans (recomputeHolds_watches _)
    exact (modEntry_watches _ _ s).trans ((noted _).trans (applyAction_watches e _))
  · exact modEntry_watches _ _ s

/-! ### Settling -/

/-- A hand-off that confirms no dead-bus close of an outlet. -/
theorem takeHandoff_watches {h : Handoff} (open' : ∀ c, h ≠ .outletOutcome c .confirmed) (s : State) :
    Watches s (takeHandoff h s) := by
  cases h with
  | raise x => exact raiseEntry_watches x s
  | summary c => exact summaryTaken_watches c s
  | firstFailure c => exact firstFailureTaken_watches c s
  | listEmpty c => exact listEmptyTaken_watches c s
  | outletResult c r => exact outletResultTaken_watches c r s
  | outletOutcome c o => exact outletOutcomeTaken_watches (fun is => open' c (by rw [is])) c s
  | contactorResult m r => exact contactorResult_watches m r s
  | contactorOutcome m c o => exact contactorOutcome_watches m c o s
  | energised c => exact energisedTaken_watches c s
  | pollSkipped m n => exact pollSkippedTaken_watches m n s
  | serveChannels => exact serveChannelsTaken_watches s

/-- R23 to R29: while what was handed over is taken, points keep their values, and no berth enters SHORE. -/
theorem drain_seen (none : ∀ c, .outletOutcome c .confirmed ∉ s.handoffs) (n : Nat) : Seen s (drain n s) := by
  induction n generalizing s with
  | zero => exact .refl s
  | succ n ih =>
    cases waiting : s.handoffs with
    | nil => rw [drain_nil _ waiting]; exact .refl s
    | cons h rest =>
      rw [waiting] at none
      have taken := takeHandoff_watches (fun c is => none c (is ▸ List.mem_cons_self)) { s with handoffs := rest }
      obtain ⟨hs, is, unconfirmed⟩ := taken.handed
      rw [drain_cons n waiting]
      have rested : Seen s { s with handoffs := rest } := { Seen.refl s with }
      refine (rested.trans taken.seen).trans (ih fun c mem => ?_)
      rw [is] at mem
      exact (List.mem_append.1 mem).elim (fun m => none c (List.mem_cons_of_mem _ m)) (unconfirmed c)

/-- A raise that waits is taken. -/
theorem drain_raises_first {e : EventIx} (none : ∀ c, .outletOutcome c .confirmed ∉ s.handoffs) {before after : List Handoff}
    (waiting : s.handoffs = before ++ .raise e :: after) {n : Nat} (fuel : before.length < n) :
    ((drain n s).event e).raw = true := by
  induction n generalizing s before after with
  | zero => exact absurd fuel (Nat.not_lt_zero _)
  | succ n ih =>
    cases before with
    | nil =>
      rw [drain_cons n waiting]
      exact ((drain_onward n _).raw e (raiseEntry_is_raw e _)).1
    | cons h before =>
      rw [waiting] at none
      have taken := takeHandoff_watches (fun c is => none c (is ▸ List.mem_cons_self))
        { s with handoffs := before ++ .raise e :: after }
      obtain ⟨hs, is, unconfirmed⟩ := taken.handed
      have waits : (takeHandoff h { s with handoffs := before ++ .raise e :: after }).handoffs =
          before ++ .raise e :: (after ++ hs) := by rw [is]; simp
      rw [drain_cons n waiting]
      refine ih (fun c mem => ?_) waits (by simpa using fuel)
      have mem' : _ ∈ _ ++ hs := is ▸ mem
      exact (List.mem_append.1 mem').elim (fun m => none c (List.mem_cons_of_mem _ m)) (unconfirmed c)

end
end Sys2Proof.Machine
end

section
namespace Sys2Proof.Machine

section
variable {s t u : State} {x : Scl} {hs : List Handoff} {b : Berth} {c : Chan} {q : Point}

/-! ### SYU does not read the band flags (R77 to R83) -/

/-- The state with another SCL and other hand-offs. -/
def reseen (x : Scl) (hs : List Handoff) (s : State) : State := { s with scl := x, handoffs := hs }

/-- `x` has the points of `s` but for their band flags. -/
def Alight (x : Scl) (s : State) : Prop :=
  ∀ o : Point, ∃ v f, x.points[o] = { s.scl.points[o] with vOut := v, fOut := f }

theorem sendControl_reseen (p : ControlPlace) (rest : List ControlPlace) (s : State) :
    sendControl p rest (reseen x hs s) = reseen x hs (sendControl p rest s) := by
  unfold sendControl
  cases p.frame <;> rfl

theorem beginNext_reseen (s : State) : beginNext (reseen x hs s) = reseen x hs (beginNext s) := by
  unfold beginNext
  dsimp only [reseen]
  split
  · rfl
  split
  · exact sendControl_reseen _ _ s
  split
  · rfl
  split
  · exact sendControl_reseen _ _ s
  split <;> rfl

theorem command_reseen (cmd : BreakerCmd) (k : Target) (s : State) :
    command cmd k (reseen x hs s) = reseen x hs (command cmd k s) := by
  have kicked : ∀ u : State, kick (reseen x hs u) = reseen x hs (kick u) := fun u => by
    unfold kick
    by_cases free : u.lpu.sending.isNone = true
    · rw [if_pos free, if_pos (by exact free), beginNext_reseen]
    · rw [if_neg free, if_neg (by exact free)]
  unfold command giveBcmd
  by_cases own : s.own.isNone = true
  · rw [if_pos own, if_pos (by exact own)]
  · rw [if_neg own, if_neg (by exact own)]
    exact kicked (s.modLpu _)

theorem handPair_reseen (k : Target) (f : Int) (v : Nat) (s : State) :
    handPair k f v (reseen x hs s) = reseen x hs (handPair k f v s) := by
  rw [handPair_eq, handPair_eq]
  rfl

theorem enterClosing_reseen (c : Chan) (s : State) : enterClosing c (reseen x hs s) = reseen x hs (enterClosing c s) := by
  unfold enterClosing
  cases taken : s.syu.chans[c] with
  | none => rw [show (reseen x hs s).syu.chans[c] = none from taken]
  | some w =>
    rw [show (reseen x hs s).syu.chans[c] = some w from taken]
    dsimp only
    rw [command_reseen]
    rfl

theorem judgeWatching_reseen (c : Chan) (e : Evaluation) (w : ChanWork) (s : State) :
    judgeWatching c e w (reseen x hs s) = reseen x hs (judgeWatching c e w s) := by
  unfold judgeWatching
  rw [show (reseen x hs s).pins = s.pins from rfl]
  split
  · rfl
  split
  · exact enterClosing_reseen c s
  · rfl

theorem Alight.point (a : Alight x s) (o : Point) :
    ∃ v f, (reseen x hs s).point o = { s.point o with vOut := v, fOut := f } := a o

theorem steer_reseen (a : Alight x s) (c : Chan) : steer c (reseen x hs s) = reseen x hs (steer c s) := by
  unfold steer
  cases taken : s.syu.chans[c] with
  | none => rw [show (reseen x hs s).syu.chans[c] = none from taken]
  | some w =>
    obtain ⟨v, f, is⟩ := a.point (hs := hs) w.req.refPoint
    rw [show (reseen x hs s).syu.chans[c] = some w from taken]
    dsimp only
    rw [is]
    exact handPair_reseen _ _ _ (s.modChan c _)

theorem evaluateChannel_reseen (a : Alight x s) (c : Chan) :
    evaluateChannel c (reseen x hs s) = reseen x hs (evaluateChannel c s) := by
  unfold evaluateChannel
  cases taken : s.syu.chans[c] with
  | none => rw [show (reseen x hs s).syu.chans[c] = none from taken]
  | some w =>
    obtain ⟨v, f, is⟩ := a.point (hs := hs) w.req.refPoint
    obtain ⟨v', f', is'⟩ := a.point (hs := hs) w.req.matchPoint
    have breaker : (reseen x hs s).breaker w.req.target = s.breaker w.req.target := rfl
    rw [show (reseen x hs s).syu.chans[c] = some w from taken]
    dsimp only
    rw [is, is', breaker]
    by_cases fresh : (s.point w.req.matchPoint).state = .fresh
    · rw [if_pos fresh, if_pos fresh]
      cases w.phase with
      | adjusting => rfl
      | watching => exact judgeWatching_reseen _ _ _ (s.modChan c _)
      | closing => rfl
      | backoff => rfl
    · rw [if_neg fresh, if_neg fresh]

theorem channelRecord_reseen (a : Alight x s) (q : Point) (c : Chan) :
    channelRecord q c (reseen x hs s) = reseen x hs (channelRecord q c s) := by
  have steered : Alight x (steer c s) := by
    unfold Alight
    rw [show (steer c s).scl = s.scl by simp]
    exact a
  unfold channelRecord
  cases taken : s.syu.chans[c] with
  | none => rw [show (reseen x hs s).syu.chans[c] = none from taken]
  | some w =>
    rw [show (reseen x hs s).syu.chans[c] = some w from taken]
    dsimp only
    split
    · rw [steer_reseen a, evaluateChannel_reseen steered]
    · rfl

/-- R77, R78: what SYU does with a record does not turn on the band flags. -/
theorem syuRecord_reseen (a : Alight x s) (q : Point) : syuRecord q (reseen x hs s) = reseen x hs (syuRecord q s) := by
  unfold syuRecord
  rw [channelRecord_reseen a, channelRecord_reseen]
  unfold Alight
  rw [(channelRecord_frame q 0 s).2.1]
  exact a

end
end Sys2Proof.Machine
end

section
namespace Sys2Proof.Machine

section
variable {s t u v : State} {x : MeasRecord} {hs : List Handoff} {b : Berth} {c : Chan} {q o : Point} {e : EventIx} {r : RevenueRecord}

/-! ### Raises that concern their entries alone (R159) -/

/-- The work hands over raises only, at most `n`. -/
def OnlyRaises (n : Nat) (s t : State) : Prop :=
  ∃ hs, t.handoffs = s.handoffs ++ hs ∧ hs.length ≤ n ∧ ∀ h ∈ hs, ∃ e, h = .raise e

theorem OnlyRaises.none (h : t.handoffs = s.handoffs) : OnlyRaises 0 s t := ⟨[], by simp [h], le_rfl, by simp⟩

theorem OnlyRaises.trans {n k : Nat} (h : OnlyRaises n s t) (g : OnlyRaises k t u) : OnlyRaises (n + k) s u := by
  obtain ⟨hs, is, bound, raises⟩ := h
  obtain ⟨gs, is', bound', raises'⟩ := g
  refine ⟨hs ++ gs, by rw [is', is, List.append_assoc], by rw [List.length_append]; omega, fun y hy => ?_⟩
  exact (List.mem_append.1 hy).elim (raises y) (raises' y)

theorem post_onlyRaises (e : EventIx) (s : State) : OnlyRaises 1 s (s.post (.raise e)) :=
  ⟨[.raise e], rfl, le_rfl, fun _ h => ⟨e, List.mem_singleton.1 h⟩⟩

/-- R159: where no raise leads further, taking raises changes latches only. -/
theorem drain_alone (alone : ∀ e, RaisesAlone e s) (raises : ∀ h ∈ s.handoffs, ∃ e, h = .raise e) {n : Nat}
    (fuel : s.handoffs.length ≤ n) : ∃ x, drain n s = { s with evr := x, handoffs := [] } := by
  induction n generalizing s with
  | zero =>
    have none : s.handoffs = [] := List.eq_nil_of_length_eq_zero (Nat.le_zero.1 fuel)
    refine ⟨s.evr, ?_⟩
    rw [← none]
    rfl
  | succ n ih =>
    cases waiting : s.handoffs with
    | nil =>
      rw [drain_nil _ waiting]
      exact ⟨s.evr, by rw [← waiting]⟩
    | cons h rest =>
      obtain ⟨e, rfl⟩ := raises h (by rw [waiting]; exact List.mem_cons_self)
      have taken : takeHandoff (.raise e) { s with handoffs := rest } = raised e { s with handoffs := rest } :=
        raiseEntry_alone (by exact alone e)
      have alone' : ∀ f, RaisesAlone f (raised e { s with handoffs := rest }) := fun f => by
        by_cases same : f = e
        · subst same
          have own : (raised f { s with handoffs := rest }).event f = EventEntry.raised s.clock (s.event f) :=
            upd_self _ _ _
          unfold RaisesAlone
          rw [own]
          exact (alone f).imp (fun raw => by rw [EventEntry.raised, if_pos raw]; exact raw) fun off => by
            unfold EventEntry.raised
            split <;> exact off
        · exact raisesAlone_raised same (by exact alone f)
      obtain ⟨x, is⟩ := ih (s := raised e { s with handoffs := rest }) alone'
        (fun y hy => raises y (by rw [waiting]; exact List.mem_cons_of_mem _ hy))
        (by rw [waiting] at fuel; exact Nat.le_of_succ_le_succ fuel)
      refine ⟨x, ?_⟩
      rw [drain_cons n waiting, taken, is]
      rfl

/-! ### What the Revenue Meter reads (R126 to R130) -/

/-- The same metering, billing and device time. -/
def Metered (s u : State) : Prop := u.mtr = s.mtr ∧ u.blg = s.blg ∧ u.now = s.now

theorem modMeter_metered (h : Metered s u) (b : Berth) (g : MeterRec → MeterRec) :
    Metered (s.modMeter b g) (u.modMeter b g) := by
  obtain ⟨mtr, blg, now⟩ := h
  refine ⟨?_, blg, now⟩
  rw [State.modMeter, State.modMeter, State.modMtr_mtr, State.modMtr_mtr, mtr]

theorem integrate_metered (h : Metered s u) (b : Berth) (inc : Int) : Metered (integrate b inc s) (integrate b inc u) := by
  obtain ⟨mtr, blg, now⟩ := h
  have slot : u.slot b = s.slot b := by unfold State.slot; rw [blg]
  have sums : importSum u b inc = importSum s b inc ∧ returnedSum u b inc = returnedSum s b inc := by
    unfold importSum returnedSum
    rw [mtr]
    exact ⟨rfl, rfl⟩
  obtain ⟨r, is⟩ | shut := slot_cases s b
  · have band : presentBand u r = presentBand s r := by unfold presentBand; rw [mtr, blg]
    rw [integrate_open is, integrate_open (slot.trans is), sums.1, sums.2, band]
    exact ⟨by simp only [mtr], by simp only [blg], now⟩
  · have shut' : u.sessionOpen b = false := by rw [State.sessionOpen, slot]; exact shut
    rw [integrate_shut shut, integrate_shut shut', sums.1, sums.2]
    exact ⟨by simp only [mtr], blg, now⟩

theorem addUnmetered_metered (h : Metered s u) (b : Berth) (us : Nat) : Metered (addUnmetered b us s) (addUnmetered b us u) := by
  obtain ⟨mtr, blg, now⟩ := h
  have slot : u.slot b = s.slot b := by unfold State.slot; rw [blg]
  rw [addUnmetered_eq (s := u) rfl, addUnmetered_eq (s := s) rfl, mtr]
  unfold unmeteredFrom
  rw [slot]
  cases s.slot b <;> exact ⟨by simp only [mtr], by simp only [blg], now⟩

theorem meterWork_metered (h : Metered s u) (b : Berth) (r : RevenueRecord) (c : MeterCase) :
    Metered (meterWork b r c s) (meterWork b r c u) := by
  obtain ⟨mtr, blg, now⟩ := id h
  cases c with
  | start => exact h
  | restart =>
    unfold meterWork
    dsimp only
    rw [mtr, now]
    cases s.mtr.recs[b].lastArrival with
    | none => exact modMeter_metered h b _
    | some a => exact modMeter_metered (addUnmetered_metered h b _) b _
  | backward => exact modMeter_metered h b _
  | gap dt => exact addUnmetered_metered (integrate_metered (modMeter_metered h b _) b _) b _
  | normal dt => exact integrate_metered h b _

theorem meterRecord_metered (h : Metered s u) (b : Berth) (r : RevenueRecord) :
    Metered (meterRecord b r s) (meterRecord b r u) := by
  unfold meterRecord
  rw [h.1, h.2.2]
  exact modMeter_metered (meterWork_metered h b r _) b _

theorem meterRecord_onlyRaises (b : Berth) (r : RevenueRecord) (s : State) : OnlyRaises 1 s (meterRecord b r s) := by
  have quiet : ∀ {t u : State}, t.handoffs = u.handoffs → OnlyRaises 1 u t := fun h => by
    obtain ⟨hs, is, bound, raises⟩ := OnlyRaises.none h
    exact ⟨hs, is, by omega, raises⟩
  have noted : ∀ (t : State) (g : MeterRec → MeterRec), OnlyRaises 1 s t → OnlyRaises 1 s (t.modMeter b g) :=
    fun t g h => h
  unfold meterRecord
  refine noted _ _ ?_
  cases meterCase s.mtr.recs[b].baseline s.mtr.gapLimit r with
  | start => exact quiet rfl
  | restart =>
    unfold meterWork
    dsimp only
    split <;> exact quiet (by simp)
  | backward => exact quiet rfl
  | gap dt => exact (OnlyRaises.none (by simp)).trans (post_onlyRaises _ _)
  | normal dt => exact quiet (by simp [meterWork])

end
end Sys2Proof.Machine
end

section
namespace Sys2Proof.Machine

section
variable {s t u v : State} {x : MeasRecord} {hs : List Handoff} {b : Berth} {c : Chan} {q o : Point} {e : EventIx}
  {en : StreamEntry} {n missed : Nat}

/-! ### The band checks of a record (R27, R28) -/

theorem pointSide_ship (h : pointSide q = some (b, .ship)) : q = shPoint b := by
  revert h
  revert q b
  decide

/-- What a band check of point `q` does: `v` and `f` are the flags, and `hs` the raises. -/
structure Checked (q : Point) (v f : Bool) (hs : List Handoff) (s t : State) : Prop where
  own : t.point q = { s.point q with vOut := v, fOut := f }
  others : ∀ o, o ≠ q → t.point o = s.point o
  tables : t.scl.streams = s.scl.streams ∧ t.scl.gains = s.scl.gains ∧ t.scl.unmatched = s.scl.unmatched
  stale : ∀ c side, staleCond t c side = staleCond s c side
  handed : t.handoffs = s.handoffs ++ hs

/-- The raises of a band check. -/
def bandRaises (v f : Bool) (ev ef : EventIx) : List Handoff :=
  (if v then [.raise ev] else []) ++ if f then [.raise ef] else []

theorem bandCheck_checked (q : Point) (v f : Bool) (ev ef : EventIx) (s : State) :
    Checked q v f (bandRaises v f ev ef) s (bandCheck q v f ev ef s) := by
  have set : (bandCheck q v f ev ef s).scl = (s.modPoint q fun r => { r with vOut := v, fOut := f }).scl := by
    unfold bandCheck
    cases v <;> cases f <;> rfl
  have point : ∀ o, (bandCheck q v f ev ef s).point o = (s.modPoint q fun r => { r with vOut := v, fOut := f }).point o :=
    fun o => by rw [State.point, set]; rfl
  refine ⟨(point q).trans (point_modPoint q _ s), fun o other => (point o).trans (point_modPoint_other (Ne.symm other) _ s),
    by rw [set]; exact ⟨rfl, rfl, rfl⟩, fun c side => ?_, ?_⟩
  · cases side <;> simp only [staleCond, set] <;> rfl
  · unfold bandCheck bandRaises
    cases v <;> cases f <;> simp

/-- R28: the grid point. -/
theorem bandChecks_grid (s : State) :
    let g := s.scl.grid
    let r := s.point gridPoint
    Checked gridPoint (voltageOutside r.voltage g.nominalV g.vBand) (freqOutside r.freq g.nominalF g.fBand)
      (bandRaises (voltageOutside r.voltage g.nominalV g.vBand) (freqOutside r.freq g.nominalF g.fBand)
        evGridVoltageBand evGridFreqBand) s (bandChecks gridPoint s) := by
  unfold bandChecks
  dsimp only
  rw [if_pos rfl]
  exact bandCheck_checked _ _ _ _ _ s

theorem shPoint_ne_grid (b : Berth) : shPoint b ≠ gridPoint := by
  revert b
  decide

/-- R27: the ship bus of a berth in SHORE. -/
theorem bandChecks_shore (shore : (s.berth b).state = .shore) :
    let k := s.entry b
    let r := s.point (shPoint b)
    Checked (shPoint b) (voltageOutside r.voltage k.nominalV k.vBand) (freqOutside r.freq k.nominalF k.fBand)
      (bandRaises (voltageOutside r.voltage k.nominalV k.vBand) (freqOutside r.freq k.nominalF k.fBand)
        (evVoltageBand b) (evFreqBand b)) s (bandChecks (shPoint b) s) := by
  have notGrid : shPoint b ≠ gridPoint := shPoint_ne_grid b
  unfold bandChecks
  dsimp only
  rw [if_neg notGrid, pointSide_shPoint]
  dsimp only
  rw [if_pos shore]
  exact bandCheck_checked _ _ _ _ _ s

theorem bandChecks_other (notGrid : q ≠ gridPoint) (h : ∀ b, q ≠ shPoint b ∨ (s.berth b).state ≠ .shore) :
    bandChecks q s = s := by
  unfold bandChecks
  dsimp only
  rw [if_neg notGrid]
  split
  next b is => exact if_neg ((h b).resolve_left (not_not.2 (pointSide_ship is)))
  · rfl

/-- Whatever the point, a band check sets its flags and raises. -/
theorem bandChecks_checked (q : Point) (s : State) : ∃ v f hs, Checked q v f hs s (bandChecks q s) ∧ hs.length ≤ 2 ∧
    ∀ h ∈ hs, ∃ e, h = .raise e := by
  have raises : ∀ v f ev ef, (bandRaises v f ev ef).length ≤ 2 ∧ ∀ h ∈ bandRaises v f ev ef, ∃ e, h = .raise e := by
    intro v f ev ef
    cases v <;> cases f <;> simp [bandRaises]
  by_cases grid : q = gridPoint
  · subst grid
    exact ⟨_, _, _, bandChecks_grid s, raises _ _ _ _⟩
  by_cases shore : ∃ b, q = shPoint b ∧ (s.berth b).state = .shore
  · obtain ⟨b, rfl, shore⟩ := shore
    exact ⟨_, _, _, bandChecks_shore shore, raises _ _ _ _⟩
  · have same := bandChecks_other grid fun b => by
      by_contra both
      rw [not_or, not_not, not_not] at both
      exact shore ⟨b, both⟩
    rw [same]
    exact ⟨(s.point q).vOut, (s.point q).fOut, [], ⟨rfl, fun _ _ => rfl, ⟨rfl, rfl, rfl⟩, fun _ _ => rfl, by simp⟩,
      by simp, by simp⟩

/-! ### A valid record (R23) -/

/-- An accepted valid record enters its point, whose staleness condition ends. -/
def recorded (q : Point) (x : MeasRecord) (missed : Nat) (s : State) : State :=
  staleEnds q ((s.modPoint q (acceptSeq x.seq missed)).modPoint q (storeValues x s.scl.gains[q] s.now))

theorem staleEnds_scl (q : Point) (s : State) : staleEnds q s = { s with scl := (staleEnds q s).scl } := by
  unfold staleEnds
  split
  · rfl
  next b side _ => cases side <;> rfl

theorem staleEnds_point (q : Point) (s : State) (o : Point) : (staleEnds q s).point o = s.point o := by
  unfold staleEnds
  split
  · rfl
  · exact setStaleCond_point _ _ _ s o

theorem staleEnds_tables (q : Point) (s : State) : (staleEnds q s).scl.streams = s.scl.streams ∧
    (staleEnds q s).scl.gains = s.scl.gains ∧ (staleEnds q s).scl.unmatched = s.scl.unmatched ∧
    (staleEnds q s).scl.grid = s.scl.grid := by
  unfold staleEnds
  split
  · exact ⟨rfl, rfl, rfl, rfl⟩
  next b side _ => cases side <;> exact ⟨rfl, rfl, rfl, rfl⟩

theorem staleEnds_ends {side : Side} (is : pointSide q = some (b, side)) (s : State) : staleCond (staleEnds q s) b side = none := by
  unfold staleEnds
  rw [is]
  dsimp only
  rw [setStaleCond_get]
  exact if_pos ⟨rfl, rfl⟩

theorem recorded_scl (q : Point) (x : MeasRecord) (missed : Nat) (s : State) :
    recorded q x missed s = { s with scl := (recorded q x missed s).scl } := by
  unfold recorded
  rw [staleEnds_scl]
  rfl

theorem recorded_own (q : Point) (x : MeasRecord) (missed : Nat) (s : State) :
    (recorded q x missed s).point q = storeValues x s.scl.gains[q] s.now (acceptSeq x.seq missed (s.point q)) := by
  rw [recorded, staleEnds_point, point_modPoint, point_modPoint]

theorem recorded_other (other : o ≠ q) : (recorded q x missed s).point o = s.point o := by
  rw [recorded, staleEnds_point, point_modPoint_other (Ne.symm other), point_modPoint_other (Ne.symm other)]

theorem recorded_tables (q : Point) (x : MeasRecord) (missed : Nat) (s : State) :
    (recorded q x missed s).scl.streams = s.scl.streams ∧ (recorded q x missed s).scl.gains = s.scl.gains ∧
    (recorded q x missed s).scl.unmatched = s.scl.unmatched ∧ (recorded q x missed s).scl.grid = s.scl.grid :=
  staleEnds_tables q _

/-- SYU and MTR have taken a record. -/
def handedOn (q : Point) (en : StreamEntry) (x : MeasRecord) (missed : Nat) (s : State) : State :=
  meterHandOff q en.interval ((s.point q).state = .stale) (syuRecord q (recorded q x missed s))

theorem validRecord_eq (q : Point) (en : StreamEntry) (x : MeasRecord) (missed : Nat) (s : State) :
    validRecord q en x (s.modPoint q (acceptSeq x.seq missed)) = bandChecks q (handedOn q en x missed s) := by
  have stale : ((s.modPoint q (acceptSeq x.seq missed)).point q).state = (s.point q).state := by
    rw [point_modPoint]
    rfl
  unfold validRecord
  dsimp only
  rw [stale]
  rfl

theorem handedOn_frame (q : Point) (en : StreamEntry) (x : MeasRecord) (missed : Nat) (s : State) :
    (handedOn q en x missed s).scl = (recorded q x missed s).scl ∧ (handedOn q en x missed s).bsq = s.bsq ∧
    (handedOn q en x missed s).evr = s.evr ∧ (handedOn q en x missed s).mlk = s.mlk ∧
    (handedOn q en x missed s).mgu = s.mgu ∧ (handedOn q en x missed s).pins = s.pins ∧
    (handedOn q en x missed s).now = s.now := by
  simp [handedOn, recorded]

theorem handedOn_onlyRaises (q : Point) (en : StreamEntry) (x : MeasRecord) (missed : Nat) (s : State) :
    OnlyRaises 1 s (handedOn q en x missed s) := by
  have first : (syuRecord q (recorded q x missed s)).handoffs = s.handoffs := by
    rw [(syuRecord_frame _ _).2.2.2.2.2.2.2.2.2.1, recorded_scl]
  have meter : OnlyRaises 1 (syuRecord q (recorded q x missed s)) (handedOn q en x missed s) := by
    unfold handedOn meterHandOff
    split
    · exact meterRecord_onlyRaises _ _ _
    · exact ⟨[], by simp, by simp, by simp⟩
  obtain ⟨hs, is, rest⟩ := meter
  exact ⟨hs, by rw [is, first], rest⟩

end
end Sys2Proof.Machine
end

section
open Sys2Proof Sys2Proof.Machine

/-- Settles O30: the record's own changes are written out; what its raises lead to leaves the points but for band flags
that are cleared as a berth leaves SHORE, and where no raise leads further it changes latches only. -/
theorem validRecord : Obligations.ValidRecord := by
  unfold Obligations.ValidRecord
  intro src p s en q reached length count x matched point valid sequence
  obtain ⟨missed, accepts, missedIs⟩ : ∃ m, seqCheck (s.point q).lastSeq x.seq = .accept m ∧
      m = (match (s.point q).lastSeq with
        | none => 0
        | some l => (x.seq + 65536 - l) % 65536 - 1) := by
    obtain none | ⟨l, last, -, near, far⟩ := sequence
    · exact ⟨0, by rw [none]; rfl, by rw [none]⟩
    · exact ⟨_, by rw [last]; exact seqCheck_accepts near far, by rw [last]⟩
  let w : State := { s with handoffs := [] }
  have taken : measTaken src.toNat p w = bandChecks q (handedOn q en x missed w) := by
    rw [measTaken_one count, takeRecord_matched (s := w) matched point, matchedRecord_accepted (s := w) accepts, if_pos valid,
      validRecord_eq]
  have run : exec (.measFrame src p) s = .next (settle (bandChecks q (handedOn q en x missed w))) := by
    rw [← taken]
    exact measFrame_formed (s := w) rfl reached (hears_of_match matched) (by omega)
  obtain ⟨scl, bsq, evr, mlk, mgu, pins, now⟩ := handedOn_frame q en x missed w
  obtain ⟨hs, handed, few, raises⟩ := handedOn_onlyRaises q en x missed w
  generalize on : handedOn q en x missed w = u at run scl bsq evr mlk mgu pins now handed
  obtain ⟨v, f, gs, checked, few', raises'⟩ := bandChecks_checked q u
  have waits : (bandChecks q u).handoffs = hs ++ gs := by rw [checked.handed, handed]; rfl
  have onlyRaises : ∀ h ∈ hs ++ gs, ∃ e, h = .raise e := fun h mem => (List.mem_append.1 mem).elim (raises h) (raises' h)
  have unconfirmed : ∀ c, .outletOutcome c .confirmed ∉ (bandChecks q u).handoffs := fun c mem => by
    rw [waits] at mem
    obtain ⟨e, is⟩ := onlyRaises _ mem
    exact nomatch is
  have seen : Seen (bandChecks q u) (settle (bandChecks q u)) := { drain_seen unconfirmed Config.settleFuel with }
  have pointU : ∀ o, u.point o = (recorded q x missed w).point o := fun o => by rw [State.point, scl]; rfl
  have own : u.point q = storeValues x s.scl.gains[q] s.now (acceptSeq x.seq missed (s.point q)) :=
    (pointU q).trans (recorded_own q x missed w)
  have other : ∀ o, o ≠ q → u.point o = s.point o := fun o is => (pointU o).trans (recorded_other is)
  have settles : (∀ e, RaisesAlone e s) → ∃ y, settle (bandChecks q u) = { bandChecks q u with evr := y, handoffs := [] } :=
    fun alone => by
      have same : (bandChecks q u).evr = s.evr := (bandChecks_frame q u).2.2.2.2.2.2.2.2.1.trans evr
      obtain ⟨y, is⟩ := drain_alone (s := bandChecks q u) (n := Config.settleFuel)
        (fun e => by rw [RaisesAlone, State.event, same]; exact alone e) (by rw [waits]; exact onlyRaises)
        (by rw [waits, List.length_append]; simp only [Config.settleFuel]; omega)
      exact ⟨y, by rw [settle, is]; rfl⟩
  have berth : ∀ c, u.berth c = s.berth c := fun c => by rw [State.berth, bsq]; rfl
  refine ⟨_, run, ?_, fun o is => ?_, fun grid => ?_, fun notGrid notShore => ?_, fun b isSh shore => ?_, fun alone => ?_,
    fun b => ⟨fun is => ?_, fun is => ?_⟩, ?_⟩
  · obtain is | ⟨-, is⟩ := seen.points q
    all_goals
      rw [is, checked.own, own, missedIs]
      rfl
  · obtain same | ⟨-, same⟩ := seen.points o
    · rw [same, checked.others o is, other o is]
    · rw [same, checked.others o is, other o is]
  · subst grid
    have stands : (settle (bandChecks gridPoint u)).point gridPoint = (bandChecks gridPoint u).point gridPoint :=
      (seen.points gridPoint).resolve_right fun ⟨⟨c, is, _⟩, _⟩ => shPoint_ne_grid c is.symm
    have grid : u.scl.grid = s.scl.grid := by rw [scl]; exact (recorded_tables gridPoint x missed w).2.2.2
    rw [stands, (bandChecks_grid u).own, own, grid]
    exact ⟨decide_eq_true_iff, decide_eq_true_iff⟩
  · have stands : (settle (bandChecks q u)).point q = (bandChecks q u).point q := by
      refine (seen.points q).resolve_right fun ⟨⟨c, is, shore⟩, _⟩ => ?_
      rw [State.berth, (bandChecks_frame q u).2.2.2.2.2.1, ← State.berth, berth] at shore
      exact (notShore c).elim (absurd is) (absurd shore)
    rw [stands, bandChecks_other notGrid fun b => by rw [berth]; exact notShore b, own]
    exact ⟨rfl, rfl⟩
  · subst isSh
    have check := bandChecks_shore (s := u) (b := b) (by rw [berth]; exact shore)
    have entry : u.entry b = s.entry b := by rw [State.entry, bsq]; rfl
    rw [entry, own] at check
    intro vBad fBad
    have raised : ∀ (before after : List Handoff) (e : EventIx), (bandChecks (shPoint b) u).handoffs = before ++ .raise e :: after →
        before.length ≤ 2 → ((settle (bandChecks (shPoint b) u)).event e).raw = true := fun before after e is few =>
      drain_raises_first unconfirmed is (by simp only [Config.settleFuel]; omega)
    have waiting : (bandChecks (shPoint b) u).handoffs = hs ++
        ((if voltageOutside x.voltage (s.entry b).nominalV (s.entry b).vBand then [.raise (evVoltageBand b)] else []) ++
          if freqOutside x.freq (s.entry b).nominalF (s.entry b).fBand then [.raise (evFreqBand b)] else []) :=
      check.handed.trans (by rw [handed]; rfl)
    refine ⟨fun bad => ?_, fun bad => ?_, fun alone => ?_⟩
    · rw [if_pos (show voltageOutside x.voltage (s.entry b).nominalV (s.entry b).vBand = true from decide_eq_true bad)] at waiting
      exact raised hs _ _ waiting (by omega)
    · rw [if_pos (show freqOutside x.freq (s.entry b).nominalF (s.entry b).fBand = true from decide_eq_true bad),
        ← List.append_assoc] at waiting
      refine raised _ [] _ waiting ?_
      rw [List.length_append]
      split <;> simp only [List.length_cons, List.length_nil] <;> omega
    · obtain ⟨y, is⟩ := settles alone
      have stands : (settle (bandChecks (shPoint b) u)).point (shPoint b) = (bandChecks (shPoint b) u).point (shPoint b) := by
        rw [is]; rfl
      rw [stands, check.own]
      exact ⟨decide_eq_true_iff, decide_eq_true_iff⟩
  · obtain ⟨y, is⟩ := settles alone
    have sclT : (settle (bandChecks q u)).scl = (bandChecks q u).scl := by rw [is]
    have alight : Alight (bandChecks q u).scl (recorded q x missed w) := fun o => by
      by_cases at' : o = q
      · subst at'
        exact ⟨v, f, by rw [← State.point, ← State.point, ← pointU]; exact checked.own⟩
      · exact ⟨_, _, (checked.others o at').trans (pointU o)⟩
    have taken' := syuRecord_reseen (hs := s.handoffs) alight q
    have before : reseen (bandChecks q u).scl s.handoffs (recorded q x missed w) = { s with scl := (bandChecks q u).scl } := by
      rw [recorded_scl]
      rfl
    rw [before] at taken'
    intro t'
    have is' : t' = reseen (bandChecks q u).scl s.handoffs (syuRecord q (recorded q x missed w)) := by
      show syuRecord q { s with scl := (settle (bandChecks q u)).scl } = _
      rw [sclT]
      exact taken'
    refine ⟨fun o at' => ?_, ?_, ?_, ?_, ?_, fun notSh => ?_, fun b isSh => ?_⟩
    · rw [State.point, sclT]
      exact (checked.others o at').trans (other o at')
    · rw [is, is']
      simp [← on, handedOn, reseen]
    · rw [is, is']
      simp [← on, handedOn, reseen]
    · rw [is, is']
      simp [← on, handedOn, reseen]
    · rw [is]
      exact ((bandChecks_frame q u).2.2.2.2.2.1).trans bsq
    · have idle : u = syuRecord q (recorded q x missed w) := by
        rw [← on, handedOn, meterHandOff]
        split
        next b' side => exact absurd (pointSide_ship side) (notSh b')
        · rfl
      have only := recorded_scl q x missed w
      rw [is]
      dsimp only
      rw [(bandChecks_frame q u).2.2.2.2.2.2.1, (bandChecks_frame q u).2.2.2.2.2.2.2.1, idle, (syuRecord_frame _ _).2.2.2.1,
        (syuRecord_frame _ _).2.2.2.2.1, only]
      exact ⟨rfl, rfl⟩
    · subst isSh
      have only := recorded_scl (shPoint b) x missed w
      have metered : Metered s (syuRecord (shPoint b) (recorded (shPoint b) x missed w)) := by
        refine ⟨?_, ?_, ?_⟩
        · rw [(syuRecord_frame _ _).2.2.2.1, only]
        · rw [(syuRecord_frame _ _).2.2.2.2.1, only]
        · rw [(syuRecord_frame _ _).2.2.2.2.2.2.2.2.1, only]
      have at' : (syuRecord (shPoint b) (recorded (shPoint b) x missed w)).point (shPoint b) =
          storeValues x s.scl.gains[shPoint b] s.now (acceptSeq x.seq missed (s.point (shPoint b))) := by
        rw [State.point, (syuRecord_frame _ _).2.1]
        exact recorded_own _ x missed w
      have read : u = meterRecord b ⟨roundHalfAway (x.p * s.scl.gains[shPoint b]) 65536, x.timestamp, en.interval,
          (s.point (shPoint b)).state = .stale⟩ (syuRecord (shPoint b) (recorded (shPoint b) x missed w)) := by
        rw [← on, handedOn, meterHandOff, pointSide_shPoint]
        dsimp only
        rw [at']
        rfl
      obtain ⟨mtr, blg, -⟩ := meterRecord_metered metered b ⟨roundHalfAway (x.p * s.scl.gains[shPoint b]) 65536, x.timestamp,
        en.interval, (s.point (shPoint b)).state = .stale⟩
      rw [← read] at mtr blg
      intro v'
      rw [is]
      exact ⟨(bandChecks_frame _ u).2.2.2.2.2.2.1.trans mtr, (bandChecks_frame _ u).2.2.2.2.2.2.2.1.trans blg⟩
  · subst is
    refine seen.stale b .ship ?_ ?_
    · rw [show sidePoint b .ship = shPoint b from rfl, checked.own, own]
      exact Freshness.noConfusion
    · rw [checked.stale, staleCond, scl]
      exact staleEnds_ends (pointSide_shPoint b) _
  · subst is
    refine seen.stale b .converter ?_ ?_
    · rw [show sidePoint b .converter = cbPoint b from rfl, checked.own, own]
      exact Freshness.noConfusion
    · rw [checked.stale, staleCond, scl]
      exact staleEnds_ends (pointSide_cbPoint b) _
  · obtain ⟨streams, gains, unmatched⟩ := seen.tables
    obtain ⟨streams', gains', unmatched'⟩ := checked.tables
    obtain ⟨streams'', gains'', unmatched'', -⟩ := recorded_tables q x missed w
    rw [streams, gains, unmatched, streams', gains', unmatched', scl]
    simp only [settle_frame, bandChecks_frame]
    exact ⟨streams'', gains'', unmatched'', mlk, mgu, pins, now⟩

end

section
namespace Sys2Proof.Machine

/-! ### Banks as a write addresses them (R177) -/

section
variable {α : Type} {n first k : Nat}

theorem addressedOf_get (j : Nat) : (addressedOf (List.finRange n) first k)[j]? =
    if j < k then (List.finRange n)[first + j]? else none := by
  rw [addressedOf, List.getElem?_take]
  split
  · rw [List.getElem?_drop]
  · rfl

theorem finRange_get {j : Nat} {i : Fin n} : (List.finRange n)[j]? = some i ↔ j = i.val := by
  rw [List.getElem?_eq_some_iff]
  constructor
  · rintro ⟨h, rfl⟩
    simp
  · rintro rfl
    exact ⟨by simp, by simp⟩

theorem mem_addressedOf (i : Fin n) : i ∈ addressedOf (List.finRange n) first k ↔ addressedBy first k i := by
  rw [List.mem_iff_getElem?]
  constructor
  · rintro ⟨j, is⟩
    rw [addressedOf_get] at is
    split at is
    next low => exact ⟨by rw [finRange_get] at is; omega, by rw [finRange_get] at is; omega⟩
    next => exact nomatch is
  · rintro ⟨low, high⟩
    refine ⟨i.val - first, ?_⟩
    rw [addressedOf_get, if_pos (by omega), finRange_get]
    omega

theorem addressedOf_nodup : (addressedOf (List.finRange n) first k).Nodup :=
  ((List.take_sublist _ _).trans (List.drop_sublist _ _)).nodup (List.nodup_finRange n)

/-- The instances a write addresses, each with its entry. -/
theorem mem_zip_addressedOf {es : List α} {x : Fin n × α} :
    x ∈ (addressedOf (List.finRange n) first es.length).zip es ↔ first ≤ x.1.val ∧ es[x.1.val - first]? = some x.2 := by
  rw [List.mem_iff_getElem?]
  simp only [List.getElem?_zip_eq_some, addressedOf_get]
  constructor
  · rintro ⟨j, is, entry⟩
    split at is
    next low =>
      rw [finRange_get] at is
      have same : x.1.val - first = j := by omega
      exact ⟨by omega, same ▸ entry⟩
    next => exact nomatch is
  · rintro ⟨low, entry⟩
    obtain ⟨inside, -⟩ := List.getElem?_eq_some_iff.1 entry
    exact ⟨_, by rw [if_pos inside, finRange_get]; omega, entry⟩

/-- Changes of distinct elements of a bank, one after another. -/
theorem foldl_upd (f : Fin n → α → α) {xs : List (Fin n)} (apart : xs.Nodup) (v : Vector α n) (i : Fin n) :
    (xs.foldl (fun v j => upd v j (f j)) v)[i] = if i ∈ xs then f i v[i] else v[i] := by
  induction xs generalizing v with
  | nil => simp
  | cons j xs ih =>
    obtain ⟨out, apart'⟩ := List.nodup_cons.1 apart
    rw [List.foldl_cons, ih apart']
    by_cases same : j = i
    · subst same
      have here : (upd v j (f j))[j] = f j v[j] := upd_self v j _
      rw [if_neg out, here, if_pos (List.mem_cons_self ..)]
    · have other : (upd v j (f j))[i] = v[i] := upd_other v _ same
      simp only [other, List.mem_cons, Ne.symm same, false_or]

/-- Changes of the addressed elements that would leave every other element as it is. -/
theorem foldl_upd_all (f : Fin n → α → α) {xs : List (Fin n)} (apart : xs.Nodup) (v : Vector α n)
    (still : ∀ i, i ∉ xs → f i v[i] = v[i]) :
    xs.foldl (fun v j => upd v j (f j)) v = Vector.ofFn fun i => f i v[i] := by
  ext i hi
  have at_i := foldl_upd f apart v ⟨i, hi⟩
  rw [Vector.getElem_ofFn]
  refine Eq.trans at_i ?_
  split
  · rfl
  next out => exact (still _ out).symm

/-- R177: an element the write does not address stays. -/
theorem written_other (v : Vector α n) (xs : List α) {i : Fin n} (h : ¬ addressedBy first xs.length i) :
    (written v first xs)[i] = v[i] := by
  rw [addressedBy] at h
  simp only [written, Fin.getElem_fin, Vector.getElem_ofFn]
  split
  next low => rw [List.getElem?_eq_none (by omega)]; rfl
  · rfl

end

theorem allBerths_eq : allBerths = List.finRange 4 := by decide
theorem allModules_eq : allModules = List.finRange 8 := by decide
theorem allTargets_eq : allTargets = List.finRange 12 := by decide

theorem flagOk_flag (b : Bool) : flagOk (flagField b).2 = true := by cases b <;> rfl

theorem within_iff {lo hi n : Nat} : within lo hi n = true ↔ lo ≤ n ∧ n ≤ hi := by simp [within]

theorem peerNode_iff {s : State} {n : Nat} : peerNode s n = true ↔ 1 ≤ n ∧ n ≤ 62 ∧ s.own ≠ some n := by
  simp [peerNode, within, and_assoc]

end Sys2Proof.Machine
end

section
namespace Sys2Proof.Machine

/-! ### The berth table (R95, R177) -/

section
variable {s : State} {src : Byte} {first : Nat} {old new : Berth → BerthEntry}

/-- The fields of a berth entry as carried. -/
def berthCarried (e : BerthEntry) : List (Nat × Nat) :=
  [flagField e.configured, (2, e.nominalF), (2, e.nominalV), (2, e.contract), (1, e.gateway), (2, e.rampRate),
    (2, e.holdLimit), (2, e.rampTimeout), (2, e.genWait), (2, e.openThreshold), (1, e.overloadTime), (1, e.vBand),
    (2, e.fBand), (1, e.replacement)]

/-- The numbers of a berth entry as carried. -/
def berthNums (e : BerthEntry) : List Nat := (berthCarried e).map Prod.snd

theorem toBerthEntry_nums (e : BerthEntry) : toBerthEntry (berthNums e) = e := by
  simp [toBerthEntry, berthNums, berthCarried, fldFlag_flagField, fld]

/-- R15: every field of the entry fits its width. -/
def BerthFits (e : BerthEntry) : Prop :=
  (e.nominalF < 65536 ∧ e.nominalV < 65536 ∧ e.contract < 65536 ∧ e.gateway < 256 ∧
    e.rampRate < 65536 ∧ e.holdLimit < 65536 ∧ e.rampTimeout < 65536) ∧ e.genWait < 65536 ∧
    e.openThreshold < 65536 ∧ e.overloadTime < 256 ∧ e.vBand < 256 ∧ e.fBand < 65536 ∧ e.replacement < 256

theorem takeEntry_berth {e : BerthEntry} (fits : BerthFits e) (rest : List Byte) :
    takeEntry Table.berths.form (encBerthEntry e ++ rest) = some (berthNums e, rest) := by
  have bytes : encBerthEntry e = fieldBytes (berthCarried e) := by
    simp [berthCarried, encBerthEntry, encFlag, flagField, fieldBytes]
  obtain ⟨⟨nominalF, nominalV, contract, gateway, rate, hold, timeout⟩, wait, threshold, overload, vBand, fBand,
    replacement⟩ := fits
  refine bytes ▸ takeEntry_fields (berthCarried e) ?_ rest
  simp only [berthCarried, List.forall_mem_cons]
  exact ⟨flag_fits _, nominalF, nominalV, contract, gateway, rate, hold, timeout, wait, threshold, overload, vBand, fBand,
    replacement, nofun⟩

/-- R95: a configured entry in range. -/
def BerthInRange (s : State) (e : BerthEntry) : Prop :=
  ((e.nominalF = 50000 ∨ e.nominalF = 60000) ∧ 440 ≤ e.nominalV ∧ e.nominalV ≤ 15000 ∧ 100 ≤ e.contract ∧
    e.contract ≤ 16000 ∧ 1 ≤ e.gateway ∧ e.gateway ≤ 62 ∧ s.own ≠ some e.gateway ∧ 50 ≤ e.rampRate ∧
    e.rampRate ≤ 5000 ∧ 50 ∣ e.rampRate) ∧ 10 ≤ e.holdLimit ∧ e.holdLimit ≤ 3600 ∧ 30 ≤ e.rampTimeout ∧
    e.rampTimeout ≤ 1800 ∧ 30 ≤ e.genWait ∧ e.genWait ≤ 1800 ∧ 10 ≤ e.openThreshold ∧
    e.openThreshold ≤ 1000 ∧ 1 ≤ e.overloadTime ∧ e.overloadTime ≤ 60 ∧ 10 ≤ e.vBand ∧ e.vBand ≤ 200 ∧
    50 ≤ e.fBand ∧ e.fBand ≤ 3000 ∧ e.replacement ≤ 1

theorem berthFieldsOk_iff (e : BerthEntry) : berthFieldsOk s e = true ↔ BerthInRange s e := by
  simp only [berthFieldsOk, Bool.and_eq_true, within_iff, peerNode_iff, nominalOk, Bool.or_eq_true, decide_eq_true_eq,
    flagOk, BerthInRange, Nat.dvd_iff_mod_eq_zero, and_assoc]

theorem berthOk_nums (e : BerthEntry) : berthOk s (berthNums e) = true ↔ (e.configured = true → BerthInRange s e) := by
  have flag : flagOk (fld (berthNums e) 0) = true := flagOk_flag e.configured
  have is : fldFlag (berthNums e) 0 = e.configured := fldFlag_flagField ..
  rw [berthOk, flag, is, toBerthEntry_nums, Bool.true_and, ← berthFieldsOk_iff]
  cases e.configured <;> simp

theorem berths_ok (es : List BerthEntry) : writeValuesOk s .berths first (es.map berthNums) = true ↔
    (∀ e ∈ es, e.configured = true → BerthInRange s e) ∧
      (((written s.bsq.table first es).toList.filter fun e => e.configured).map fun e => e.gateway).Nodup := by
  have back : (es.map berthNums).map toBerthEntry = es := by simp [Function.comp_def, toBerthEntry_nums]
  rw [writeValuesOk, back, putAll_written, Bool.and_eq_true, List.all_map, List.all_eq_true, berthsOk, decide_eq_true_eq]
  exact and_congr (forall₂_congr fun e _ => berthOk_nums e) Iff.rfl

theorem writeInUse_berths (es : List (List Nat)) : writeInUse s .berths first es = true ↔
    ∃ b : Berth, addressedBy first es.length b ∧ (s.berth b).state ∉ [.unused, .dead] := by
  rw [writeInUse, allBerths_eq, List.any_eq_true]
  refine exists_congr fun b => and_congr (mem_addressedOf b) ?_
  simp

/-- R95: the state a write gives a berth. -/
def berthStateAfter (old new : BerthEntry) (r : BerthRec) : BerthRec :=
  { r with state := if old.configured = new.configured then r.state else if new.configured then .dead else .unused }

/-- R95: the ship record a write leaves a berth. -/
def shipAfter (old new : BerthEntry) (r : Option ShipRec) : Option ShipRec :=
  if old.configured ∧ (new.configured = false ∨ new.gateway ≠ old.gateway) then none else r

/-- R95: a berth that is out of use changes state with no effect elsewhere. -/
theorem changeState_unused {b : Berth} {st : BerthState} (h : (s.berth b).state ∈ [.unused, .dead])
    (idle : st = .dead ∨ st = .unused) : changeState b st s = s.modBerth b fun r => { r with state := st } := by
  have unwatched : (s.berth b).state.watched = false ∧ st.watched = false ∧ (s.berth b).state ≠ .shore ∧
      (s.berth b).state ≠ .syncing := by
    obtain h | h : (s.berth b).state = .unused ∨ (s.berth b).state = .dead := by simpa using h
    · obtain rfl | rfl := idle <;> simp [h, BerthState.watched]
    · obtain rfl | rfl := idle <;> simp [h, BerthState.watched]
  obtain ⟨before, after, notShore, notSyncing⟩ := unwatched
  simp [changeState, watchChange, before, after, notShore, notSyncing]

theorem berthWritten_eq {b : Berth} (old new : BerthEntry) (h : (s.berth b).state ∈ [.unused, .dead]) :
    berthWritten old new b s = { s with bsq := { s.bsq with
      recs := upd s.bsq.recs b (berthStateAfter old new)
      ships := upd s.bsq.ships b (shipAfter old new) } } := by
  have ship : (if old.configured && (!new.configured || old.gateway ≠ new.gateway) then s.setShip b none else s) =
      { s with bsq := { s.bsq with ships := upd s.bsq.ships b (shipAfter old new) } } := by
    have same : (old.configured && (!new.configured || old.gateway ≠ new.gateway)) = true ↔
        old.configured ∧ (new.configured = false ∨ new.gateway ≠ old.gateway) := by
      rw [ne_comm (a := new.gateway)]
      simp
    unfold shipAfter
    by_cases ends : old.configured ∧ (new.configured = false ∨ new.gateway ≠ old.gateway)
    · rw [if_pos (same.2 ends)]
      simp only [if_pos ends]
      rfl
    · rw [if_neg (mt same.1 ends)]
      simp only [if_neg ends]
      rw [upd_same_at rfl]
  have state : ∀ st : BerthState, st = .dead ∨ st = .unused →
      changeState b st { s with bsq := { s.bsq with ships := upd s.bsq.ships b (shipAfter old new) } } =
        { s with bsq := { s.bsq with
          recs := upd s.bsq.recs b fun r => { r with state := st }
          ships := upd s.bsq.ships b (shipAfter old new) } } := fun st idle =>
    changeState_unused (s := { s with bsq := { s.bsq with ships := upd s.bsq.ships b (shipAfter old new) } }) h idle
  have record : berthStateAfter old new = fun r => { r with
      state := if old.configured = new.configured then r.state else if new.configured then .dead else .unused } := rfl
  unfold berthWritten
  rw [ship, record]
  cases was : old.configured <;> cases is : new.configured
  · rw [upd_same_at (v := s.bsq.recs) (by rfl)]
    rfl
  · exact state .dead (.inl rfl)
  · exact state .unused (.inr rfl)
  · rw [upd_same_at (v := s.bsq.recs) (by rfl)]
    rfl

/-- R95: the berths a write addresses, one after another. -/
theorem foldl_berthWritten (old new : Berth → BerthEntry) {bs : List Berth} (apart : bs.Nodup)
    (h : ∀ b ∈ bs, (s.berth b).state ∈ [.unused, .dead]) :
    bs.foldl (fun s b => berthWritten (old b) (new b) b s) s = { s with bsq := { s.bsq with
      recs := bs.foldl (fun v b => upd v b (berthStateAfter (old b) (new b))) s.bsq.recs
      ships := bs.foldl (fun v b => upd v b (shipAfter (old b) (new b))) s.bsq.ships } } := by
  induction bs generalizing s with
  | nil => rfl
  | cons b bs ih =>
    obtain ⟨out, apart'⟩ := List.nodup_cons.1 apart
    obtain ⟨idle, later⟩ := List.forall_mem_cons.1 h
    rw [List.foldl_cons, berthWritten_eq _ _ idle, ih apart' fun c hc => ?_]
    · rfl
    · have other : b ≠ c := fun is => out (is ▸ hc)
      have same : (upd s.bsq.recs b (berthStateAfter (old b) (new b)))[c] = s.bsq.recs[c] := upd_other _ _ other
      show ((upd s.bsq.recs b (berthStateAfter (old b) (new b)))[c]).state ∈ _
      rw [same]
      exact later c hc

/-- R95: what a write of berths out of use makes of the state. -/
def berthsTaken (v : Vector BerthEntry 4) (s : State) : State :=
  { s with bsq := { s.bsq with
    table := v
    recs := Vector.ofFn fun b => { s.bsq.recs[b] with
      state :=
        if s.bsq.table[b].configured = v[b].configured then s.bsq.recs[b].state
        else if v[b].configured then .dead else .unused }
    ships := Vector.ofFn fun b =>
      if s.bsq.table[b].configured ∧ (v[b].configured = false ∨ v[b].gateway ≠ s.bsq.table[b].gateway) then none
      else s.bsq.ships[b] } }

theorem applyBerths_taken {es : List BerthEntry}
    (idle : ∀ b : Berth, addressedBy first es.length b → (s.berth b).state ∈ [.unused, .dead]) :
    applyBerths first (es.map berthNums) s = berthsTaken (written s.bsq.table first es) s := by
  have back : (es.map berthNums).map toBerthEntry = es := by simp [Function.comp_def, toBerthEntry_nums]
  have same : ∀ b, b ∉ addressedOf (List.finRange 4) first es.length → (written s.bsq.table first es)[b] = s.bsq.table[b] :=
    fun b out => written_other _ _ (mt (mem_addressedOf b).2 out)
  rw [applyBerths, back, putAll_written, List.length_map, allBerths_eq]
  refine (foldl_berthWritten (s := s.modBsq fun q => { q with table := written s.bsq.table first es })
    (fun b => s.bsq.table[b]) (fun b => (written s.bsq.table first es)[b]) addressedOf_nodup
    fun b hb => idle b ((mem_addressedOf b).1 hb)).trans ?_
  have recs := foldl_upd_all (xs := addressedOf (List.finRange 4) first es.length) (fun b => berthStateAfter s.bsq.table[b] (written s.bsq.table first es)[b])
    addressedOf_nodup s.bsq.recs fun b out => by simp only [berthStateAfter, same b out, if_pos]
  have ships := foldl_upd_all (xs := addressedOf (List.finRange 4) first es.length) (fun b => shipAfter s.bsq.table[b] (written s.bsq.table first es)[b])
    addressedOf_nodup s.bsq.ships fun b out => by
      refine if_neg ?_
      rw [same b out]
      rintro ⟨on, off | apart⟩
      · exact nomatch on.symm.trans off
      · exact apart rfl
  simp only [State.modBsq_bsq, recs, ships]
  rfl

end
end Sys2Proof.Machine
end

section
namespace Sys2Proof.Machine

/-! ### The event table (R158, R161, R177) -/

section
variable {s u : State} {src first : Byte} {tag : BitVec 16} {t : Table} {es : List (List Nat)} {bytes : List Byte}
  {res : Result}

/-- R172, R177: a write of the operator node that may lead to more. -/
theorem operatorWrite_acted {v : MguReq → State} (q : Quiet s) (h : Served s src)
    (o : isOperator s src.toNat = true) (ht : t.revenue = false) (hne : es ≠ [])
    (range : first.toNat + es.length ≤ t.size) (e : takeEntries t.form es.length bytes = some es)
    (outcome : ∀ p, performWrite t first.toNat es (served src p s) = (res, v p)) :
    ∃ p, done (request src tag 2 (be 1 t.code ++ [first, BitVec.ofNat 8 es.length] ++ bytes)) s =
      .next (concluded (reply src tag 2 res []) (v p)) := by
  have small : es.length < 256 := by
    have : t.size ≤ 100 := by cases t <;> decide
    omega
  have may : admitted s src.toNat (Request.sender (.write t first.toNat es.length es)) = true := by
    rw [Request.sender, ht]
    exact o
  refine request_acted q h (by omega) (parseRequest_write hne small e) may (decide_eq_false (not_lt.2 range)) ht
    (fun p => congrArg ofOwner (outcome p)) fun p => ?_
  have mgu := (performWrite_frame t first.toNat es (served src p s)).2.1
  rwa [outcome] at mgu

end

section
variable {s : State} {first : Nat} {form : List FormItem} {ys : List Nat} {rest : List Byte}

/-- An entry whose form begins with an optional field. -/
theorem takeEntry_opt {k p : Nat} {field bs : List Byte} (flag : p ≤ 1) (length : field.length = k)
    (e : takeEntry form bs = some (ys, rest)) :
    takeEntry (.opt k :: form) (be 1 p ++ field ++ bs) = some (p :: fromBe field :: ys, rest) := by
  have value : takeNum k (field ++ bs) = some (fromBe field, bs) := by
    rw [takeNum, if_neg (by simp [length]), List.take_left' length, List.drop_left' length]
  have item : takeItem (.opt k) (be 1 p ++ (field ++ bs)) = some ([p, fromBe field], bs) := by
    simp only [takeItem, takeNum_be (k := 1) (show p < 256 ^ 1 by omega), if_neg (show ¬ p > 1 by omega), value,
      Option.map_some]
  rw [List.append_assoc, takeEntry, item]
  simp [e]

/-- The clock of an event entry as carried. -/
def clockBytes : Option (Nat × Nat) → List Byte
  | none => be 2 0 ++ be 4 0
  | some c => be 2 c.1 ++ be 4 c.2

theorem encOptClock_eq (c : Option (Nat × Nat)) :
    encOptClock c = be 1 (flagField c.isSome).2 ++ clockBytes c := by
  cases c with
  | none => rfl
  | some c => rfl

/-- The numbers of an event entry as carried. -/
def eventNums (e : EventEntry) : List Nat :=
  [(flagField e.enabled).2, (flagField e.notifyOperator).2, (flagField e.notifyBilling).2, (flagField e.notifyShip).2,
    e.action.code, (flagField e.raw).2, e.count, (flagField e.clock.isSome).2, fromBe (clockBytes e.clock)]

theorem takeEntry_event {e : EventEntry} (count : e.count < 256) (rest : List Byte) :
    takeEntry Table.events.form (encEvent e ++ rest) = some (eventNums e, rest) := by
  have clock : (clockBytes e.clock).length = 6 := by cases e.clock <;> simp [clockBytes]
  have present : ∀ b : Bool, (flagField b).2 ≤ 1 := by decide
  have action : e.action.code < 256 ^ 1 := by cases e.action <;> decide
  simp only [encEvent, encOptClock_eq, encFlag, List.append_assoc]
  refine takeEntry_num (flag_fits _) (takeEntry_num (flag_fits _) (takeEntry_num (flag_fits _) (takeEntry_num (flag_fits _)
    (takeEntry_num action (takeEntry_num (flag_fits _) (takeEntry_num count ?_))))))
  rw [← List.append_assoc]
  exact takeEntry_opt (present _) clock (takeEntry_nil rest)

/-- R158: the settings of an event entry as a write gives them. -/
def EventEntry.set (e old : EventEntry) : EventEntry :=
  { old with
    enabled := e.enabled
    notifyOperator := e.notifyOperator
    notifyBilling := e.notifyBilling
    notifyShip := e.notifyShip
    action := e.action }

theorem actionOf?_code (a : Action) : actionOf? a.code = some a := by cases a <;> rfl

theorem toEvent_nums (e old : EventEntry) : toEvent (eventNums e) old = e.set old := by
  have flag : ∀ b : Bool, decide ((flagField b).2 = 1) = b := by decide
  simp [toEvent, eventNums, fldFlag, fld, flag, actionOf?_code, EventEntry.set]

/-- R158: the event table as a write leaves it. -/
def eventsAfter (old : Vector EventEntry 100) (first : Nat) (es : List EventEntry) : Vector EventEntry 100 :=
  Vector.ofFn fun i => (if first ≤ i.val then es[i.val - first]? else none).elim old[i] fun e => e.set old[i]

theorem updAll_events (old : Vector EventEntry 100) (es : List EventEntry) :
    updAll toEvent old first (es.map eventNums) = eventsAfter old first es := by
  ext1 i hi
  rw [updAll_get _ _ _ _ hi, eventsAfter, Vector.getElem_ofFn]
  split
  · rw [List.getElem?_map]
    cases es[i - first]? with
    | none => rfl
    | some e => exact toEvent_nums e _
  · rfl

/-- R158: the actions an entry may have. -/
def allowedActions (i : Nat) : List Action :=
  if i < 56 then if i % 14 = 9 then [.tripBerth] else [.none, .hold, .shed, .tripBerth, .tripAll]
  else if i < 88 then [.none, .blockModule, .tripBerth, .tripAll]
  else if i < 94 then [.none, .holdAll, .tripAll]
  else if i < 99 then [.none] else [.tripAll]

theorem actionAllowed_iff (i : EventIx) (a : Action) : actionAllowed i a = true ↔ a ∈ allowedActions i.val := by
  obtain ⟨b, k, rfl⟩ | ⟨m, k, rfl⟩ | ⟨high, single⟩ := eventFamily_cases i
  · have val : (berthEvent b k).val = 14 * b.val + k.val := rfl
    have place : (14 * b.val + k.val) % 14 = k.val := by omega
    have low : 14 * b.val + k.val < 56 := by omega
    rw [actionAllowed, eventFamily_berthEvent, allowedActions, val, if_pos low, place]
    dsimp only
    split
    · simp
    · simp [or_assoc]
  · have val : (moduleEvent m k).val = 56 + 4 * m.val + k.val := rfl
    have above : ¬ 56 + 4 * m.val + k.val < 56 := by omega
    have low : 56 + 4 * m.val + k.val < 88 := by omega
    rw [actionAllowed, eventFamily_moduleEvent, allowedActions, val, if_neg above, if_pos low]
    simp [or_assoc]
  · have above : ¬ i.val < 56 ∧ ¬ i.val < 88 := by omega
    rw [actionAllowed, single, allowedActions, if_neg above.1, if_neg above.2]
    dsimp only
    by_cases low : i.val < 94
    · simp [low, or_assoc]
    · by_cases last : i.val = 99
      · simp [last]
      · simp [low, last, show i.val < 99 by omega]

theorem eventOk_nums (i : EventIx) (e : EventEntry) :
    eventOk i (eventNums e) = true ↔ e.action ∈ allowedActions i.val := by
  have flags : eventOk i (eventNums e) = (flagOk (flagField e.enabled).2 && flagOk (flagField e.notifyOperator).2 &&
      flagOk (flagField e.notifyBilling).2 && flagOk (flagField e.notifyShip).2 &&
      match actionOf? e.action.code with
      | none => false
      | some a => actionAllowed i a) := rfl
  rw [flags, flagOk_flag, flagOk_flag, flagOk_flag, flagOk_flag, actionOf?_code, ← actionAllowed_iff]
  rfl

theorem eventsAfter_action {es : List EventEntry} {old : Vector EventEntry 100} {i : EventIx}
    (h : addressedBy first es.length i) :
    ∃ e, es[i.val - first]? = some e ∧ (eventsAfter old first es)[i].action = e.action := by
  obtain ⟨low, high⟩ := h
  refine ⟨es[i.val - first]'(by omega), List.getElem?_eq_getElem _, ?_⟩
  rw [eventsAfter, Fin.getElem_fin, Vector.getElem_ofFn, if_pos low,
    List.getElem?_eq_getElem (show i.val - first < es.length by omega)]
  rfl

theorem events_ok (es : List EventEntry) : writeValuesOk s .events first (es.map eventNums) = true ↔
    ∀ i : EventIx, addressedBy first es.length i →
      (eventsAfter s.evr.entries first es)[i].action ∈ allowedActions i.val := by
  rw [writeValuesOk, List.all_eq_true]
  constructor
  · intro ok i h
    obtain ⟨e, entry, action⟩ := eventsAfter_action (old := s.evr.entries) h
    rw [action, ← eventOk_nums]
    refine ok (i, eventNums e) (mem_zip_addressedOf.2 ⟨h.1, ?_⟩)
    rw [List.getElem?_map, entry]
    rfl
  · intro ok x hx
    obtain ⟨low, entry⟩ := mem_zip_addressedOf.1 hx
    rw [List.getElem?_map, Option.map_eq_some_iff] at entry
    obtain ⟨e, at_e, is⟩ := entry
    obtain ⟨inside, -⟩ := List.getElem?_eq_some_iff.1 at_e
    have addressed : addressedBy first es.length x.1 := ⟨low, by omega⟩
    obtain ⟨e', at_e', action⟩ := eventsAfter_action (old := s.evr.entries) addressed
    rw [at_e, Option.some.injEq] at at_e'
    subst at_e'
    rw [← is, eventOk_nums, ← action]
    exact ok x.1 addressed

theorem writeInUse_events : writeInUse s .events first es = false := rfl

/-- R160, R161: the notices of entries that a write enables change the LPU alone. -/
theorem eventsWritten_link (old : EventIx → EventEntry) (is : List EventIx) (w : EgressWorks s) :
    ∃ l, is.foldl (fun s e => eventWritten (old e) e s) s = { s with lpu := l } ∧ EgressWorks { s with lpu := l } := by
  induction is generalizing s with
  | nil => exact ⟨s.lpu, rfl, w⟩
  | cons e is ih =>
    have one : ∃ l, eventWritten (old e) e s = { s with lpu := l } ∧ EgressWorks { s with lpu := l } := by
      unfold eventWritten
      split
      · obtain ⟨l, eq⟩ := giveNotes_link e w
        exact ⟨l, eq, eq ▸ giveNotes_works e w⟩
      · exact ⟨s.lpu, rfl, w⟩
    obtain ⟨l, eq, works⟩ := one
    obtain ⟨l', eq', works'⟩ := ih works
    exact ⟨l', by rw [List.foldl_cons, eq, eq'], works'⟩

/-- The state with the event table `v`. -/
def withEntries (v : Vector EventEntry 100) (s : State) : State := { s with evr := { s.evr with entries := v } }

theorem withEntries_works (v : Vector EventEntry 100) (w : EgressWorks s) : EgressWorks (withEntries v s) := w

theorem withEntries_agreed {v : Vector EventEntry 100} (c : HoldsCurrent s)
    (same : ∀ b, eventHold s.evr.entries b = eventHold v b) : recomputeHolds (withEntries v s) = withEntries v s :=
  recomputeHolds_agreed fun b => (c b).1.trans (same b)

theorem applyEvents_eq (es : List EventEntry) (w : EgressWorks s) :
    ∃ l, applyEvents first (es.map eventNums) s =
        recomputeHolds { withEntries (eventsAfter s.evr.entries first es) s with lpu := l } ∧
      EgressWorks { withEntries (eventsAfter s.evr.entries first es) s with lpu := l } := by
  obtain ⟨l, eq, works⟩ := eventsWritten_link (s := withEntries (eventsAfter s.evr.entries first es) s) (fun e => s.event e)
    (addressedOf (List.finRange 100) first (es.map eventNums).length) (withEntries_works _ w)
  refine ⟨l, ?_, works⟩
  rw [applyEvents, ← eq]
  simp only [updAll_events]
  rfl

/-- R158, R162: with nothing raw and the holds current a write changes the settings alone. -/
theorem applyEvents_idle (es : List EventEntry) (clear : ∀ i : EventIx, s.evr.entries[i].raw = false) (c : HoldsCurrent s) :
    applyEvents first (es.map eventNums) s = withEntries (eventsAfter s.evr.entries first es) s := by
  have raw : ∀ i : EventIx, (eventsAfter s.evr.entries first es)[i].raw = false := fun i => by
    rw [eventsAfter, Fin.getElem_fin, Vector.getElem_ofFn]
    cases (if first ≤ i.val then es[i.val - first]? else none) with
    | none => exact clear i
    | some e => exact clear i
  have silent : ∀ e : EventIx, eventWritten (s.event e) e (withEntries (eventsAfter s.evr.entries first es) s) =
      withEntries (eventsAfter s.evr.entries first es) s := fun e => if_neg fun on => by
    rw [Bool.and_eq_true] at on
    exact nomatch (raw e).symm.trans on.2
  rw [applyEvents]
  simp only [updAll_events]
  show recomputeHolds (List.foldl _ (withEntries (eventsAfter s.evr.entries first es) s) _) = _
  rw [List.foldl_fixed' silent]
  exact withEntries_agreed c fun b => eventHold_congr fun e => by
    rw [holdsBerth_off (.inr (clear e)), holdsBerth_off (.inr (raw e))]

theorem withEntries_served {src : Byte} {p : MguReq} (v : Vector EventEntry 100) (s : State) :
    withEntries v (served src p s) = served src p (withEntries v s) := rfl

theorem concluded_queue (f : ReplyFrame) (v : State) : (concluded f v).mgu.queue = [] := by simp [concluded]

theorem recomputeHolds_rampDue (s : State) (b : Berth) : ((recomputeHolds s).berth b).rampDue = (s.berth b).rampDue := by
  obtain ⟨v, h, rt, is, -⟩ := (recomputeHolds_aside (b := b) (P := fun _ => True) s).berth
  rw [is]

theorem recomputeHolds_berthState (s : State) (b : Berth) : ((recomputeHolds s).berth b).state = (s.berth b).state :=
  (recomputeHolds_aside (b := b) (P := fun _ => True) s).state

/-- R162: a recomputation of the holds ends a request's work, and the reply is given. -/
theorem concluded_recomputed {f : ReplyFrame} {x t : State} (works : EgressWorks x) (none : x.handoffs = [])
    (is : concluded f (recomputeHolds x) = t) :
    ReplyGiven f t ∧ t.evr.entries = x.evr.entries ∧ t.evr.outputs = x.evr.outputs ∧ t.mlk = x.mlk ∧ t.mgu.queue = [] ∧
      t.now = x.now ∧ t.scl = x.scl ∧ t.mpm = x.mpm ∧ t.rfg = x.rfg ∧ t.syu = x.syu ∧ t.mtr = x.mtr ∧ t.blg = x.blg ∧
      ((∀ b : Berth, x.bsq.recs[b].eventHold = x.evr.holds[b]) → HoldsCurrent t) ∧
      ∀ b, (t.berth b).state = (x.berth b).state ∧ (t.berth b).rampDue = (x.berth b).rampDue := by
  have works' : EgressWorks (recomputeHolds x) := by
    rw [egressWorks_iff, (recomputeHolds_frame _).2.1]
    exact works
  have none' : (recomputeHolds x).handoffs = [] := by simpa using none
  have given := concluded_given (f := f) works'
  have queue := concluded_queue f (recomputeHolds x)
  have entries := recomputeHolds_entries x
  have outputs := recomputeHolds_outputs x
  have holds := recomputeHolds_agree (s := x)
  have state := recomputeHolds_berthState x
  have rampDue := recomputeHolds_rampDue x
  obtain ⟨-, -, scl, mpm, rfg, syu, mtr, blg, -, mlk, now, -⟩ := recomputeHolds_frame x
  obtain ⟨l, m, rest⟩ := concluded_quiet (f := f) works' none'
  rw [is] at given queue rest
  generalize recomputeHolds x = y at rest entries outputs holds state rampDue scl mpm rfg syu mtr blg mlk now
  subst rest
  exact ⟨given, entries, outputs, mlk, queue, now, scl, mpm, rfg, syu, mtr, blg, holds, fun b => ⟨state b, rampDue b⟩⟩

end
end Sys2Proof.Machine
end

section
open Sys2Proof Sys2Proof.Machine

/-- Settles O52: the entries are read back from their bytes; a write of berths out of use stays in BSQ, and a write of
events changes the settings, gives the notices of entries it enables and recomputes the holds. -/
theorem berthsAndEventsWritten : Obligations.BerthsAndEventsWritten := by
  intro src tag first s q w h o
  refine ⟨fun es some range fits => ?_, fun es some range fits => ?_⟩
  · intro write v fit
    have read := takeEntries_map fun e he => takeEntry_berth (fits e he)
    rw [← List.length_map (f := berthNums)] at read
    have range' : first.toNat + (es.map berthNums).length ≤ Table.berths.size := by rw [List.length_map]; exact range
    have inUse : ∀ p, writeInUse (served src p s) .berths first.toNat (es.map berthNums) = true ↔
        ∃ b : Berth, addressedBy first.toNat es.length b ∧ (s.berth b).state ∉ [.unused, .dead] := fun p => by
      rw [writeInUse_berths, List.length_map]
      rfl
    have values : ∀ p, writeValuesOk (served src p s) .berths first.toNat (es.map berthNums) = true ↔ fit :=
      fun p => berths_ok es
    have answered := fun res u => operatorWrite_answered (tag := tag) (t := .berths) (res := res) (u := u) q w h o rfl
      (by simpa using some) range' read
    rw [List.length_map] at answered
    refine ⟨fun used => ?_, fun idle => ?_⟩
    · exact answered _ s (fun p => performWrite_inUse ((inUse p).2 used)) q rfl rfl
    · have free : ∀ p, writeInUse (served src p s) .berths first.toNat (es.map berthNums) = false := fun p =>
        Bool.eq_false_iff.2 fun used => by
          obtain ⟨b, at_b, busy⟩ := (inUse p).1 used
          exact busy (idle b at_b)
      refine ⟨fun unfit => ?_, fun good => ?_⟩
      · exact answered _ s (fun p => performWrite_badValue (free p) (Bool.eq_false_iff.2 (mt (values p).1 unfit))) q rfl rfl
      · refine answered _ (berthsTaken v s) (fun p => (performWrite_done (free p) ((values p).2 good)).trans
          (congrArg _ ?_)) q rfl rfl
        exact applyBerths_taken (s := served src p s) idle
  · intro write v allowed
    have table : v = eventsAfter s.evr.entries first.toNat es := by
      ext1 i hi
      rw [eventsAfter, Vector.getElem_ofFn, Vector.getElem_ofFn]
      cases (if first.toNat ≤ i then es[i - first.toNat]? else none) <;> rfl
    clear_value v
    have read := takeEntries_map fun e he => takeEntry_event (fits e he).1
    rw [← List.length_map (f := eventNums)] at read
    have range' : first.toNat + (es.map eventNums).length ≤ Table.events.size := by rw [List.length_map]; exact range
    have values : ∀ p, writeValuesOk (served src p s) .events first.toNat (es.map eventNums) = true ↔
        ∀ i : EventIx, addressedBy first.toNat es.length i → v[i].action ∈ allowed i.val := fun p => by
      rw [table]
      exact events_ok es
    refine ⟨fun ⟨i, at_i, bad⟩ => ?_, fun good => ⟨?_, fun clear current => ?_⟩⟩
    · have unfit : ∀ p, writeValuesOk (served src p s) .events first.toNat (es.map eventNums) = false := fun p =>
        Bool.eq_false_iff.2 fun ok => bad ((values p).1 ok i at_i)
      have answered := operatorWrite_answered (tag := tag) (t := .events) (u := s) q w h o rfl (by simpa using some) range'
        read (fun p => performWrite_badValue rfl (unfit p)) q rfl rfl
      rw [List.length_map] at answered
      exact answered
    · obtain ⟨p, is⟩ := operatorWrite_acted (tag := tag) (t := .events) q h o rfl (by simpa using some) range' read
        fun p => performWrite_done rfl ((values p).2 good)
      rw [List.length_map] at is
      obtain ⟨l, eq, works⟩ := applyEvents_eq (s := served src p s) (first := first.toNat) es w
      rw [applyWrite, eq] at is
      rw [show (served src p s).evr.entries = s.evr.entries from rfl, ← table] at is works
      obtain ⟨given, entries, outputs, mlk, queue, now, scl, mpm, rfg, syu, mtr, blg, holds, berths⟩ :=
        concluded_recomputed (f := reply src tag 2 .done []) works q rfl
      exact ⟨_, is, given, entries, outputs, mlk, queue, now, scl, mpm, rfg, syu, mtr, blg, fun before =>
        holds fun b => (before b).2, berths⟩
    · have applied : ∀ p, applyWrite .events first.toNat (es.map eventNums) (served src p s) =
          served src p (withEntries v s) := fun p => by
        have idle := applyEvents_idle (s := served src p s) (first := first.toNat) es clear current
        rw [show (served src p s).evr.entries = s.evr.entries from rfl, ← table] at idle
        exact idle
      have answered := operatorWrite_answered (tag := tag) (t := .events)
        (u := withEntries v s) q w h o rfl (by simpa using some) range'
        read (fun p => (performWrite_done rfl ((values p).2 good)).trans (congrArg _ (applied p))) q rfl rfl
      rw [List.length_map] at answered
      exact answered

end

section
namespace Sys2Proof.Machine

/-! ### Several raises, each of its entry alone (R159) -/

section
variable {s : State} {e : EventIx}

theorem foldl_raised (es : List EventIx) (s : State) : es.foldl (fun s e => raised e s) s = { s with evr := { s.evr with
    entries := es.foldl (fun v e => upd v e (EventEntry.raised s.clock)) s.evr.entries } } := by
  induction es generalizing s with
  | nil => rfl
  | cons e es ih =>
    rw [List.foldl_cons, ih]
    rfl

/-- R159: distinct raises that wait are taken one after another. -/
theorem drain_raises_alone {es : List EventIx} (apart : es.Nodup) (alone : ∀ e ∈ es, RaisesAlone e s)
    (posted : s.handoffs = es.map .raise) {n : Nat} (fuel : es.length ≤ n) :
    drain n s = es.foldl (fun s e => raised e s) { s with handoffs := [] } := by
  induction es generalizing s n with
  | nil =>
    rw [drain_nil _ posted]
    exact (congrArg (fun hs => { s with handoffs := hs }) posted)
  | cons e es ih =>
    obtain ⟨out, apart'⟩ := List.nodup_cons.1 apart
    obtain ⟨first, later⟩ := List.forall_mem_cons.1 alone
    cases n with
    | zero => exact absurd fuel (by simp)
    | succ n =>
      rw [drain_cons _ posted]
      show drain n (raiseEntry e { s with handoffs := es.map .raise }) = _
      rw [raiseEntry_alone (by exact first)]
      refine ih apart' (fun f hf => raisesAlone_raised (fun is : f = e => out (is ▸ hf)) ?_) rfl (by simpa using fuel)
      exact later f hf

/-! ### The point store after a stream write (R18, R19, R29) -/

theorem pointSide_iff {p : Point} {b : Berth} {side : Side} : pointSide p = some (b, side) ↔ p = sidePoint b side := by
  constructor
  · unfold pointSide
    split
    next h => rintro ⟨⟩; exact Fin.ext (by simp only [sidePoint, cbPoint]; omega)
    next =>
      split
      next h => rintro ⟨⟩; exact Fin.ext (by simp only [sidePoint, shPoint]; omega)
      next => exact nofun
  · rintro rfl
    revert b
    cases side <;> decide

theorem sidePoint_inj {a b : Berth} {side side' : Side} : sidePoint a side = sidePoint b side' ↔ a = b ∧ side = side' := by
  constructor
  · intro h
    have both := (pointSide_iff.2 rfl).symm.trans ((congrArg pointSide h).trans (pointSide_iff.2 rfl))
    rwa [Option.some.injEq, Prod.mk.injEq] at both
  · rintro ⟨rfl, rfl⟩
    rfl

theorem staleEvent_inj {a b : Berth} {side side' : Side} (h : staleEvent a side = staleEvent b side') :
    a = b ∧ side = side' := by
  have val : (staleEvent a side).val = (staleEvent b side').val := congrArg Fin.val h
  have ship : ∀ c, (staleEvent c .ship).val = 14 * c.val := fun _ => rfl
  have converter : ∀ c, (staleEvent c .converter).val = 14 * c.val + 1 := fun _ => rfl
  cases side <;> cases side' <;> simp only [ship, converter] at val
  · exact ⟨Fin.ext (by omega), rfl⟩
  · omega
  · omega
  · exact ⟨Fin.ext (by omega), rfl⟩

/-- R29: the staleness event of a point that is STALE. -/
def staleRaises (q : Bsq) (p : Point) : List EventIx :=
  match pointSide p with
  | none => []
  | some (b, side) => if q.recs[b].state.watched then [staleEvent b side] else []

theorem mem_staleRaises {q : Bsq} {p : Point} : e ∈ staleRaises q p ↔
    ∃ b side, p = sidePoint b side ∧ q.recs[b].state.watched = true ∧ e = staleEvent b side := by
  simp only [← pointSide_iff]
  unfold staleRaises
  split
  next none => simp [none]
  next b side is =>
    constructor
    · intro h
      split at h
      next watched => exact ⟨b, side, is, watched, List.mem_singleton.1 h⟩
      next => exact nomatch h
    · rintro ⟨b', side', is', watched, rfl⟩
      rw [is, Option.some.injEq, Prod.mk.injEq] at is'
      obtain ⟨rfl, rfl⟩ := is'
      rw [if_pos watched]
      exact List.mem_singleton_self _

theorem staleRaises_nodup (q : Bsq) {ps : List Point} (apart : ps.Nodup) : (ps.flatMap (staleRaises q)).Nodup := by
  refine List.nodup_flatMap.2 ⟨fun p _ => ?_, apart.imp fun {p p'} other => ?_⟩
  · unfold staleRaises
    split
    · exact List.nodup_nil
    · split
      · exact List.nodup_singleton _
      · exact List.nodup_nil
  · intro e h h'
    obtain ⟨b, side, rfl, -, rfl⟩ := mem_staleRaises.1 h
    obtain ⟨b', side', rfl, -, is⟩ := mem_staleRaises.1 h'
    obtain ⟨rfl, rfl⟩ := staleEvent_inj is
    exact other rfl

/-- R29: the repeat timer of a staleness condition once the points `ps` have been found STALE. -/
def condAfter (ps : List Point) (s : State) (side : Side) (old : Vector (Option Nat) 4) : Vector (Option Nat) 4 :=
  Vector.ofFn fun b =>
    if (s.berth b).state.watched = true ∧ sidePoint b side ∈ ps then some (s.now + 100) else old[b]

/-- R19, R78: SYU and SCL once the points `ps` have been found STALE. -/
def staleAfter (ps : List Point) (s : State) : State :=
  { s with
    scl := { s.scl with
      shipStale := condAfter ps s .ship s.scl.shipStale
      convStale := condAfter ps s .converter s.scl.convStale }
    syu := { s.syu with chans := s.syu.chans.map (Option.map fun w => ps.foldl (fun w p => w.sawStale p) w) }
    handoffs := s.handoffs ++ (ps.flatMap (staleRaises s.bsq)).map .raise }

theorem condAfter_cons (p : Point) (ps : List Point) (s : State) (side : Side) (old : Vector (Option Nat) 4) :
    condAfter ps s side (condAfter [p] s side old) = condAfter (p :: ps) s side old := by
  ext1 b hb
  simp only [condAfter, Vector.getElem_ofFn, Fin.getElem_fin, List.mem_cons, List.not_mem_nil, or_false]
  split
  next h => rw [if_pos ⟨h.1, .inr h.2⟩]
  next h =>
    split
    next h' => rw [if_pos ⟨h'.1, .inl h'.2⟩]
    next h' => rw [if_neg fun ⟨watched, is⟩ => is.elim (fun is => h' ⟨watched, is⟩) fun is => h ⟨watched, is⟩]

theorem condAfter_still {ps : List Point} {side : Side} {old : Vector (Option Nat) 4}
    (h : ∀ b, (s.berth b).state.watched = true → sidePoint b side ∉ ps) : condAfter ps s side old = old := by
  ext1 b hb
  simp only [condAfter, Vector.getElem_ofFn, Fin.getElem_fin]
  exact if_neg fun ⟨watched, is⟩ => h _ watched is

theorem condAfter_one {b : Berth} {side : Side} {old : Vector (Option Nat) 4} (watched : (s.berth b).state.watched = true) :
    condAfter [sidePoint b side] s side old = upd old b fun _ => some (s.now + 100) := by
  ext1 c hc
  simp only [condAfter, Vector.getElem_ofFn, List.mem_singleton, sidePoint_inj]
  by_cases same : b = ⟨c, hc⟩
  · subst same
    rw [if_pos ⟨watched, rfl, trivial⟩]
    exact (upd_self old ⟨c, hc⟩ fun _ => some (s.now + 100)).symm
  · rw [if_neg fun h => same h.2.1.symm]
    exact (upd_other (i := b) (j := ⟨c, hc⟩) _ _ same).symm

/-- R19: the channels see the point STALE and its condition is tested. -/
theorem staleTest_eq (p : Point) (s : State) : staleTest p (channelsSeeStale p s) = staleAfter [p] s := by
  have still : ∀ side, (∀ b, (s.berth b).state.watched = true → sidePoint b side ≠ p) → ∀ old,
      condAfter [p] s side old = old := fun side h old =>
    condAfter_still fun b watched is => h b watched (List.mem_singleton.1 is)
  unfold staleTest staleAfter
  simp only [List.flatMap_cons, List.flatMap_nil, List.append_nil, staleRaises]
  cases at_p : pointSide p with
  | none =>
    have apart : ∀ b side, sidePoint b side ≠ p := fun b side is => nomatch at_p.symm.trans (pointSide_iff.2 is.symm)
    rw [still .ship fun b _ => apart b _, still .converter fun b _ => apart b _]
    simp only [List.map_nil, List.append_nil]
    rfl
  | some at_side =>
    obtain ⟨b, side⟩ := at_side
    have is := pointSide_iff.1 at_p
    dsimp only
    by_cases watched : (s.berth b).state.watched = true
    · rw [if_pos (by exact watched), if_pos (by exact watched), is]
      have other : ∀ side', side' ≠ side → ∀ old, condAfter [sidePoint b side] s side' old = old := fun side' apart old =>
        condAfter_still fun c _ h => apart (sidePoint_inj.1 (List.mem_singleton.1 h)).2
      cases side with
      | ship => rw [condAfter_one watched, other .converter (by decide)]; rfl
      | converter => rw [condAfter_one watched, other .ship (by decide)]; rfl
    · have apart : ∀ c side', (s.berth c).state.watched = true → sidePoint c side' ≠ p := fun c side' watched' same => by
        obtain ⟨rfl, -⟩ := sidePoint_inj.1 (same.trans is)
        exact watched watched'
      rw [if_neg (by exact watched), if_neg (by exact watched), still .ship fun c => apart c _, still .converter fun c => apart c _]
      simp only [List.map_nil, List.append_nil]
      rfl

theorem staleAfter_cons (p : Point) (ps : List Point) (s : State) :
    staleAfter ps (staleAfter [p] s) = staleAfter (p :: ps) s := by
  have ship := condAfter_cons p ps s .ship s.scl.shipStale
  have converter := condAfter_cons p ps s .converter s.scl.convStale
  have chans : (s.syu.chans.map (Option.map fun w => [p].foldl (fun w p => w.sawStale p) w)).map
      (Option.map fun w => ps.foldl (fun w p => w.sawStale p) w) =
      s.syu.chans.map (Option.map fun w => (p :: ps).foldl (fun w p => w.sawStale p) w) := by
    rw [Vector.map_map]
    congr 1
    funext w
    cases w <;> rfl
  have raises : s.handoffs ++ ([p].flatMap (staleRaises s.bsq)).map .raise ++ (ps.flatMap (staleRaises s.bsq)).map .raise =
      s.handoffs ++ ((p :: ps).flatMap (staleRaises s.bsq)).map Handoff.raise := by
    simp
  show ({ s with
    scl := { s.scl with
      shipStale := condAfter ps s .ship (condAfter [p] s .ship s.scl.shipStale)
      convStale := condAfter ps s .converter (condAfter [p] s .converter s.scl.convStale) }
    syu := { s.syu with
      chans := (s.syu.chans.map (Option.map fun w => [p].foldl (fun w p => w.sawStale p) w)).map
        (Option.map fun w => ps.foldl (fun w p => w.sawStale p) w) }
    handoffs := s.handoffs ++ ([p].flatMap (staleRaises s.bsq)).map .raise ++
      (ps.flatMap (staleRaises s.bsq)).map .raise } : State) = _
  rw [ship, converter, chans, raises]
  rfl

theorem staleAfter_nil (s : State) : staleAfter [] s = s := by
  have none : ∀ side old, condAfter [] s side old = old := fun side old => condAfter_still fun b _ => List.not_mem_nil
  have chans : s.syu.chans.map (Option.map fun w => w) = s.syu.chans := by simp
  unfold staleAfter
  simp only [none, List.flatMap_nil, List.map_nil, List.append_nil, List.foldl_nil, chans]

theorem foldl_staleTest (ps : List Point) (s : State) :
    ps.foldl (fun s p => staleTest p (channelsSeeStale p s)) s = staleAfter ps s := by
  induction ps generalizing s with
  | nil => exact (staleAfter_nil s).symm
  | cons p ps ih => rw [List.foldl_cons, staleTest_eq, ih, staleAfter_cons]

/-- R78: the work of a channel that goes back to ADJUSTING. -/
def ChanWork.adjusted (w : ChanWork) : ChanWork :=
  if w.phase = .adjusting ∨ w.phase = .watching then { w with phase := .adjusting, settle := 0 } else w

theorem sawStale_adjusted (p : Point) (w : ChanWork) : w.adjusted.sawStale p = w.adjusted := by
  unfold ChanWork.adjusted ChanWork.sawStale
  split
  · split <;> rfl
  next idle => exact if_neg fun h => idle h.2

theorem foldl_sawStale {ps : List Point} {w : ChanWork} (seen : w.req.refPoint ∈ ps) :
    ps.foldl (fun w p => w.sawStale p) w = w.adjusted := by
  induction ps with
  | nil => exact nomatch seen
  | cons p ps ih =>
    rw [List.foldl_cons]
    by_cases own : w.req.refPoint = p ∨ w.req.matchPoint = p
    · have first : w.sawStale p = w.adjusted := by simp [ChanWork.sawStale, ChanWork.adjusted, own]
      rw [first]
      exact List.foldl_fixed' (fun q => sawStale_adjusted q w) ps
    · have same : w.sawStale p = w := if_neg fun h => own h.1
      rw [same]
      exact ih ((List.mem_cons.1 seen).resolve_left fun is => own (.inl is))

theorem mem_allPoints (p : Point) : p ∈ allPoints := by
  revert p
  decide

/-- R18, R19: a stream write, once EVR has taken the raises of the staleness conditions it begins. -/
def streamsTaken (v : Vector StreamEntry 24) (s : State) : State :=
  { s with
    scl := { s.scl with
      streams := v
      points := Vector.ofFn fun p => PointRec.cold (pointLimits v p)
      shipStale := Vector.ofFn fun b => if (s.berth b).state.watched then some (s.now + 100) else s.scl.shipStale[b]
      convStale := Vector.ofFn fun b => if (s.berth b).state.watched then some (s.now + 100) else s.scl.convStale[b] }
    syu := { s.syu with chans := s.syu.chans.map (Option.map ChanWork.adjusted) }
    evr := { s.evr with entries := Vector.ofFn fun i =>
      if (List.finRange 4).any (fun b => (s.berth b).state.watched && (i = evShipBusStale b || i = evCbStale b)) then
        EventEntry.raised s.clock s.evr.entries[i]
      else s.evr.entries[i] } }

theorem condAfter_all (s : State) (side : Side) (old : Vector (Option Nat) 4) : condAfter allPoints s side old =
    Vector.ofFn fun b => if (s.berth b).state.watched then some (s.now + 100) else old[b] := by
  simp only [condAfter, mem_allPoints, and_true]

theorem mem_staleRaises_all (q : Bsq) (i : EventIx) : i ∈ allPoints.flatMap (staleRaises q) ↔
    (List.finRange 4).any (fun b => q.recs[b].state.watched && (i = evShipBusStale b || i = evCbStale b)) = true := by
  simp only [List.mem_flatMap, mem_staleRaises, List.any_eq_true, Bool.and_eq_true, Bool.or_eq_true, decide_eq_true_eq]
  constructor
  · rintro ⟨p, -, b, side, -, watched, rfl⟩
    cases side with
    | ship => exact ⟨b, List.mem_finRange b, watched, .inl rfl⟩
    | converter => exact ⟨b, List.mem_finRange b, watched, .inr rfl⟩
  · rintro ⟨b, -, watched, rfl | rfl⟩
    · exact ⟨_, mem_allPoints _, b, .ship, rfl, watched, rfl⟩
    · exact ⟨_, mem_allPoints _, b, .converter, rfl, watched, rfl⟩

theorem staleRaises_few (q : Bsq) : (allPoints.flatMap (staleRaises q)).length ≤ Config.settleFuel := by
  have one : ∀ p, (staleRaises q p).length ≤ 1 := fun p => by
    unfold staleRaises
    split
    · exact Nat.zero_le 1
    · split
      · exact le_rfl
      · exact Nat.zero_le 1
  have sum : ((allPoints.map fun p => (staleRaises q p).length)).sum ≤ (allPoints.map fun _ => 1).sum :=
    List.sum_le_sum fun p _ => one p
  rw [List.length_flatMap]
  exact sum.trans (by decide)

/-- R18, R19, R29: what a stream write leads to once all it raises is taken. -/
theorem pointStoreReset_drained {v : Vector StreamEntry 24} (none : s.handoffs = [])
    (alone : ∀ b, (s.berth b).state.watched = true → RaisesAlone (evShipBusStale b) s ∧ RaisesAlone (evCbStale b) s) :
    drain Config.settleFuel (pointStoreReset (s.modScl fun c => { c with streams := v })) = streamsTaken v s := by
  have still : ∀ e ∈ allPoints.flatMap (staleRaises s.bsq), RaisesAlone e s := fun e he => by
    obtain ⟨p, -, at_p⟩ := List.mem_flatMap.1 he
    obtain ⟨b, side, -, watched, rfl⟩ := mem_staleRaises.1 at_p
    cases side with
    | ship => exact (alone b watched).1
    | converter => exact (alone b watched).2
  have apart := staleRaises_nodup s.bsq (ps := allPoints) (by decide)
  have posted : (staleAfter allPoints (resetPoints (s.modScl fun c => { c with streams := v }))).handoffs =
      (allPoints.flatMap (staleRaises s.bsq)).map .raise := by
    show s.handoffs ++ _ = _
    rw [none]
    rfl
  have chans : (Option.map fun w : ChanWork => allPoints.foldl (fun w p => w.sawStale p) w) =
      Option.map ChanWork.adjusted := congrArg _ (funext fun w => foldl_sawStale (mem_allPoints _))
  have entries : (allPoints.flatMap (staleRaises s.bsq)).foldl (fun v e => upd v e (EventEntry.raised s.clock)) s.evr.entries =
      Vector.ofFn fun i => if (List.finRange 4).any
          (fun b => (s.berth b).state.watched && (i = evShipBusStale b || i = evCbStale b)) then
        EventEntry.raised s.clock s.evr.entries[i]
      else s.evr.entries[i] := by
    ext1 i hi
    rw [Vector.getElem_ofFn]
    refine (foldl_upd _ apart _ ⟨i, hi⟩).trans ?_
    simp only [mem_staleRaises_all]
    rfl
  rw [pointStoreReset, foldl_staleTest, drain_raises_alone apart (by exact still) posted (staleRaises_few _),
    foldl_raised]
  show ({ s with
    scl := { s.scl with
      streams := v
      points := Vector.ofFn fun p => PointRec.cold (pointLimits v p)
      shipStale := condAfter allPoints s .ship s.scl.shipStale
      convStale := condAfter allPoints s .converter s.scl.convStale }
    syu := { s.syu with chans := s.syu.chans.map (Option.map fun w => allPoints.foldl (fun w p => w.sawStale p) w) }
    evr := { s.evr with entries :=
      (allPoints.flatMap (staleRaises s.bsq)).foldl (fun v e => upd v e (EventEntry.raised s.clock)) s.evr.entries }
    handoffs := [] } : State) = _
  rw [entries, chans, condAfter_all, condAfter_all, ← none]
  rfl

end
end Sys2Proof.Machine
end

section
namespace Sys2Proof.Machine

/-! ### The stream table (R18, R177) -/

section
variable {s : State} {first : Nat}

/-- The fields of a stream entry as carried. -/
def streamCarried (e : StreamEntry) : List (Nat × Nat) :=
  [flagField e.valid, (1, e.node), (1, e.channel), (1, e.point), (2, e.interval), (4, e.staleLimit)]

/-- The numbers of a stream entry as carried. -/
def streamNums (e : StreamEntry) : List Nat := (streamCarried e).map Prod.snd

theorem toStream_nums (e : StreamEntry) : toStream (streamNums e) = e := by
  simp [toStream, streamNums, streamCarried, fldFlag_flagField, fld]

theorem takeEntry_stream {e : StreamEntry} (fits : e.node < 256 ∧ e.channel < 256 ∧ e.point < 256 ∧ e.interval < 65536 ∧
    e.staleLimit < 4294967296) (rest : List Byte) :
    takeEntry Table.streams.form (encStream e ++ rest) = some (streamNums e, rest) := by
  have bytes : encStream e = fieldBytes (streamCarried e) := by
    simp [streamCarried, encStream, encFlag, flagField, fieldBytes]
  obtain ⟨node, channel, point, interval, stale⟩ := fits
  refine bytes ▸ takeEntry_fields (streamCarried e) ?_ rest
  simp only [streamCarried, List.forall_mem_cons]
  exact ⟨flag_fits _, node, channel, point, interval, stale, nofun⟩

/-- R18: a valid entry in range. -/
def StreamInRange (s : State) (e : StreamEntry) : Prop :=
  1 ≤ e.node ∧ e.node ≤ 62 ∧ s.own ≠ some e.node ∧ e.channel ≤ 7 ∧ e.point ≤ 16 ∧ 5000 ≤ e.interval ∧
    e.interval ≤ 50000 ∧ 2 * e.interval ≤ e.staleLimit ∧ e.staleLimit ≤ 1000000

theorem streamOk_nums (e : StreamEntry) : streamOk s (streamNums e) = true ↔ (e.valid = true → StreamInRange s e) := by
  have flag : flagOk (fld (streamNums e) 0) = true := flagOk_flag e.valid
  have is : fldFlag (streamNums e) 0 = e.valid := fldFlag_flagField ..
  have fields : fld (streamNums e) 1 = e.node ∧ fld (streamNums e) 2 = e.channel ∧ fld (streamNums e) 3 = e.point ∧
      fld (streamNums e) 4 = e.interval ∧ fld (streamNums e) 5 = e.staleLimit := ⟨rfl, rfl, rfl, rfl, rfl⟩
  obtain ⟨node, channel, point, interval, stale⟩ := fields
  rw [streamOk, flag, is, node, channel, point, interval, stale, Bool.true_and]
  cases e.valid with
  | false => simp
  | true => simp only [Bool.not_true, Bool.false_or, Bool.and_eq_true, peerNode_iff, within_iff, decide_eq_true_eq,
      StreamInRange, and_assoc, forall_const]

theorem streams_ok (es : List StreamEntry) : writeValuesOk s .streams first (es.map streamNums) = true ↔
    (∀ e ∈ es, e.valid = true → StreamInRange s e) ∧
      (((written s.scl.streams first es).toList.filter fun e => e.valid).map fun e => (e.node, e.channel)).Nodup ∧
      (((written s.scl.streams first es).toList.filter fun e => e.valid).map fun e => e.point).Nodup := by
  have back : (es.map streamNums).map toStream = es := by simp [Function.comp_def, toStream_nums]
  have distinct : ∀ v, streamsOk v = true ↔ ((v.toList.filter fun e => e.valid).map fun e => (e.node, e.channel)).Nodup ∧
      ((v.toList.filter fun e => e.valid).map fun e => e.point).Nodup := fun v => by
    rw [streamsOk, Bool.and_eq_true, decide_eq_true_eq, decide_eq_true_eq]
  rw [writeValuesOk, back, putAll_written, Bool.and_eq_true, List.all_map, List.all_eq_true, distinct]
  exact and_congr (forall₂_congr fun e _ => streamOk_nums e) Iff.rfl

theorem applyStreams_drained {es : List StreamEntry} (none : s.handoffs = [])
    (alone : ∀ b, (s.berth b).state.watched = true → RaisesAlone (evShipBusStale b) s ∧ RaisesAlone (evCbStale b) s) :
    drain Config.settleFuel (applyStreams first (es.map streamNums) s) =
      streamsTaken (written s.scl.streams first es) s := by
  have back : (es.map streamNums).map toStream = es := by simp [Function.comp_def, toStream_nums]
  have is : applyStreams first (es.map streamNums) s =
      pointStoreReset (s.modScl fun c => { c with streams := written s.scl.streams first es }) := by
    rw [applyStreams, back, ← putAll_written]
    rfl
  rw [is, pointStoreReset_drained none alone]

theorem streamsTaken_served {src : Byte} {p : MguReq} (v : Vector StreamEntry 24) (s : State) :
    streamsTaken v (served src p s) = served src p (streamsTaken v s) := by
  unfold streamsTaken
  rfl

theorem streamsTaken_frame (v : Vector StreamEntry 24) (s : State) : (streamsTaken v s).handoffs = s.handoffs ∧
    (streamsTaken v s).lpu = s.lpu ∧ (streamsTaken v s).mgu = s.mgu := ⟨rfl, rfl, rfl⟩

theorem watched_iff (st : BerthState) : st.watched =
    decide (st ∈ [.syncing, .deadClose, .rampUp, .shore, .awaitGenerators, .rampDown, .opening]) := by
  cases st <;> rfl

/-! ### The module table (R33, R37, R64, R177) -/

/-- The numbers of a module entry as carried, its index byte with it. -/
def moduleNums (e : ModuleEntry × Byte) : List Nat :=
  [(flagField e.1.installed).2, e.1.rating, e.1.node, e.2.toNat, e.1.startLimit, e.1.stopLimit]

theorem toModuleEntry_nums (e : ModuleEntry × Byte) : toModuleEntry (moduleNums e) = e.1 := by
  simp [toModuleEntry, moduleNums, fldFlag_flagField, fld]

theorem takeEntry_module {e : ModuleEntry × Byte}
    (fits : e.1.rating < 65536 ∧ e.1.node < 256 ∧ e.1.startLimit < 256 ∧ e.1.stopLimit < 256) (rest : List Byte) :
    takeEntry Table.modules.form (encFlag e.1.installed ++ be 2 e.1.rating ++ be 1 e.1.node ++ [e.2] ++
      be 1 e.1.startLimit ++ be 1 e.1.stopLimit ++ rest) = some (moduleNums e, rest) := by
  obtain ⟨rating, node, start, stop⟩ := fits
  have index : [e.2] = be 1 e.2.toNat := by rw [be_one, BitVec.ofNat_toNat, BitVec.setWidth_eq]
  rw [index, encFlag]
  simp only [List.append_assoc]
  exact takeEntry_num (flag_fits _) (takeEntry_num rating (takeEntry_num node (takeEntry_num e.2.isLt
    (takeEntry_num start (takeEntry_num stop (takeEntry_nil rest))))))

/-- R33: an installed entry in range. -/
def ModuleInRange (s : State) (e : ModuleEntry) : Prop :=
  250 ≤ e.rating ∧ e.rating ≤ 4000 ∧ 1 ≤ e.node ∧ e.node ≤ 62 ∧ s.own ≠ some e.node ∧ 5 ≤ e.startLimit ∧
    e.startLimit ≤ 60 ∧ 5 ≤ e.stopLimit ∧ e.stopLimit ≤ 60

theorem moduleOk_nums (e : ModuleEntry × Byte) :
    moduleOk s (moduleNums e) = true ↔ (e.1.installed = true → ModuleInRange s e.1) := by
  have flag : flagOk (fld (moduleNums e) 0) = true := flagOk_flag e.1.installed
  have is : fldFlag (moduleNums e) 0 = e.1.installed := fldFlag_flagField ..
  have fields : fld (moduleNums e) 1 = e.1.rating ∧ fld (moduleNums e) 2 = e.1.node ∧
      fld (moduleNums e) 4 = e.1.startLimit ∧ fld (moduleNums e) 5 = e.1.stopLimit := ⟨rfl, rfl, rfl, rfl⟩
  obtain ⟨rating, node, start, stop⟩ := fields
  rw [moduleOk, flag, is, rating, node, start, stop, Bool.true_and]
  cases e.1.installed with
  | false => simp
  | true => simp only [Bool.not_true, Bool.false_or, Bool.and_eq_true, peerNode_iff, within_iff, ModuleInRange, and_assoc,
      forall_const]

theorem toModuleEntries_nums (es : List (ModuleEntry × Byte)) :
    (es.map moduleNums).map toModuleEntry = es.map Prod.fst := by
  simp [Function.comp_def, toModuleEntry_nums]

theorem modules_ok (es : List (ModuleEntry × Byte)) : writeValuesOk s .modules first (es.map moduleNums) = true ↔
    (∀ e ∈ es, e.1.installed = true → ModuleInRange s e.1) ∧
      (((written s.mpm.table first (es.map Prod.fst)).toList.filter fun e => e.installed).map fun e => e.node).Nodup := by
  rw [writeValuesOk, toModuleEntries_nums, putAll_written, Bool.and_eq_true, List.all_map, List.all_eq_true, modulesOk,
    decide_eq_true_eq]
  exact and_congr (forall₂_congr fun e _ => moduleOk_nums e) Iff.rfl

theorem writeInUse_modules (es : List (List Nat)) : writeInUse s .modules first es = true ↔
    ∃ m : Module, addressedBy first es.length m ∧ (s.modu m).state ∈ [.starting, .syncing, .online, .stopping] := by
  have allocated : ∀ st : ModuleState, st.allocated = true ↔ st ∈ [.starting, .syncing, .online, .stopping] := by
    intro st
    cases st <;> decide
  rw [writeInUse, allModules_eq, List.any_eq_true]
  exact exists_congr fun m => and_congr (mem_addressedOf m) (allocated _)

/-- R33: the poll record a write leaves a module. -/
def moduleRecAfter (old new : ModuleEntry) (r : ModuleRec) : ModuleRec :=
  if old.installed = false then if new.installed then .cleared .standby else r
  else if new.installed = false then { r with state := .absent }
  else if old.node ≠ new.node then clearPollRecord r else r

/-- R64: RFG clears what it holds of a module newly installed. -/
def moduleRefAfter (old new : ModuleEntry) (r : ModuleRef) : ModuleRef :=
  if old.installed = false ∧ new.installed = true then { r with lastSent := none, startSent := false, own := none } else r

/-- R33: a write ends the module's open poll. -/
def abandons (old new : ModuleEntry) : Bool := old.installed && (!new.installed || new.node ≠ old.node)

/-- R33: the open poll a write leaves. -/
def pollAfter (old new : ModuleEntry) (m : Module) (p : Option OpenPoll) : Option OpenPoll :=
  if abandons old new then p.filter fun p => p.module ≠ m else p

theorem moduleWritten_eq (old new : ModuleEntry) (m : Module) (s : State) : moduleWritten old new m s = { s with
    mpm := { s.mpm with recs := upd s.mpm.recs m (moduleRecAfter old new), poll := pollAfter old new m s.mpm.poll }
    rfg := { s.rfg with modules := upd s.rfg.modules m (moduleRefAfter old new) } } := by
  have recs : ∀ f : ModuleRec → ModuleRec, f = id → upd s.mpm.recs m f = s.mpm.recs := fun f h =>
    upd_same_at (congrFun h _)
  have refs : ∀ f : ModuleRef → ModuleRef, f = id → upd s.rfg.modules m f = s.rfg.modules := fun f h =>
    upd_same_at (congrFun h _)
  unfold moduleWritten
  cases was : old.installed with
  | false =>
    have poll : ∀ p, pollAfter old new m p = p := fun p => by simp [pollAfter, abandons, was]
    rw [poll]
    cases is : new.installed with
    | false =>
      rw [recs _ (by funext r; simp [moduleRecAfter, was, is]), refs _ (by funext r; simp [moduleRefAfter, is])]
      rfl
    | true =>
      rw [show moduleRecAfter old new = fun _ => .cleared .standby by funext r; simp [moduleRecAfter, was, is],
        show moduleRefAfter old new = fun r => { r with lastSent := none, startSent := false, own := none } by
          funext r; simp [moduleRefAfter, was, is]]
      rfl
  | true =>
    rw [refs _ (by funext r; simp [moduleRefAfter, was])]
    cases is : new.installed with
    | false =>
      rw [show moduleRecAfter old new = fun r => { r with state := .absent } by funext r; simp [moduleRecAfter, was, is],
        show pollAfter old new m s.mpm.poll = s.mpm.poll.filter fun p => p.module ≠ m by simp [pollAfter, abandons, was, is]]
      rfl
    | true =>
      by_cases same : old.node = new.node
      · rw [recs _ (by funext r; simp [moduleRecAfter, was, is, same]),
          show pollAfter old new m s.mpm.poll = s.mpm.poll by simp [pollAfter, abandons, was, is, same]]
        simp [same]
      · rw [show moduleRecAfter old new = clearPollRecord by funext r; simp [moduleRecAfter, was, is, same],
          show pollAfter old new m s.mpm.poll = s.mpm.poll.filter fun p => p.module ≠ m by
            simp [pollAfter, abandons, was, is, Ne.symm same]]
        simp only [Bool.not_true, ne_eq, same, not_false_eq_true, if_true]
        rfl

theorem foldl_moduleWritten (old new : Module → ModuleEntry) (ms : List Module) (s : State) :
    ms.foldl (fun s m => moduleWritten (old m) (new m) m s) s = { s with
      mpm := { s.mpm with
        recs := ms.foldl (fun v m => upd v m (moduleRecAfter (old m) (new m))) s.mpm.recs
        poll := ms.foldl (fun p m => pollAfter (old m) (new m) m p) s.mpm.poll }
      rfg := { s.rfg with modules := ms.foldl (fun v m => upd v m (moduleRefAfter (old m) (new m))) s.rfg.modules } } := by
  induction ms generalizing s with
  | nil => rfl
  | cons m ms ih =>
    rw [List.foldl_cons, moduleWritten_eq, ih]
    rfl

theorem pollAfter_shrinks (old new : ModuleEntry) (m : Module) (p : Option OpenPoll) :
    pollAfter old new m p = p ∨ pollAfter old new m p = none := by
  unfold pollAfter
  split
  · cases p with
    | none => exact .inl rfl
    | some p => by_cases own : p.module = m <;> simp [own]
  · exact .inl rfl

theorem foldl_pollAfter_shrinks (old new : Module → ModuleEntry) (ms : List Module) (p : Option OpenPoll) :
    ms.foldl (fun p m => pollAfter (old m) (new m) m p) p = p ∨ ms.foldl (fun p m => pollAfter (old m) (new m) m p) p = none := by
  induction ms generalizing p with
  | nil => exact .inl rfl
  | cons m ms ih =>
    rw [List.foldl_cons]
    obtain same | gone := pollAfter_shrinks (old m) (new m) m p
    · rw [same]; exact ih p
    · rw [gone]; exact .inr ((ih none).elim id id)

/-- R33: no poll of a module whose poll is abandoned stays open. -/
theorem foldl_pollAfter_other {old new : Module → ModuleEntry} {ms : List Module} {m : Module} (hm : m ∈ ms)
    (ends : abandons (old m) (new m) = true) {p : Option OpenPoll} {x : OpenPoll}
    (h : ms.foldl (fun p m => pollAfter (old m) (new m) m p) p = some x) : x.module ≠ m := by
  induction ms generalizing p with
  | nil => exact nomatch hm
  | cons n ms ih =>
    rw [List.foldl_cons] at h
    obtain rfl | later := List.mem_cons.1 hm
    · obtain same | gone := foldl_pollAfter_shrinks old new ms (pollAfter (old m) (new m) m p)
      · rw [same, pollAfter, if_pos ends] at h
        exact of_decide_eq_true (Option.filter_eq_some_iff.1 h).2
      · exact nomatch h.symm.trans gone
    · exact ih later h

/-- R33, R64: what a write of modules out of service makes of the state. -/
def modulesTaken (v : Vector ModuleEntry 8) (first n : Nat) (s : State) : State :=
  { s with
    mpm := { s.mpm with
      table := v
      recs := Vector.ofFn fun m => moduleRecAfter s.mpm.table[m] v[m] s.mpm.recs[m]
      poll := (addressedOf (List.finRange 8) first n).foldl (fun p m => pollAfter s.mpm.table[m] v[m] m p) s.mpm.poll }
    rfg := { s.rfg with modules := Vector.ofFn fun m => moduleRefAfter s.mpm.table[m] v[m] s.rfg.modules[m] } }

theorem moduleRecAfter_same (e : ModuleEntry) (r : ModuleRec) : moduleRecAfter e e r = r := by
  unfold moduleRecAfter
  cases e.installed <;> simp

theorem moduleRefAfter_same (e : ModuleEntry) (r : ModuleRef) : moduleRefAfter e e r = r := by
  unfold moduleRefAfter
  cases e.installed <;> simp

theorem applyModules_taken (es : List (ModuleEntry × Byte)) (s : State) : applyModules first (es.map moduleNums) s =
    modulesTaken (written s.mpm.table first (es.map Prod.fst)) first es.length s := by
  have same : ∀ m, m ∉ addressedOf (List.finRange 8) first es.length →
      (written s.mpm.table first (es.map Prod.fst))[m] = s.mpm.table[m] := fun m out =>
    written_other _ _ (mt (mem_addressedOf m).2 (by rwa [List.length_map]))
  have recs := foldl_upd_all (xs := addressedOf (List.finRange 8) first es.length)
    (fun m => moduleRecAfter s.mpm.table[m] (written s.mpm.table first (es.map Prod.fst))[m])
    addressedOf_nodup s.mpm.recs fun m out => by rw [same m out, moduleRecAfter_same]
  have refs := foldl_upd_all (xs := addressedOf (List.finRange 8) first es.length)
    (fun m => moduleRefAfter s.mpm.table[m] (written s.mpm.table first (es.map Prod.fst))[m])
    addressedOf_nodup s.rfg.modules fun m out => by rw [same m out, moduleRefAfter_same]
  rw [applyModules, toModuleEntries_nums, putAll_written, List.length_map, allModules_eq]
  refine (foldl_moduleWritten (fun m => s.mpm.table[m]) (fun m => (written s.mpm.table first (es.map Prod.fst))[m]) _ _).trans ?_
  simp only [State.modMpm_mpm, State.modMpm_rfg, recs, refs]
  rfl

theorem modulesTaken_modu (v : Vector ModuleEntry 8) (first n : Nat) (s : State) (m : Module) :
    (modulesTaken v first n s).modu m = moduleRecAfter s.mpm.table[m] v[m] (s.modu m) := Vector.getElem_ofFn _

/-- R33: the open poll after a write is of no module whose poll the write ends. -/
theorem modulesTaken_poll {v : Vector ModuleEntry 8} {n : Nat} {m : Module} {x : OpenPoll} (at_m : addressedBy first n m)
    (ends : abandons s.mpm.table[m] v[m] = true) (h : (modulesTaken v first n s).mpm.poll = some x) : x.module ≠ m :=
  foldl_pollAfter_other (old := fun m => s.mpm.table[m]) (new := fun m => v[m]) ((mem_addressedOf m).2 at_m) ends h

/-- R64: only an addressed module is newly installed. -/
theorem moduleRefAfter_written (es : List ModuleEntry) (s : State) (m : Module) (r : ModuleRef) :
    moduleRefAfter s.mpm.table[m] (written s.mpm.table first es)[m] r =
      if first ≤ m.val ∧ m.val < first + es.length ∧ s.mpm.table[m].installed = false ∧
          (written s.mpm.table first es)[m].installed = true then
        { r with lastSent := none, startSent := false, own := none }
      else r := by
  by_cases at_m : addressedBy first es.length m
  · obtain ⟨low, high⟩ := id at_m
    simp [moduleRefAfter, low, high]
  · rw [written_other _ _ at_m, moduleRefAfter_same, if_neg]
    rintro ⟨low, high, -⟩
    exact at_m ⟨low, high⟩

end
end Sys2Proof.Machine
end

section
namespace Sys2Proof.Machine

/-! ### The breaker table (R71, R177) -/

section
variable {s : State} {first : Nat}

/-- The numbers of a breaker entry as carried. -/
def breakerNums (e : BreakerEntry) : List Nat :=
  [e.node, e.tc, e.margin, (flagField e.learn).2, (flagField e.lastMeasured.isSome).2,
    fromBe (be 2 (e.lastMeasured.getD 0)), (flagField e.lastPosition.isSome).2,
    fromBe (be 1 ((e.lastPosition.map Position.code).getD 0))]

theorem encOpt_eq (k : Nat) (o : Option Nat) : encOpt k o = be 1 (flagField o.isSome).2 ++ be k (o.getD 0) := by
  cases o <;> rfl

theorem takeEntry_breaker {e : BreakerEntry} (fits : e.node < 256 ∧ e.tc < 65536 ∧ e.margin < 65536) (rest : List Byte) :
    takeEntry Table.breakers.form (encBreaker e ++ rest) = some (breakerNums e, rest) := by
  have present : ∀ b : Bool, (flagField b).2 ≤ 1 := by decide
  obtain ⟨node, tc, margin⟩ := fits
  have position := takeEntry_opt (k := 1) (bs := rest) (present e.lastPosition.isSome)
    (be_length 1 ((e.lastPosition.map Position.code).getD 0)) (takeEntry_nil rest)
  have measured := takeEntry_opt (k := 2) (present e.lastMeasured.isSome) (be_length 2 (e.lastMeasured.getD 0)) position
  simp only [encBreaker, encOpt_eq, Option.isSome_map, encFlag, List.append_assoc] at measured ⊢
  exact takeEntry_num node (takeEntry_num tc (takeEntry_num margin (takeEntry_num (flag_fits _) measured)))

/-- R71: the settings of a breaker entry as a write gives them. -/
def BreakerEntry.set (e old : BreakerEntry) : BreakerEntry :=
  { old with
    node := e.node
    tc := e.tc
    margin := e.margin
    learn := e.learn
    lastPosition := if e.node = old.node then old.lastPosition else none }

theorem toBreaker_nums (e old : BreakerEntry) : toBreaker (breakerNums e) old = e.set old := by
  have flag : ∀ b : Bool, decide ((flagField b).2 = 1) = b := by decide
  simp [toBreaker, breakerNums, fldFlag, fld, flag, BreakerEntry.set]

/-- The entry that a write of `es` from `first` on gives element `i`. -/
def given {α : Type} (es : List α) (first i : Nat) : Option α := if first ≤ i then es[i - first]? else none

theorem given_none {α : Type} {es : List α} {i : Nat} (h : ¬ addressedBy first es.length i) : given es first i = none := by
  rw [addressedBy] at h
  unfold given
  split
  next low => exact List.getElem?_eq_none (by omega)
  · rfl

theorem updAll_breakers (old : Vector BreakerEntry 12) (es : List BreakerEntry) (k : Target) :
    (updAll toBreaker old first (es.map breakerNums))[k] = (given es first k.val).elim old[k] fun e => e.set old[k] := by
  rw [Fin.getElem_fin, updAll_get _ _ _ _ k.isLt, given]
  split
  · rw [List.getElem?_map]
    cases es[k.val - first]? with
    | none => rfl
    | some e => exact toBreaker_nums e _
  · rfl

theorem breakers_ok (es : List BreakerEntry) : writeValuesOk s .breakers first (es.map breakerNums) = true ↔
    ∀ e ∈ es, e.node ≤ 62 ∧ s.own ≠ some e.node ∧ 20 ≤ e.tc ∧ e.tc ≤ 300 ∧ 20 ≤ e.margin ∧ e.margin ≤ 500 := by
  rw [writeValuesOk, List.all_map, List.all_eq_true]
  refine forall₂_congr fun e _ => ?_
  have fields : fld (breakerNums e) 0 = e.node ∧ fld (breakerNums e) 1 = e.tc ∧ fld (breakerNums e) 2 = e.margin ∧
      flagOk (fld (breakerNums e) 3) = true := ⟨rfl, rfl, rfl, flagOk_flag e.learn⟩
  obtain ⟨node, tc, margin, learn⟩ := fields
  simp only [Function.comp_apply, breakerOk, node, tc, margin, learn, Bool.and_true, Bool.and_eq_true, decide_eq_true_eq,
    within_iff, and_assoc]

theorem writeInUse_breakers (es : List (List Nat)) : writeInUse s .breakers first es = true ↔
    ∃ k : Target, addressedBy first es.length k ∧ s.syu.busy k = true := by
  rw [writeInUse, allTargets_eq, List.any_eq_true]
  exact exists_congr fun k => and_congr (mem_addressedOf k) Iff.rfl

theorem foldl_breakerWritten (old new : Target → BreakerEntry) (ks : List Target) (s : State) :
    ks.foldl (fun s k => breakerWritten (old k) (new k) k s) s = { s with syu := { s.syu with
      closeHeld := ks.foldl (fun v k => upd v k fun h => h && decide ((new k).node = (old k).node)) s.syu.closeHeld } } := by
  induction ks generalizing s with
  | nil => rfl
  | cons k ks ih =>
    have one : breakerWritten (old k) (new k) k s = { s with syu := { s.syu with
        closeHeld := upd s.syu.closeHeld k fun h => h && decide ((new k).node = (old k).node) } } := by
      unfold breakerWritten
      by_cases same : (old k).node = (new k).node
      · rw [if_pos same, upd_same_at (v := s.syu.closeHeld) (by simp [same])]
      · simp only [if_neg same, Ne.symm same, decide_false, Bool.and_false]
        rfl
    rw [List.foldl_cons, one, ih]
    rfl

/-- R71: what a write of breakers without work makes of the state. -/
def breakersTaken (es : List BreakerEntry) (first : Nat) (s : State) : State :=
  { s with syu := { s.syu with
    breakers := Vector.ofFn fun k => (given es first k.val).elim s.syu.breakers[k] fun e => e.set s.syu.breakers[k]
    closeHeld := Vector.ofFn fun k => (given es first k.val).elim s.syu.closeHeld[k] fun e =>
      s.syu.closeHeld[k] && decide (e.node = s.syu.breakers[k].node) } }

theorem applyBreakers_taken (es : List BreakerEntry) (s : State) :
    applyBreakers first (es.map breakerNums) s = breakersTaken es first s := by
  have still : ∀ k : Target, k ∉ addressedOf (List.finRange 12) first es.length → given es first k.val = none := fun k out =>
    given_none (mt (mem_addressedOf k).2 out)
  have table : updAll toBreaker s.syu.breakers first (es.map breakerNums) =
      Vector.ofFn fun k => (given es first k.val).elim s.syu.breakers[k] fun e => e.set s.syu.breakers[k] := by
    ext1 k hk
    rw [Vector.getElem_ofFn]
    exact updAll_breakers _ _ (⟨k, hk⟩ : Target)
  have held := foldl_upd_all (xs := addressedOf (List.finRange 12) first es.length)
    (fun k h => h && decide ((updAll toBreaker s.syu.breakers first (es.map breakerNums))[k].node = s.syu.breakers[k].node))
    addressedOf_nodup s.syu.closeHeld fun k out => by
      rw [updAll_breakers, still k out]
      simp
  have marks : (Vector.ofFn fun k : Target => s.syu.closeHeld[k] &&
      decide ((updAll toBreaker s.syu.breakers first (es.map breakerNums))[k].node = s.syu.breakers[k].node)) =
      Vector.ofFn fun k => (given es first k.val).elim s.syu.closeHeld[k] fun e =>
        s.syu.closeHeld[k] && decide (e.node = s.syu.breakers[k].node) := by
    congr 1
    funext k
    rw [updAll_breakers]
    cases given es first k.val with
    | none => simp
    | some e => rfl
  rw [applyBreakers, List.length_map, allTargets_eq]
  refine (foldl_breakerWritten (fun k => s.syu.breakers[k])
    (fun k => (updAll toBreaker s.syu.breakers first (es.map breakerNums))[k]) _ _).trans ?_
  simp only [State.modSyu_syu, held]
  rw [marks, table]
  rfl

end

/-! ### The three writes at the operator node -/

section
variable {s : State} {src first : Byte} {tag : BitVec 16}

/-- R18, R19: a write of streams is taken whole or refused whole. -/
theorem writeStreams_answered {es : List StreamEntry} (q : Quiet s) (w : EgressWorks s) (h : Served s src)
    (o : isOperator s src.toNat = true) (hne : es ≠ []) (range : first.toNat + es.length ≤ 24)
    (fits : ∀ e ∈ es, e.node < 256 ∧ e.channel < 256 ∧ e.point < 256 ∧ e.interval < 65536 ∧ e.staleLimit < 4294967296)
    (alone : ∀ b, (s.berth b).state.watched = true → RaisesAlone (evShipBusStale b) s ∧ RaisesAlone (evCbStale b) s) :
    exec (.writeStreamTable src tag first (BitVec.ofNat 8 es.length) (es.map encStream).flatten) s = .next
      (if writeValuesOk s .streams first.toNat (es.map streamNums) = true then
        answered src tag 2 .done [] (streamsTaken (written s.scl.streams first.toNat es) s)
      else answered src tag 2 .badValue [] s) := by
  have read := takeEntries_map fun e he => takeEntry_stream (fits e he)
  rw [← List.length_map (f := streamNums)] at read
  have range' : first.toNat + (es.map streamNums).length ≤ Table.streams.size := by rw [List.length_map]; exact range
  have same : ∀ p, writeValuesOk (served src p s) .streams first.toNat (es.map streamNums) =
      writeValuesOk s .streams first.toNat (es.map streamNums) := fun p => rfl
  split
  next good =>
    have drained : ∀ p, drain Config.settleFuel (applyStreams first.toNat (es.map streamNums) (served src p s)) =
        served src p (streamsTaken (written s.scl.streams first.toNat es) s) := fun p =>
      (applyStreams_drained (s := served src p s) q alone).trans (streamsTaken_served _ s)
    have outcome : ∀ p, performWrite .streams first.toNat (es.map streamNums) (served src p s) =
        (.done, applyStreams first.toNat (es.map streamNums) (served src p s)) := fun p =>
      performWrite_done rfl ((same p).trans good)
    obtain ⟨handoffs, lpu, mgu⟩ := streamsTaken_frame (written s.scl.streams first.toNat es) s
    have taken := operatorWrite_taken (tag := tag) (t := .streams) q h o rfl (by simpa using hne) range' read outcome drained
      (handoffs.trans q) (by rw [egressWorks_iff, lpu]; exact w) (by rw [mgu]; exact h.2.1) (by rw [mgu]; exact h.2.2.1)
    rw [List.length_map] at taken
    exact taken
  next bad =>
    have refused := operatorWrite_answered (tag := tag) (t := .streams) (u := s) q w h o rfl (by simpa using hne) range'
      read (fun p => performWrite_badValue rfl ((same p).trans (Bool.eq_false_iff.2 bad))) q rfl rfl
    rw [List.length_map] at refused
    exact refused

/-- R33: a write of modules reaches its owner. -/
theorem writeModules_answered {es : List (ModuleEntry × Byte)} {res : Result} {u : State} (q : Quiet s) (w : EgressWorks s)
    (h : Served s src) (o : isOperator s src.toNat = true) (hne : es ≠ []) (range : first.toNat + es.length ≤ 8)
    (fits : ∀ e ∈ es, e.1.rating < 65536 ∧ e.1.node < 256 ∧ e.1.startLimit < 256 ∧ e.1.stopLimit < 256)
    (outcome : ∀ p, performWrite .modules first.toNat (es.map moduleNums) (served src p s) = (res, served src p u))
    (none : u.handoffs = []) (lpu : u.lpu = s.lpu) (mgu : u.mgu = s.mgu) :
    exec (.writeModuleTable src tag first (BitVec.ofNat 8 es.length)
      (es.map fun e => encFlag e.1.installed ++ be 2 e.1.rating ++ be 1 e.1.node ++ [e.2] ++
        be 1 e.1.startLimit ++ be 1 e.1.stopLimit).flatten) s = .next (answered src tag 2 res [] u) := by
  have read := takeEntries_map (form := Table.modules.form) fun e he => takeEntry_module (fits e he)
  rw [← List.length_map (f := moduleNums)] at read
  have range' : first.toNat + (es.map moduleNums).length ≤ Table.modules.size := by rw [List.length_map]; exact range
  have answered := operatorWrite_answered (tag := tag) (t := .modules) q w h o rfl (by simpa using hne) range' read outcome
    none lpu mgu
  rw [List.length_map] at answered
  exact answered

/-- R71: a write of breakers reaches its owner. -/
theorem writeBreakers_answered {es : List BreakerEntry} {res : Result} {u : State} (q : Quiet s) (w : EgressWorks s)
    (h : Served s src) (o : isOperator s src.toNat = true) (hne : es ≠ []) (range : first.toNat + es.length ≤ 12)
    (fits : ∀ e ∈ es, e.node < 256 ∧ e.tc < 65536 ∧ e.margin < 65536)
    (outcome : ∀ p, performWrite .breakers first.toNat (es.map breakerNums) (served src p s) = (res, served src p u))
    (none : u.handoffs = []) (lpu : u.lpu = s.lpu) (mgu : u.mgu = s.mgu) :
    exec (.writeBreakerTable src tag first (BitVec.ofNat 8 es.length) (es.map encBreaker).flatten) s =
      .next (answered src tag 2 res [] u) := by
  have read := takeEntries_map fun e he => takeEntry_breaker (fits e he)
  rw [← List.length_map (f := breakerNums)] at read
  have range' : first.toNat + (es.map breakerNums).length ≤ Table.breakers.size := by rw [List.length_map]; exact range
  have answered := operatorWrite_answered (tag := tag) (t := .breakers) q w h o rfl (by simpa using hne) range' read outcome
    none lpu mgu
  rw [List.length_map] at answered
  exact answered

end
end Sys2Proof.Machine
end

section
open Sys2Proof Sys2Proof.Machine

/-- Settles O51: the entries are read back from their bytes; a stream write resets the point store and its raises are
taken one after another, and a write of modules or breakers without work changes each addressed entry by itself. -/
theorem plantWritten : Obligations.PlantWritten := by
  intro src tag first s q w h o
  refine ⟨fun es some range fits => ?_, fun es some range fits => ?_, fun es some range fits => ?_⟩
  · intro watched alone v begins told valid seen
    have watching : ∀ b, (s.berth b).state.watched = watched b := fun b => watched_iff _
    have answered := writeStreams_answered (tag := tag) q w h o some range fits fun b hb => alone b ((watching b).symm.trans hb)
    have taken : streamsTaken v s = { s with
        scl := { s.scl with
          streams := v
          points := Vector.ofFn fun p => PointRec.cold (pointLimits v p)
          shipStale := Vector.ofFn fun b => begins s.scl.shipStale[b] b
          convStale := Vector.ofFn fun b => begins s.scl.convStale[b] b }
        syu := { s.syu with chans := s.syu.chans.map (Option.map seen) }
        evr := { s.evr with entries := Vector.ofFn told } } := by
      unfold streamsTaken
      simp only [watching]
      rfl
    rw [answered, taken]
    exact congrArg _ (if_congr (streams_ok es) rfl rfl)
  · intro write v fit refs
    have inUse : ∀ p, writeInUse (served src p s) .modules first.toNat (es.map moduleNums) = true ↔
        ∃ m : Module, addressedBy first.toNat es.length m ∧
          (s.modu m).state ∈ [.starting, .syncing, .online, .stopping] := fun p => by
      rw [writeInUse_modules, List.length_map]
      rfl
    have values : ∀ p, writeValuesOk (served src p s) .modules first.toNat (es.map moduleNums) = true ↔ fit :=
      fun p => modules_ok es
    refine ⟨fun used => ?_, fun idle => ?_⟩
    · exact writeModules_answered q w h o some range fits (fun p => performWrite_inUse ((inUse p).2 used)) q rfl rfl
    have free : ∀ p, writeInUse (served src p s) .modules first.toNat (es.map moduleNums) = false := fun p =>
      Bool.eq_false_iff.2 fun used => by
        obtain ⟨m, at_m, busy⟩ := (inUse p).1 used
        exact idle m at_m busy
    refine ⟨fun unfit => ?_, fun good => ?_⟩
    · exact writeModules_answered q w h o some range fits
        (fun p => performWrite_badValue (free p) (Bool.eq_false_iff.2 (mt (values p).1 unfit))) q rfl rfl
    have record := modulesTaken_modu v first.toNat es.length s
    refine ⟨modulesTaken v first.toNat es.length s, writeModules_answered q w h o some range fits
      (fun p => (performWrite_done (free p) ((values p).2 good)).trans
        (congrArg _ (applyModules_taken es (served src p s)))) q rfl rfl, ?_, foldl_pollAfter_shrinks _ _ _ _,
      fun m => ⟨fun out => ?_, fun at_m => ⟨fun was is => ?_, fun was is => ?_, fun was is => ⟨?_, fun x hx => ?_⟩,
        fun was is other => ⟨?_, fun x hx => ?_⟩, fun was is same => ?_⟩⟩⟩
    · have cleared : Vector.ofFn refs = Vector.ofFn fun m => moduleRefAfter s.mpm.table[m] v[m] s.rfg.modules[m] :=
        congrArg Vector.ofFn (funext fun m => by
          rw [moduleRefAfter_written, List.length_map])
      rw [cleared]
      rfl
    · have still : v[m] = s.mpm.table[m] := written_other _ _ (by rwa [List.length_map])
      rw [record, still, moduleRecAfter_same]
    · rw [record, moduleRecAfter, if_pos was, if_pos is]
    · rw [record, moduleRecAfter, if_pos was, if_neg (by rw [is]; decide)]
    · rw [record, moduleRecAfter, if_neg (by rw [was]; decide), if_pos is]
    · exact modulesTaken_poll at_m (by rw [abandons, was, is]; rfl) hx
    · rw [record, moduleRecAfter, if_neg (by rw [was]; decide), if_neg (by rw [is]; decide), if_pos other.symm]
      rfl
    · exact modulesTaken_poll at_m (by rw [abandons, was, is]; exact decide_eq_true other) hx
    · rw [record, moduleRecAfter, if_neg (by rw [was]; decide), if_neg (by rw [is]; decide), if_neg fun other => other same.symm]
  · intro write
    have fits' : ∀ e ∈ es, e.node < 256 ∧ e.tc < 65536 ∧ e.margin < 65536 := fun e he =>
      ⟨(fits e he).1, (fits e he).2.1, (fits e he).2.2.1⟩
    have inUse : ∀ p, writeInUse (served src p s) .breakers first.toNat (es.map breakerNums) = true ↔
        ∃ k : Target, addressedBy first.toNat es.length k ∧ s.syu.busy k = true := fun p => by
      rw [writeInUse_breakers, List.length_map]
      rfl
    refine ⟨fun used => ?_, fun idle => ?_⟩
    · exact writeBreakers_answered q w h o some range fits' (fun p => performWrite_inUse ((inUse p).2 used)) q rfl rfl
    have free : ∀ p, writeInUse (served src p s) .breakers first.toNat (es.map breakerNums) = false := fun p =>
      Bool.eq_false_iff.2 fun used => by
        obtain ⟨k, at_k, busy⟩ := (inUse p).1 used
        exact nomatch (idle k at_k).symm.trans busy
    have values : ∀ p, writeValuesOk (served src p s) .breakers first.toNat (es.map breakerNums) = true ↔ _ :=
      fun p => breakers_ok es
    split
    next good =>
      refine (writeBreakers_answered q w h o some range fits' (fun p => (performWrite_done (free p) ((values p).2 good)).trans
        (congrArg _ (applyBreakers_taken es (served src p s)))) (u := breakersTaken es first.toNat s) q rfl rfl).trans ?_
      refine congrArg (fun u => Host.Outcome.next (answered src tag 2 .done [] u)) ?_
      refine congrArg₂ (fun v c => ({ s with syu := { s.syu with breakers := v, closeHeld := c } } : State))
        (congrArg Vector.ofFn (funext fun k => ?_)) (congrArg Vector.ofFn (funext fun k => ?_))
      · unfold given
        cases (if first.toNat ≤ k.val then es[k.val - first.toNat]? else none) <;> rfl
      · unfold given
        cases (if first.toNat ≤ k.val then es[k.val - first.toNat]? else none) <;> rfl
    next bad =>
      exact writeBreakers_answered q w h o some range fits'
        (fun p => performWrite_badValue (free p) (Bool.eq_false_iff.2 (mt (values p).1 bad))) q rfl rfl

end

section
namespace Sys2Proof.Machine

/-! ### CONNECT and CONNECT_DEAD_SHIP at BSQ (R99) -/

section
variable {s u : State} {b : Berth} {dead : Bool} {src : Byte} {tag : BitVec 16} {res : Result}

/-- R99 step 1: the berth is DEAD and the emergency stop is not asserted. -/
def Idle (s : State) (b : Berth) : Prop := (s.berth b).state = .dead ∧ s.pins.estop = false

/-- R99: the ship has said, not long ago, that it is ready. -/
def ShipReady (s : State) (b : Berth) : Prop :=
  ∃ r, s.bsq.ships[b] = some r ∧ r.ready = true ∧ s.now - r.received ≤ 2000

/-- R99: the current tariff set is LOADED. -/
def TariffLoaded (s : State) : Prop := ∃ i, s.blg.current = some i ∧ s.blg.sets[i].loaded = true

theorem shipReady_iff : shipReady s b = true ↔ ShipReady s b := by
  unfold shipReady shipCurrent ShipReady
  cases s.bsq.ships[b] with
  | none => simp
  | some r => simp [Config.shipCurrentMs, and_comm]

theorem tariffLoaded_iff : tariffLoaded s = true ↔ TariffLoaded s := by
  unfold tariffLoaded TariffLoaded
  cases s.blg.current <;> simp

theorem slotCheck_iff (g : Blg) : g.slotCheck = true ↔ g.sum < 32 ∧ g.counter + g.taken < Config.u32Max + 1 := by
  rw [Blg.slotCheck, Bool.and_eq_true, decide_eq_true_eq, decide_eq_true_eq]
  refine and_congr Iff.rfl ?_
  omega

/-- R40: the ratings of the modules in STANDBY reach the contract demand. -/
def Enough (s : State) (b : Berth) : Prop :=
  (s.entry b).contract ≤ ((((List.finRange 8).filter fun m => (s.modu m).state = .standby).map fun m : Module =>
    s.mpm.table[m].rating)).sum

theorem capacityCheck_iff : capacityCheck s b = true ↔ Enough s b := by
  rw [capacityCheck, standbyModules, allModules_eq, decide_eq_true_eq]
  rfl

theorem connectCmd_busy (h : ¬ Idle s b) : connectCmd b dead s = (.busy, s) := by
  refine if_pos ?_
  by_contra none
  rw [not_or, not_not, Bool.not_eq_true] at none
  exact h none

theorem connectCmd_idle (h : Idle s b) : connectCmd b dead s =
    if !s.pins.pilot[b] then (.pilotOpen, s)
    else if !shipReady s b then (.notReady, s)
    else if !tariffLoaded s then (.noTariff, s.post (.raise evTariffNotSet))
    else if !s.blg.slotCheck then (.noSlot, evalLogFull s)
    else if !capacityCheck s b then (.noCapacity, evalLogFull s)
    else (.done, acceptConnect b dead (evalLogFull s)) := by
  obtain ⟨idle, free⟩ := h
  exact if_neg (by rw [idle, free]; decide)

theorem connectCmd_pilotOpen (h : Idle s b) (off : s.pins.pilot[b] = false) : connectCmd b dead s = (.pilotOpen, s) := by
  rw [connectCmd_idle h, if_pos (by rw [off]; rfl)]

theorem connectCmd_notReady (h : Idle s b) (on : s.pins.pilot[b] = true) (ready : ¬ ShipReady s b) :
    connectCmd b dead s = (.notReady, s) := by
  rw [connectCmd_idle h, if_neg (by rw [on]; decide), if_pos]
  rw [Bool.eq_false_iff.2 (mt shipReady_iff.1 ready)]
  rfl

theorem connectCmd_ready (h : Idle s b) (on : s.pins.pilot[b] = true) (ready : ShipReady s b) : connectCmd b dead s =
    if !tariffLoaded s then (.noTariff, s.post (.raise evTariffNotSet))
    else if !s.blg.slotCheck then (.noSlot, evalLogFull s)
    else if !capacityCheck s b then (.noCapacity, evalLogFull s)
    else (.done, acceptConnect b dead (evalLogFull s)) := by
  rw [connectCmd_idle h, if_neg (by rw [on]; decide), if_neg (by rw [shipReady_iff.2 ready]; decide)]

theorem connectCmd_noTariff (h : Idle s b) (on : s.pins.pilot[b] = true) (ready : ShipReady s b) (bare : ¬ TariffLoaded s) :
    connectCmd b dead s = (.noTariff, s.post (.raise evTariffNotSet)) := by
  rw [connectCmd_ready h on ready, if_pos]
  rw [Bool.eq_false_iff.2 (mt tariffLoaded_iff.1 bare)]
  rfl

theorem connectCmd_checked (h : Idle s b) (on : s.pins.pilot[b] = true) (ready : ShipReady s b) (tariff : TariffLoaded s) :
    connectCmd b dead s = if !s.blg.slotCheck then (.noSlot, evalLogFull s)
      else if !capacityCheck s b then (.noCapacity, evalLogFull s)
      else (.done, acceptConnect b dead (evalLogFull s)) := by
  rw [connectCmd_ready h on ready, if_neg (by rw [tariffLoaded_iff.2 tariff]; decide)]

theorem connectCmd_noSlot (h : Idle s b) (on : s.pins.pilot[b] = true) (ready : ShipReady s b) (tariff : TariffLoaded s)
    (none : ¬ (s.blg.sum < 32 ∧ s.blg.counter + s.blg.taken < Config.u32Max + 1)) :
    connectCmd b dead s = (.noSlot, evalLogFull s) := by
  rw [connectCmd_checked h on ready tariff, if_pos]
  rw [Bool.eq_false_iff.2 (mt (slotCheck_iff _).1 none)]
  rfl

theorem connectCmd_noCapacity (h : Idle s b) (on : s.pins.pilot[b] = true) (ready : ShipReady s b) (tariff : TariffLoaded s)
    (room : s.blg.sum < 32 ∧ s.blg.counter + s.blg.taken < Config.u32Max + 1) (few : ¬ Enough s b) :
    connectCmd b dead s = (.noCapacity, evalLogFull s) := by
  rw [connectCmd_checked h on ready tariff, if_neg (by rw [(slotCheck_iff _).2 room]; decide), if_pos]
  rw [Bool.eq_false_iff.2 (mt capacityCheck_iff.1 few)]
  rfl

theorem connectCmd_accepted (h : Idle s b) (on : s.pins.pilot[b] = true) (ready : ShipReady s b) (tariff : TariffLoaded s)
    (room : s.blg.sum < 32 ∧ s.blg.counter + s.blg.taken < Config.u32Max + 1) (enough : Enough s b) :
    connectCmd b dead s = (.done, acceptConnect b dead (evalLogFull s)) := by
  rw [connectCmd_checked h on ready tariff, if_neg (by rw [(slotCheck_iff _).2 room]; decide),
    if_neg (by rw [capacityCheck_iff.2 enough]; decide)]

/-- The command that asks for a connection. -/
def connectInstr (dead : Bool) (src : Byte) (tag : BitVec 16) (b : Berth) : Instr :=
  if dead then .connectDeadShip src tag (BitVec.ofNat 8 b.val) else .connect src tag (BitVec.ofNat 8 b.val)

/-- The number of that command. -/
def connectCode (dead : Bool) : Byte := if dead then 2 else 1

theorem exec_connectInstr (dead : Bool) (src : Byte) (tag : BitVec 16) (b : Berth) (s : State) :
    exec (connectInstr dead src tag b) s = done (request src tag 3 [BitVec.ofNat 8 b.val, connectCode dead]) s := by
  cases dead <;> rfl

theorem performBerth_connect (b : Berth) (dead : Bool) (s : State) :
    performBerth (BitVec.ofNat 8 b.val).toNat (connectCode dead).toNat s = connectCmd b dead s := by
  unfold performBerth
  rw [berthOf?_byte]
  cases dead <;> rfl

/-- R99, R172: a request for a connection is answered, once what BSQ hands over is taken. -/
theorem connect_taken {v : MguReq → State} (q : Quiet s) (h : Served s src) (o : isOperator s src.toNat = true)
    (owner : ∀ p, connectCmd b dead (served src p s) = (res, v p))
    (taken : ∀ p, drain Config.settleFuel (v p) = served src p u) (none : u.handoffs = []) (w : EgressWorks u)
    (queue : u.mgu.queue = []) (parts : u.mgu.parts = []) :
    exec (connectInstr dead src tag b) s = .next (answered src tag 3 res [] u) := by
  rw [exec_connectInstr]
  exact request_owned (r := .berth (BitVec.ofNat 8 b.val).toNat (connectCode dead).toNat) q h (by omega) rfl o rfl rfl
    (fun p => congrArg ofOwner ((performBerth_connect b dead _).trans (owner p))) taken none w queue parts

/-- R99: a request for a connection at which BSQ hands nothing over. -/
theorem connect_plain (q : Quiet s) (w : EgressWorks s) (h : Served s src) (o : isOperator s src.toNat = true)
    (owner : ∀ p, connectCmd b dead (served src p s) = (res, served src p u)) (none : u.handoffs = []) (lpu : u.lpu = s.lpu)
    (mgu : u.mgu = s.mgu) : exec (connectInstr dead src tag b) s = .next (answered src tag 3 res [] u) :=
  connect_taken q h o owner (fun p => drain_nil _ ((served_handoffs p u).trans none)) none
    (by rw [egressWorks_iff, lpu]; exact w) (mgu ▸ h.2.1) (mgu ▸ h.2.2.1)

/-- R99: a request for a connection at which BSQ raises one entry, alone. -/
theorem connect_raised {e : EventIx} (q : Quiet s) (w : EgressWorks s) (h : Served s src) (o : isOperator s src.toNat = true)
    (owner : ∀ p, connectCmd b dead (served src p s) = (res, (served src p u).post (.raise e))) (alone : RaisesAlone e u)
    (none : u.handoffs = []) (lpu : u.lpu = s.lpu) (mgu : u.mgu = s.mgu) :
    exec (connectInstr dead src tag b) s = .next (answered src tag 3 res [] (raised e u)) :=
  connect_taken q h o owner (fun p => (drain_raise ((served_handoffs p u).trans none) (by exact alone)).trans rfl) none
    (by rw [egressWorks_iff, show (raised e u).lpu = s.lpu from lpu]; exact w) (mgu ▸ h.2.1) (mgu ▸ h.2.2.1)

theorem connect_acted {v : MguReq → State} (q : Quiet s) (h : Served s src) (o : isOperator s src.toNat = true)
    (owner : ∀ p, connectCmd b dead (served src p s) = (res, v p)) (mgu : ∀ p, (v p).mgu = (served src p s).mgu) :
    ∃ p, exec (connectInstr dead src tag b) s = .next (concluded (reply src tag 3 res []) (v p)) := by
  rw [exec_connectInstr]
  exact request_acted (r := .berth (BitVec.ofNat 8 b.val).toNat (connectCode dead).toNat) q h (by omega) rfl o rfl rfl
    (fun p => congrArg ofOwner ((performBerth_connect b dead _).trans (owner p))) mgu

theorem evalLogFull_full (h : s.blg.sum = 32) :
    evalLogFull s = ({ s with blg := { s.blg with logFull := true } } : State).post (.raise evLogFull) := if_pos h

end
end Sys2Proof.Machine
end

section
namespace Sys2Proof.Machine

/-! ### The modules an acceptance takes (R40) -/

section
variable {s t u : State} {b : Berth} {m x : Module} {ms : List Module}

/-- R40: the record of a module that has just been taken. -/
def ModuleRec.begun (due : Nat) (first : Bool) (r : ModuleRec) : ModuleRec :=
  { r with
    state := .starting
    first := first
    startIssued := !first
    deferred := false
    blockPending := false
    startDue := some due
    stopDue := none
    closedNoted := false
    runningSeen := false }

/-- R40: the modules `ms` taken for berth `b`, `first` among them as the first. -/
def takenFor (b : Berth) (first : Module) (ms : List Module) (s : State) : State :=
  { s with
    mpm := { s.mpm with
      lists := upd s.mpm.lists b fun l => l ++ ms
      recs := ms.foldl (fun v x => upd v x
        (ModuleRec.begun (s.now + s.mpm.table[x].startLimit * 1000) (x = first))) s.mpm.recs }
    rfg := { s.rfg with modules := ms.foldl (fun v x => upd v x fun r =>
      { r with lastSent := none, startSent := false, own := none }) s.rfg.modules } }

theorem takeModule_eq (b : Berth) (first m : Module) (s : State) :
    takeModule b (m = first) m s = takenFor b first [m] s := rfl

theorem takenFor_cons (b : Berth) (first m : Module) (ms : List Module) (s : State) :
    takenFor b first ms (takenFor b first [m] s) = takenFor b first (m :: ms) s := by
  unfold takenFor
  simp only [upd_upd, List.append_assoc]
  rfl

theorem takenFor_nil (b : Berth) (first : Module) (s : State) : takenFor b first [] s = s := by
  have lists : upd s.mpm.lists b (fun l => l ++ []) = s.mpm.lists := upd_same_at (List.append_nil _)
  unfold takenFor
  rw [lists]
  rfl

theorem foldl_takeModule (first : Module) (ms : List Module) (s : State) :
    ms.foldl (fun s x => takeModule b (x = first) x s) s = takenFor b first ms s := by
  induction ms generalizing s with
  | nil => exact (takenFor_nil b first s).symm
  | cons m ms ih => rw [List.foldl_cons, takeModule_eq, ih, takenFor_cons]

/-- R40: the first module and then the others are taken. -/
theorem takeModules_eq (apart : (m :: ms).Nodup) (s : State) :
    ms.foldl (fun s x => takeModule b false x s) (takeModule b true m s) = takenFor b m (m :: ms) s := by
  obtain ⟨new, -⟩ := List.nodup_cons.1 apart
  have same : ∀ (xs : List Module) (s : State), m ∉ xs → xs.foldl (fun s x => takeModule b false x s) s =
      xs.foldl (fun s x => takeModule b (x = m) x s) s := fun xs => by
    induction xs with
    | nil => exact fun _ _ => rfl
    | cons x xs ih =>
      intro s out
      rw [List.mem_cons, not_or] at out
      rw [List.foldl_cons, List.foldl_cons, ih _ out.2, decide_eq_false (Ne.symm out.1)]
  rw [same ms _ new, foldl_takeModule, ← takenFor_cons, ← takeModule_eq, decide_eq_true rfl]

theorem takenFor_modu (apart : ms.Nodup) (h : x ∈ ms) : (takenFor b m ms s).modu x =
    (s.modu x).begun (s.now + s.mpm.table[x].startLimit * 1000) (x = m) :=
  (foldl_upd _ apart s.mpm.recs x).trans (if_pos h)

theorem takenFor_modu_other (apart : ms.Nodup) (h : x ∉ ms) : (takenFor b m ms s).modu x = s.modu x :=
  (foldl_upd _ apart s.mpm.recs x).trans (if_neg h)

theorem takenFor_list : (takenFor b m ms s).list b = s.list b ++ ms := upd_self s.mpm.lists b fun l => l ++ ms

theorem takenFor_list_other {a : Berth} (h : a ≠ b) : (takenFor b m ms s).list a = s.list a :=
  upd_other (i := b) (j := a) _ _ (Ne.symm h)

/-- R40: the modules picked. -/
theorem pickModules_prefix (rating : Module → Nat) (need : Nat) (ms : List Module) : pickModules rating need ms <+: ms := by
  induction ms generalizing need with
  | nil => exact List.prefix_rfl
  | cons m ms ih =>
    unfold pickModules
    split
    · exact List.nil_prefix
    · exact (List.prefix_cons_inj m).2 (ih _)

/-- R40: the ratings of the modules picked reach what is needed, where all of them together do. -/
theorem pickModules_enough {rating : Module → Nat} {need : Nat} (h : need ≤ (ms.map rating).sum) :
    need ≤ ((pickModules rating need ms).map rating).sum := by
  induction ms generalizing need with
  | nil => exact h
  | cons m ms ih =>
    rw [List.map_cons, List.sum_cons] at h
    unfold pickModules
    split
    next none => omega
    next =>
      have := ih (need := need - rating m) (by omega)
      rw [List.map_cons, List.sum_cons]
      omega

/-- R40: no fewer of the modules picked reach what is needed. -/
theorem pickModules_shortest {rating : Module → Nat} {need k : Nat} (h : k < (pickModules rating need ms).length) :
    (((pickModules rating need ms).take k).map rating).sum < need := by
  induction ms generalizing need k with
  | nil => exact absurd h (Nat.not_lt_zero k)
  | cons m ms ih =>
    unfold pickModules at h ⊢
    split at h
    · exact absurd h (Nat.not_lt_zero k)
    next some =>
      rw [if_neg some]
      cases k with
      | zero => simpa using Nat.pos_of_ne_zero some
      | succ k =>
        have := ih (need := need - rating m) (k := k) (by simpa using h)
        rw [List.take_succ_cons, List.map_cons, List.sum_cons]
        omega

end
end Sys2Proof.Machine
end

section
namespace Sys2Proof.Machine

/-! ### An acceptance (R99, R145) -/

section
variable {s t u z : State} {b : Berth} {m x : Module} {ms : List Module} {dead : Bool}

/-- R145: a reservation takes a place. -/
theorem taken_modSlot_reserved (h : s.slot b = .free) :
    (s.modSlot b fun _ => .reserved).blg.taken = s.blg.taken + 1 := by
  have lt : b.val < s.blg.slots.toList.length := by simp
  have here : s.blg.slots.toList[b.val] = .free := by simpa [State.slot] using h
  have eq : (s.modSlot b fun _ => .reserved).blg.slots.toList = s.blg.slots.toList.set b.val .reserved :=
    Vector.toList_set (xs := s.blg.slots) b.isLt
  have reserved : (Slot.reserved != Slot.free) = true := rfl
  have free : (Slot.free != Slot.free) = false := rfl
  rw [Blg.taken, eq, List.countP_set lt, here, reserved, free, Blg.taken]
  simp

/-- R145, R146: the berth's slot is RESERVED. -/
def bookedFor (b : Berth) (s : State) : State :=
  { s with blg := { s.blg with
    slots := upd s.blg.slots b fun _ => .reserved
    logFull := decide (s.blg.sum + 1 = 32) } }

/-- R146: the raise of the reservation that takes the last place. -/
def fullRaises (s : State) : List Handoff := if s.blg.sum + 1 = 32 then [.raise evLogFull] else []

theorem reserve_eq (free : s.slot b = .free) (room : s.blg.sum < 32) :
    reserveSlot b (evalLogFull s) = { bookedFor b s with handoffs := s.handoffs ++ fullRaises s } := by
  have sum : ((evalLogFull s).modSlot b fun _ => .reserved).blg.sum = s.blg.sum + 1 := by
    have taken := taken_modSlot_reserved free
    rw [evalLogFull_room (by omega)]
    show (s.modSlot b fun _ => .reserved).blg.taken + s.blg.log.length = s.blg.taken + s.blg.log.length + 1
    rw [taken]
    omega
  have free' : (evalLogFull s).slot b = .free := by rw [evalLogFull_room (by omega)]; exact free
  unfold reserveSlot
  rw [free']
  dsimp only
  unfold bookedFor fullRaises
  by_cases full : s.blg.sum + 1 = 32
  · rw [evalLogFull_full (sum.trans full), evalLogFull_room (by omega), if_pos full, decide_eq_true full]
    rfl
  · rw [evalLogFull_room (s := (evalLogFull s).modSlot b fun _ => .reserved) (by rw [sum]; exact full),
      evalLogFull_room (s := s) (by omega), if_neg full, decide_eq_false full, List.append_nil]
    rfl

/-- R99 step 4: the record of a berth whose connection is accepted. -/
def BerthRec.opened (now : Nat) (dead : Bool) (r : BerthRec) : BerthRec :=
  { r with
    state := .allocating
    deadShip := dead
    energised := false
    holdEnd := none
    holdFrom := now
    holdAcc := 0
    holdMark := false
    rampDone := false
    capacityCond := false
    lastLimit := 0
    reason := none }

/-- R58, R99: the reference record and the berth's record of an accepted connection. -/
def openedFor (b : Berth) (dead : Bool) (s : State) : State :=
  { s with
    rfg := { s.rfg with
      berths := upd s.rfg.berths b fun _ => some (newBerthRef s.rfg.inForce (s.entry b).nominalF (s.entry b).nominalV)
      handed := upd s.rfg.handed b fun _ => ((s.entry b).nominalF, (s.entry b).nominalV) }
    bsq := { s.bsq with recs := upd s.bsq.recs b (BerthRec.opened s.now dead) } }

theorem enterAllocating_eq (w : EgressWorks s) (idle : (s.berth b).state = .dead) :
    ∃ l, enterState b .allocating (prepareRecord b dead (createRef b s)) = { openedFor b dead s with lpu := l } ∧
      ∀ x, Lpu.Kept x 1 s.lpu l := by
  have lpu : (prepareRecord b dead (createRef b s)).lpu = s.lpu := by simp
  have dead' : ((prepareRecord b dead (createRef b s)).berth b).state = .dead := by
    rw [prepareRecord, State.berth_modBerth]
    exact idle
  have works : EgressWorks (changeState b .allocating (prepareRecord b dead (createRef b s))) := by
    rw [egressWorks_iff, show (changeState b .allocating (prepareRecord b dead (createRef b s))).lpu = s.lpu by simp]
    exact w
  refine ⟨_, ?_, fun x => lpu ▸ enterState_kept x b .allocating (prepareRecord b dead (createRef b s))⟩
  have eq := enterState_eq b .allocating (prepareRecord b dead (createRef b s))
  have given := giveShpn_eq ((prepareRecord b dead (createRef b s)).entry b).gateway (.berth b BerthState.allocating.code) works
  rw [← eq] at given
  refine given.trans ?_
  rw [changeState_plain (by rw [dead']; rfl) (by rw [dead']; decide) (by rw [dead']; decide), prepareRecord,
    modBerth_modBerth]
  rfl

end
end Sys2Proof.Machine
end

section
namespace Sys2Proof.Machine

section
variable {s t u v : State} {b : Berth} {m x : Module} {ms : List Module} {dead : Bool}

theorem targetKind_contactor (m : Module) : targetKind (contactor m) = .inr m := by
  revert m
  decide

/-- R88: SYU takes a dead-bus close of a contactor. -/
theorem deadBusAllowed_contactor : deadBusAllowed s (contactor m) b = true ↔ s.pins.estop = false ∧
    s.syu.busy (contactor m) = false ∧ (s.breaker (contactor m)).node ≠ 0 ∧ (s.point (cbPoint b)).state ≠ .stale ∧
    (s.point (cbPoint b)).voltage * 100 < (s.entry b).nominalV * s.syu.profiles[1].deadThreshold := by
  have far : farPoint (contactor m) b = cbPoint b := by rw [farPoint, targetKind_contactor]
  have high : ¬ (contactor m).val < 4 := by
    show ¬ 4 + m.val < 4
    omega
  have profile : s.profile (contactor m) = s.syu.profiles[1] := 
    congrArg (fun i : Fin 2 => s.syu.profiles[i]) (show profileIx (contactor m) = 1 from if_neg high)
  unfold deadBusAllowed
  rw [far, profile, if_neg high]
  simp [and_assoc]

/-- R40: the modules picked are taken, and the first one's close is asked for. -/
theorem allocate_eq (apart : (m :: ms).Nodup)
    (picks : pickModules (fun m => s.mpm.table[m].rating) (s.entry b).contract (standbyModules s) = m :: ms) :
    allocate b s = tellSummary b (askFirstClose b m (takenFor b m (m :: ms) s)) := by
  unfold allocate
  rw [picks]
  dsimp only
  rw [takeModules_eq apart]

/-- R89: the dead-bus close of the first module's contactor, pending. -/
def pendingClose (b : Berth) (m : Module) (s : State) : DeadClose :=
  ⟨contactor m, b, .mpm, s.now, s.now + confirmWindow (s.breaker (contactor m))⟩

/-- R99: an accepted connection whose first close SYU has taken. -/
def closingFor (b : Berth) (dead : Bool) (m : Module) (ms : List Module) (s : State) : State :=
  let y := openedFor b dead (takenFor b m ms (bookedFor b s))
  { y with syu := { y.syu with deadBus := y.syu.deadBus ++ [pendingClose b m s] } }

/-- R99: what follows the allocation where SYU takes the first close. -/
theorem closing_after (w : EgressWorks s) (idle : (s.berth b).state = .dead)
    (allowed : deadBusAllowed s (contactor m) b = true) :
    ∃ l, enterState b .allocating (prepareRecord b dead (createRef b (tellSummary b (askFirstClose b m s)))) =
        { openedFor b dead s with
          lpu := l
          syu := { s.syu with deadBus := s.syu.deadBus ++ [pendingClose b m s] }
          handoffs := s.handoffs ++ [.summary b] } ∧
      Lpu.Kept (fun _ => False) 1 s.lpu l := by
  have link : Lpu.Kept (fun _ => False) 0 s.lpu (command .close (contactor m) s).lpu := giveBcmd_kept not_false s
  have taken : askFirstClose b m s = { s with
      lpu := (command .close (contactor m) s).lpu
      syu := { s.syu with deadBus := s.syu.deadBus ++ [pendingClose b m s] } } := by
    have asked : askFirstClose b m s = requestDeadBus (contactor m) b .mpm s := if_pos allowed
    rw [asked, requestDeadBus, if_pos allowed, command_eq _ _ w]
    rfl
  rw [taken]
  obtain ⟨l, eq, kept⟩ := enterAllocating_eq (b := b) (dead := dead) (s := tellSummary b { s with
      lpu := (command .close (contactor m) s).lpu
      syu := { s.syu with deadBus := s.syu.deadBus ++ [pendingClose b m s] } }) (link.works w).1 idle
  exact ⟨l, eq, link.trans (kept _)⟩

theorem acceptConnect_closing (w : EgressWorks s) (idle : (s.berth b).state = .dead) (free : s.slot b = .free)
    (room : s.blg.sum < 32) (apart : (m :: ms).Nodup)
    (picks : pickModules (fun m => s.mpm.table[m].rating) (s.entry b).contract (standbyModules s) = m :: ms)
    (allowed : deadBusAllowed s (contactor m) b = true) :
    ∃ l, acceptConnect b dead (evalLogFull s) = { closingFor b dead m (m :: ms) s with
        lpu := l, handoffs := s.handoffs ++ fullRaises s ++ [.summary b] } ∧
      Lpu.Kept (fun _ => False) 1 s.lpu l := by
  rw [acceptConnect, reserve_eq free room, allocate_eq apart (by exact picks)]
  exact closing_after (s := takenFor b m (m :: ms) { bookedFor b s with handoffs := s.handoffs ++ fullRaises s }) w idle
    allowed

/-! ### What an acceptance hands over (R53, R99, R146) -/

/-- R146: the raise of the reservation that takes the last place is taken first, alone. -/
theorem drain_booked {hs : List Handoff} (posted : t.handoffs = fullRaises s ++ hs) (alone : RaisesAlone evLogFull t) :
    ∃ n e, 4095 ≤ n ∧ (∀ x, x ≠ evLogFull → e[x] = t.evr.entries[x]) ∧
      drain Config.settleFuel t = drain n { t with handoffs := hs, evr := { t.evr with entries := e } } := by
  unfold fullRaises at posted
  split at posted
  · refine ⟨4095, upd t.evr.entries evLogFull (EventEntry.raised t.clock), le_rfl,
      fun x other => upd_other t.evr.entries _ (Ne.symm other), ?_⟩
    rw [show Config.settleFuel = 4095 + 1 from rfl, drain_cons _ posted]
    show drain 4095 (raiseEntry evLogFull { t with handoffs := hs }) = _
    rw [raiseEntry_alone (by exact alone)]
    rfl
  · refine ⟨4096, t.evr.entries, by omega, fun _ _ => rfl, ?_⟩
    exact congrArg (fun hs => drain 4096 { t with handoffs := hs }) posted

/-- R53: a berth in ALLOCATING with no module ONLINE keeps its summary and waits. -/
theorem summaryTaken_waits (waits : (s.berth b).state = .allocating) (none : (summaryOf s b).online = 0) :
    summaryTaken b s = s.modBerth b fun r => { r with summary := summaryOf s b } := by
  unfold summaryTaken
  split
  next same =>
    have still : upd s.bsq.recs b (fun r => { r with summary := summaryOf s b }) = s.bsq.recs :=
      upd_same_at (by rw [same]; rfl)
    rw [State.modBerth, State.modBsq, still]
  next =>
    unfold actOnSummary
    rw [State.berth_modBerth]
    simp [waits, none]

/-- R172: a request whose work is done once `D` is reached. -/
theorem concluded_drained {f : ReplyFrame} (is : drain Config.settleFuel s = t) (w : EgressWorks t) (none : t.handoffs = []) :
    ∃ m, concluded f s =
      { t with lpu := { t.lpu with reservations := t.lpu.reservations - 1 }.replied f, mgu := m } := by
  have q : Quiet ((enterReserved f t).modMgu fun g => { g with parts := [], queue := [] }) :=
    (enterReserved_frame f t).2.2.2.2.2.2.2.2.2.2.1.trans none
  rw [concluded, is, settle_quiet q, enterReserved_works w]
  exact ⟨_, rfl⟩

theorem onlineModules_none (h : ∀ x ∈ s.list b, (s.modu x).state ≠ .online) : (summaryOf s b).online = 0 := by
  have none : onlineModules s b = [] := List.filter_eq_nil_iff.2 fun x hx => by simpa using h x hx
  show (onlineModules s b).length = 0
  rw [none]
  rfl

end
end Sys2Proof.Machine
end

section
namespace Sys2Proof.Machine

section
variable {s t u v : State} {b : Berth} {m x : Module} {ms rest : List Module} {dead : Bool}

/-! ### The modules of an accepted connection -/

theorem closingFor_modu (apart : ms.Nodup) (h : x ∈ ms) : (closingFor b dead m ms s).modu x =
    (s.modu x).begun (s.now + s.mpm.table[x].startLimit * 1000) (x = m) := takenFor_modu (s := bookedFor b s) apart h

theorem closingFor_list : (closingFor b dead m ms s).list b = s.list b ++ ms := takenFor_list (s := bookedFor b s)

theorem closingFor_list_other {a : Berth} (h : a ≠ b) : (closingFor b dead m ms s).list a = s.list a :=
  takenFor_list_other (s := bookedFor b s) h

theorem closingFor_berth : (closingFor b dead m ms s).berth b = (s.berth b).opened s.now dead :=
  upd_self s.bsq.recs b (BerthRec.opened s.now dead)

theorem closingFor_berth_other {a : Berth} (h : a ≠ b) : (closingFor b dead m ms s).berth a = s.berth a :=
  upd_other (i := b) (j := a) _ _ (Ne.symm h)

theorem closingFor_slot : (closingFor b dead m ms s).slot b = .reserved := upd_self s.blg.slots b fun _ => .reserved

theorem closingFor_slot_other {a : Berth} (h : a ≠ b) : (closingFor b dead m ms s).slot a = s.slot a :=
  upd_other (i := b) (j := a) _ _ (Ne.symm h)

theorem closingFor_berthRef : (closingFor b dead m ms s).berthRef b =
    some (newBerthRef s.rfg.inForce (s.entry b).nominalF (s.entry b).nominalV) := upd_self s.rfg.berths b _

theorem closingFor_pending : (closingFor b dead m ms s).syu.deadPending (contactor m) = true := by
  show (s.syu.deadBus ++ [pendingClose b m s]).any _ = true
  simp [pendingClose]

/-- R40, R53: no module of the berth is ONLINE at its acceptance. -/
theorem begun_summary (list : t.list b = ms)
    (begun : ∀ x ∈ ms, (t.modu x).state = .starting) : (summaryOf t b).online = 0 := by
  refine onlineModules_none fun x hx => ?_
  rw [begun x (list ▸ hx)]
  decide

/-- The state with the link `l`, the event table `e` and nothing handed over. -/
def linked (l : Lpu) (e : Vector EventEntry 100) (s : State) : State :=
  { s with lpu := l, evr := { s.evr with entries := e }, handoffs := [] }

/-- R99: an accepted connection, once all it hands over is taken and the request is answered. -/
theorem closing_answered {f : ReplyFrame} (q : Quiet s) (w : EgressWorks s) (idle : (s.berth b).state = .dead)
    (free : s.slot b = .free) (bare : s.list b = []) (room : s.blg.sum < 32) (alone : RaisesAlone evLogFull s)
    (apart : (m :: ms).Nodup)
    (picks : pickModules (fun m => s.mpm.table[m].rating) (s.entry b).contract (standbyModules s) = m :: ms)
    (allowed : deadBusAllowed s (contactor m) b = true) :
    ∃ l g e r, concluded f (acceptConnect b dead (evalLogFull s)) = { closingFor b dead m (m :: ms) s with
        lpu := l, mgu := g, evr := { s.evr with entries := e }
        bsq := { s.bsq with recs := upd (closingFor b dead m (m :: ms) s).bsq.recs b fun r' => { r' with summary := r } }
        handoffs := [] } ∧
      r.listed = (m :: ms).length ∧ ReplyGiven f (concluded f (acceptConnect b dead (evalLogFull s))) := by
  obtain ⟨l, eq, kept⟩ := acceptConnect_closing (dead := dead) w idle free room apart picks allowed
  have works := (kept.works w).1
  have given := concluded_given (f := f) (v := acceptConnect b dead (evalLogFull s)) (by rw [eq]; exact works)
  have posted : (acceptConnect b dead (evalLogFull s)).handoffs = fullRaises s ++ [.summary b] := by
    rw [eq]
    show s.handoffs ++ fullRaises s ++ [Handoff.summary b] = _
    rw [q, List.nil_append]
  obtain ⟨n, e, fuel, -, drained⟩ := drain_booked (t := acceptConnect b dead (evalLogFull s)) posted (by rw [eq]; exact alone)
  obtain ⟨n, rfl⟩ : ∃ k, n = k + 1 := ⟨n - 1, by omega⟩
  generalize hD : linked l e (closingFor b dead m (m :: ms) s) = D
  have list : D.list b = m :: ms := by
    subst hD
    exact (closingFor_list (s := s) (dead := dead)).trans (by rw [bare, List.nil_append])
  have waits : (D.berth b).state = .allocating := by
    subst hD
    exact congrArg BerthRec.state (closingFor_berth (s := s) (dead := dead) (m := m) (ms := m :: ms))
  have none : (summaryOf D b).online = 0 := begun_summary list fun x hx => by
    subst hD
    exact congrArg ModuleRec.state (closingFor_modu (s := s) (b := b) (dead := dead) apart hx)
  have taken : takeHandoff (.summary b) D = D.modBerth b fun r => { r with summary := summaryOf D b } :=
    summaryTaken_waits waits none
  have settled : drain Config.settleFuel (acceptConnect b dead (evalLogFull s)) =
      D.modBerth b fun r => { r with summary := summaryOf D b } := by
    rw [drained, drain_cons n (h := .summary b) (hs := []) rfl, ← taken, eq, ← hD]
    exact drain_nil n (by rw [show takeHandoff (.summary b) _ = _ from hD ▸ taken]; rfl)
  obtain ⟨g, concluded⟩ := concluded_drained (f := f) settled (by subst hD; exact works) (by subst hD; rfl)
  refine ⟨_, g, e, summaryOf D b, concluded.trans (by subst hD; rfl), congrArg List.length list, given⟩

end
end Sys2Proof.Machine
end

section
namespace Sys2Proof.Machine

section
variable {s t u v : State} {b c : Berth} {m x : Module} {ms rest : List Module} {k : Target}

/-! ### A module that is released (R46) -/

/-- R90: there is nothing to cancel for a breaker that is not busy. -/
theorem cancelSync_none (h : s.syu.busy k = false) : cancelSync k s = s := by
  obtain ⟨queue, chans, dead⟩ := Syu.busy_eq_false.1 h
  have queued : cancelQueued k s = s := by
    have none : s.syu.queue.find? (fun r => r.target = k) = none := List.find?_eq_none.2 fun r hr => by
      simpa using queue r hr
    rw [cancelQueued, none]
  have channel : ∀ c, cancelChannel k c s = s := fun c => by
    unfold cancelChannel
    split
    · rfl
    next w held => rw [if_neg (chans c w held)]
  have free : s.syu.deadPending k = false := by
    rw [Syu.deadPending, List.any_eq_false]
    exact fun d hd => by simpa using dead d hd
  rw [cancelSync, queued, channel, channel, cancelDeadClose, if_neg (by rw [free]; decide)]

/-- R46: a module in STOPPING, without a target of its own, whose contactor has yet to be commanded OPEN. -/
def stoppedFirst (m : Module) (s : State) : State :=
  dropModulePair m (s.modModule m (ModuleRec.stopping s.now (s.mpm.table[m].stopLimit * 1000)))

theorem stopModule_idle (idle : s.syu.busy (contactor m) = false) :
    stopModule m s = command .openCmd (contactor m) (stoppedFirst m s) :=
  congrArg (command .openCmd (contactor m)) (cancelSync_none (s := stoppedFirst m s) (by simpa [stoppedFirst] using idle))

/-- The module records, the module table and the device time are as before. -/
structure Mustered (s t : State) : Prop where
  recs : t.mpm.recs = s.mpm.recs
  table : t.mpm.table = s.mpm.table
  now : t.now = s.now

theorem Mustered.trans (h : Mustered s t) (g : Mustered t u) : Mustered s u :=
  ⟨g.recs.trans h.recs, g.table.trans h.table, g.now.trans h.now⟩

theorem Mustered.of_mpm (mpm : t.mpm = s.mpm := by simp) (now : t.now = s.now := by simp) : Mustered s t :=
  ⟨by rw [mpm], by rw [mpm], now⟩

theorem Mustered.modu (h : Mustered s t) (x : Module) : t.modu x = s.modu x := by
  rw [State.modu, h.recs]
  rfl

theorem command_mustered (c : BreakerCmd) (k : Target) (s : State) : Mustered s (command c k s) := by
  obtain ⟨l, p, ms, eq⟩ := command_sends c k s
  rw [eq]
  exact ⟨rfl, rfl, rfl⟩

theorem cancelSync_mustered (k : Target) (s : State) : Mustered s (cancelSync k s) := by
  have channel : ∀ (c : Chan) (s : State), Mustered s (cancelChannel k c s) := fun c s => by
    unfold cancelChannel
    split
    · exact .of_mpm rfl rfl
    split
    · split
      · exact (command_mustered .openCmd k s).trans .of_mpm
      · exact .of_mpm
    · exact .of_mpm rfl rfl
  have dead : ∀ s : State, Mustered s (cancelDeadClose k s) := fun s => by
    unfold cancelDeadClose
    split
    · exact (command_mustered .openCmd k s).trans .of_mpm
    · exact .of_mpm rfl rfl
  have queued : Mustered s (cancelQueued k s) := .of_mpm
  exact ((queued.trans (channel 0 _)).trans (channel 1 _)).trans (dead _)

theorem stopModule_mustered (m : Module) (s : State) :
    Mustered (s.modModule m (ModuleRec.stopping s.now (s.mpm.table[m].stopLimit * 1000))) (stopModule m s) := by
  have dropped : Mustered (s.modModule m (ModuleRec.stopping s.now (s.mpm.table[m].stopLimit * 1000))) (stoppedFirst m s) :=
    .of_mpm rfl rfl
  exact (dropped.trans (cancelSync_mustered _ _)).trans (command_mustered _ _ _)

/-- R46: a release is a stop, with or without the summary of the berth that lists the module. -/
theorem release_mustered (serving : (s.modu m).state.serving = true) :
    Mustered (s.modModule m (ModuleRec.stopping s.now (s.mpm.table[m].stopLimit * 1000))) (release m s) := by
  have told : ∀ (c : Berth) (u : State), Mustered u (tellSummary c u) := fun _ _ => .of_mpm rfl rfl
  obtain eq | ⟨c, -, eq⟩ := release_serving serving
  · rw [eq]; exact stopModule_mustered m s
  · rw [eq]; exact (stopModule_mustered m s).trans (told c _)

/-- R46: the record of a module that is released. -/
theorem release_modu (serving : (s.modu m).state.serving = true) :
    (release m s).modu m = (s.modu m).stopping s.now (s.mpm.table[m].stopLimit * 1000) :=
  ((release_mustered serving).modu m).trans (s.modu_modModule m _)

theorem release_modu_other (other : m ≠ x) (s : State) : (release m s).modu x = s.modu x := by
  cases serving : (s.modu m).state.serving with
  | false => rw [release_idle serving]
  | true => exact ((release_mustered serving).modu x).trans (s.modu_modModule_other other _)

theorem release_table (m : Module) (s : State) : (release m s).mpm.table = s.mpm.table := by
  cases serving : (s.modu m).state.serving with
  | false => rw [release_idle serving]
  | true => exact (release_mustered serving).table

/-- R46: the modules of a list that are released: each in service stops, any other stays as it is. -/
theorem releases_modu (apart : ms.Nodup) (s : State) :
    (ms.foldl (fun s y => release y s) s).modu x = if x ∈ ms ∧ (s.modu x).state.serving = true then
      (s.modu x).stopping s.now (s.mpm.table[x].stopLimit * 1000) else s.modu x := by
  induction ms generalizing s with
  | nil => rfl
  | cons y ys ih =>
    obtain ⟨new, apart⟩ := List.nodup_cons.1 apart
    have now : (release y s).now = s.now := by simp
    rw [List.foldl_cons, ih apart, now, release_table]
    by_cases is : y = x
    · subst is
      rw [if_neg fun h => new h.1]
      cases serving : (s.modu y).state.serving with
      | true => rw [release_modu serving, if_pos ⟨List.mem_cons_self, rfl⟩]
      | false => rw [release_idle serving, if_neg fun h => nomatch h.2]
    · simp only [release_modu_other is, List.mem_cons, Ne.symm is, false_or]

/-! ### What a release leaves of the link (R10, R46) -/

theorem command_link {c : BreakerCmd} {j : Target} (other : j ≠ k) (s : State) :
    Lpu.Kept (· = k) 0 s.lpu (command c j s).lpu := giveBcmd_kept (x := (· = k)) other s

/-- The commands for the contactor of a module that is not in service stay. -/
theorem release_link (out : (s.modu m).state.serving = false) (x : Module) :
    Lpu.Kept (· = contactor m) 0 s.lpu (release x s).lpu := by
  cases serving : (s.modu x).state.serving with
  | false => rw [release_idle serving]; exact .refl _ 0 _
  | true =>
    have other : contactor x ≠ contactor m := fun e => by
      rw [contactor_inj e, out] at serving
      exact nomatch serving
    have cancelled := cancelSync_kept (x := (· = contactor m)) (t := contactor x) other (stoppedFirst x s)
    have stopped : Lpu.Kept (· = contactor m) 0 s.lpu (stopModule x s).lpu :=
      cancelled.trans (command_link other (cancelSync (contactor x) (stoppedFirst x s)))
    obtain eq | ⟨c, -, eq⟩ := release_serving serving
    · rw [eq]; exact stopped
    · rw [eq, tellSummary, State.post]; exact stopped

theorem release_out (out : (s.modu m).state.serving = false) (x : Module) : ((release x s).modu m).state.serving = false := by
  by_cases is : x = m
  · rw [is, release_idle out]
    exact out
  · rw [release_modu_other is]
    exact out

theorem releases_link (out : (s.modu m).state.serving = false) (ms : List Module) :
    Lpu.Kept (· = contactor m) 0 s.lpu (ms.foldl (fun s y => release y s) s).lpu := by
  induction ms generalizing s with
  | nil => exact .refl _ 0 _
  | cons y ys ih => exact (release_link out y).trans (ih (release_out out y))

/-- R113: the release of a berth leaves the commands for the contactor of a module that stops. -/
theorem enterReleasing_link (out : (s.modu m).state.serving = false) (b : Berth) :
    Lpu.Kept (· = contactor m) 2 s.lpu (enterReleasing b s).lpu := by
  have cancelled : Lpu.Kept (· = contactor m) 0 s.lpu (freeSlot b (cancelSync (outlet b) s)).lpu := by
    rw [(freeSlot_frame b _).2.1]
    exact cancelSync_kept (x := (· = contactor m)) (contactor_ne_outlet m b).symm s
  have mpm : (freeSlot b (cancelSync (outlet b) s)).mpm = (cancelSync (outlet b) s).mpm := by simp
  have still : ((freeSlot b (cancelSync (outlet b) s)).modu m).state.serving = false := by
    rw [State.modu, mpm]
    exact (congrArg (fun r => r.state.serving) ((cancelSync_mustered (outlet b) s).modu m)).trans out
  have begun : Lpu.Kept (· = contactor m) 0 s.lpu (releaseBegun b s).lpu := cancelled.trans (releases_link still _)
  exact (begun.trans (enterState_kept _ b .releasing _)).trans (listEmptyTaken_kept _ b _)

/-- R113: the records of the modules of a released berth. -/
theorem enterReleasing_stops (apart : (s.list b).Nodup) (x : Module) : (enterReleasing b s).modu x =
    if x ∈ s.list b ∧ (s.modu x).state.serving = true then
      (s.modu x).stopping s.now (s.mpm.table[x].stopLimit * 1000) else s.modu x := by
  have cancelled := cancelSync_mustered (outlet b) s
  have mpm : (freeSlot b (cancelSync (outlet b) s)).mpm = (cancelSync (outlet b) s).mpm := by simp
  have now : (freeSlot b (cancelSync (outlet b) s)).now = s.now := by simp
  obtain ⟨c, other⟩ := exists_other b
  have list : (freeSlot b (cancelSync (outlet b) s)).list b = s.list b := by
    rw [State.list, mpm]
    exact (cancelSync_aside (b := c) (fun e => other (outlet_injective e)) s).list b
  have modu : (freeSlot b (cancelSync (outlet b) s)).modu x = s.modu x := by
    rw [State.modu, mpm]
    exact cancelled.modu x
  have table : (freeSlot b (cancelSync (outlet b) s)).mpm.table = s.mpm.table := by rw [mpm, cancelled.table]
  have released := releases_modu (x := x) (list ▸ apart) (freeSlot b (cancelSync (outlet b) s))
  rw [enterReleasing_modu, releaseBegun, releaseBerth, released]
  simp only [list, modu, table, now]

theorem enterReleasing_billing (b : Berth) (s : State) :
    (enterReleasing b s).blg = (freeSlot b (cancelSync (outlet b) s)).blg := by
  simp [enterReleasing]

/-- R145: the slot that was reserved is free, and no number has been taken. -/
theorem enterReleasing_freed (reserved : s.slot b = .reserved) :
    (enterReleasing b s).slot b = .free ∧ (enterReleasing b s).blg.counter = s.blg.counter := by
  have blg : (cancelSync (outlet b) s).blg = s.blg := by simp
  have still : (cancelSync (outlet b) s).slot b = .reserved := by rw [State.slot, blg]; exact reserved
  refine ⟨?_, ?_⟩
  · rw [State.slot, enterReleasing_billing]
    exact freeSlot_reserved still
  · have counter : ∀ u : State, (evalLogFull u).blg.counter = u.blg.counter := fun u => by
      unfold evalLogFull
      split <;> rfl
    have freed : freeSlot b (cancelSync (outlet b) s) = evalLogFull ((cancelSync (outlet b) s).modSlot b fun _ => .free) := by
      rw [freeSlot, still]
    have kept : (cancelSync (outlet b) s).blg.counter = s.blg.counter := congrArg Blg.counter blg
    rw [enterReleasing_billing, freed, counter]
    exact kept

theorem enterReleasing_shrinks (b : Berth) (s : State) : s.syu.Shrinks (enterReleasing b s).syu := by
  have syu : (enterReleasing b s).syu = (releaseBegun b s).syu := by simp [enterReleasing, releaseBegun]
  have freed : (freeSlot b (cancelSync (outlet b) s)).syu = (cancelSync (outlet b) s).syu := by simp
  rw [syu]
  exact (freed ▸ cancelSync_shrinks (outlet b) s).trans (releaseBerth_shrinks b _)

end
end Sys2Proof.Machine
end

section
namespace Sys2Proof.Machine

section
variable {s t u v z : State} {b c : Berth} {m x : Module} {ms rest : List Module} {hs : List Handoff} {dead : Bool} {n : Nat}

/-! ### What is handed over once a berth is released is taken without effect (R53, R90) -/

/-- Points, metering records and pending dead-bus closes are as before. -/
structure Unmoved (s t : State) : Prop where
  scl : t.scl = s.scl
  mtr : t.mtr = s.mtr
  deadBus : t.syu.deadBus = s.syu.deadBus

theorem Unmoved.refl (s : State) : Unmoved s s := ⟨rfl, rfl, rfl⟩

theorem Unmoved.trans (h : Unmoved s t) (g : Unmoved t u) : Unmoved s u :=
  ⟨g.scl.trans h.scl, g.mtr.trans h.mtr, g.deadBus.trans h.deadBus⟩

theorem serveChannelsTaken_unmoved (s : State) : Unmoved s (serveChannelsTaken s) := by
  have fill : ∀ (c : Chan) (s : State), (fillChannel c s).syu.deadBus = s.syu.deadBus := fun c s => by
    unfold fillChannel
    split <;> rfl
  refine ⟨by simp, by simp, ?_⟩
  unfold serveChannelsTaken
  split
  · exact (fill 1 _).trans (fill 0 s)
  · split <;> rfl

theorem summaryTaken_unmoved (released : (s.berth b).state ∈ [.dead, .releasing]) : Unmoved s (summaryTaken b s) := by
  unfold summaryTaken
  split
  · exact .refl s
  · rw [actOnSummary_released (by rw [State.berth_modBerth]; exact released)]
    exact ⟨rfl, rfl, rfl⟩

theorem takeHandoff_unmoved {h : Handoff} (released : (s.berth b).state ∈ [.dead, .releasing]) (inert : h.Inert b) :
    Unmoved s (takeHandoff h s) := by
  obtain cancels | rfl := inert
  · obtain same | rfl := takeCancelled cancels s
    · rw [same]; exact .refl s
    · exact serveChannelsTaken_unmoved s
  · exact summaryTaken_unmoved released

theorem drain_unmoved (released : (s.berth b).state ∈ [.dead, .releasing]) (inert : ∀ h ∈ s.handoffs, h.Inert b) (n : Nat) :
    Unmoved s (drain n s) := by
  induction n generalizing s with
  | zero => exact .refl s
  | succ n ih =>
    cases e : s.handoffs with
    | nil => rw [drain_nil _ e]; exact .refl s
    | cons h rest =>
      rw [drain_cons n e]
      rw [e, List.forall_mem_cons] at inert
      obtain ⟨taken, left⟩ := takeHandoff_calm (s := { s with handoffs := rest }) released inert.1 inert.2
      obtain ⟨scl, mtr, dead⟩ := takeHandoff_unmoved (s := { s with handoffs := rest }) released inert.1
      have first : Unmoved s (takeHandoff h { s with handoffs := rest }) := ⟨scl, mtr, dead⟩
      exact first.trans (ih (by rw [taken.state]; exact released) left)

theorem settle_after {l : Lpu} (h : Calm b l s t) (g : Unmoved s t) (released : (s.berth b).state ∈ [.dead, .releasing])
    (inert : ∀ h ∈ t.handoffs, h.Inert b) : Calm b l s (settle t) ∧ Unmoved s (settle t) := by
  have still : (t.berth b).state ∈ [.dead, .releasing] := by rw [h.state]; exact released
  have settled := settle_calm still inert
  obtain ⟨scl, mtr, dead⟩ := drain_unmoved still inert Config.settleFuel
  have unmoved : Unmoved t (settle t) := ⟨scl, mtr, dead⟩
  rw [h.lpu] at settled
  exact ⟨h.trans settled, g.trans unmoved⟩

/-- R172: a request is answered while what a released berth handed over is taken without effect. -/
theorem concluded_calm {f : ReplyFrame} (is : drain Config.settleFuel v = drain n s) (w : EgressWorks s)
    (released : (s.berth b).state ∈ [.dead, .releasing]) (inert : ∀ h ∈ s.handoffs, h.Inert b) :
    Calm b ({ s.lpu with reservations := s.lpu.reservations - 1 }.replied f) s (concluded f v) ∧
      Unmoved s (concluded f v) := by
  obtain ⟨drained, left⟩ := drain_calm released inert n
  have unmoved := drain_unmoved released inert n
  have entered := enterReserved_works (f := f) (s := drain n s) (by rw [egressWorks_iff, drained.lpu]; exact w)
  rw [concluded, is, entered]
  refine settle_after ⟨?_, drained.mpm, drained.blg, drained.evr, drained.state, drained.idle⟩ ?_ released left
  · show ({ (drain n s).lpu with reservations := (drain n s).lpu.reservations - 1 } : Lpu).replied f = _
    rw [drained.lpu]
  · exact ⟨unmoved.scl, unmoved.mtr, unmoved.deadBus⟩

/-! ### A connection whose first close SYU refuses (R41, R99, R100) -/

theorem berthOfModule_some (here : m ∈ s.list b) (only : ∀ a, m ∈ s.list a → a = b) : s.berthOfModule m = some b := by
  cases is : s.berthOfModule m with
  | none =>
    have none := List.find?_eq_none.1 is b (by rw [allBerths_eq]; exact List.mem_finRange b)
    exact absurd (List.contains_iff_mem.2 here) none
  | some a => rw [only a (berthOfModule_mem is)]

/-- R41, R46: the first module's close is refused at once. -/
theorem askFirstClose_refused (w : EgressWorks z) (no : deadBusAllowed z (contactor m) b = false)
    (idle : z.syu.busy (contactor m) = false) (starting : (z.modu m).state = .starting) (first : (z.modu m).first = true)
    (here : z.berthOfModule m = some b) : askFirstClose b m z = { stoppedFirst m z with
      lpu := (command .openCmd (contactor m) z).lpu, handoffs := z.handoffs ++ [.summary b, .firstFailure b] } := by
  have released : release m z = tellSummary b (stopModule m z) := by
    unfold release
    rw [starting]
    dsimp only
    rw [here]
    rfl
  have stopped : stopModule m z = { stoppedFirst m z with lpu := (command .openCmd (contactor m) z).lpu } := by
    rw [stopModule_idle idle]
    exact command_given w rfl rfl
  have refused : askFirstClose b m z = contactorOutcome m b .refused z := if_neg (by rw [no]; decide)
  have outcome : contactorOutcome m b .refused z = (release m z).post (.firstFailure b) := if_pos ⟨starting, first, here⟩
  rw [refused, outcome, released, stopped]
  show { stoppedFirst m z with
    lpu := (command .openCmd (contactor m) z).lpu
    handoffs := z.handoffs ++ [Handoff.summary b] ++ [Handoff.firstFailure b] } = _
  rw [List.append_assoc]
  rfl

/-- R99: an accepted connection whose first close SYU has refused. -/
def refusedFor (b : Berth) (dead : Bool) (m : Module) (ms : List Module) (s : State) : State :=
  openedFor b dead (stoppedFirst m (takenFor b m ms (bookedFor b s)))

theorem refused_after (w : EgressWorks z) (waits : (z.berth b).state = .dead) (no : deadBusAllowed z (contactor m) b = false)
    (idle : z.syu.busy (contactor m) = false) (starting : (z.modu m).state = .starting) (first : (z.modu m).first = true)
    (here : z.berthOfModule m = some b) :
    ∃ l, enterState b .allocating (prepareRecord b dead (createRef b (tellSummary b (askFirstClose b m z)))) =
        { openedFor b dead (stoppedFirst m z) with
          lpu := l
          handoffs := z.handoffs ++ [.summary b, .firstFailure b, .summary b] } ∧
      ∀ x, Lpu.Kept x 1 (command .openCmd (contactor m) z).lpu l := by
  have works : EgressWorks { stoppedFirst m z with lpu := (command .openCmd (contactor m) z).lpu } :=
    ((giveBcmd_kept (x := fun _ => False) not_false z).works w).1
  rw [askFirstClose_refused w no idle starting first here]
  obtain ⟨l, eq, kept⟩ := enterAllocating_eq (b := b) (dead := dead) (s := tellSummary b { stoppedFirst m z with
      lpu := (command .openCmd (contactor m) z).lpu
      handoffs := z.handoffs ++ [.summary b, .firstFailure b] }) works waits
  refine ⟨l, eq.trans ?_, kept⟩
  show { openedFor b dead (stoppedFirst m z) with
    lpu := l
    handoffs := z.handoffs ++ [Handoff.summary b, Handoff.firstFailure b] ++ [Handoff.summary b] } = _
  rw [List.append_assoc]
  rfl

theorem acceptConnect_refused (w : EgressWorks s) (waits : (s.berth b).state = .dead) (free : s.slot b = .free)
    (room : s.blg.sum < 32) (apart : (m :: ms).Nodup)
    (picks : pickModules (fun m => s.mpm.table[m].rating) (s.entry b).contract (standbyModules s) = m :: ms)
    (no : deadBusAllowed s (contactor m) b = false) (idle : s.syu.busy (contactor m) = false)
    (unlisted : ∀ a, m ∉ s.list a) :
    ∃ l, acceptConnect b dead (evalLogFull s) = { refusedFor b dead m (m :: ms) s with
        lpu := l, handoffs := s.handoffs ++ fullRaises s ++ [.summary b, .firstFailure b, .summary b] } ∧
      ∀ x, Lpu.Kept x 1 (command .openCmd (contactor m) s).lpu l := by
  have begun := takenFor_modu (s := bookedFor b s) (b := b) (m := m) apart List.mem_cons_self
  have here : (takenFor b m (m :: ms) (bookedFor b s)).berthOfModule m = some b := by
    refine berthOfModule_some ?_ fun a mem => ?_
    · rw [takenFor_list]
      exact List.mem_append_right _ List.mem_cons_self
    · by_contra other
      rw [takenFor_list_other other] at mem
      exact unlisted a mem
  rw [acceptConnect, reserve_eq free room, allocate_eq apart (by exact picks)]
  obtain ⟨l, eq, kept⟩ := refused_after (dead := dead)
    (z := takenFor b m (m :: ms) { bookedFor b s with handoffs := s.handoffs ++ fullRaises s }) w waits no idle
    (congrArg ModuleRec.state begun) ((congrArg ModuleRec.first begun).trans (decide_eq_true rfl)) here
  refine ⟨l, eq, fun x => ?_⟩
  have same : (command .openCmd (contactor m) (takenFor b m (m :: ms)
      { bookedFor b s with handoffs := s.handoffs ++ fullRaises s })).lpu = (command .openCmd (contactor m) s).lpu :=
    command_lpu_congr w rfl rfl
  exact same ▸ kept x

end
end Sys2Proof.Machine
end

section
namespace Sys2Proof.Machine

section
variable {s t u v z D G R : State} {b c : Berth} {m x : Module} {ms rest : List Module} {hs : List Handoff} {n : Nat}

/-! ### The release after a first-module failure (R100, R113) -/

theorem enterReleasing_handed (room : BillingRoom s) (only : ∀ d, ∀ x ∈ s.list b, x ∈ s.list d → d = b) :
    ∃ gs, (enterReleasing b s).handoffs = s.handoffs ++ gs ∧ ∀ h ∈ gs, h.Inert b := by
  obtain ⟨c, other⟩ := exists_other b
  obtain ⟨gs, handed, given⟩ := (enterReleasing_released other room).handed
  refine ⟨gs, handed, fun h mem => ?_⟩
  obtain cancels | ⟨d, ⟨x, hx, hd⟩, rfl⟩ := given h mem
  · exact .inl cancels
  · exact .inr (congrArg Handoff.summary (only d x hx hd))

theorem enterReleasing_alone {e : EventIx} (alone : RaisesAlone e s) : RaisesAlone e (enterReleasing b s) := by
  unfold RaisesAlone State.event at alone ⊢
  rw [enterReleasing_entries]
  exact alone

/-- R53, R100: the summary that waits, and the raise of CAPACITY_LIMIT. -/
def failing (b : Berth) (s : State) : State := { s with handoffs := [.summary b, .raise (evCapacityLimit b)] }

/-- R100: the berth enters RELEASING, with the summary that waits and the raise of CAPACITY_LIMIT handed over. -/
def withheld (b : Berth) (s : State) : State := enterReleasing b (failing b s)

/-- R100: what stands once that summary and that raise are taken: only what BSQ keeps of the summary and the event table
differ, and what else the release handed over is without effect. -/
structure Withholds (b : Berth) (R D : State) : Prop where
  lpu : D.lpu = R.lpu
  mpm : D.mpm = R.mpm
  blg : D.blg = R.blg
  evr : D.evr = (raised (evCapacityLimit b) R).evr
  state : (D.berth b).state = .releasing
  inert : ∀ h ∈ D.handoffs, h.Inert b
  unmoved : Unmoved R D

/-- R53, R159: the summary of a released berth and the raise are taken. -/
theorem summary_raise_drained {gs : List Handoff} (state : (R.berth b).state = .releasing)
    (handed : R.handoffs = .summary b :: .raise (evCapacityLimit b) :: gs) (inert : ∀ h ∈ gs, h.Inert b)
    (alone : RaisesAlone (evCapacityLimit b) R) (n : Nat) : ∃ D, drain (n + 2) R = drain n D ∧ Withholds b R D := by
  have released : (R.berth b).state ∈ [.dead, .releasing] := by rw [state]; decide
  obtain ⟨calm, queue⟩ := summaryTaken_calm (s := { R with handoffs := .raise (evCapacityLimit b) :: gs }) (b := b) released
  have still := summaryTaken_unmoved (s := { R with handoffs := .raise (evCapacityLimit b) :: gs }) (b := b) released
  have noted : drain (n + 2) R = drain (n + 1) (summaryTaken b { R with handoffs := .raise (evCapacityLimit b) :: gs }) :=
    drain_cons _ handed
  rw [noted]
  generalize summaryTaken b { R with handoffs := .raise (evCapacityLimit b) :: gs } = S at calm queue still
  have evr : S.evr = R.evr := calm.evr
  have clock : S.clock = R.clock := by rw [State.clock, still.mtr]; rfl
  have alone' : RaisesAlone (evCapacityLimit b) { S with handoffs := gs } := by
    unfold RaisesAlone State.event at alone ⊢
    rw [show ({ S with handoffs := gs } : State).evr = R.evr from evr]
    exact alone
  have raises : drain (n + 1) S = drain n (raised (evCapacityLimit b) { S with handoffs := gs }) := by
    rw [drain_cons _ queue]
    exact congrArg (drain n) (raiseEntry_alone alone')
  refine ⟨_, raises, calm.lpu, calm.mpm, calm.blg, ?_, calm.state.trans state, inert, still.scl, still.mtr, still.deadBus⟩
  show ({ S.evr with entries := upd S.evr.entries (evCapacityLimit b) (EventEntry.raised S.clock) } : Evr) = _
  rw [clock, evr]
  rfl

/-- R100, R113: the failure of the first module of a berth in ALLOCATING, with the summary behind it and the raise. -/
theorem firstFailure_drained (posted : s.handoffs = [.firstFailure b, .summary b]) (waits : (s.berth b).state = .allocating)
    (room : BillingRoom s) (some : s.list b ≠ []) (only : ∀ d, ∀ x ∈ s.list b, x ∈ s.list d → d = b)
    (alone : RaisesAlone (evCapacityLimit b) s) (n : Nat) :
    ∃ D, drain (n + 3) s = drain n D ∧ Withholds b (withheld b s) D := by
  have failed : drain (n + 3) s = drain (n + 2) (withheld b s) := by
    have taken : takeHandoff (.firstFailure b) { s with handoffs := [.summary b] } = withheld b s := if_pos waits
    rw [drain_cons _ posted, taken]
  have posted' : (failing b s).handoffs = [.summary b, .raise (evCapacityLimit b)] := rfl
  have list : (failing b s).list b = s.list b := rfl
  have room' : BillingRoom (failing b s) := room
  have alone' : RaisesAlone (evCapacityLimit b) (failing b s) := alone
  have only' : ∀ d, ∀ x ∈ (failing b s).list b, x ∈ (failing b s).list d → d = b := only
  rw [failed, withheld]
  rw [← list] at some
  generalize failing b s = u at posted' room' alone' only' some
  obtain ⟨gs, handed, inert⟩ := enterReleasing_handed room' only'
  rw [posted'] at handed
  exact summary_raise_drained ((enterReleasing_state room' b).trans (if_neg some)) handed inert (enterReleasing_alone alone') n

end
end Sys2Proof.Machine
end

section
namespace Sys2Proof.Machine

section
variable {s t u v z D G R U : State} {b c : Berth} {m x : Module} {ms rest : List Module} {n : Nat} {f : ReplyFrame}

/-! ### A release from ALLOCATING (R27, R29, R113) -/

/-- R113: a berth with modules in its list stays in RELEASING. -/
theorem enterReleasing_filled (room : BillingRoom s) (some : s.list b ≠ []) :
    enterReleasing b s = enterState b .releasing (releaseBegun b s) := by
  have list := releasing_list room b
  rw [enterReleasing_eq]
  generalize enterState b .releasing (releaseBegun b s) = u at list
  exact if_neg fun h => some (list.symm.trans h.2)

theorem enterState_releasing (waits : (s.berth b).state = .allocating) :
    (enterState b .releasing s).scl = s.scl ∧ (enterState b .releasing s).evr = s.evr := by
  have entered : (enterState b .releasing s).scl = (changeState b .releasing s).scl := by
    rw [enterState_eq]
    simp
  rw [entered, changeState_plain (by rw [waits]; rfl) (by rw [waits]; decide) (by rw [waits]; decide)]
  exact ⟨rfl, by simp⟩

theorem enterReleasing_outside (waits : (s.berth b).state = .allocating) (room : BillingRoom s) (some : s.list b ≠ []) :
    (enterReleasing b s).scl = s.scl ∧ (enterReleasing b s).evr = s.evr := by
  have begun : (releaseBegun b s).scl = s.scl ∧ (releaseBegun b s).evr = s.evr := by simp [releaseBegun]
  have state : ((releaseBegun b s).berth b).state = .allocating := by
    rw [State.berth, show (releaseBegun b s).bsq = s.bsq by simp [releaseBegun]]
    exact waits
  obtain ⟨scl, evr⟩ := enterState_releasing state
  rw [enterReleasing_filled room some, scl, evr]
  exact begun

/-- R40, R100: berth `b` in ALLOCATING with its modules STARTING, of which the first, `m`, has failed and stops. -/
structure Failing (b : Berth) (m : Module) (ms : List Module) (s : State) : Prop where
  posted : s.handoffs = [.firstFailure b, .summary b]
  waits : (s.berth b).state = .allocating
  reserved : s.slot b = .reserved
  room : BillingRoom s
  list : s.list b = m :: ms
  apart : (m :: ms).Nodup
  only : ∀ d, ∀ x ∈ s.list b, x ∈ s.list d → d = b
  stopping : (s.modu m).state = .stopping ∧ (s.modu m).stopDue = some (s.now + s.mpm.table[m].stopLimit * 1000)
  starting : ∀ x ∈ ms, (s.modu x).state = .starting
  idle : ∀ d ∈ s.syu.deadBus, d.target ≠ contactor m
  alone : RaisesAlone (evCapacityLimit b) s

/-- R46, R100, R113, R145: what stands once a berth whose first module has failed is released. -/
structure Released (b : Berth) (m : Module) (ms : List Module) (s t : State) : Prop where
  state : (t.berth b).state = .releasing
  raised : (t.event (evCapacityLimit b)).raw = true
  slot : t.slot b = .free
  idle : t.syu.deadPending (contactor m) = false
  list : t.list b = m :: ms
  stopping : ∀ x ∈ m :: ms, (t.modu x).state = .stopping ∧
    (t.modu x).stopDue = some (s.now + s.mpm.table[x].stopLimit * 1000)
  log : t.blg.log = s.blg.log
  counter : t.blg.counter = s.blg.counter
  mtr : t.mtr = s.mtr
  scl : t.scl = s.scl
  outputs : t.evr.outputs = s.evr.outputs

/-- R46, R100, R113: what a berth is left with at its release. -/
structure Frees (b : Berth) (m : Module) (ms : List Module) (s t : State) : Prop where
  slot : t.slot b = .free
  list : t.list b = m :: ms
  stopping : ∀ x ∈ m :: ms, (t.modu x).state = .stopping ∧
    (t.modu x).stopDue = some (s.now + s.mpm.table[x].stopLimit * 1000)
  log : t.blg.log = s.blg.log
  counter : t.blg.counter = s.blg.counter
  mtr : t.mtr = s.mtr
  scl : t.scl = s.scl
  evr : t.evr = s.evr
  shrinks : s.syu.Shrinks t.syu
  link : Lpu.Kept (· = contactor m) 2 s.lpu t.lpu

theorem enterReleasing_frees (waits : (s.berth b).state = .allocating) (reserved : s.slot b = .reserved)
    (room : BillingRoom s) (list : s.list b = m :: ms) (apart : (m :: ms).Nodup)
    (stopping : (s.modu m).state = .stopping ∧ (s.modu m).stopDue = some (s.now + s.mpm.table[m].stopLimit * 1000))
    (starting : ∀ x ∈ ms, (s.modu x).state = .starting) : Frees b m ms s (enterReleasing b s) := by
  obtain ⟨c, other⟩ := exists_other b
  have filled : s.list b ≠ [] := by rw [list]; exact List.cons_ne_nil _ _
  obtain ⟨slot, counter⟩ := enterReleasing_freed reserved
  obtain ⟨scl, evr⟩ := enterReleasing_outside waits room filled
  refine ⟨slot, ((enterReleasing_released other room).list b).trans list, fun x mem => ?_, enterReleasing_log b s, counter,
    by simp, scl, evr, enterReleasing_shrinks b s, enterReleasing_link (by rw [stopping.1]; rfl) b⟩
  rw [enterReleasing_stops (list ▸ apart) x]
  obtain is | later := List.mem_cons.1 mem
  · subst is
    rw [if_neg fun e => by rw [stopping.1] at e; exact nomatch e.2]
    exact stopping
  · rw [if_pos ⟨list ▸ mem, by rw [starting x later]; rfl⟩]
    exact ⟨rfl, rfl⟩

theorem Frees.of_handoffs {hs : List Handoff} (h : Frees b m ms { s with handoffs := hs } t) : Frees b m ms s t :=
  ⟨h.slot, h.list, h.stopping, h.log, h.counter, h.mtr, h.scl, h.evr, h.shrinks, h.link⟩

theorem Failing.frees (h : Failing b m ms s) : Frees b m ms s (withheld b s) := by
  have after : Frees b m ms (failing b s) (enterReleasing b (failing b s)) :=
    enterReleasing_frees (by exact h.waits) (by exact h.reserved) (by exact h.room) (by exact h.list) h.apart
      (by exact h.stopping) (by exact h.starting)
  rw [withheld]
  generalize enterReleasing b (failing b s) = t at after
  exact after.of_handoffs

theorem EventEntry.raised_raw (clock : Nat × Nat) (x : EventEntry) : (x.raised clock).raw = true := by
  unfold EventEntry.raised
  split
  next is => exact is
  · rfl

/-- R100, R113, R172: the request is answered once the release after a first-module failure is over. -/
theorem failing_concluded (h : Failing b m ms s) (w : EgressWorks s) (is : drain Config.settleFuel v = drain (n + 3) s) :
    Released b m ms s (concluded f v) ∧ ∃ l, Lpu.Kept (· = contactor m) 2 s.lpu l ∧
      (concluded f v).lpu = { l with reservations := l.reservations - 1 }.replied f := by
  have filled : s.list b ≠ [] := by rw [h.list]; exact List.cons_ne_nil _ _
  obtain ⟨D, drained, held⟩ := firstFailure_drained h.posted h.waits h.room filled h.only h.alone n
  have frees := h.frees
  generalize withheld b s = R at held frees
  have works : EgressWorks D := by
    rw [egressWorks_iff, held.lpu]
    exact (frees.link.works w).1
  obtain ⟨calm, unmoved⟩ := concluded_calm (f := f) (is.trans drained) works (by rw [held.state]; decide) held.inert
  generalize concluded f v = t at calm unmoved
  have mpm : t.mpm = R.mpm := calm.mpm.trans held.mpm
  have blg : t.blg = R.blg := calm.blg.trans held.blg
  have evr : t.evr = (raised (evCapacityLimit b) R).evr := calm.evr.trans held.evr
  have raw : (upd R.evr.entries (evCapacityLimit b) (EventEntry.raised R.clock))[evCapacityLimit b].raw = true :=
    (congrArg EventEntry.raw (upd_self R.evr.entries (evCapacityLimit b) _)).trans (EventEntry.raised_raw _ _)
  refine ⟨⟨calm.state.trans held.state, ?_, ?_, ?_, ?_, fun x mem => ?_, ?_, ?_, ?_, ?_, ?_⟩, R.lpu, frees.link, ?_⟩
  · rw [State.event, evr]
    exact raw
  · rw [State.slot, blg]
    exact frees.slot
  · rw [Syu.deadPending, List.any_eq_false, unmoved.deadBus, held.unmoved.deadBus]
    exact fun d mem => by simpa using h.idle d (frees.shrinks.deadBus mem)
  · rw [State.list, mpm]
    exact frees.list
  · rw [State.modu, mpm]
    exact frees.stopping x mem
  · rw [blg]
    exact frees.log
  · rw [blg]
    exact frees.counter
  · rw [unmoved.mtr, held.unmoved.mtr]
    exact frees.mtr
  · rw [unmoved.scl, held.unmoved.scl]
    exact frees.scl
  · rw [evr]
    show R.evr.outputs = _
    rw [frees.evr]
  · rw [calm.lpu, held.lpu]

end
end Sys2Proof.Machine
end

section
namespace Sys2Proof.Machine

section
variable {s t u v z D G R U : State} {b c : Berth} {m x : Module} {ms rest : List Module} {n : Nat} {f : ReplyFrame}
  {dead : Bool} {l : Lpu} {e : Vector EventEntry 100}

/-! ### The berth whose first close is refused (R40, R41, R99) -/

theorem refusedFor_first (apart : (m :: ms).Nodup) : (refusedFor b dead m (m :: ms) s).modu m =
    ((s.modu m).begun (s.now + s.mpm.table[m].startLimit * 1000) (m = m)).stopping s.now (s.mpm.table[m].stopLimit * 1000) :=
  ((takenFor b m (m :: ms) (bookedFor b s)).modu_modModule m _).trans
    (congrArg _ (takenFor_modu (s := bookedFor b s) apart List.mem_cons_self))

theorem refusedFor_later (apart : (m :: ms).Nodup) (mem : x ∈ ms) : (refusedFor b dead m (m :: ms) s).modu x =
    (s.modu x).begun (s.now + s.mpm.table[x].startLimit * 1000) (x = m) := by
  have other : m ≠ x := fun is => (List.nodup_cons.1 apart).1 (is ▸ mem)
  exact ((takenFor b m (m :: ms) (bookedFor b s)).modu_modModule_other other _).trans
    (takenFor_modu (s := bookedFor b s) apart (List.mem_cons_of_mem _ mem))

theorem refusedFor_list : (refusedFor b dead m ms s).list b = s.list b ++ ms := takenFor_list (m := m) (s := bookedFor b s)

theorem refusedFor_list_other {a : Berth} (h : a ≠ b) : (refusedFor b dead m ms s).list a = s.list a :=
  takenFor_list_other (m := m) (s := bookedFor b s) h

theorem refusedFor_berth : (refusedFor b dead m ms s).berth b = (s.berth b).opened s.now dead :=
  upd_self s.bsq.recs b (BerthRec.opened s.now dead)

theorem bookedFor_room (free : s.slot b = .free) (room : s.blg.sum < 32)
    (numbers : s.blg.counter + s.blg.taken < Config.u32Max + 1) : BillingRoom (bookedFor b s) := by
  have taken : (bookedFor b s).blg.taken = s.blg.taken + 1 := taken_modSlot_reserved free
  have sum : (bookedFor b s).blg.sum = s.blg.sum + 1 := by
    show (bookedFor b s).blg.taken + s.blg.log.length = s.blg.taken + s.blg.log.length + 1
    rw [taken]
    omega
  refine ⟨by rw [sum]; exact room, ?_⟩
  rw [taken]
  exact numbers

/-- R53, R99: the refused berth as BSQ has kept its summary, with the failure of its first module next. -/
def refusedNext (b : Berth) (dead : Bool) (m : Module) (ms : List Module) (l : Lpu) (e : Vector EventEntry 100)
    (s : State) : State :=
  let y := linked l e (refusedFor b dead m ms s)
  { y.modBerth b fun r => { r with summary := summaryOf y b } with handoffs := [.firstFailure b, .summary b] }

theorem refusedNext_failing (free : s.slot b = .free) (bare : s.list b = []) (room : s.blg.sum < 32)
    (numbers : s.blg.counter + s.blg.taken < Config.u32Max + 1) (apart : (m :: ms).Nodup)
    (unlisted : ∀ x ∈ m :: ms, ∀ a, x ∉ s.list a) (idle : s.syu.busy (contactor m) = false)
    (alone : e[evCapacityLimit b].raw = true ∨ e[evCapacityLimit b].enabled = false) :
    Failing b m ms (refusedNext b dead m (m :: ms) l e s) where
  posted := rfl
  waits := by
    rw [refusedNext, State.berth]
    exact (congrArg BerthRec.state (upd_self _ _ _)).trans (congrArg BerthRec.state refusedFor_berth)
  reserved := upd_self s.blg.slots b fun _ => .reserved
  room := bookedFor_room free room numbers
  list := (refusedFor_list (s := s) (m := m) (dead := dead)).trans (by rw [bare, List.nil_append])
  apart := apart
  only d x mem held := by
    by_contra other
    have mine : x ∈ m :: ms := by
      have listed : x ∈ s.list b ++ (m :: ms) := refusedFor_list (s := s) (m := m) (dead := dead) ▸ mem
      rwa [bare, List.nil_append] at listed
    exact unlisted x mine d (refusedFor_list_other (s := s) (m := m) (dead := dead) other ▸ held)
  stopping := by
    have stopped := refusedFor_first (s := s) (b := b) (dead := dead) apart
    exact ⟨congrArg ModuleRec.state stopped, congrArg ModuleRec.stopDue stopped⟩
  starting x mem := congrArg ModuleRec.state (refusedFor_later (s := s) (b := b) (dead := dead) apart mem)
  idle d mem := (Syu.busy_eq_false.1 idle).2.2 d mem
  alone := alone

end
end Sys2Proof.Machine
end

section
namespace Sys2Proof.Machine

section
variable {s t u v z D G R U : State} {b c : Berth} {m x : Module} {ms rest : List Module} {n : Nat} {f : ReplyFrame}
  {dead : Bool} {l : Lpu}

theorem Released.of_unchanged (h : Released b m ms u t) (now : u.now = s.now) (table : u.mpm.table = s.mpm.table)
    (log : u.blg.log = s.blg.log) (counter : u.blg.counter = s.blg.counter) (mtr : u.mtr = s.mtr) (scl : u.scl = s.scl)
    (outputs : u.evr.outputs = s.evr.outputs) : Released b m ms s t where
  state := h.state
  raised := h.raised
  slot := h.slot
  idle := h.idle
  list := h.list
  stopping x mem := by
    rw [← now, ← table]
    exact h.stopping x mem
  log := h.log.trans log
  counter := h.counter.trans counter
  mtr := h.mtr.trans mtr
  scl := h.scl.trans scl
  outputs := h.outputs.trans outputs

/-- R13, R14: a reply that enters while a frame is being sent leaves the other queues. -/
theorem replied_queued (x : Target → Prop) {r : Nat} (busy : l.sending ≠ none) :
    Lpu.Queued x 0 l ({ l with reservations := r }.replied f) := by
  obtain ⟨g, is⟩ := Option.ne_none_iff_exists'.1 busy
  have eq : ({ l with reservations := r } : Lpu).replied f = { l with reservations := r, reply := l.reply ++ [⟨f, false⟩] } := by
    simp [Lpu.replied, is]
  rw [eq]
  exact { Lpu.Queued.refl x 0 l with reply := fun p mem => List.mem_append_left _ mem }

theorem evCapacityLimit_ne_full (b : Berth) : evCapacityLimit b ≠ evLogFull := by
  revert b
  decide

/-- R53, R99: all that is taken before the failure of the first module is. -/
theorem refused_drained (q : Quiet s) (bare : s.list b = [])
    (apart : (m :: ms).Nodup) (full : RaisesAlone evLogFull s)
    (is : v = { refusedFor b dead m (m :: ms) s with
      lpu := l, handoffs := s.handoffs ++ fullRaises s ++ [.summary b, .firstFailure b, .summary b] }) :
    ∃ n e, (∀ x, x ≠ evLogFull → e[x] = s.evr.entries[x]) ∧
      drain Config.settleFuel v = drain (n + 3) (refusedNext b dead m (m :: ms) l e s) := by
  have posted : v.handoffs = fullRaises s ++ [.summary b, .firstFailure b, .summary b] := by
    rw [is]
    show s.handoffs ++ fullRaises s ++ [Handoff.summary b, Handoff.firstFailure b, Handoff.summary b] = _
    rw [q, List.nil_append]
  obtain ⟨n, e, fuel, same, drained⟩ := drain_booked (t := v) posted (by rw [is]; exact full)
  obtain ⟨n, rfl⟩ : ∃ k, n = k + 4 := ⟨n - 4, by omega⟩
  refine ⟨n, e, fun x other => (same x other).trans (by rw [is]; rfl), ?_⟩
  generalize hD : linked l e (refusedFor b dead m (m :: ms) s) = D
  have list : D.list b = m :: ms := by
    subst hD
    exact (refusedFor_list (s := s) (m := m) (dead := dead)).trans (by rw [bare, List.nil_append])
  have waits : (D.berth b).state = .allocating := by
    subst hD
    exact congrArg BerthRec.state (refusedFor_berth (s := s) (dead := dead) (m := m) (ms := m :: ms))
  have none : (summaryOf D b).online = 0 := by
    refine onlineModules_none fun x mem => ?_
    rw [list] at mem
    subst hD
    obtain first | later := List.mem_cons.1 mem
    · subst first
      have stopped := congrArg ModuleRec.state (refusedFor_first (s := s) (b := b) (dead := dead) apart)
      exact fun e => nomatch stopped.symm.trans e
    · have started := congrArg ModuleRec.state (refusedFor_later (s := s) (b := b) (dead := dead) apart later)
      exact fun e => nomatch started.symm.trans e
  have taken : takeHandoff (.summary b) { D with handoffs := [.firstFailure b, .summary b] } =
      { D.modBerth b fun r => { r with summary := summaryOf D b } with handoffs := [.firstFailure b, .summary b] } :=
    summaryTaken_waits (s := { D with handoffs := [.firstFailure b, .summary b] }) waits none
  have next : refusedNext b dead m (m :: ms) l e s =
      { D.modBerth b fun r => { r with summary := summaryOf D b } with handoffs := [.firstFailure b, .summary b] } := by
    rw [refusedNext, hD]
  have before : ({ v with handoffs := [.summary b, .firstFailure b, .summary b], evr := { v.evr with entries := e } } : State) =
      { D with handoffs := [.summary b, .firstFailure b, .summary b] } := by
    rw [is, ← hD]
    rfl
  rw [drained, before, next, ← taken]
  exact drain_cons (n + 3) (s := { D with handoffs := [.summary b, .firstFailure b, .summary b] }) rfl

/-- R41, R99, R100: an accepted connection whose first close SYU refuses, once all it hands over is taken and the request
is answered. -/
theorem refused_answered (q : Quiet s) (w : EgressWorks s) (own : s.own ≠ none) (waits : (s.berth b).state = .dead)
    (free : s.slot b = .free) (bare : s.list b = []) (room : s.blg.sum < 32)
    (numbers : s.blg.counter + s.blg.taken < Config.u32Max + 1) (full : RaisesAlone evLogFull s)
    (alone : RaisesAlone (evCapacityLimit b) s) (apart : (m :: ms).Nodup)
    (picks : pickModules (fun m => s.mpm.table[m].rating) (s.entry b).contract (standbyModules s) = m :: ms)
    (no : deadBusAllowed s (contactor m) b = false) (idle : s.syu.busy (contactor m) = false)
    (unlisted : ∀ x ∈ m :: ms, ∀ a, x ∉ s.list a) {t : State}
    (is : t = concluded f (acceptConnect b dead (evalLogFull s))) :
    Released b m ms s t ∧ ReplyGiven f t ∧ CommandGiven (openingOf s m) t ∧ (s.lpu.sending = none →
      t.lpu.sending = some (frameBytes (openingOf s m).dest (s.own.getD 0) 5 0 s.lpu.seq (openingOf s m).payload)) := by
  obtain ⟨l, accepted, kept⟩ := acceptConnect_refused (dead := dead) w waits free room apart picks no idle
    (unlisted m List.mem_cons_self)
  obtain ⟨n, e, same, drained⟩ := refused_drained q bare apart full accepted
  have fails : Failing b m ms (refusedNext b dead m (m :: ms) l e s) :=
    refusedNext_failing free bare room numbers apart unlisted idle (by
      rw [same _ (evCapacityLimit_ne_full b)]
      exact alone)
  have given := giveBcmd_given (c := openingOf s m) w own
  have link : Lpu.Kept (· = contactor m) 1 (giveBcmd (openingOf s m) s).lpu l := kept _
  have works : EgressWorks (refusedNext b dead m (m :: ms) l e s) :=
    (link.works ((giveBcmd_kept (x := fun _ => False) (c := openingOf s m) not_false s).works w).1).1
  obtain ⟨released, l', link', lpu⟩ := failing_concluded (f := f) fails works drained
  have queued := (link.trans link').busy given.2
  have answered := queued.trans (replied_queued (f := f) (r := l'.reservations - 1) _
    (by rw [queued.sending]; exact given.2))
  have replied : ReplyGiven f t := is ▸ replied_given f lpu
  rw [← lpu, ← is] at answered
  refine ⟨is ▸ released.of_unchanged rfl rfl rfl rfl rfl rfl rfl, replied, given.1.queued (x := (· = contactor m)) rfl answered, fun idle => ?_⟩
  rw [answered.sending, giveBcmd_free own idle w]
  rfl

end
end Sys2Proof.Machine
end

section
namespace Sys2Proof.Machine

section
variable {s t u : State} {b : Berth} {m x : Module} {rest : List Module}

theorem standbyModules_eq (s : State) :
    standbyModules s = (List.finRange 8).filter fun m => (s.modu m).state = .standby := by
  rw [standbyModules, allModules_eq]

/-- R40: what is picked of the modules in STANDBY. -/
structure Picked (b : Berth) (m : Module) (rest picked : List Module) (s : State) : Prop where
  picks : pickModules (fun x => s.mpm.table[x].rating) (s.entry b).contract (standbyModules s) = m :: picked
  before : picked <+: rest
  apart : (m :: picked).Nodup
  standby : ∀ x ∈ m :: picked, (s.modu x).state = .standby
  enough : (s.entry b).contract ≤ ((m :: picked).map fun x : Module => s.mpm.table[x].rating).sum
  least : ∀ k, k ≤ picked.length →
    (((m :: picked).take k).map fun x : Module => s.mpm.table[x].rating).sum < (s.entry b).contract

theorem pick_standby (standby : ((List.finRange 8).filter fun m => (s.modu m).state = .standby) = m :: rest)
    (some : 0 < (s.entry b).contract) (enough : Enough s b) : ∃ picked, Picked b m rest picked s := by
  have all : standbyModules s = m :: rest := (standbyModules_eq s).trans standby
  have picks : pickModules (fun x => s.mpm.table[x].rating) (s.entry b).contract (m :: rest) =
      m :: pickModules (fun x => s.mpm.table[x].rating) ((s.entry b).contract - s.mpm.table[m].rating) rest :=
    if_neg (Nat.ne_of_gt some)
  have before := pickModules_prefix (fun x => s.mpm.table[x].rating) (s.entry b).contract (m :: rest)
  have reached : (s.entry b).contract ≤ ((m :: rest).map fun x : Module => s.mpm.table[x].rating).sum := by
    have := enough
    rwa [Enough, standby] at this
  have most := pickModules_enough reached
  refine ⟨pickModules (fun x => s.mpm.table[x].rating) ((s.entry b).contract - s.mpm.table[m].rating) rest, ?_⟩
  have least : ∀ k, k < (pickModules (fun x => s.mpm.table[x].rating) (s.entry b).contract (m :: rest)).length → _ :=
    fun k => pickModules_shortest (rating := fun x => s.mpm.table[x].rating) (need := (s.entry b).contract) (ms := m :: rest)
  rw [picks] at before most least
  have sub := before.sublist
  refine ⟨all ▸ picks, (List.prefix_cons_inj m).1 before, ?_, fun x mem => ?_, most, fun k le => least k (Nat.lt_succ_of_le le)⟩
  · refine sub.nodup ?_
    rw [← standby]
    exact (List.nodup_finRange 8).filter _
  · have listed : x ∈ (List.finRange 8).filter fun m => (s.modu m).state = .standby := standby ▸ sub.subset mem
    simpa using (List.mem_filter.1 listed).2

/-- R34: a module in STANDBY stands in no list. -/
theorem ModulesListed.standby_unlisted (h : ModulesListed s) (standby : (s.modu x).state = .standby) (a : Berth) :
    x ∉ s.list a := fun mem => by
  have allocated := (h.2.2 x).2 ⟨a, mem⟩
  rw [standby] at allocated
  exact nomatch allocated

/-! ### The refusals of a connection (R99) -/

section
variable {src : Byte} {tag : BitVec 16} {dead : Bool}

theorem connect_noTariff (q : Quiet s) (w : EgressWorks s) (h : Served s src) (o : isOperator s src.toNat = true)
    (idle : Idle s b) (on : s.pins.pilot[b] = true) (ready : ShipReady s b) (bare : ¬ TariffLoaded s)
    (alone : RaisesAlone evTariffNotSet s) :
    exec (connectInstr dead src tag b) s = .next (answered src tag 3 .noTariff [] (raised evTariffNotSet s)) :=
  connect_raised (u := s) q w h o (fun p => connectCmd_noTariff (s := served src p s) idle on ready bare) alone q rfl rfl

theorem connect_noSlot (q : Quiet s) (w : EgressWorks s) (h : Served s src) (o : isOperator s src.toNat = true)
    (idle : Idle s b) (on : s.pins.pilot[b] = true) (ready : ShipReady s b) (tariff : TariffLoaded s)
    (full : s.blg.sum = 32) (alone : RaisesAlone evLogFull s) :
    exec (connectInstr dead src tag b) s = .next (answered src tag 3 .noSlot []
      (raised evLogFull { s with blg := { s.blg with logFull := true } })) := by
  have refused : ∀ p, connectCmd b dead (served src p s) =
      (.noSlot, (served src p { s with blg := { s.blg with logFull := true } }).post (.raise evLogFull)) := fun p =>
    (connectCmd_noSlot (s := served src p s) idle on ready tariff
      fun r => absurd (show s.blg.sum = 32 from full) (Nat.ne_of_lt r.1)).trans
      (congrArg (Prod.mk _) (evalLogFull_full (s := served src p s) full))
  exact connect_raised (u := { s with blg := { s.blg with logFull := true } }) q w h o refused alone q rfl rfl

/-- R99, R146: a refusal once the log has been found to have room. -/
theorem connect_room {res : Result} (q : Quiet s) (w : EgressWorks s) (h : Served s src) (o : isOperator s src.toNat = true)
    (refused : ∀ p, connectCmd b dead (served src p s) = (res, evalLogFull (served src p s))) (room : s.blg.sum < 32) :
    exec (connectInstr dead src tag b) s = .next (answered src tag 3 res []
      { s with blg := { s.blg with logFull := false } }) :=
  connect_plain (u := { s with blg := { s.blg with logFull := false } }) q w h o
    (fun p => (refused p).trans (congrArg (Prod.mk _) (evalLogFull_room (s := served src p s) (Nat.ne_of_lt room)))) q rfl rfl

end
/-! ### The acceptances (R99, R100) -/

/-- R40, R99: what stands once an accepted connection, whose first close SYU has taken, is answered. -/
structure Closing (b : Berth) (dead : Bool) (m : Module) (ms : List Module) (s t : State) : Prop where
  record : ∃ r, r.listed = (m :: ms).length ∧ t.berth b = { (s.berth b).opened s.now dead with summary := r }
  slot : t.slot b = .reserved
  pending : t.syu.deadPending (contactor m) = true
  berthRef : t.berthRef b = some (newBerthRef s.rfg.inForce (s.entry b).nominalF (s.entry b).nominalV)
  list : t.list b = m :: ms
  begun : ∀ x ∈ m :: ms, t.modu x = (s.modu x).begun (s.now + s.mpm.table[x].startLimit * 1000) (x = m)
  others : ∀ a, a ≠ b → t.berth a = s.berth a ∧ t.slot a = s.slot a ∧ t.list a = s.list a
  log : t.blg.log = s.blg.log
  counter : t.blg.counter = s.blg.counter
  mtr : t.mtr = s.mtr
  scl : t.scl = s.scl
  outputs : t.evr.outputs = s.evr.outputs

variable {f : ReplyFrame} {dead : Bool} {ms : List Module} in
theorem closing_stands (q : Quiet s) (w : EgressWorks s) (idle : (s.berth b).state = .dead) (free : s.slot b = .free)
    (bare : s.list b = []) (room : s.blg.sum < 32) (alone : RaisesAlone evLogFull s) (apart : (m :: ms).Nodup)
    (picks : pickModules (fun m => s.mpm.table[m].rating) (s.entry b).contract (standbyModules s) = m :: ms)
    (allowed : deadBusAllowed s (contactor m) b = true) :
    Closing b dead m ms s (concluded f (acceptConnect b dead (evalLogFull s))) ∧
      ReplyGiven f (concluded f (acceptConnect b dead (evalLogFull s))) := by
  obtain ⟨l, g, e, r, eq, listed, given⟩ := closing_answered (dead := dead) (f := f) q w idle free bare room alone apart picks
    allowed
  refine ⟨?_, given⟩
  generalize concluded f (acceptConnect b dead (evalLogFull s)) = t at eq
  have bsq : ∀ a, t.berth a = (upd (closingFor b dead m (m :: ms) s).bsq.recs b fun r' => { r' with summary := r })[a] :=
    fun a => by rw [eq]; rfl
  have blg : t.blg = (closingFor b dead m (m :: ms) s).blg := by rw [eq]
  have mpm : t.mpm = (closingFor b dead m (m :: ms) s).mpm := by rw [eq]
  have rfg : t.rfg = (closingFor b dead m (m :: ms) s).rfg := by rw [eq]
  have syu : t.syu = (closingFor b dead m (m :: ms) s).syu := by rw [eq]
  have outside : t.mtr = s.mtr ∧ t.scl = s.scl ∧ t.evr.outputs = s.evr.outputs := by rw [eq]; exact ⟨rfl, rfl, rfl⟩
  have here : t.berth b = { (closingFor b dead m (m :: ms) s).berth b with summary := r } :=
    (bsq b).trans (upd_self _ _ _)
  refine ⟨⟨r, listed, here.trans ?_⟩, ?_, ?_, ?_, ?_, fun x mem => ?_, fun a other => ⟨?_, ?_, ?_⟩, ?_, ?_, outside.1,
    outside.2.1, outside.2.2⟩
  · rw [closingFor_berth]
  · rw [State.slot, blg]
    exact closingFor_slot
  · rw [syu]
    exact closingFor_pending
  · rw [State.berthRef, rfg]
    exact closingFor_berthRef
  · rw [State.list, mpm]
    exact (closingFor_list (s := s)).trans (by rw [bare, List.nil_append])
  · rw [State.modu, mpm]
    exact closingFor_modu apart mem
  · exact (bsq a).trans ((upd_other (i := b) (j := a) _ _ (Ne.symm other)).trans (closingFor_berth_other other))
  · rw [State.slot, blg]
    exact closingFor_slot_other other
  · rw [State.list, mpm]
    exact closingFor_list_other other
  · rw [blg]
    rfl
  · rw [blg]
    rfl

section
variable {src : Byte} {tag : BitVec 16} {dead : Bool} {picked : List Module} {p : MguReq}

theorem Closing.of_served (h : Closing b dead m picked (served src p s) t) : Closing b dead m picked s t :=
  ⟨h.record, h.slot, h.pending, h.berthRef, h.list, h.begun, h.others, h.log, h.counter, h.mtr, h.scl, h.outputs⟩

theorem accepted_aside (f : ReplyFrame) (b : Berth) (dead : Bool) (p : MguReq) (s : State) :
    (concluded f (acceptConnect b dead (evalLogFull (served src p s)))).mlk = s.mlk ∧
      (concluded f (acceptConnect b dead (evalLogFull (served src p s)))).now = s.now := by
  have same : (served src p s).mlk = s.mlk ∧ (served src p s).now = s.now := ⟨rfl, rfl⟩
  obtain ⟨mlk, now⟩ := same
  rw [← mlk, ← now]
  simp

/-- R99: an accepted connection whose first close SYU takes. -/
theorem connect_closing (q : Quiet s) (w : EgressWorks s) (h : Served s src) (o : isOperator s src.toNat = true)
    (idle : Idle s b) (on : s.pins.pilot[b] = true) (ready : ShipReady s b) (tariff : TariffLoaded s)
    (room : s.blg.sum < 32) (numbers : s.blg.counter + s.blg.taken < Config.u32Max + 1) (enough : Enough s b)
    (free : s.slot b = .free) (bare : s.list b = []) (alone : RaisesAlone evLogFull s) (pick : Picked b m rest picked s)
    (allowed : deadBusAllowed s (contactor m) b = true) :
    ∃ t, exec (connectInstr dead src tag b) s = .next t ∧ ReplyGiven (reply src tag 3 .done []) t ∧
      Closing b dead m picked s t ∧ t.mlk = s.mlk ∧ t.now = s.now := by
  obtain ⟨p, run⟩ := connect_acted (tag := tag) (v := fun p => acceptConnect b dead (evalLogFull (served src p s))) q h o
    (fun p => connectCmd_accepted (s := served src p s) idle on ready tariff ⟨room, numbers⟩ enough) (fun p => by simp)
  obtain ⟨closing, given⟩ := closing_stands (s := served src p s) (f := reply src tag 3 .done []) (dead := dead) q w idle.1
    free bare room alone pick.apart pick.picks allowed
  exact ⟨_, run, given, closing.of_served, accepted_aside _ b dead p s⟩

theorem Released.of_served (h : Released b m picked (served src p s) t) : Released b m picked s t :=
  h.of_unchanged rfl rfl rfl rfl rfl rfl rfl

/-- R99, R100: an accepted connection whose first close SYU refuses. -/
theorem connect_withdrawn (q : Quiet s) (w : EgressWorks s) (h : Served s src) (o : isOperator s src.toNat = true)
    (idle : Idle s b) (on : s.pins.pilot[b] = true) (ready : ShipReady s b) (tariff : TariffLoaded s)
    (room : s.blg.sum < 32) (numbers : s.blg.counter + s.blg.taken < Config.u32Max + 1) (enough : Enough s b)
    (free : s.slot b = .free) (bare : s.list b = []) (listed : ModulesListed s) (full : RaisesAlone evLogFull s)
    (alone : RaisesAlone (evCapacityLimit b) s) (pick : Picked b m rest picked s)
    (spare : s.syu.busy (contactor m) = false) (no : deadBusAllowed s (contactor m) b = false) :
    ∃ t, exec (connectInstr dead src tag b) s = .next t ∧ ReplyGiven (reply src tag 3 .done []) t ∧
      Released b m picked s t ∧ CommandGiven (openingOf s m) t ∧ (s.lpu.sending = none → t.lpu.sending =
        some (frameBytes (openingOf s m).dest (s.own.getD 0) 5 0 s.lpu.seq (openingOf s m).payload)) ∧
      t.mlk = s.mlk ∧ t.now = s.now := by
  obtain ⟨p, run⟩ := connect_acted (tag := tag) (v := fun p => acceptConnect b dead (evalLogFull (served src p s))) q h o
    (fun p => connectCmd_accepted (s := served src p s) idle on ready tariff ⟨room, numbers⟩ enough) (fun p => by simp)
  obtain ⟨released, given, command, begun⟩ := refused_answered (s := served src p s) (f := reply src tag 3 .done []) q w h.own
    (dead := dead) idle.1 free bare room numbers full alone pick.apart pick.picks no spare
    (fun x mem a => listed.standby_unlisted (pick.standby x mem) a) rfl
  exact ⟨_, run, given, released.of_served, command, begun, accepted_aside _ b dead p s⟩

end

end
end Sys2Proof.Machine
end

section
open Sys2Proof Sys2Proof.Machine

/-- Settles O53: each refusal stands before the next in BSQ's order; an acceptance reserves, takes the first modules in
STANDBY that reach the contract demand and asks for the first one's close, whose refusal releases the berth again. -/
theorem connectionAsked : Obligations.ConnectionAsked := by
  intro src tag b dead s q w h o c taken ready tariff standby rating enough
  refine ⟨fun not => ?_, fun idle off => ?_, fun idle on none => ?_, fun idle on has none alone => ?_,
    fun idle on has set full alone => ?_, fun idle on has set room spent => ?_, fun idle on has set room left few => ?_,
    fun m rest idle on has set room left reach free bare some alone is spare node fresh low => ?_,
    fun m rest idle on has set room left reach free bare listed some alone alone' is spare no => ?_⟩
  · exact connect_plain (u := s) q w h o (fun p => connectCmd_busy (s := served src p s) not) q rfl rfl
  · exact connect_plain (u := s) q w h o (fun p => connectCmd_pilotOpen (s := served src p s) idle off) q rfl rfl
  · exact connect_plain (u := s) q w h o (fun p => connectCmd_notReady (s := served src p s) idle on none) q rfl rfl
  · exact connect_noTariff q w h o idle on has none alone
  · exact connect_noSlot q w h o idle on has set full alone
  · exact connect_room q w h o (fun p => connectCmd_noSlot (s := served src p s) idle on has set
      fun r => absurd r.2 (Nat.not_lt_of_le spent)) room
  · exact connect_room q w h o (fun p => connectCmd_noCapacity (s := served src p s) idle on has set ⟨room, left⟩ few) room
  · obtain ⟨picked, pick⟩ := pick_standby is some reach
    obtain ⟨t, run, given, closing, mlk, now⟩ := connect_closing (tag := tag) (dead := dead) q w h o idle on has set room left
      reach free bare alone pick (deadBusAllowed_contactor.2 ⟨idle.2, spare, node, fresh, low⟩)
    obtain ⟨r, counted, record⟩ := closing.record
    refine ⟨t, run, given, ?_, ?_, ?_, ?_, ?_, ?_, ?_, closing.slot, closing.pending, closing.berthRef,
      ⟨picked, closing.list, pick.before, pick.enough, pick.least, fun x mem => ?_, ?_⟩, closing.others, closing.log,
      closing.counter, closing.mtr, mlk, closing.scl, closing.outputs, now⟩
    iterate 7 (rw [record]; rfl)
    · rw [closing.begun x mem]
      exact ⟨rfl, decide_eq_true_iff, rfl⟩
    · rw [record]
      exact counted
  · obtain ⟨picked, pick⟩ := pick_standby is some reach
    have refused : deadBusAllowed s (contactor m) b = false := Bool.eq_false_iff.2 fun allowed => by
      obtain ⟨-, -, node, fresh, low⟩ := deadBusAllowed_contactor.1 allowed
      obtain e | e | e := no
      · exact node e
      · exact fresh e
      · exact Nat.not_lt_of_le e low
    obtain ⟨t, run, given, released, command, begun, mlk, now⟩ := connect_withdrawn (tag := tag) (dead := dead) q w h o idle on
      has set room left reach free bare listed alone alone' pick spare refused
    exact ⟨t, run, given, released.state, released.raised, released.slot, released.idle, command, begun,
      ⟨picked, released.list, pick.before, released.stopping⟩, released.log, released.counter, released.mtr, mlk,
      released.scl, released.outputs, now⟩
end

section
namespace Sys2Proof.Machine

/-! ### What the polls have found, and a module out of every list, outlast what is handed over -/

/-- With no poll open, none is opened, what the polls have found stays, and so does the record of a module `k` names that
is in no list and in no state in which it should be. -/
def Bides (k : Option Module) (s t : State) : Prop :=
  s.mpm.poll = none → t.mpm.poll = none ∧ t.mpm.table = s.mpm.table ∧ t.mpm.ignored = s.mpm.ignored ∧
    (∀ x, (t.modu x).found = (s.modu x).found) ∧ ∀ m ∈ k, ¬ Engaged m s → ¬ Engaged m t ∧ t.modu m = s.modu m

section
variable {s t u : State} {k : Option Module} {m x : Module} {b : Berth} {e : EventIx} {n : Nat}

theorem Bides.refl (k : Option Module) (s : State) : Bides k s s := fun none =>
  ⟨none, rfl, rfl, fun _ => rfl, fun _ _ out => ⟨out, rfl⟩⟩

theorem Bides.trans (h : Bides k s t) (g : Bides k t u) : Bides k s u := fun none => by
  obtain ⟨none, table, ignored, found, still⟩ := h none
  obtain ⟨none', table', ignored', found', still'⟩ := g none
  refine ⟨none', table'.trans table, ignored'.trans ignored, fun x => (found' x).trans (found x), fun m named out => ?_⟩
  obtain ⟨out, same⟩ := still m named out
  obtain ⟨out, same'⟩ := still' m named out
  exact ⟨out, same'.trans same⟩

theorem engaged_congr (modu : t.modu m = s.modu m) (lists : ∀ c, m ∈ t.list c → m ∈ s.list c) (h : Engaged m t) : Engaged m s :=
  h.imp (fun a => modu ▸ a) fun ⟨c, mem⟩ => ⟨c, lists c mem⟩

theorem Bides.of_same (recs : t.mpm.recs = s.mpm.recs) (lists : t.mpm.lists = s.mpm.lists) (table : t.mpm.table = s.mpm.table)
    (ignored : t.mpm.ignored = s.mpm.ignored) (poll : s.mpm.poll = none → t.mpm.poll = none) : Bides k s t := fun none => by
  have modu : ∀ x, t.modu x = s.modu x := fun x => congrArg (fun v : Vector ModuleRec 8 => v[x]) recs
  refine ⟨poll none, table, ignored, fun x => congrArg _ (modu x), fun m _ out => ⟨fun h => out ?_, modu m⟩⟩
  exact engaged_congr (modu m) (fun c mem => (congrArg (fun l => m ∈ l[c]) lists).mp mem) h

/-- Work on the record of another module than those named that leaves the lists of the others. -/
theorem modModule_bides {g : ModuleRec → ModuleRec} (found : ∀ r, (g r).found = r.found)
    (other : ∀ m ∈ k, ¬ Engaged m s → x ≠ m) : Bides k s (s.modModule x g) := fun none => by
  refine ⟨none, rfl, rfl, fun y => ?_, fun m named out => ?_⟩
  · by_cases is : x = y
    · subst is
      rw [s.modu_modModule]
      exact found _
    · rw [s.modu_modModule_other is]
  · have same : (s.modModule x g).modu m = s.modu m := s.modu_modModule_other (other m named out) _
    exact ⟨fun h => out (engaged_congr same (fun c mem => mem) h), same⟩

theorem bides_pass (k : Option Module) : Pass (Bides k) where
  trans := Bides.trans
  outside h := .of_same (by rw [h]) (by rw [h]) (by rw [h]) (by rw [h]) (by rw [h]; exact id)
  egressed h := by
    obtain ⟨⟨l, p, ms, eq⟩, idle⟩ := h
    subst eq
    exact .of_same rfl rfl rfl rfl idle
  worked h := modModule_bides h.found fun m _ out is => out (is ▸ h.engaged)

theorem pollSkippedTaken_bides (x : Module) (n : Nat) (s : State) : Bides k s (pollSkippedTaken x n s) := fun none => by
  have same : pollSkippedTaken x n s = s := by rw [pollSkippedTaken, none]
  rw [same]
  exact Bides.refl k s none

/-- A module that leaves or enters a list, where no other is added. -/
theorem relisted_bides {f : Vector (List Module) 4 → Vector (List Module) 4} {g : ModuleRec → ModuleRec}
    (found : ∀ r, (g r).found = r.found) (other : ∀ m ∈ k, ¬ Engaged m s → x ≠ m)
    (added : ∀ (c : Berth) y, y ≠ x → y ∈ (f s.mpm.lists)[c] → y ∈ s.list c) :
    Bides k s (clearModuleRef x ((s.modMpm fun c => { c with lists := f c.lists }).modModule x g)) := fun none => by
  have cleared : ∀ u : State, Bides k u (clearModuleRef x u) := fun u => (bides_pass k).outside (by rfl)
  refine Bides.trans (t := (s.modMpm fun c => { c with lists := f c.lists }).modModule x g) (fun none => ?_) (cleared _) none
  refine ⟨none, rfl, rfl, fun y => ?_, fun m named out => ?_⟩
  · by_cases is : x = y
    · subst is
      rw [State.modu_modModule]
      exact found _
    · rw [State.modu_modModule_other _ is]
      rfl
  · have apart := other m named out
    have same : ((s.modMpm fun c => { c with lists := f c.lists }).modModule x g).modu m = s.modu m :=
      State.modu_modModule_other _ apart _
    exact ⟨fun h => out (engaged_congr same (fun c mem => added c m (Ne.symm apart) mem) h), same⟩

/-- The lists without module `m`. -/
def unlisted (m : Module) (lists : Vector (List Module) 4) : Vector (List Module) 4 :=
  lists.map fun l => l.filter fun x => x ≠ m

theorem mem_of_unlisted {lists : Vector (List Module) 4} {c : Berth} {y : Module} (h : y ∈ (unlisted x lists)[c]) :
    y ∈ lists[c] := by
  simp [unlisted] at h
  exact h.1

/-- A module's record as it leaves its list. -/
def ModuleRec.leaves (st : ModuleState) (r : ModuleRec) : ModuleRec :=
  { r with
    state := st, first := false, startIssued := false, deferred := false, blockPending := false
    startDue := none, stopDue := none }

theorem leaveList_eq (m : Module) (st : ModuleState) (s : State) : leaveList m st s =
    clearModuleRef m ((s.modMpm fun c => { c with lists := unlisted m c.lists }).modModule m (ModuleRec.leaves st)) := rfl

theorem leaveList_bides {st : ModuleState} (other : ∀ m ∈ k, ¬ Engaged m s → x ≠ m) : Bides k s (leaveList x st s) :=
  leaveList_eq x st s ▸ relisted_bides (fun _ => rfl) other fun _ _ _ mem => mem_of_unlisted mem

theorem takeModule_bides {first : Bool} (other : ∀ m ∈ k, ¬ Engaged m s → x ≠ m) : Bides k s (takeModule b first x s) := by
  refine relisted_bides (f := fun lists => upd lists b fun l => l ++ [x]) (fun _ => rfl) other fun c y apart mem => ?_
  by_cases is : b = c
  · subst is
    have here : y ∈ s.list b ++ [x] := (congrArg (fun l => y ∈ l) (upd_self s.mpm.lists b _)).mp mem
    exact (List.mem_append.1 here).resolve_right fun h => apart (List.mem_singleton.1 h)
  · exact (congrArg (fun l => y ∈ l) (upd_other s.mpm.lists _ is)).mp mem

end
end Sys2Proof.Machine
end

section
namespace Sys2Proof.Machine

section
variable {s t u : State} {k : Option Module} {m x : Module} {b : Berth} {e : EventIx} {n : Nat}

/-- No module that `k` names, and that is in no list, is in STANDBY, from which it could be taken. -/
def Spent (k : Option Module) (s : State) : Prop := ∀ m ∈ k, ¬ Engaged m s → (s.modu m).state ≠ .standby

theorem Onward.alone (h : Onward s t) (alone : RaisesAlone e s) : RaisesAlone e t :=
  alone.imp (fun raw => (h.raw e raw).1) fun off => (h.entries e).1.trans off

theorem replaceAfter_bides (w : Bool) (c : Option Berth) (spent : Spent k s) : Bides k s (replaceAfter w c s) := by
  unfold replaceAfter
  split
  · exact .refl k s
  split
  · unfold replaceModule
    split
    · split
      · exact .refl k s
      next x xs is =>
        have standby : (s.modu x).state = .standby := by
          have mem : x ∈ standbyModules s := by rw [is]; exact List.mem_cons_self
          simpa using (List.mem_filter.1 mem).2
        exact takeModule_bides fun m named out same => spent m named out (same ▸ standby)
    · exact .refl k s
  · exact .refl k s

theorem marked_bides (engaged : Engaged x s) : Bides k s (s.modModule x fun r => { r with blockPending := true }) :=
  (bides_pass k).worked ⟨engaged, fun _ => rfl, fun is => ⟨is, fun _ => rfl⟩⟩

/-- What holds of no module and of each one that is in no list. -/
theorem Bides.of_each (all : Bides none s t) (each : ∀ m ∈ k, ¬ Engaged m s → Bides (some m) s t) : Bides k s t :=
  fun idle => by
    obtain ⟨poll, table, ignored, found, -⟩ := all idle
    exact ⟨poll, table, ignored, found, fun m named out => (each m named out idle).2.2.2.2 m rfl out⟩

theorem Spent.after (h : Bides (some m) s t) (idle : s.mpm.poll = none) (out : ¬ Engaged m s)
    (other : (s.modu m).state ≠ .standby) : Spent (some m) t := fun y named _ => by
  obtain rfl := Option.some.inj named
  rw [((h idle).2.2.2.2 m rfl out).2]
  exact other

theorem released_replaced_bides (serving : (s.modu x).state.serving = true) (spent : Spent k s) (w : Bool) (c : Option Berth) :
    Bides k s (replaceAfter w c ((release x s).modModule x fun r => { r with blockPending := true })) := by
  have stops : Engaged x (release x s) := .inl (by rw [release_stopping serving]; rfl)
  have before : ∀ k, Bides k s ((release x s).modModule x fun r => { r with blockPending := true }) := fun k =>
    ((bides_pass k).release x s).trans (marked_bides stops)
  refine .of_each ((before none).trans (replaceAfter_bides w c fun m named => nomatch named)) fun m named out idle => ?_
  exact ((before (some m)).trans (replaceAfter_bides w c
    (Spent.after (before (some m)) idle out (spent m named out)))) idle

/-- R50: the block of another module than those named, which no other replaces. -/
theorem blockModule_bides (spent : Spent k s) (other : ∀ m ∈ k, ¬ Engaged m s → x ≠ m) : Bides k s (blockModule x s) := by
  have served : (s.modu x).state.serving = true → ∀ f w c, Bides k s (tellFailure f c (replaceAfter w c
      ((release x s).modModule x fun r => { r with blockPending := true }))) := fun serving f w c =>
    (released_replaced_bides serving spent w c).trans ((bides_pass k).tellFailure f c _)
  unfold blockModule
  dsimp only
  split
  · exact leaveList_bides other
  · exact leaveList_bides other
  next is => exact served (by rw [is]; rfl) _ _ _
  next is => exact served (by rw [is]; rfl) _ _ _
  next is => exact served (by rw [is]; rfl) _ _ _
  next is => exact marked_bides (.inl (by rw [is]; rfl))
  · exact .refl k s
  · exact .refl k s

/-- R159: a raise, with no module named. -/
theorem raiseEntry_bides (e : EventIx) (s : State) : Bides none s (raiseEntry e s) :=
  (bides_pass none).raiseEntry e s fun _ _ _ _ _ _ _ =>
    blockModule_bides (fun _ named => nomatch named) fun _ named => nomatch named

/-- What the polls have found outlasts all that is handed over. -/
theorem drain_found (n : Nat) (s : State) : Bides none s (drain n s) :=
  (bides_pass none).drain (fun x n s => pollSkippedTaken_bides x n s) raiseEntry_bides n s

theorem settle_found (s : State) : Bides none s (settle s) :=
  (drain_found Config.settleFuel s).trans ((bides_pass none).outside rfl)

/-- Where every raise concerns its entry alone, so does a module out of every list. -/
theorem drain_bides_alone (alone : ∀ e, RaisesAlone e s) (n : Nat) : Bides k s (drain n s) := by
  induction n generalizing s with
  | zero => exact .refl k s
  | succ n ih =>
    cases waiting : s.handoffs with
    | nil => rw [drain_nil _ waiting]; exact .refl k s
    | cons h rest =>
      have rested : Bides k s { s with handoffs := rest } := (bides_pass k).outside rfl
      have taken : Bides k { s with handoffs := rest } (takeHandoff h { s with handoffs := rest }) :=
        (bides_pass k).takeHandoff _ (fun x n => pollSkippedTaken_bides x n _) fun e _ => by
          rw [raiseEntry_alone (by exact alone e)]
          exact (bides_pass k).outside rfl
      have onward := takeHandoff_onward h { s with handoffs := rest }
      rw [drain_cons n waiting]
      exact (rested.trans taken).trans (ih fun e => onward.alone (by exact alone e))

end
end Sys2Proof.Machine
end

section
namespace Sys2Proof.Machine

section
variable {s t u : State} {m x : Module} {b : Berth} {e : EventIx} {n : Nat} {due : Nat}

/-! ### A module that is lost (R38, R48, R50) -/

/-- R48: module `m` is LOST, out of every list, with MODULE_LOST handed over. -/
def lost (m : Module) (s : State) : State := (leaveList m .lost s).post (.raise (evModuleLost m))

theorem lose_cases (m : Module) (s : State) : lose m s = lost m s ∨ ∃ v w c, lose m s = tellLeft c (tellFailure v c
    (replaceAfter w c (command .openCmd (contactor m) (cancelSync (contactor m) (lost m s))))) := by
  unfold lose
  dsimp only
  split
  · exact .inr ⟨_, _, _, rfl⟩
  · exact .inl rfl

/-- A loss changes what a pass lets change once the module is LOST, but for a replacement. -/
theorem Pass.lose {R : State → State → Prop} (k : Pass R) (m : Module) (s : State)
    (replaced : ∀ w c u, R (lost m s) u → R u (replaceAfter w c u)) : R (lost m s) (lose m s) := by
  obtain eq | ⟨v, w, c, eq⟩ := lose_cases m s
  · rw [eq]; exact k.refl _
  · have commanded := k.trans (k.cancelSync (contactor m) (lost m s)) (k.command .openCmd (contactor m) _)
    rw [eq]
    exact k.trans (k.trans commanded (replaced w c _ commanded)) (k.trans (k.tellFailure v c _) (k.tellLeft c _))

theorem leaveList_modu (m : Module) (st : ModuleState) (s : State) : (leaveList m st s).modu m =
    { s.modu m with
      state := st, first := false, startIssued := false, deferred := false, blockPending := false
      startDue := none, stopDue := none } :=
  (s.modMpm fun c => { c with lists := c.lists.map fun l => l.filter fun x => x ≠ m }).modu_modModule m _

theorem leaveList_unlisted (m : Module) (st : ModuleState) (s : State) (c : Berth) : m ∉ (leaveList m st s).list c := by
  have none : ∀ lists : Vector (List Module) 4, m ∉ (lists.map fun l => l.filter fun x => x ≠ m)[c] := fun lists h => by
    simp at h
  exact none s.mpm.lists

theorem leaveList_disengaged {st : ModuleState} (out : st.allocated = false) (m : Module) (s : State) :
    ¬ Engaged m (leaveList m st s) := by
  rintro (allocated | ⟨c, mem⟩)
  · rw [leaveList_modu] at allocated
    exact Bool.false_ne_true (out.symm.trans allocated)
  · exact leaveList_unlisted m st s c mem

/-- R36, R50: module `m` is out of every list, LOST, or BLOCKED where `action` is BLOCK_MODULE. -/
structure Gone (m : Module) (action : Action) (s : State) : Prop where
  out : ¬ Engaged m s
  state : (s.modu m).state = .lost ∨ action = .blockModule ∧ (s.modu m).state = .blocked

/-- With no poll open, a module that is gone stays gone. -/
def Goes (m : Module) (action : Action) (s t : State) : Prop :=
  s.mpm.poll = none → t.mpm.poll = none ∧ (Gone m action s → Gone m action t)

theorem Bides.goes {action : Action} (h : Bides (some m) s t) : Goes m action s t := fun idle => by
  obtain ⟨poll, -, -, -, still⟩ := h idle
  refine ⟨poll, fun gone => ?_⟩
  obtain ⟨out, same⟩ := still m rfl gone.out
  exact ⟨out, by rw [same]; exact gone.state⟩

theorem goes_pass (m : Module) (action : Action) : Pass (Goes m action) where
  trans h g idle := ⟨(g (h idle).1).1, fun gone => (g (h idle).1).2 ((h idle).2 gone)⟩
  outside h := ((bides_pass (some m)).outside h).goes
  egressed h := ((bides_pass (some m)).egressed h).goes
  worked h := ((bides_pass (some m)).worked h).goes

theorem Gone.spent {action : Action} (h : Gone m action s) : Spent (some m) s := fun y named _ => by
  obtain rfl := Option.some.inj named
  obtain is | ⟨-, is⟩ := h.state <;> rw [is] <;> decide

/-- R50: the block of the module itself, or of another. -/
theorem blockModule_goes {action : Action} (own : x = m → action = .blockModule) : Goes m action s (blockModule x s) := by
  intro idle
  refine ⟨?_, fun gone => ?_⟩
  · exact (blockModule_bides (k := none) (fun _ named => nomatch named) (fun _ named => nomatch named) idle).1
  by_cases is : x = m
  · subst is
    obtain state | ⟨-, state⟩ := gone.state
    · have left : blockModule x s = leaveList x .blocked s := by
        unfold blockModule
        dsimp only
        rw [state]
      rw [left]
      exact ⟨leaveList_disengaged rfl x s, .inr ⟨own rfl, by rw [leaveList_modu]⟩⟩
    · have same : blockModule x s = s := blockModule_none (by rw [state]; decide)
      rw [same]
      exact gone
  · have other : ∀ y ∈ some m, ¬ Engaged y s → x ≠ y := fun y named _ => Option.some.inj named ▸ is
    exact ((blockModule_bides gone.spent other).goes idle).2 gone

/-- R159, R165: a raise that is none of the module's own, but for MODULE_LOST. -/
theorem raiseEntry_goes (own : ∀ i : Fin 4, i ≠ 0 → e ≠ moduleEvent m i) :
    Goes m (s.event (evModuleLost m)).action s (raiseEntry e s) := by
  refine (goes_pass m _).raiseEntry e s fun u x i _ _ action family => blockModule_goes fun is => ?_
  have event : e = moduleEvent x i := by
    obtain ⟨b, j, rfl⟩ | ⟨y, j, rfl⟩ | ⟨-, single⟩ := eventFamily_cases e
    · rw [eventFamily_berthEvent] at family
      exact nomatch family
    · rw [eventFamily_moduleEvent] at family
      obtain ⟨rfl, rfl⟩ := EventFamily.module.inj family
      rfl
    · rw [single] at family
      exact nomatch family
  subst is
  have zero : i = 0 := by
    by_contra other
    exact own i other event
  rw [← action, event, zero]
  rfl

/-- R39: the other events of a module are raised by no hand-off. -/
theorem moduleEvent_spared {i : Fin 4} (other : i ≠ 0) (s : State) : Spared (moduleEvent m i) s := by
  have val : (moduleEvent m i).val = 56 + 4 * m.val + i.val := rfl
  have some : i.val ≠ 0 := fun h => other (Fin.ext h)
  refine ⟨fun is => ?_, fun c is => ?_, fun y is => ?_, fun c _ => ⟨fun is => ?_, fun side is => ?_⟩⟩
  · have := congrArg Fin.val is
    rw [val, show evLogFull.val = 94 from rfl] at this
    omega
  · have := congrArg Fin.val is
    rw [val, show (evSyncFail c).val = 14 * c.val + 2 from rfl] at this
    omega
  · have := congrArg Fin.val is
    rw [val, show (evModuleLost y).val = 56 + 4 * y.val + 0 from rfl] at this
    omega
  · have := congrArg Fin.val is
    rw [val, show (evCapacityLimit c).val = 14 * c.val + 11 from rfl] at this
    omega
  · have := congrArg Fin.val is
    cases side
    · rw [val, show (staleEvent c .ship).val = 14 * c.val + 0 from rfl] at this
      omega
    · rw [val, show (staleEvent c .converter).val = 14 * c.val + 1 from rfl] at this
      omega

/-- A module that is gone stays gone while what is handed over is taken. -/
theorem drain_gone {action : Action} (idle : s.mpm.poll = none) (gone : Gone m action s)
    (act : (s.event (evModuleLost m)).action = action) (none : ∀ i : Fin 4, i ≠ 0 → .raise (moduleEvent m i) ∉ s.handoffs)
    (n : Nat) : Gone m action (drain n s) := by
  induction n generalizing s with
  | zero => exact gone
  | succ n ih =>
    cases waiting : s.handoffs with
    | nil => rw [drain_nil _ waiting]; exact gone
    | cons h rest =>
      rw [waiting] at none
      have first : ∀ i : Fin 4, i ≠ 0 → h ≠ .raise (moduleEvent m i) := fun i other is =>
        none i other (is ▸ List.mem_cons_self)
      have taken : Goes m action { s with handoffs := rest } (takeHandoff h { s with handoffs := rest }) :=
        (goes_pass m action).takeHandoff _ (fun x n => (pollSkippedTaken_bides x n _).goes) fun e is => by
          rw [← act]
          exact raiseEntry_goes (s := { s with handoffs := rest }) fun i other same => first i other (is.trans (same ▸ rfl))
      obtain ⟨idle', gone'⟩ := taken idle
      have same := (takeHandoff_onward h { s with handoffs := rest }).entries (evModuleLost m)
      rw [drain_cons n waiting]
      refine ih idle' (gone' ⟨gone.out, gone.state⟩) (same.2.trans act) fun i other mem => ?_
      obtain ⟨hs, eq, absent⟩ := ((takeHandoff_deaf (first i other) { s with handoffs := rest }).mutes
        (moduleEvent_spared other _)).handed
      rw [eq] at mem
      exact (List.mem_append.1 mem).elim (fun old => none i other (List.mem_cons_of_mem _ old)) absent

end
end Sys2Proof.Machine
end

section
namespace Sys2Proof.Machine

section
variable {s t u : State} {m x : Module} {n due : Nat}

/-! ### The end of a poll as a miss (R36, R38) -/

theorem pollReplyExpiry_idle (h : ∀ m n due, s.mpm.poll ≠ some ⟨m, n, some due⟩) : pollReplyExpiry s = s := by
  unfold pollReplyExpiry
  split
  next is => exact absurd is (h _ _ _)
  · rfl

theorem pollReplyExpiry_due (h : s.mpm.poll = some ⟨m, n, some due⟩) : pollReplyExpiry s = miss m (s.advanceTo due) := by
  rw [pollReplyExpiry, h]

/-- R36: the poll of module `m` has ended as a miss. -/
def missed (m : Module) (s : State) : State :=
  { s with mpm := { s.mpm with
    poll := none
    recs := upd s.mpm.recs m fun r => { r with missCount := min (r.missCount + 1) 255, answered := false } } }

theorem missed_modu (m : Module) (s : State) : (missed m s).modu m =
    { s.modu m with missCount := min ((s.modu m).missCount + 1) 255, answered := false } := upd_self s.mpm.recs m _

theorem losable_iff (st : ModuleState) : st.losable = true ↔ st ∉ [.absent, .stopping, .lost, .blocked] := by
  cases st <;> decide

theorem miss_eq (m : Module) (s : State) : miss m s =
    if 3 ≤ (s.modu m).missCount + 1 ∧ (s.modu m).state ∉ [.absent, .stopping, .lost, .blocked] then lose m (missed m s)
    else missed m s := by
  have counted : Config.lossMisses ≤ ((missed m s).modu m).missCount ↔ 3 ≤ (s.modu m).missCount + 1 := by
    rw [missed_modu]
    show 3 ≤ min ((s.modu m).missCount + 1) 255 ↔ _
    omega
  have state : ((missed m s).modu m).state = (s.modu m).state := by rw [missed_modu]
  have losable : ((missed m s).modu m).state.losable = true ↔ (s.modu m).state ∉ [.absent, .stopping, .lost, .blocked] := by
    rw [state]
    exact losable_iff _
  exact if_congr (and_congr counted losable) rfl rfl

theorem miss_only (h : (s.modu m).missCount + 1 < 3 ∨ (s.modu m).state ∈ [.absent, .stopping, .lost, .blocked]) :
    miss m s = missed m s := by
  rw [miss_eq, if_neg]
  rintro ⟨many, out⟩
  exact h.elim (fun few => absurd many (Nat.not_le_of_lt few)) out

/-! ### A loss and all that it leads to (R38, R48) -/

theorem lost_gone (m : Module) (s : State) (action : Action) : Gone m action (lost m s) :=
  ⟨leaveList_disengaged (st := .lost) rfl m s, .inl (congrArg ModuleRec.state (leaveList_modu m .lost s))⟩

theorem lose_watched (m : Module) (s : State) : Watches (lost m s) (lose m s) := by
  have replaced : ∀ w c (u : State), Watches u (replaceAfter w c u) := fun _ _ _ => .of_frame
  obtain eq | ⟨v, w, c, eq⟩ := lose_cases m s
  · rw [eq]; exact .refl _
  · rw [eq]
    exact (cancelSync_watches (contactor m) _).trans ((command_watches .openCmd (contactor m) _).trans
      ((replaced w c _).trans ((tellFailure_watches v c _).trans (tellLeft_watches c _))))

/-- R38: a loss and all that it leads to, from a state with nothing to hand over and no poll open. -/
theorem lose_settled (quiet : s.handoffs = []) (idle : s.mpm.poll = none) :
    (settle (lose m s)).mpm.poll = none ∧ ((settle (lose m s)).modu m).found = (s.modu m).found ∧
      ((settle (lose m s)).event (evModuleLost m)).raw = true ∧ Gone m (s.event (evModuleLost m)).action (settle (lose m s)) := by
  have idle' : (lost m s).mpm.poll = none := idle
  have begun : Bides none s (lost m s) :=
    (leaveList_bides (k := none) (st := .lost) fun _ named => nomatch named).trans ((bides_pass none).post _ _)
  have found : Bides none (lost m s) (lose m s) :=
    (bides_pass none).lose m s fun w c u _ => replaceAfter_bides (k := none) w c fun _ named => nomatch named
  have gone : Gone m (s.event (evModuleLost m)).action (lose m s) := by
    have goes := (goes_pass m (s.event (evModuleLost m)).action).lose m s fun w c u before idle =>
      have spent := ((before idle').2 (lost_gone m s _)).spent
      (replaceAfter_bides w c spent).goes idle
    exact (goes idle').2 (lost_gone m s _)
  obtain ⟨hs, posted, unconfirmed⟩ := (lose_watched m s).handed
  have queue : (lose m s).handoffs = .raise (evModuleLost m) :: hs := by
    rw [posted, lost, State.post, show (leaveList m .lost s).handoffs = s.handoffs by simp, quiet]
    rfl
  have act : ((lose m s).event (evModuleLost m)).action = (s.event (evModuleLost m)).action :=
    ((lose_deaf (e := 0) m s).onward.entries _).2
  have poll : (lose m s).mpm.poll = none := (found idle').1
  refine ⟨(settle_found _ poll).1, ?_, ?_, ?_⟩
  · rw [(settle_found _ poll).2.2.2.1, (found idle').2.2.2.1, (begun idle).2.2.2.1]
  · refine drain_raises_first (fun c mem => ?_) (before := []) queue (by decide)
    rw [queue] at mem
    exact (List.mem_cons.1 mem).elim (fun is => nomatch is) (unconfirmed c)
  · have drained := drain_gone poll gone act (fun i other mem => ?_) Config.settleFuel
    · exact ⟨drained.out, drained.state⟩
    · obtain ⟨gs, eq, absent⟩ := ((lose_deaf m s).mutes (moduleEvent_spared other s)).handed
      rw [eq, quiet] at mem
      exact absent mem

end
end Sys2Proof.Machine
end

section
namespace Sys2Proof.Machine

section
variable {s t u : State} {m x : Module} {n due : Nat} {st : Reported} {p : List Byte} {src : Byte} {y : Reply}

/-! ### A PRPY that reaches MPM (R7, R37) -/

/-- R37: what a PRPY of module `m` in state `st` says. -/
def prpyReply (m : Module) (st : Reported) (p : List Byte) : Reply :=
  ⟨m, byteAt p 1, st, byteAt p 3 = 1, fieldAt p 4 2⟩

theorem prpyForm_some (length : p.length = 6) (module : byteAt p 0 = m.val) (state : reportedOf? (byteAt p 2) = some st) :
    prpyForm p = some (prpyReply m st p) := by
  have named : moduleOf? (byteAt p 0) = some m := by
    rw [module, moduleOf?, dif_pos m.isLt]
  unfold prpyForm
  rw [named, state]
  exact if_pos length

theorem exec_prpyFrame (q : Quiet s) (reach : reaches s src.toNat = true)
    (known : ∃ e ∈ s.mpm.table.toList, e.installed = true ∧ e.node = src.toNat) (length : p.length = 6)
    (module : byteAt p 0 = m.val) (state : reportedOf? (byteAt p 2) = some st) :
    exec (.prpyFrame src p) s = .next (settle (replyTaken src.toNat (prpyReply m st p) s)) := by
  have accepted : consumePrpy src.toNat p s = replyTaken src.toNat (prpyReply m st p) s := by
    have source : (s.mpm.table.toList.any fun e => e.installed && e.node = src.toNat) = true := by
      obtain ⟨e, mem, installed, node⟩ := known
      exact List.any_eq_true.2 ⟨e, mem, by simp [installed, node]⟩
    rw [consumePrpy, source, prpyForm_some length module state]
    rfl
  exact (done_handOff q reach 4 p).trans (by rw [consume_prpy, accepted])

theorem replyMatches_iff (src : Nat) (y : Reply) : replyMatches s src y = true ↔
    (∃ due, s.mpm.poll = some ⟨y.module, y.number, some due⟩) ∧ s.mpm.table[y.module].node = src := by
  unfold replyMatches
  split
  next m n due is =>
    rw [is]
    simp only [Bool.and_eq_true, decide_eq_true_eq, Option.some.injEq, OpenPoll.mk.injEq]
    constructor
    · rintro ⟨⟨rfl, rfl⟩, node⟩
      exact ⟨⟨due, rfl, rfl, rfl⟩, node⟩
    · rintro ⟨⟨_, rfl, rfl, -⟩, node⟩
      exact ⟨⟨rfl, rfl⟩, node⟩
  next other =>
    constructor
    · exact fun h => nomatch h
    · rintro ⟨⟨due, is⟩, -⟩
      exact absurd is (other _ _ _)

theorem replyTaken_ignored {src : Nat} (h : replyMatches s src y = false) : replyTaken src y s =
    { s with mpm := { s.mpm with ignored := min (s.mpm.ignored + 1) Config.u32Max } } := by
  rw [replyTaken, h]
  rfl

theorem replyTaken_matched {src : Nat} (h : replyMatches s src y = true) :
    replyTaken src y s = replyRules y (recordReply y s) := if_pos h

/-! ### The poll record and the events of a reply (R37, R39) -/

/-- R37: the capacity that a reply stores. -/
def replyCapacity (y : Reply) (s : State) : Nat := storedCapacity (s.modu y.module).state s.mpm.table[y.module].rating y

/-- R39: the derate condition at a reply. -/
def replyDerated (y : Reply) (s : State) : Bool :=
  y.derate || decide (replyCapacity y s < s.mpm.table[y.module].rating)

/-- R37: the poll record at a reply, with the change `g` that the rules make. -/
def ModuleRec.replied (y : Reply) (cap : Nat) (derated : Bool) (g : ModuleRec → ModuleRec) (r : ModuleRec) : ModuleRec :=
  g { r with
    missCount := 0
    answered := true
    reported := some y.state
    derateFlag := y.derate
    derateCond := derated
    capacity := some cap }

/-- R37: the poll has ended with the reply, and the rules have changed the module's record by `g`. -/
def answeredPoll (y : Reply) (g : ModuleRec → ModuleRec) (s : State) : State :=
  { s with mpm := { s.mpm with
    poll := none
    recs := upd s.mpm.recs y.module (ModuleRec.replied y (replyCapacity y s) (replyDerated y s) g) } }

/-- R39: the raises of a reply. -/
def replyEvents (y : Reply) (s : State) : List EventIx :=
  (if replyFault (s.modu y.module).state (s.modu y.module).reported y then [evModuleFault y.module] else []) ++
    if replyDerated y s then [evModuleDerated y.module] else []

theorem recordReply_eq (y : Reply) (s : State) :
    recordReply y s = { answeredPoll y id s with handoffs := s.handoffs ++ (replyEvents y s).map .raise } := by
  have once : ∀ (c d : Bool) (e f : EventIx) (u : State), u.handoffs = s.handoffs →
      (if d then (if c then u.post (.raise e) else u).post (.raise f) else if c then u.post (.raise e) else u) =
        { u with handoffs := s.handoffs ++ ((if c then [e] else []) ++ if d then [f] else []).map .raise } := by
    intro c d e f u same
    rw [← same]
    cases c <;> cases d <;> simp [State.post]
  exact once _ _ _ _ (answeredPoll y id s) rfl

theorem replyEvents_nodup (y : Reply) (s : State) : (replyEvents y s).Nodup := by
  have other : evModuleFault y.module ≠ evModuleDerated y.module := fun is => by
    have := congrArg Fin.val is
    change 56 + 4 * y.module.val + 1 = 56 + 4 * y.module.val + 2 at this
    omega
  unfold replyEvents
  split <;> split <;> simp [other]

theorem answeredPoll_modu (y : Reply) (g : ModuleRec → ModuleRec) (s : State) : (answeredPoll y g s).modu y.module =
    (s.modu y.module).replied y (replyCapacity y s) (replyDerated y s) g := upd_self s.mpm.recs y.module _

theorem answeredPoll_modu_other {g : ModuleRec → ModuleRec} (other : x ≠ y.module) (s : State) :
    (answeredPoll y g s).modu x = s.modu x := upd_other (i := y.module) (j := x) s.mpm.recs _ (Ne.symm other)

theorem answeredPoll_modModule (y : Reply) (g f : ModuleRec → ModuleRec) (s : State) :
    (answeredPoll y g s).modModule y.module f = answeredPoll y (f ∘ g) s := by
  unfold answeredPoll State.modModule State.modMpm
  dsimp only
  rw [upd_upd]
  rfl

end
end Sys2Proof.Machine
end

section
namespace Sys2Proof.Machine

section
variable {s t u : State} {m x : Module} {n due : Nat} {st : Reported} {p : List Byte} {src : Byte} {y : Reply}
  {e : EventIx}

/-! ### What a reply leaves of the polls (R37) -/

theorem stopCheck_found (m : Module) (s : State) : Bides none s (stopCheck m s) := by
  unfold stopCheck
  dsimp only
  split
  · exact (leaveList_bides (k := none) fun _ named => nomatch named).trans ((bides_pass none).tellLeft _ _)
  · exact .refl none s

theorem replyRules_found (y : Reply) (s : State) : Bides none s (replyRules y s) := by
  have marked : ∀ g : ModuleRec → ModuleRec, (∀ r, (g r).found = r.found) → Bides none s (s.modModule y.module g) :=
    fun g found => modModule_bides found fun _ named => nomatch named
  unfold replyRules
  dsimp only
  split
  · exact (marked (fun r => { r with runningSeen := true }) fun _ => rfl).trans ((bides_pass none).startCheck _ _)
  · exact (marked (fun r => { r with offSeen := true }) fun _ => rfl).trans (stopCheck_found _ _)
  · split
    · exact .refl none s
    · exact (bides_pass none).tellSummary _ s
  · exact .refl none s

theorem replyRules_watches (y : Reply) (s : State) : Watches s (replyRules y s) := by
  have stop : ∀ u : State, Watches u (stopCheck y.module u) := fun u => by
    unfold stopCheck
    dsimp only
    split
    · exact Watches.trans .of_frame (tellLeft_watches _ _)
    · exact .refl u
  unfold replyRules
  dsimp only
  split
  · exact (Watches.of_frame (by rfl) (by rfl) (by rfl)).trans (startCheck_watches _ _)
  · exact (Watches.of_frame (by rfl) (by rfl) (by rfl)).trans (stop _)
  · split
    · exact .refl s
    · exact tellSummary_watches _ s
  · exact .refl s

/-- R37: all that a reply leads to leaves what it has recorded. -/
theorem reply_found (y : Reply) (s : State) : Bides none (answeredPoll y id s) (settle (replyRules y (recordReply y s))) := by
  have recorded : Bides none (answeredPoll y id s) (recordReply y s) := by
    rw [recordReply_eq]
    exact (bides_pass none).outside rfl
  exact (recorded.trans (replyRules_found y _)).trans (settle_found _)

theorem replyEvents_few (y : Reply) (s : State) : (replyEvents y s).length ≤ 2 := by
  unfold replyEvents
  split <;> split <;> simp

/-- R39, R159: each raise of a reply is taken. -/
theorem reply_raises (quiet : s.handoffs = []) (raises : e ∈ replyEvents y s) :
    ((settle (replyRules y (recordReply y s))).event e).raw = true := by
  obtain ⟨hs, posted, unconfirmed⟩ := (replyRules_watches y (recordReply y s)).handed
  have queue : (replyRules y (recordReply y s)).handoffs = (replyEvents y s).map .raise ++ hs := by
    rw [posted, recordReply_eq]
    show s.handoffs ++ (replyEvents y s).map Handoff.raise ++ hs = _
    rw [quiet]
    rfl
  obtain ⟨before, after, eq⟩ := List.append_of_mem raises
  have few := replyEvents_few y s
  have length : before.length < 2 := by
    rw [eq] at few
    simp only [List.length_append, List.length_cons] at few
    omega
  refine drain_raises_first (fun c mem => ?_) (before := before.map .raise) (e := e) (after := after.map .raise ++ hs)
    (by rw [queue, eq]; simp) ?_
  · rw [queue] at mem
    obtain old | new := List.mem_append.1 mem
    · obtain ⟨f, -, is⟩ := List.mem_map.1 old
      exact nomatch is
    · exact unconfirmed c new
  · rw [List.length_map]
    exact Nat.lt_of_lt_of_le length (by decide)

/-! ### A reply where each raise concerns its entry alone (R39, R159) -/

theorem raised_alone (f : EventIx) (alone : RaisesAlone e s) : RaisesAlone e (raised f s) := by
  by_cases is : e = f
  · subst is
    exact .inl ((congrArg EventEntry.raw (upd_self s.evr.entries e _)).trans (EventEntry.raised_raw _ _))
  · exact raisesAlone_raised is alone

/-- R159: raises that wait are taken before what waits behind them. -/
theorem drain_raises_before {es : List EventIx} {hs : List Handoff} (alone : ∀ e, RaisesAlone e s)
    (posted : s.handoffs = es.map .raise ++ hs) (n : Nat) :
    drain (es.length + n) s = drain n (es.foldl (fun s e => raised e s) { s with handoffs := hs }) := by
  induction es generalizing s with
  | nil =>
    rw [List.length_nil, Nat.zero_add]
    exact congrArg (drain n) (congrArg (fun hs => { s with handoffs := hs }) posted)
  | cons e es ih =>
    rw [List.length_cons, Nat.add_right_comm, drain_cons _ posted]
    show drain (es.length + n) (raiseEntry e { s with handoffs := es.map .raise ++ hs }) = _
    rw [raiseEntry_alone (by exact alone e)]
    exact ih (fun f => raised_alone e (by exact alone f)) rfl

/-- R39: the raises of a reply, each of its entry alone. -/
def withEvents (y : Reply) (s u : State) : State := (replyEvents y s).foldl (fun u e => raised e u) u

theorem withEvents_eq (y : Reply) (s u : State) : ∃ e, withEvents y s u = { u with evr := { u.evr with entries := e } } :=
  ⟨_, foldl_raised _ u⟩

theorem withEvents_alone (y : Reply) (s : State) (alone : ∀ e, RaisesAlone e u) (e : EventIx) :
    RaisesAlone e (withEvents y s u) := by
  unfold withEvents
  induction replyEvents y s generalizing u with
  | nil => exact alone e
  | cons f fs ih => exact ih fun e => raised_alone f (alone e)

/-- R39, R159: what a reply leads to once its raises are taken. -/
theorem drain_reply {hs : List Handoff} (alone : ∀ e, RaisesAlone e u)
    (posted : u.handoffs = (replyEvents y s).map .raise ++ hs) : ∃ n, 4094 ≤ n ∧
      drain Config.settleFuel u = drain n (withEvents y s { u with handoffs := hs }) := by
  have few := replyEvents_few y s
  refine ⟨4096 - (replyEvents y s).length, by omega, ?_⟩
  have fuel : Config.settleFuel = (replyEvents y s).length + (4096 - (replyEvents y s).length) := by
    show 4096 = _
    omega
  rw [fuel, drain_raises_before alone posted]
  rfl

/-- What is settled once the drain has nothing left. -/
theorem settle_drained (is : drain Config.settleFuel s = t) (none : t.handoffs = []) : settle s = t := by
  subst is
  unfold settle
  dsimp only
  rw [none]
  cases h : drain Config.settleFuel s
  rw [h] at none
  simp_all

/-- A reply after whose raises nothing is left to take. -/
theorem settle_reply (alone : ∀ e, RaisesAlone e u) (posted : u.handoffs = (replyEvents y s).map .raise) :
    settle u = withEvents y s { u with handoffs := [] } := by
  obtain ⟨n, -, drained⟩ := drain_reply (y := y) (s := s) (hs := []) alone (by rw [posted, List.append_nil])
  obtain ⟨e, eq⟩ := withEvents_eq y s { u with handoffs := [] }
  have none : (withEvents y s { u with handoffs := [] }).handoffs = [] := by rw [eq]
  exact settle_drained (drained.trans (drain_nil n none)) none

end
end Sys2Proof.Machine
end

section
namespace Sys2Proof.Machine

section
variable {s t u : State} {m x : Module} {b : Berth} {n due : Nat} {st : Reported} {p : List Byte} {src : Byte} {y : Reply}
  {e : EventIx} {g : ModuleRec → ModuleRec} {hs : List Handoff}

/-! ### The rules at a reply (R42, R47, R53) -/

/-- R42, R47: no rule applies to the reply. -/
theorem replyRules_none (h : (u.modu y.module).state ∈ [.absent, .standby, .lost, .blocked, .syncing] ∨
    (u.modu y.module).state = .starting ∧ y.state ≠ .running ∨ (u.modu y.module).state = .stopping ∧ y.state ≠ .off) :
    replyRules y u = u := by
  unfold replyRules
  dsimp only
  split
  next starting running => rw [starting, running] at h; simp at h
  next stopping off => rw [stopping, off] at h; simp at h
  next online => rw [online] at h; simp at h
  · rfl

theorem replyRules_running (starting : (u.modu y.module).state = .starting) (running : y.state = .running) :
    replyRules y u = startCheck y.module (u.modModule y.module fun r => { r with runningSeen := true }) := by
  unfold replyRules
  dsimp only
  rw [starting, running]

theorem replyRules_off (stopping : (u.modu y.module).state = .stopping) (off : y.state = .off) :
    replyRules y u = stopCheck y.module (u.modModule y.module fun r => { r with offSeen := true }) := by
  unfold replyRules
  dsimp only
  rw [stopping, off]

theorem replyRules_online (online : (u.modu y.module).state = .online) (here : u.berthOfModule y.module = some b) :
    replyRules y u = tellSummary b u := by
  unfold replyRules
  dsimp only
  rw [online]
  dsimp only
  rw [here]

theorem ModulesListed.berthOfModule (h : ModulesListed s) (mem : m ∈ s.list b) : s.berthOfModule m = some b :=
  berthOfModule_some mem fun a held => h.2.1 a b m held mem

/-- R42: a first module waits for its contactor. -/
theorem startCheck_waits (first : (u.modu m).first = true) (closed : (u.modu m).closedNoted = false) : startCheck m u = u := by
  unfold startCheck
  dsimp only
  rw [first, closed]
  split
  · (repeat' split) <;> simp_all
  · rfl

theorem stopCheck_waits (h : (u.modu m).openSeen = false) : stopCheck m u = u :=
  if_neg fun is => by rw [h] at is; exact nomatch is.2.2

/-- R37, R39: the state in which a reply has been recorded, with the change that its rule makes. -/
def recordedBy (y : Reply) (g : ModuleRec → ModuleRec) (s : State) : State :=
  { answeredPoll y g s with handoffs := (replyEvents y s).map .raise }

theorem recordReply_recorded (q : Quiet s) (y : Reply) : recordReply y s = recordedBy y id s := by
  rw [recordReply_eq, q]
  rfl

theorem recordedBy_modModule (y : Reply) (g f : ModuleRec → ModuleRec) (s : State) :
    (recordedBy y g s).modModule y.module f = recordedBy y (f ∘ g) s :=
  congrArg (fun u : State => { u with handoffs := (replyEvents y s).map Handoff.raise }) (answeredPoll_modModule y g f s)

theorem recordedBy_modu (y : Reply) (g : ModuleRec → ModuleRec) (s : State) : (recordedBy y g s).modu y.module =
    (s.modu y.module).replied y (replyCapacity y s) (replyDerated y s) g := answeredPoll_modu y g s

/-- R39: a reply whose rule hands nothing over. -/
theorem reply_settled (q : Quiet s) (alone : ∀ e, RaisesAlone e s) (rule : replyRules y (recordReply y s) = recordedBy y g s) :
    settle (replyRules y (recordReply y s)) = withEvents y s (answeredPoll y g s) := by
  have nothing : ({ answeredPoll y g s with handoffs := [] } : State) = answeredPoll y g s := by
    rw [← show s.handoffs = [] from q]
    rfl
  have settled := settle_reply (y := y) (s := s) (u := recordedBy y g s) alone rfl
  rw [rule, settled]
  exact congrArg (withEvents y s) nothing

/-- R39: a reply whose rule hands `hs` over. -/
theorem reply_drained (alone : ∀ e, RaisesAlone e s)
    (rule : replyRules y (recordReply y s) = { u with handoffs := (replyEvents y s).map .raise ++ hs })
    (evr : u.evr = s.evr) : ∃ n, 4094 ≤ n ∧
      drain Config.settleFuel (replyRules y (recordReply y s)) = drain n (withEvents y s { u with handoffs := hs }) := by
  rw [rule]
  refine drain_reply (u := { u with handoffs := (replyEvents y s).map .raise ++ hs }) (fun e => ?_) rfl
  unfold RaisesAlone State.event at alone ⊢
  rw [show ({ u with handoffs := (replyEvents y s).map .raise ++ hs } : State).evr = s.evr from evr]
  exact alone e

/-! ### A reply of a module that is ONLINE (R53) -/

/-- R53: a summary with an ONLINE module on which a berth in neither ALLOCATING nor ENERGISING has nothing to do. -/
theorem actOnSummary_online (some : (s.berth b).summary.online ≠ 0) (state : (s.berth b).state ∉ [.allocating, .energising]) :
    actOnSummary b s = s := by
  unfold actOnSummary
  dsimp only
  split
  next is => rw [is] at state; simp at state
  next is => rw [is] at state; simp at state
  iterate 2 (next => exact if_neg some)
  iterate 4 (next => exact if_neg some)
  all_goals rfl

theorem summaryTaken_kept (h : actOnSummary b (s.modBerth b fun r => { r with summary := summaryOf s b }) =
    s.modBerth b fun r => { r with summary := summaryOf s b }) :
    summaryTaken b s = s.modBerth b fun r => { r with summary := summaryOf s b } := by
  unfold summaryTaken
  split
  next same =>
    have still : upd s.bsq.recs b (fun r => { r with summary := summaryOf s b }) = s.bsq.recs :=
      upd_same_at (by rw [same]; rfl)
    rw [State.modBerth, State.modBsq, still]
  next => exact h

/-- R53: the summary of a berth of which `m` is ONLINE has an ONLINE module. -/
theorem summaryOf_online (online : (s.modu m).state = .online) (mem : m ∈ s.list b) : (summaryOf s b).online ≠ 0 := by
  have here : m ∈ onlineModules s b := List.mem_filter.2 ⟨mem, by simpa using online⟩
  exact Nat.ne_of_gt (List.length_pos_of_mem here)

end
end Sys2Proof.Machine
end

section
namespace Sys2Proof.Machine

section
variable {s t u : State} {m x : Module} {b : Berth} {n due : Nat} {st : Reported} {y : Reply}
  {e : EventIx} {g : ModuleRec → ModuleRec} {hs : List Handoff}

theorem withEvents_handoffs (y : Reply) (s u : State) (hs : List Handoff) :
    ({ withEvents y s u with handoffs := hs } : State) = withEvents y s { u with handoffs := hs } := by
  unfold withEvents
  rw [foldl_raised, foldl_raised]
  rfl

theorem withEvents_posted (y : Reply) (s u : State) : (withEvents y s u).handoffs = u.handoffs := by
  obtain ⟨e, eq⟩ := withEvents_eq y s u
  rw [eq]

/-- R39: a reply whose rule hands one piece of work over, which hands nothing on. -/
theorem reply_settled_one {h : Handoff} (alone : ∀ e, RaisesAlone e s)
    (rule : replyRules y (recordReply y s) = { u with handoffs := (replyEvents y s).map .raise ++ [h] }) (evr : u.evr = s.evr)
    (quiet : u.handoffs = []) (none : (takeHandoff h (withEvents y s u)).handoffs = []) :
    settle (replyRules y (recordReply y s)) = takeHandoff h (withEvents y s u) := by
  obtain ⟨n, fuel, drained⟩ := reply_drained alone rule evr
  obtain ⟨n, rfl⟩ : ∃ j, n = j + 1 := ⟨n - 1, by omega⟩
  have posted : (withEvents y s { u with handoffs := [h] }).handoffs = [h] := withEvents_posted _ _ _
  have rested : ({ withEvents y s { u with handoffs := [h] } with handoffs := [] } : State) = withEvents y s u := by
    rw [withEvents_handoffs, ← quiet]
  rw [drain_cons n posted, rested, drain_nil n none] at drained
  exact settle_drained drained none

theorem answeredPoll_list (y : Reply) (g : ModuleRec → ModuleRec) (s : State) (c : Berth) :
    (answeredPoll y g s).list c = s.list c := rfl

theorem recordedBy_berthOfModule (y : Reply) (g : ModuleRec → ModuleRec) (s : State) (x : Module) :
    (recordedBy y g s).berthOfModule x = s.berthOfModule x := rfl

/-- R53: a reply of a module that is ONLINE, on a berth in neither ALLOCATING nor ENERGISING. -/
theorem reply_online (q : Quiet s) (alone : ∀ e, RaisesAlone e s) (listed : ModulesListed s) (mem : y.module ∈ s.list b)
    (online : (s.modu y.module).state = .online) (state : (s.berth b).state ∉ [.allocating, .energising]) :
    settle (replyRules y (recordReply y s)) = (withEvents y s (answeredPoll y id s)).modBerth b fun r =>
      { r with summary := summaryOf (answeredPoll y id s) b } := by
  have online' : ((answeredPoll y id s).modu y.module).state = .online := by
    rw [answeredPoll_modu]
    exact online
  have rule : replyRules y (recordReply y s) = { answeredPoll y id s with
      handoffs := (replyEvents y s).map .raise ++ [.summary b] } := by
    rw [recordReply_recorded q]
    exact replyRules_online online' ((recordedBy_berthOfModule y id s _).trans (listed.berthOfModule mem))
  obtain ⟨e, eq⟩ := withEvents_eq y s (answeredPoll y id s)
  have summary : summaryOf (withEvents y s (answeredPoll y id s)) b = summaryOf (answeredPoll y id s) b := by rw [eq]; rfl
  have taken : takeHandoff (.summary b) (withEvents y s (answeredPoll y id s)) =
      (withEvents y s (answeredPoll y id s)).modBerth b fun r => { r with summary := summaryOf (answeredPoll y id s) b } := by
    rw [← summary]
    refine summaryTaken_kept (actOnSummary_online ?_ ?_)
    · rw [State.berth_modBerth, summary]
      exact summaryOf_online online' mem
    · rw [State.berth_modBerth, eq]
      exact state
  have quiet : (answeredPoll y id s).handoffs = [] := q
  have settled := reply_settled_one alone rule rfl quiet (by rw [taken, State.modBerth]; exact (withEvents_posted _ _ _).trans q)
  rw [settled, taken]

end
end Sys2Proof.Machine
end

section
namespace Sys2Proof.Machine

section
variable {s t u : State} {m x : Module} {b : Berth} {n due : Nat} {st : Reported} {y : Reply}
  {e : EventIx} {g : ModuleRec → ModuleRec} {hs : List Handoff}

/-! ### A later module that is RUNNING (R42) -/

theorem startCheck_later (starting : (u.modu m).state = .starting) (here : u.berthOfModule m = some b)
    (running : (u.modu m).runningSeen = true) (later : (u.modu m).first = false) : startCheck m u = becomeSyncing b m u := by
  unfold startCheck
  dsimp only
  rw [starting, here, running, later]
  rfl

/-- R42: a reply of a STARTING module has been RUNNING. -/
def ModuleRec.ran (r : ModuleRec) : ModuleRec := { r with runningSeen := true }

/-- R42: a later module becomes SYNCING, its request deferred or queued. -/
def ModuleRec.syncs (deferred : Bool) (r : ModuleRec) : ModuleRec :=
  { r with runningSeen := true, state := .syncing, startDue := none, deferred := deferred || r.deferred }

theorem replyRules_later (q : Quiet s) (listed : ModulesListed s) (mem : y.module ∈ s.list b)
    (starting : (s.modu y.module).state = .starting) (running : y.state = .running) (later : (s.modu y.module).first = false) :
    replyRules y (recordReply y s) =
      becomeSyncing b y.module (recordedBy y ModuleRec.ran s) := by
  have recorded := recordedBy_modu y ModuleRec.ran s
  have rule := replyRules_running (u := recordedBy y id s) (y := y) (by rw [recordedBy_modu]; exact starting) running
  rw [recordedBy_modModule, ← recordReply_recorded q] at rule
  refine rule.trans (startCheck_later (u := recordedBy y ModuleRec.ran s) ?_
    ((recordedBy_berthOfModule y _ s _).trans (listed.berthOfModule mem)) ?_ ?_)
  · rw [recorded]
    exact starting
  · rw [recorded]
    rfl
  · rw [recorded]
    exact later

theorem ran_onlineModules (y : Reply) (s : State) (b : Berth) :
    onlineModules (recordedBy y ModuleRec.ran s) b = onlineModules s b := by
  have same : ∀ x, ((recordedBy y ModuleRec.ran s).modu x).state = (s.modu x).state := fun x => by
    by_cases is : x = y.module
    · subst is
      rw [recordedBy_modu]
      rfl
    · exact congrArg ModuleRec.state (answeredPoll_modu_other is s)
  exact List.filter_congr fun x _ => by rw [same x]

theorem becomeSyncing_deferred (none : onlineModules s b = []) (y : Reply) :
    becomeSyncing b y.module (recordedBy y ModuleRec.ran s) =
      recordedBy y (ModuleRec.syncs true) s := by
  unfold becomeSyncing
  dsimp only
  rw [ran_onlineModules, none, recordedBy_modModule, recordedBy_modModule]
  rfl

/-- R74: the request for the contactor of `m` at berth `b`. -/
def contactorRequest (s : State) (m : Module) (b : Berth) : SyncReq where
  target := contactor m
  berth := b
  requester := .mpm
  refPoint := cbPoint b
  matchPoint := moPoint m
  instant := s.now
  waitDue := s.now + s.syu.profiles[1].waitLimit * 1000

theorem newRequest_contactor (s : State) (m : Module) (b : Berth) :
    newRequest s (contactor m) b .mpm = contactorRequest s m b := by
  have high : ¬ (contactor m).val < 4 := Nat.not_lt.2 (Nat.le_add_right 4 m.val)
  have profile : s.profile (contactor m) = s.syu.profiles[1] :=
    congrArg (fun i : Fin 2 => s.syu.profiles[i]) (if_neg high)
  unfold newRequest refPointOf matchPointOf
  rw [targetKind_contactor, profile]
  rfl

/-- R74: a request stands at the end of the queue. -/
def queued (req : SyncReq) (s : State) : State := s.modSyu fun y => { y with queue := y.queue ++ [req] }

theorem becomeSyncing_queued (some : onlineModules s b ≠ []) (free : s.syu.busy (contactor y.module) = false)
    (node : (s.breaker (contactor y.module)).node ≠ 0) :
    becomeSyncing b y.module (recordedBy y ModuleRec.ran s) =
      { queued (contactorRequest s y.module b) (answeredPoll y (ModuleRec.syncs false) s) with
        handoffs := (replyEvents y s).map .raise ++ [.serveChannels] } := by
  have asked : requestSync (contactor y.module) b .mpm (recordedBy y (ModuleRec.syncs false) s) =
      (queued (newRequest (recordedBy y (ModuleRec.syncs false) s) (contactor y.module) b .mpm)
        (recordedBy y (ModuleRec.syncs false) s)).post .serveChannels := by
    unfold requestSync
    rw [if_neg (by rw [show (recordedBy y (ModuleRec.syncs false) s).syu = s.syu from rfl, free]; exact Bool.false_ne_true),
      if_neg (by exact node)]
    rfl
  unfold becomeSyncing
  dsimp only
  rw [if_pos (by rw [ran_onlineModules]; exact some), recordedBy_modModule]
  refine asked.trans ?_
  rw [newRequest_contactor]
  rfl

theorem serveChannelsTaken_none (none : s.handoffs = []) : (serveChannelsTaken s).handoffs = [] := by
  unfold serveChannelsTaken
  rw [if_pos none]
  simpa using none

/-- R42: a later module of a berth with no ONLINE module. -/
theorem reply_deferred (q : Quiet s) (alone : ∀ e, RaisesAlone e s) (listed : ModulesListed s) (mem : y.module ∈ s.list b)
    (starting : (s.modu y.module).state = .starting) (running : y.state = .running) (later : (s.modu y.module).first = false)
    (none : onlineModules s b = []) :
    settle (replyRules y (recordReply y s)) = withEvents y s (answeredPoll y (ModuleRec.syncs true) s) :=
  reply_settled q alone ((replyRules_later q listed mem starting running later).trans (becomeSyncing_deferred none y))

/-- R42, R74: a later module of a berth with an ONLINE module. -/
theorem reply_queued (q : Quiet s) (alone : ∀ e, RaisesAlone e s) (listed : ModulesListed s) (mem : y.module ∈ s.list b)
    (starting : (s.modu y.module).state = .starting) (running : y.state = .running) (later : (s.modu y.module).first = false)
    (some : onlineModules s b ≠ []) (free : s.syu.busy (contactor y.module) = false)
    (node : (s.breaker (contactor y.module)).node ≠ 0) :
    settle (replyRules y (recordReply y s)) = serveChannelsTaken
      (withEvents y s (queued (contactorRequest s y.module b) (answeredPoll y (ModuleRec.syncs false) s))) :=
  reply_settled_one (h := .serveChannels)
    (u := queued (contactorRequest s y.module b) (answeredPoll y (ModuleRec.syncs false) s)) alone
    ((replyRules_later q listed mem starting running later).trans (becomeSyncing_queued some free node)) rfl q
    (serveChannelsTaken_none ((withEvents_posted _ _ _).trans q))

theorem withEvents_queued (y : Reply) (s u : State) (req : SyncReq) :
    withEvents y s (queued req u) =
      { withEvents y s u with syu := { u.syu with queue := u.syu.queue ++ [req] } } := by
  unfold withEvents
  rw [foldl_raised, foldl_raised]
  rfl

end
end Sys2Proof.Machine
end

section
namespace Sys2Proof.Machine

section
variable {s t u : State} {m x : Module} {b : Berth} {n due : Nat} {st : ModuleState} {y : Reply}
  {e : EventIx} {g : ModuleRec → ModuleRec} {hs : List Handoff}

/-! ### The end of a stop (R47, R113) -/

/-- R47: a reply of a STOPPING module has been OFF. -/
def ModuleRec.ceased (r : ModuleRec) : ModuleRec := { r with offSeen := true }

/-- R47: the state in which a module whose stop ends is. -/
def ModuleRec.rests (r : ModuleRec) : ModuleState := if r.blockPending then .blocked else .standby

theorem ModuleRec.rests_out (r : ModuleRec) : r.rests.allocated = false := by
  unfold ModuleRec.rests
  split <;> rfl

/-- R47: the work that a module's leaving a list hands over. -/
def leftWork (b : Berth) (s : State) : List Handoff :=
  if (s.list b).isEmpty then [.summary b, .listEmpty b] else [.summary b]

theorem tellLeft_posts (b : Berth) (s : State) : tellLeft (some b) s = { s with handoffs := s.handoffs ++ leftWork b s } := by
  unfold tellLeft leftWork
  dsimp only
  split
  · exact congrArg (fun hs : List Handoff => { s with handoffs := hs })
      (List.append_assoc s.handoffs [Handoff.summary b] [Handoff.listEmpty b])
  · rfl

theorem stopCheck_ends (stopping : (u.modu m).state = .stopping) (off : (u.modu m).offSeen = true)
    (opened : (u.modu m).openSeen = true) (here : u.berthOfModule m = some b) :
    stopCheck m u = tellLeft (some b) (leaveList m (u.modu m).rests u) := by
  unfold stopCheck
  dsimp only
  rw [if_pos ⟨stopping, off, opened⟩, here]
  rfl

theorem ceased_recorded (y : Reply) (s : State) :
    (recordedBy y id s).modModule y.module (fun r => { r with offSeen := true }) = recordedBy y ModuleRec.ceased s :=
  recordedBy_modModule y id ModuleRec.ceased s

/-- R47: module `y.module` has left its list at a reply. -/
def stopEnded (y : Reply) (s : State) : State := leaveList y.module (s.modu y.module).rests (answeredPoll y ModuleRec.ceased s)

theorem replyRules_ends (q : Quiet s) (listed : ModulesListed s) (mem : y.module ∈ s.list b)
    (stopping : (s.modu y.module).state = .stopping) (off : y.state = .off) (opened : (s.modu y.module).openSeen = true) :
    replyRules y (recordReply y s) = { stopEnded y s with
      handoffs := (replyEvents y s).map .raise ++ leftWork b (stopEnded y s) } := by
  have recorded := recordedBy_modu y ModuleRec.ceased s
  have rule := replyRules_off (u := recordedBy y id s) (y := y) (by rw [recordedBy_modu]; exact stopping) off
  rw [ceased_recorded, ← recordReply_recorded q] at rule
  have ends := stopCheck_ends (u := recordedBy y ModuleRec.ceased s) (m := y.module) (b := b)
    (by rw [recorded]; exact stopping) (by rw [recorded]; rfl) (by rw [recorded]; exact opened)
    ((recordedBy_berthOfModule y _ s _).trans (listed.berthOfModule mem))
  rw [recorded] at ends
  exact rule.trans (ends.trans (tellLeft_posts b _))

theorem stopEnded_modu (y : Reply) (s : State) : (stopEnded y s).modu y.module =
    { (s.modu y.module).replied y (replyCapacity y s) (replyDerated y s) ModuleRec.ceased with
      state := (s.modu y.module).rests, first := false, startIssued := false, deferred := false, blockPending := false
      startDue := none, stopDue := none } := by
  rw [stopEnded, leaveList_modu, answeredPoll_modu]

theorem withEvents_outside (y : Reply) (s u : State) : (withEvents y s u).mpm = u.mpm := by
  obtain ⟨e, eq⟩ := withEvents_eq y s u
  rw [eq]

theorem withEvents_bsq (y : Reply) (s u : State) : (withEvents y s u).bsq = u.bsq := by
  obtain ⟨e, eq⟩ := withEvents_eq y s u
  rw [eq]

/-- R47: what is handed over at the end of a stop leaves the module out of every list. -/
theorem reply_left (q : Quiet s) (alone : ∀ e, RaisesAlone e s) (listed : ModulesListed s) (mem : y.module ∈ s.list b)
    (stopping : (s.modu y.module).state = .stopping) (off : y.state = .off) (opened : (s.modu y.module).openSeen = true) :
    let t := settle (replyRules y (recordReply y s))
    t.modu y.module = (stopEnded y s).modu y.module ∧ ∀ c, y.module ∉ t.list c := by
  obtain ⟨n, -, drained⟩ := reply_drained (u := stopEnded y s) (y := y) alone
    (replyRules_ends q listed mem stopping off opened) rfl
  have settled : Bides (some y.module) (stopEnded y s) (settle (replyRules y (recordReply y s))) := by
    have pass := bides_pass (some y.module)
    have before : Bides (some y.module) (stopEnded y s)
        (withEvents y s { stopEnded y s with handoffs := leftWork b (stopEnded y s) }) :=
      pass.outside (withEvents_outside y s _)
    have after := drain_bides_alone (k := some y.module) (withEvents_alone y s (u :=
      { stopEnded y s with handoffs := leftWork b (stopEnded y s) }) (by exact alone)) n
    rw [← drained] at after
    exact before.trans (after.trans (pass.outside rfl))
  have out : ¬ Engaged y.module (stopEnded y s) := leaveList_disengaged (ModuleRec.rests_out _) _ _
  obtain ⟨-, -, -, -, still⟩ := settled rfl
  obtain ⟨out, same⟩ := still y.module rfl out
  exact ⟨same, fun c mem => out (.inr ⟨c, mem⟩)⟩

theorem enterDead_posts (b : Berth) (s : State) : (enterDead b s).handoffs = s.handoffs := by
  obtain ⟨c, other⟩ : ∃ c : Berth, b ≠ c := ⟨b + 1, by revert b; decide⟩
  obtain ⟨hs, eq, none⟩ := (enterDead_aside (P := fun _ => False) other s).handed
  rw [eq, List.eq_nil_iff_forall_not_mem.2 none, List.append_nil]

/-- R113: a berth in RELEASING is DEAD once its list is empty. -/
theorem drain_listEmpty (state : (s.berth b).state = .releasing) (empty : s.list b = [])
    (posted : s.handoffs = [.summary b, .listEmpty b]) (n : Nat) :
    (drain (n + 2) s).handoffs = [] ∧ ((drain (n + 2) s).berth b).state = .dead := by
  have summary : summaryTaken b { s with handoffs := [.listEmpty b] } = ({ s with handoffs := [.listEmpty b] } : State).modBerth b
      fun r => { r with summary := summaryOf { s with handoffs := [.listEmpty b] } b } :=
    summaryTaken_kept (actOnSummary_released (by rw [State.berth_modBerth]; exact state ▸ List.mem_cons_of_mem _ List.mem_cons_self))
  rw [drain_cons (n + 1) posted]
  show (drain (n + 1) (summaryTaken b { s with handoffs := [.listEmpty b] })).handoffs = [] ∧
    ((drain (n + 1) (summaryTaken b { s with handoffs := [.listEmpty b] })).berth b).state = .dead
  rw [summary]
  generalize summaryOf _ b = v
  have dead : listEmptyTaken b ({ s with handoffs := [] }.modBerth b fun r => { r with summary := v }) =
      enterDead b ({ s with handoffs := [] }.modBerth b fun r => { r with summary := v }) :=
    if_pos ⟨by rw [State.berth_modBerth]; exact state, empty⟩
  have last : (({ s with handoffs := [Handoff.listEmpty b] } : State).modBerth b fun r => { r with summary := v }).handoffs =
      [Handoff.listEmpty b] := rfl
  rw [drain_cons n last]
  show (drain n (listEmptyTaken b ({ s with handoffs := [] }.modBerth b fun r => { r with summary := v }))).handoffs = [] ∧
    ((drain n (listEmptyTaken b ({ s with handoffs := [] }.modBerth b fun r => { r with summary := v }))).berth b).state = .dead
  rw [dead]
  have none : (enterDead b ({ s with handoffs := [] }.modBerth b fun r => { r with summary := v })).handoffs = [] :=
    enterDead_posts b _
  rw [drain_nil n none]
  exact ⟨none, by rw [enterDead, enterState_berth]⟩

theorem stopEnded_list (only : s.list b = [y.module]) : (stopEnded y s).list b = [] := by
  have filtered : (stopEnded y s).list b = (s.list b).filter fun x => x ≠ y.module :=
    Vector.getElem_map (xs := s.mpm.lists) _ b.isLt
  rw [filtered, only]
  simp

/-- R113: the last module of a RELEASING berth has left its list. -/
theorem reply_dead (q : Quiet s) (alone : ∀ e, RaisesAlone e s) (listed : ModulesListed s)
    (stopping : (s.modu y.module).state = .stopping) (off : y.state = .off) (opened : (s.modu y.module).openSeen = true)
    (state : (s.berth b).state = .releasing) (only : s.list b = [y.module]) :
    ((settle (replyRules y (recordReply y s))).berth b).state = .dead := by
  obtain ⟨n, fuel, drained⟩ := reply_drained (u := stopEnded y s) (y := y) alone
    (replyRules_ends q listed (only ▸ List.mem_singleton_self _) stopping off opened) rfl
  obtain ⟨n, rfl⟩ : ∃ j, n = j + 2 := ⟨n - 2, by omega⟩
  have work : leftWork b (stopEnded y s) = [.summary b, .listEmpty b] := if_pos (by rw [stopEnded_list only]; rfl)
  obtain ⟨none, dead⟩ := drain_listEmpty (b := b)
    (s := withEvents y s { stopEnded y s with handoffs := leftWork b (stopEnded y s) })
    (by rw [State.berth, withEvents_bsq]; exact state)
    (by rw [State.list, withEvents_outside]; exact stopEnded_list only)
    ((withEvents_posted _ _ _).trans work) n
  rw [← drained] at none dead
  rw [settle_drained rfl none]
  exact dead

end
end Sys2Proof.Machine
end

section
namespace Sys2Proof.Machine

/-! ### The deferred requests taken up with the first ONLINE module (R42, R74) -/

/-- Work that a first ONLINE module of berth `b` leads to before its summary is taken. -/
def Handoff.Rises (b : Berth) (s : State) (h : Handoff) : Prop :=
  h.Cancels ∨ (∃ e, h = .raise e) ∨ h = .summary b ∨
    ∃ x ∈ s.list b, h = .contactorResult x .failedAttempts ∧ s.syu.busy (contactor x) = false

/-- Up to `n` deferred requests of berth `b` have been taken up, those of contactors without a node with failure. -/
structure Asks (b : Berth) (n : Nat) (s t : State) : Prop where
  lists : t.mpm.lists = s.mpm.lists
  bsq : t.bsq = s.bsq
  evr : t.evr = s.evr
  lpu : t.lpu = s.lpu
  now : t.now = s.now
  breakers : t.syu.breakers = s.syu.breakers
  modules : ∀ x, (t.modu x).state = (s.modu x).state ∧ (t.modu x).startDue = (s.modu x).startDue ∧
    ((s.modu x).deferred = false → (t.modu x).deferred = false)
  busy : ∀ k, s.syu.busy k = true → t.syu.busy k = true
  idle : ∀ k, (s.breaker k).node = 0 → s.syu.busy k = false → t.syu.busy k = false
  handed : ∃ hs, t.handoffs = s.handoffs ++ hs ∧ hs.length ≤ 2 * n ∧ ∀ h ∈ hs, h.Cancels ∨ (∃ e, h = .raise e) ∨
    ∃ x ∈ s.list b, h = .contactorResult x .failedAttempts ∧ (s.breaker (contactor x)).node = 0 ∧
      t.syu.busy (contactor x) = false

section
variable {s t u : State} {m x : Module} {b : Berth} {n k : Nat} {req : SyncReq}

theorem Asks.refl (b : Berth) (s : State) : Asks b 0 s s where
  lists := rfl
  bsq := rfl
  evr := rfl
  lpu := rfl
  now := rfl
  breakers := rfl
  modules _ := ⟨rfl, rfl, id⟩
  busy _ := id
  idle _ _ := id
  handed := ⟨[], by simp⟩

theorem Asks.breaker (h : Asks b n s t) (k : Target) : t.breaker k = s.breaker k :=
  congrArg (fun v : Vector BreakerEntry 12 => v[k]) h.breakers

theorem Asks.list (h : Asks b n s t) (c : Berth) : t.list c = s.list c :=
  congrArg (fun l : Vector (List Module) 4 => l[c]) h.lists

theorem Asks.trans (h : Asks b n s t) (g : Asks b k t u) : Asks b (n + k) s u where
  lists := g.lists.trans h.lists
  bsq := g.bsq.trans h.bsq
  evr := g.evr.trans h.evr
  lpu := g.lpu.trans h.lpu
  now := g.now.trans h.now
  breakers := g.breakers.trans h.breakers
  modules x := by
    obtain ⟨state, due, deferred⟩ := h.modules x
    obtain ⟨state', due', deferred'⟩ := g.modules x
    exact ⟨state'.trans state, due'.trans due, deferred' ∘ deferred⟩
  busy k := g.busy k ∘ h.busy k
  idle k node free := g.idle k (by rw [h.breaker]; exact node) (h.idle k node free)
  handed := by
    obtain ⟨hs, posted, length, work⟩ := h.handed
    obtain ⟨gs, posted', length', work'⟩ := g.handed
    refine ⟨hs ++ gs, by rw [posted', posted, List.append_assoc], by rw [List.length_append]; omega, fun y mem => ?_⟩
    obtain old | new := List.mem_append.1 mem
    · refine (work y old).imp_right fun r => r.imp_right fun ⟨x, listed, is, node, free⟩ => ?_
      exact ⟨x, listed, is, node, g.idle _ (by rw [h.breaker]; exact node) free⟩
    · refine (work' y new).imp_right fun r => r.imp_right fun ⟨x, listed, is, node, free⟩ => ?_
      exact ⟨x, by rw [← h.list]; exact listed, is, by rw [← h.breaker]; exact node, free⟩

theorem busy_queued (req : SyncReq) (k : Target) (s : State) :
    (queued req s).syu.busy k = (s.syu.busy k || decide (req.target = k)) := by
  show ((s.syu.queue ++ [req]).any _ || s.syu.inChannel k || s.syu.deadPending k) = _
  rw [List.any_append]
  simp only [List.any_cons, List.any_nil, Bool.or_false]
  unfold Syu.busy Syu.queued
  cases s.syu.queue.any fun r => decide (r.target = k) <;> cases s.syu.inChannel k <;> cases s.syu.deadPending k <;>
    cases decide (req.target = k) <;> rfl

/-- R74: one request for a contactor. -/
theorem requestSync_asks (mem : x ∈ s.list b) : Asks b 1 s (requestSync (contactor x) b .mpm s) ∧
    ((s.breaker (contactor x)).node ≠ 0 → (requestSync (contactor x) b .mpm s).syu.busy (contactor x) = true) := by
  have refl := Asks.refl b s
  cases busy : s.syu.busy (contactor x) with
  | true =>
    have same : requestSync (contactor x) b .mpm s = s := if_pos busy
    rw [same]
    exact ⟨{ refl with handed := ⟨[], by simp⟩ }, fun _ => busy⟩
  | false =>
    have idle : ¬ s.syu.busy (contactor x) = true := by rw [busy]; exact Bool.false_ne_true
    by_cases node : (s.breaker (contactor x)).node = 0
    · have failed : requestSync (contactor x) b .mpm s = ((s.post (.raise (evSyncFail b))).modModuleRef x fun r =>
          { r with own := none }).post (.contactorResult x .failedAttempts) := by
        unfold requestSync
        rw [if_neg idle, if_pos node, newRequest_contactor, failRequest, endRequest]
        show giveResult (contactor x) _ (releasePair (contactor x) (s.post (.raise (evSyncFail b)))) = _
        rw [giveResult, releasePair, targetKind_contactor]
        rfl
      rw [failed]
      refine ⟨{ refl with handed := ⟨[.raise (evSyncFail b), .contactorResult x .failedAttempts], ?_, le_rfl, ?_⟩ },
        fun other => absurd node other⟩
      · exact List.append_assoc s.handoffs [_] [_]
      · simp only [List.forall_mem_cons]
        exact ⟨.inr (.inl ⟨_, rfl⟩), .inr (.inr ⟨x, mem, rfl, node, busy⟩), fun _ h => nomatch h⟩
    · have asked : requestSync (contactor x) b .mpm s =
          (queued (contactorRequest s x b) s).post .serveChannels := by
        rw [← newRequest_contactor]
        unfold requestSync
        rw [if_neg idle, if_neg node]
        rfl
      rw [asked]
      have after : ∀ k, ((queued (contactorRequest s x b) s).post .serveChannels).syu.busy k =
        (s.syu.busy k || decide (contactor x = k)) := fun k => busy_queued _ k s
      refine ⟨{ refl with
        busy := fun k held => by rw [after, held]; rfl
        idle := fun k bare free => ?_
        handed := ⟨[.serveChannels], rfl, by decide, fun h mem => ?_⟩ }, fun _ => by rw [after]; simp⟩
      · have other : contactor x ≠ k := fun is => node (is ▸ bare)
        rw [after, free]
        simpa using other
      · rw [List.mem_singleton.1 mem]
        exact .inl (.inr (.inr rfl))

/-- R42: a deferred request is taken up. -/
theorem queueDeferred_asks (mem : x ∈ s.list b) : Asks b 1 s (queueDeferred b x s) ∧
    ((queueDeferred b x s).modu x).deferred = false ∧ ((s.modu x).deferred = true → (s.breaker (contactor x)).node ≠ 0 →
      (queueDeferred b x s).syu.busy (contactor x) = true) := by
  have refl := Asks.refl b s
  cases deferred : (s.modu x).deferred with
  | false =>
    have same : queueDeferred b x s = s := if_neg (by rw [deferred]; exact Bool.false_ne_true)
    rw [same]
    exact ⟨{ refl with handed := ⟨[], by simp⟩ }, deferred, fun is => nomatch is⟩
  | true =>
    have taken : queueDeferred b x s = requestSync (contactor x) b .mpm (s.modModule x fun r => { r with deferred := false }) :=
      if_pos deferred
    have cleared : ((s.modModule x fun r => { r with deferred := false }).modu x).deferred = false :=
      congrArg ModuleRec.deferred (s.modu_modModule x _)
    have marked : Asks b 0 s (s.modModule x fun r => { r with deferred := false }) :=
      { refl with
        modules := fun y => by
          by_cases is : x = y
          · subst is
            rw [s.modu_modModule]
            exact ⟨rfl, rfl, fun _ => rfl⟩
          · rw [s.modu_modModule_other is]
            exact refl.modules y }
    obtain ⟨asks, busy⟩ := requestSync_asks (s := s.modModule x fun r => { r with deferred := false }) mem
    rw [taken]
    exact ⟨Nat.zero_add 1 ▸ marked.trans asks, (asks.modules x).2.2 cleared, fun _ node => busy node⟩

theorem queueDeferred_modu_other {y : Module} (other : y ≠ x) : (queueDeferred b y s).modu x = s.modu x := by
  unfold queueDeferred
  split
  · rw [State.modu, show ∀ u : State, (requestSync (contactor y) b .mpm u).mpm = u.mpm from fun u => by simp]
    exact s.modu_modModule_other other _
  · rfl

/-- R42: the deferred requests of a berth's modules are taken up in turn. -/
theorem foldl_queueDeferred_asks (xs : List Module) (mem : ∀ x ∈ xs, x ∈ s.list b) :
    Asks b xs.length s (xs.foldl (fun s x => queueDeferred b x s) s) ∧ ∀ x ∈ xs,
      ((xs.foldl (fun s x => queueDeferred b x s) s).modu x).deferred = false ∧
      ((s.modu x).deferred = true → (s.breaker (contactor x)).node ≠ 0 →
        (xs.foldl (fun s x => queueDeferred b x s) s).syu.busy (contactor x) = true) := by
  induction xs generalizing s with
  | nil => exact ⟨.refl b s, fun _ h => nomatch h⟩
  | cons y ys ih =>
    obtain ⟨first, cleared, busy⟩ := queueDeferred_asks (mem y List.mem_cons_self)
    obtain ⟨rest, later⟩ := ih (s := queueDeferred b y s) fun x h => by
      rw [first.list]
      exact mem x (List.mem_cons_of_mem _ h)
    have all := first.trans rest
    rw [Nat.add_comm 1] at all
    refine ⟨all, fun x h => ?_⟩
    rw [List.foldl_cons]
    by_cases is : x = y
    · subst is
      exact ⟨(rest.modules x).2.2 cleared, fun deferred node => rest.busy _ (busy deferred node)⟩
    · obtain ⟨cleared, busy⟩ := later x ((List.mem_cons.1 h).resolve_left is)
      rw [queueDeferred_modu_other (Ne.symm is)] at busy
      rw [first.breaker] at busy
      exact ⟨cleared, busy⟩

end
end Sys2Proof.Machine
end

section
namespace Sys2Proof.Machine

/-! ### What a first ONLINE module hands over (R42, R53, R100) -/

/-- Lists, tables and what SYU is at stay, and a module in SYNCING may have been released. -/
structure Carried (b : Berth) (s t : State) : Prop where
  lists : t.mpm.lists = s.mpm.lists
  table : t.bsq.table = s.bsq.table
  now : t.now = s.now
  busy : ∀ k, t.syu.busy k = s.syu.busy k
  modules : ∀ x, t.modu x = s.modu x ∨ (s.modu x).state = .syncing ∧ (t.modu x).deferred = false
  energised : (t.berth b).energised = (s.berth b).energised

/-- The same of work after a first ONLINE module of berth `b`, which hands over more of its kind. -/
structure Borne (b : Berth) (s t : State) : Prop extends Carried b s t where
  handed : ∃ hs, t.handoffs = s.handoffs ++ hs ∧ ∀ h ∈ hs, h.Rises b t

/-- The berth's record stays, and the link is given nothing for CONTROL. -/
structure Silent (b : Berth) (s t : State) : Prop where
  berth : t.berth b = s.berth b
  link : Lpu.Kept (fun _ => False) 0 s.lpu t.lpu

/-- Module `m` of berth `b` is ONLINE on a bus not yet energised, and each raise concerns its entry alone. -/
structure Rising (b : Berth) (m : Module) (s : State) : Prop where
  alone : ∀ e, RaisesAlone e s
  online : (s.modu m).state = .online
  mem : m ∈ s.list b
  only : ∀ x ∈ s.list b, ∀ c, x ∈ s.list c → c = b
  bus : (s.berth b).energised = false
  handed : ∀ h ∈ s.handoffs, h.Rises b s

section
variable {s t u : State} {m x : Module} {b : Berth} {n : Nat} {h : Handoff} {rest : List Handoff} {e : EventIx}

theorem Carried.refl (b : Berth) (s : State) : Carried b s s := ⟨rfl, rfl, rfl, fun _ => rfl, fun _ => .inl rfl, rfl⟩

theorem Borne.refl (b : Berth) (s : State) : Borne b s s := ⟨.refl b s, [], by simp⟩

theorem Silent.refl (b : Berth) (s : State) : Silent b s s := ⟨rfl, .refl _ 0 _⟩

theorem Carried.list (h : Carried b s t) (c : Berth) : t.list c = s.list c :=
  congrArg (fun l : Vector (List Module) 4 => l[c]) h.lists

theorem Carried.entry (h : Carried b s t) (c : Berth) : t.entry c = s.entry c :=
  congrArg (fun l : Vector BerthEntry 4 => l[c]) h.table

theorem Carried.rises (g : Carried b s t) (is : h.Rises b s) : h.Rises b t := by
  refine is.imp_right fun r => r.imp_right fun r => r.imp_right fun ⟨x, mem, named, free⟩ => ?_
  exact ⟨x, by rw [g.list]; exact mem, named, by rw [g.busy]; exact free⟩

theorem Carried.trans (h : Carried b s t) (g : Carried b t u) : Carried b s u := by
  refine ⟨g.lists.trans h.lists, g.table.trans h.table, g.now.trans h.now, fun k => (g.busy k).trans (h.busy k),
    fun x => ?_, g.energised.trans h.energised⟩
  obtain same | ⟨syncing, cleared⟩ := h.modules x
  · rw [← same]
    exact g.modules x
  · refine .inr ⟨syncing, ?_⟩
    obtain same' | ⟨-, cleared'⟩ := g.modules x
    · rw [same']
      exact cleared
    · exact cleared'

theorem Borne.trans (h : Borne b s t) (g : Borne b t u) : Borne b s u := by
  obtain ⟨hs, posted, work⟩ := h.handed
  obtain ⟨gs, posted', work'⟩ := g.handed
  refine ⟨h.toCarried.trans g.toCarried, hs ++ gs, by rw [posted', posted, List.append_assoc], fun y mem => ?_⟩
  exact (List.mem_append.1 mem).elim (fun old => g.rises (work y old)) (work' y)

theorem Rising.online_kept (r : Rising b m s) (h : Carried b s t) : t.modu m = s.modu m :=
  (h.modules m).resolve_right fun syncing => by rw [r.online] at syncing; exact nomatch syncing.1

theorem Rising.next (r : Rising b m s) (h : Borne b s t) (alone : ∀ e, RaisesAlone e t) : Rising b m t := by
  obtain ⟨hs, posted, work⟩ := h.handed
  refine ⟨alone, by rw [r.online_kept h.toCarried]; exact r.online, by rw [h.list]; exact r.mem, ?_,
    h.energised.trans r.bus, fun y mem => ?_⟩
  · intro x mem c held
    rw [h.list] at mem held
    exact r.only x mem c held
  · rw [posted] at mem
    exact (List.mem_append.1 mem).elim (fun old => h.rises (r.handed y old)) (work y)

/-! ### The pieces of work -/

theorem busy_filled (c : Chan) (k : Target) (s : State) : (fillChannel c s).syu.busy k = s.syu.busy k := by
  cases free : s.syu.busy k with
  | false => exact fillChannel_spares k c s free
  | true =>
    by_contra other
    have after := Syu.busy_eq_false.1 (Bool.eq_false_iff.2 other)
    suffices s.syu.busy k = false by rw [free] at this; exact nomatch this
    unfold fillChannel at after
    split at after
    next req rest idle queue =>
      obtain ⟨queued, chans, dead⟩ := after
      refine Syu.busy_eq_false.2 ⟨fun r mem => ?_, fun d w held => ?_, dead⟩
      · rw [queue] at mem
        obtain is | later := List.mem_cons.1 mem
        · rw [is]
          exact chans c _ (upd_self s.syu.chans c _)
        · exact queued r later
      · by_cases is : c = d
        · subst is
          rw [idle] at held
          exact nomatch held
        · exact chans d w ((upd_other s.syu.chans _ is).trans held)
    next => exact Syu.busy_eq_false.2 after

theorem serveChannelsTaken_borne (b : Berth) (s : State) :
    Borne b s (serveChannelsTaken s) ∧ Silent b s (serveChannelsTaken s) := by
  have mpm : (serveChannelsTaken s).mpm = s.mpm := by simp
  have bsq : (serveChannelsTaken s).bsq = s.bsq := by simp
  have lpu : (serveChannelsTaken s).lpu = s.lpu := by simp
  refine ⟨⟨⟨by rw [mpm], by rw [bsq], by simp, fun k => ?_, fun x => .inl (by rw [State.modu, mpm]; rfl),
    by rw [State.berth, bsq]; rfl⟩, ?_⟩, by rw [State.berth, bsq]; rfl, by rw [lpu]; exact .refl _ 0 _⟩
  · unfold serveChannelsTaken
    split
    · exact (busy_filled 1 k _).trans (busy_filled 0 k s)
    · split <;> rfl
  · unfold serveChannelsTaken
    split
    · exact ⟨[], by simp⟩
    · split
      · exact ⟨[], by simp⟩
      · refine ⟨[.serveChannels], rfl, fun y mem => ?_⟩
        rw [List.mem_singleton.1 mem]
        exact .inl (.inr (.inr rfl))

theorem Sends.borne (h : Sends s t) (b : Berth) : Borne b s t := by
  obtain ⟨l, p, ms, rfl⟩ := h
  exact { Borne.refl b s with }

/-- R46: a module in SYNCING whose contactor has no node is released. -/
theorem stopModule_borne (free : s.syu.busy (contactor x) = false) (syncing : (s.modu x).state = .syncing) (b : Berth) :
    Borne b s (stopModule x s) ∧ Silent b s (stopModule x s) := by
  have stopped : Borne b s (stoppedFirst x s) :=
    { Borne.refl b s with
      modules := fun y => by
        by_cases is : x = y
        · subst is
          refine .inr ⟨syncing, ?_⟩
          exact congrArg ModuleRec.deferred (s.modu_modModule x _)
        · exact .inl (s.modu_modModule_other is _) }
  have given := command_sends .openCmd (contactor x) (stoppedFirst x s)
  rw [stopModule_idle free]
  refine ⟨stopped.trans (given.borne b), ?_, giveBcmd_kept (x := fun _ => False) not_false (stoppedFirst x s)⟩
  obtain ⟨l, p, ms, eq⟩ := given
  rw [eq]
  rfl

theorem tellSummary_borne (b : Berth) (s : State) : Borne b s (tellSummary b s) :=
  { Borne.refl b s with
    handed := ⟨[.summary b], rfl, fun y mem => by
      rw [List.mem_singleton.1 mem]
      exact .inr (.inr (.inl rfl))⟩ }

theorem Silent.post (h : Silent b s t) (x : Handoff) : Silent b s (t.post x) := ⟨h.berth, h.link⟩

/-- R43: a request that failed for want of a node. -/
theorem contactorResult_borne (only : ∀ c, x ∈ s.list c → c = b) (free : s.syu.busy (contactor x) = false) :
    Borne b s (contactorResult x .failedAttempts s) ∧ Silent b s (contactorResult x .failedAttempts s) := by
  unfold contactorResult
  split
  next syncing here =>
    obtain ⟨stopped, silent⟩ := stopModule_borne free syncing b
    show Borne b s (release x s) ∧ Silent b s (release x s)
    obtain is | ⟨c, mem, is⟩ := release_serving (s := s) (m := x) (by rw [syncing]; rfl)
    · rw [is]
      exact ⟨stopped, silent⟩
    · obtain rfl := only c mem
      rw [is]
      exact ⟨stopped.trans (tellSummary_borne c _), silent.post _⟩
  next => exact ⟨.refl b s, .refl b s⟩

/-- Work other than a summary. -/
theorem takeHandoff_borne (alone : ∀ e, RaisesAlone e s) (only : ∀ x ∈ s.list b, ∀ c, x ∈ s.list c → c = b)
    (is : h.Rises b s) (other : h ≠ .summary b) : Borne b s (takeHandoff h s) ∧ Silent b s (takeHandoff h s) := by
  obtain cancels | ⟨e, rfl⟩ | summary | ⟨x, mem, rfl, free⟩ := is
  · obtain same | rfl := takeCancelled cancels s
    · rw [same]
      exact ⟨.refl b s, .refl b s⟩
    · exact serveChannelsTaken_borne b s
  · show Borne b s (raiseEntry e s) ∧ Silent b s (raiseEntry e s)
    rw [raiseEntry_alone (alone e)]
    exact ⟨{ Borne.refl b s with }, { Silent.refl b s with }⟩
  · exact absurd summary other
  · exact contactorResult_borne (only x mem) free

/-! ### The summary (R53, R100) -/

theorem energisedTest_waits (bus : (s.berth b).energised = false) : energisedTest b s = s :=
  if_neg fun h => by rw [bus] at h; exact nomatch h.2.1

/-- BSQ has kept the berth's summary. -/
def summarised (b : Berth) (s : State) : State := s.modBerth b fun r => { r with summary := summaryOf s b }

theorem summarised_berth (b : Berth) (s : State) :
    (summarised b s).berth b = { s.berth b with summary := summaryOf s b } := s.berth_modBerth b _

/-- R100: a berth in ALLOCATING with an ONLINE module is ENERGISING. -/
theorem actOnSummary_energises (waits : (s.berth b).state = .allocating) (some : (s.berth b).summary.online ≠ 0)
    (bus : (s.berth b).energised = false) : actOnSummary b s = enterState b .energising s := by
  have entered : actOnSummary b s = energisedTest b (enterState b .energising s) := by
    unfold actOnSummary
    dsimp only
    rw [waits]
    exact if_pos (Nat.pos_of_ne_zero some)
  exact entered.trans (energisedTest_waits (by rw [enterState_berth]; exact bus))

theorem actOnSummary_rests (some : (s.berth b).summary.online ≠ 0) (other : (s.berth b).state ≠ .allocating)
    (bus : (s.berth b).energised = false) : actOnSummary b s = s := by
  by_cases is : (s.berth b).state = .energising
  · unfold actOnSummary
    dsimp only
    rw [is]
    exact (if_neg some).trans (energisedTest_waits bus)
  · exact actOnSummary_online some (by simp [other, is])

/-- R53, R100: what BSQ does with a summary that has an ONLINE module. -/
theorem Rising.summaryTaken (r : Rising b m s) :
    ((s.berth b).state ≠ .allocating ∨ (s.berth b).summary.online ≠ 0) ∧ Machine.summaryTaken b s = s ∨
    (s.berth b).state ≠ .allocating ∧ Machine.summaryTaken b s = summarised b s ∨
    (s.berth b).state = .allocating ∧ Machine.summaryTaken b s = enterState b .energising (summarised b s) := by
  have some := summaryOf_online r.online r.mem
  have some' : ((summarised b s).berth b).summary.online ≠ 0 := by rw [summarised_berth]; exact some
  have bus : ((summarised b s).berth b).energised = false := by rw [summarised_berth]; exact r.bus
  have state : ((summarised b s).berth b).state = (s.berth b).state := by rw [summarised_berth]
  unfold Machine.summaryTaken
  split
  next same => exact .inl ⟨.inr (same ▸ some), rfl⟩
  next =>
    by_cases waits : (s.berth b).state = .allocating
    · exact .inr (.inr ⟨waits, actOnSummary_energises (state.trans waits) some' bus⟩)
    · exact .inr (.inl ⟨waits, actOnSummary_rests some' (state ▸ waits) bus⟩)

theorem summarised_borne (b : Berth) (s : State) : Borne b s (summarised b s) :=
  { Borne.refl b s with energised := by rw [summarised_berth] }

theorem enterEnergising_borne (waits : (s.berth b).state = .allocating) : Borne b s (enterState b .energising s) := by
  have changed : Borne b s (changeState b .energising s) := by
    rw [changeState_plain (by rw [waits]; rfl) (by rw [waits]; decide) (by rw [waits]; decide)]
    exact { Borne.refl b s with energised := by rw [s.berth_modBerth] }
  exact changed.trans ((enterState_sends b .energising s).borne b)

theorem Rising.summaryTaken_borne (r : Rising b m s) : Borne b s (Machine.summaryTaken b s) := by
  obtain ⟨-, is⟩ | ⟨-, is⟩ | ⟨waits, is⟩ := r.summaryTaken <;> rw [is]
  · exact .refl b s
  · exact summarised_borne b s
  · exact (summarised_borne b s).trans (enterEnergising_borne (by rw [summarised_berth]; exact waits))

end
end Sys2Proof.Machine
end

section
namespace Sys2Proof.Machine

/-! ### A berth in ALLOCATING with its first ONLINE module (R53, R98, R100) -/

/-- Berth `b` waits in ALLOCATING for an ONLINE module, and under `L` the link takes a notice. -/
structure Waiting (b : Berth) (L : Prop) (s : State) : Prop where
  state : (s.berth b).state = .allocating
  empty : (s.berth b).summary.online = 0
  link : L → EgressWorks s ∧ s.own ≠ none ∧ s.lpu.control.length < 24

/-- Berth `b` is ENERGISING, and under `L` its notice stands. -/
structure Energising (b : Berth) (L : Prop) (s : State) : Prop where
  state : (s.berth b).state = .energising
  notice : L → s.lpu.Noticed (s.entry b).gateway (.berth b 3) s.now ∧ s.lpu.sending ≠ none ∧ s.lpu.control.length ≤ 24

section
variable {s t u : State} {m x : Module} {b : Berth} {n : Nat} {h : Handoff} {rest before after : List Handoff} {L : Prop}

theorem Waiting.silent (w : Waiting b L s) (h : Silent b s t) : Waiting b L t := by
  refine ⟨by rw [h.berth]; exact w.state, by rw [h.berth]; exact w.empty, fun l => ?_⟩
  obtain ⟨works, own, room⟩ := w.link l
  obtain ⟨works', length⟩ := h.link.works works
  have := length (by omega)
  exact ⟨works', by rw [State.own, h.link.nid]; exact own, by omega⟩

theorem Energising.silent (w : Energising b L s) (h : Silent b s t) (carried : Carried b s t) : Energising b L t := by
  refine ⟨by rw [h.berth]; exact w.state, fun l => ?_⟩
  obtain ⟨noticed, sending, room⟩ := w.notice l
  have queued := h.link.busy sending
  obtain ⟨ps, control, few⟩ := queued.control (by omega)
  rw [carried.entry, carried.now]
  refine ⟨noticed.queued queued (by omega), by rw [queued.sending]; exact sending, ?_⟩
  rw [control, List.length_append]
  omega

theorem Energising.summary (w : Energising b L s) (r : Rising b m s) : Energising b L (summaryTaken b s) := by
  obtain ⟨-, is⟩ | ⟨-, is⟩ | ⟨waits, -⟩ := r.summaryTaken
  · rw [is]
    exact w
  · rw [is]
    exact ⟨by rw [summarised_berth]; exact w.state, w.notice⟩
  · rw [w.state] at waits
    exact nomatch waits

theorem Waiting.summary (w : Waiting b L s) (r : Rising b m s) : Energising b L (summaryTaken b s) := by
  obtain ⟨moved | some, -⟩ | ⟨moved, -⟩ | ⟨-, is⟩ := r.summaryTaken
  · exact absurd w.state moved
  · exact absurd w.empty some
  · exact absurd w.state moved
  · rw [is]
    refine ⟨by rw [enterState_berth], fun l => ?_⟩
    obtain ⟨works, own, room⟩ := w.link l
    obtain ⟨noticed, sending⟩ := enterState_notice (b := b) (st := .energising) (s := summarised b s) (by exact works)
      (by exact own) (by exact room)
    have length := ((enterState_kept (fun _ => False) b .energising (summarised b s)).works (by exact works)).2
      (show s.lpu.control.length + 1 ≤ 24 by omega)
    rw [enterState_entry]
    exact ⟨noticed, sending, length.trans (show s.lpu.control.length + 1 ≤ 24 by omega)⟩

/-! ### The drain -/

theorem Rising.rested (r : Rising b m s) (posted : s.handoffs = h :: rest) : Rising b m { s with handoffs := rest } :=
  { r with
    alone := by exact r.alone
    handed := fun y mem => r.handed y (by rw [posted]; exact List.mem_cons_of_mem _ mem) }

theorem Rising.take (r : Rising b m s) (posted : s.handoffs = h :: rest) :
    Rising b m (takeHandoff h { s with handoffs := rest }) ∧
      Borne b { s with handoffs := rest } (takeHandoff h { s with handoffs := rest }) := by
  have rested := r.rested posted
  have borne : Borne b { s with handoffs := rest } (takeHandoff h { s with handoffs := rest }) := by
    by_cases is : h = .summary b
    · rw [is]
      exact rested.summaryTaken_borne
    · exact (takeHandoff_borne rested.alone rested.only (by exact r.handed h (by rw [posted]; exact List.mem_cons_self)) is).1
  exact ⟨rested.next borne fun e => (takeHandoff_onward h _).alone (rested.alone e), borne⟩

theorem Rising.take_silent (r : Rising b m s) (posted : s.handoffs = h :: rest) (other : h ≠ .summary b) :
    Silent b { s with handoffs := rest } (takeHandoff h { s with handoffs := rest }) :=
  (takeHandoff_borne (r.rested posted).alone (r.rested posted).only
    (by exact r.handed h (by rw [posted]; exact List.mem_cons_self)) other).2

theorem drain_carried (r : Rising b m s) (n : Nat) : Carried b s (drain n s) := by
  induction n generalizing s with
  | zero => exact .refl b s
  | succ n ih =>
    cases posted : s.handoffs with
    | nil => rw [drain_nil _ posted]; exact .refl b s
    | cons h rest =>
      rw [drain_cons n posted]
      obtain ⟨r', borne⟩ := r.take posted
      have rested : Carried b s { s with handoffs := rest } := { Carried.refl b s with }
      exact (rested.trans borne.toCarried).trans (ih r')

theorem drain_energising (r : Rising b m s) (w : Energising b L s) (n : Nat) : Energising b L (drain n s) := by
  induction n generalizing s with
  | zero => exact w
  | succ n ih =>
    cases posted : s.handoffs with
    | nil => rw [drain_nil _ posted]; exact w
    | cons h rest =>
      rw [drain_cons n posted]
      obtain ⟨r', borne⟩ := r.take posted
      have rested : Energising b L { s with handoffs := rest } := ⟨w.state, w.notice⟩
      refine ih r' ?_
      by_cases is : h = .summary b
      · rw [is]
        exact rested.summary (r.rested posted)
      · exact rested.silent (r.take_silent posted is) borne.toCarried

/-- R53, R100: the summary that waits is taken. -/
theorem drain_energises (r : Rising b m s) (w : Waiting b L s) (posted : s.handoffs = before ++ .summary b :: after)
    (fuel : before.length < n) : Energising b L (drain n s) := by
  induction n generalizing s before after with
  | zero => exact absurd fuel (Nat.not_lt_zero _)
  | succ n ih =>
    cases before with
    | nil =>
      rw [drain_cons n posted]
      have rested : Waiting b L { s with handoffs := after } := ⟨w.state, w.empty, w.link⟩
      exact drain_energising (r.take posted).1 (rested.summary (r.rested posted)) n
    | cons h before =>
      rw [drain_cons n posted]
      obtain ⟨r', borne⟩ := r.take posted
      have rested : Waiting b L { s with handoffs := before ++ .summary b :: after } := ⟨w.state, w.empty, w.link⟩
      by_cases is : h = .summary b
      · refine drain_energising r' ?_ n
        rw [is]
        exact rested.summary (r.rested posted)
      · obtain ⟨hs, more, -⟩ := borne.handed
        refine ih r' (rested.silent (r.take_silent posted is)) (after := after ++ hs) ?_ (by simpa using fuel)
        rw [more]
        exact List.append_assoc before (.summary b :: after) hs

end
end Sys2Proof.Machine
end

section
namespace Sys2Proof.Machine

section
variable {s t u v : State} {m x : Module} {b : Berth} {n : Nat} {y : Reply} {hs : List Handoff}

/-! ### A first module that is RUNNING with its contactor closed (R42, R100) -/

theorem startCheck_first (starting : (u.modu m).state = .starting) (here : u.berthOfModule m = some b)
    (running : (u.modu m).runningSeen = true) (first : (u.modu m).first = true) (closed : (u.modu m).closedNoted = true) :
    startCheck m u = becomeOnline b m u := by
  unfold startCheck
  dsimp only
  rw [starting, here, running, first, closed]
  rfl

/-- R42: a first module becomes ONLINE. -/
def ModuleRec.serves (r : ModuleRec) : ModuleRec := { r with runningSeen := true, state := .online, startDue := none }

/-- R42: the reply has been recorded with its module ONLINE. -/
def firstRecorded (y : Reply) (s : State) : State := dropModulePair y.module (recordedBy y ModuleRec.serves s)

/-- R42: the deferred requests of berth `b` have been taken up. -/
def firstServed (y : Reply) (b : Berth) (s : State) : State :=
  (s.list b).foldl (fun s x => queueDeferred b x s) (firstRecorded y s)

theorem becomeOnline_first (y : Reply) (first : (s.modu y.module).first = true) :
    becomeOnline b y.module (recordedBy y ModuleRec.ran s) = tellSummary b (firstServed y b s) := by
  unfold becomeOnline
  dsimp only
  rw [if_pos (by rw [recordedBy_modu]; exact first), recordedBy_modModule]
  rfl

theorem replyRules_first (q : Quiet s) (listed : ModulesListed s) (mem : y.module ∈ s.list b)
    (starting : (s.modu y.module).state = .starting) (running : y.state = .running)
    (first : (s.modu y.module).first = true) (closed : (s.modu y.module).closedNoted = true) :
    replyRules y (recordReply y s) = tellSummary b (firstServed y b s) := by
  have recorded := recordedBy_modu y ModuleRec.ran s
  have rule := replyRules_running (u := recordedBy y id s) (y := y) (by rw [recordedBy_modu]; exact starting) running
  rw [recordedBy_modModule, ← recordReply_recorded q] at rule
  refine (rule.trans (startCheck_first (u := recordedBy y ModuleRec.ran s) ?_
    ((recordedBy_berthOfModule y _ s _).trans (listed.berthOfModule mem)) ?_ ?_ ?_)).trans (becomeOnline_first y first)
  · rw [recorded]
    exact starting
  · rw [recorded]
    rfl
  · rw [recorded]
    exact first
  · rw [recorded]
    exact closed

theorem firstRecorded_modu (y : Reply) (s : State) : (firstRecorded y s).modu y.module =
    (s.modu y.module).replied y (replyCapacity y s) (replyDerated y s) ModuleRec.serves := recordedBy_modu y _ s

theorem firstRecorded_modu_other (other : x ≠ y.module) (s : State) : (firstRecorded y s).modu x = s.modu x :=
  answeredPoll_modu_other other s

theorem firstServed_asks (y : Reply) (b : Berth) (s : State) : Asks b (s.list b).length (firstRecorded y s) (firstServed y b s) ∧
    ∀ x ∈ s.list b, ((firstServed y b s).modu x).deferred = false ∧
      (((firstRecorded y s).modu x).deferred = true → (s.breaker (contactor x)).node ≠ 0 →
        (firstServed y b s).syu.busy (contactor x) = true) :=
  foldl_queueDeferred_asks (s := firstRecorded y s) (s.list b) fun _ mem => mem

theorem withEvents_keeps {α : Type} (f : State → α) (keeps : ∀ u e, f { u with evr := { u.evr with entries := e } } = f u)
    (y : Reply) (s u : State) : f (withEvents y s u) = f u := by
  obtain ⟨e, eq⟩ := withEvents_eq y s u
  rw [eq]
  exact keeps u e

/-- R39, R42: the raises of the reply have been taken, and `hs` and the summary wait. -/
def firstRaised (y : Reply) (b : Berth) (hs : List Handoff) (s : State) : State :=
  withEvents y s { firstServed y b s with handoffs := hs ++ [.summary b] }

/-- Work that the deferred requests of berth `b` hand over. -/
def Asked (y : Reply) (b : Berth) (s : State) (h : Handoff) : Prop :=
  h.Cancels ∨ (∃ e, h = .raise e) ∨ ∃ x ∈ s.list b, h = .contactorResult x .failedAttempts ∧
    (firstServed y b s).syu.busy (contactor x) = false

theorem reply_firstRaised (q : Quiet s) (alone : ∀ e, RaisesAlone e s) (listed : ModulesListed s) (mem : y.module ∈ s.list b)
    (starting : (s.modu y.module).state = .starting) (running : y.state = .running)
    (first : (s.modu y.module).first = true) (closed : (s.modu y.module).closedNoted = true) :
    ∃ hs n, 4094 ≤ n ∧ drain Config.settleFuel (replyRules y (recordReply y s)) = drain n (firstRaised y b hs s) ∧
      hs.length ≤ 2 * (s.list b).length ∧ ∀ h ∈ hs, Asked y b s h := by
  obtain ⟨asks, -⟩ := firstServed_asks y b s
  obtain ⟨hs, posted, length, work⟩ := asks.handed
  have evr : (firstServed y b s).evr = s.evr := asks.evr
  have rule := replyRules_first q listed mem starting running first closed
  have before : (firstServed y b s).handoffs ++ [Handoff.summary b] =
      (replyEvents y s).map .raise ++ (hs ++ [Handoff.summary b]) := by
    rw [posted]
    exact List.append_assoc ((replyEvents y s).map Handoff.raise) hs _
  have told : replyRules y (recordReply y s) =
      { firstServed y b s with handoffs := (replyEvents y s).map .raise ++ (hs ++ [Handoff.summary b]) } := by
    rw [rule, ← before]
    rfl
  obtain ⟨n, fuel, drained⟩ := reply_drained alone told evr
  refine ⟨hs, n, fuel, drained, length, fun h mem => ?_⟩
  exact (work h mem).imp_right fun r => r.imp_right fun ⟨x, mem, is, _, free⟩ => ⟨x, mem, is, free⟩

theorem firstServed_modu (y : Reply) (b : Berth) (s : State) : ((firstServed y b s).modu y.module).state = .online ∧
    ((firstServed y b s).modu y.module).startDue = none := by
  obtain ⟨state, due, -⟩ := (firstServed_asks y b s).1.modules y.module
  rw [firstRecorded_modu] at state due
  exact ⟨state, due⟩

theorem firstRaised_modu (y : Reply) (b : Berth) (hs : List Handoff) (s : State) (x : Module) :
    (firstRaised y b hs s).modu x = (firstServed y b s).modu x :=
  withEvents_keeps (fun s => s.modu x) (fun _ _ => rfl) y s _

theorem firstRaised_berth (y : Reply) (b : Berth) (hs : List Handoff) (s : State) (c : Berth) :
    (firstRaised y b hs s).berth c = s.berth c :=
  (withEvents_keeps (fun s => s.berth c) (fun _ _ => rfl) y s _).trans
    (congrArg (fun q : Bsq => q.recs[c]) (firstServed_asks y b s).1.bsq)

theorem firstRaised_entry (y : Reply) (b : Berth) (hs : List Handoff) (s : State) (c : Berth) :
    (firstRaised y b hs s).entry c = s.entry c :=
  (withEvents_keeps (fun s => s.entry c) (fun _ _ => rfl) y s _).trans
    (congrArg (fun q : Bsq => q.table[c]) (firstServed_asks y b s).1.bsq)

theorem firstRaised_list (y : Reply) (b : Berth) (hs : List Handoff) (s : State) (c : Berth) :
    (firstRaised y b hs s).list c = s.list c :=
  (withEvents_keeps (fun s => s.list c) (fun _ _ => rfl) y s _).trans ((firstServed_asks y b s).1.list c)

theorem firstRaised_lpu (y : Reply) (b : Berth) (hs : List Handoff) (s : State) : (firstRaised y b hs s).lpu = s.lpu :=
  (withEvents_keeps State.lpu (fun _ _ => rfl) y s _).trans (firstServed_asks y b s).1.lpu

theorem firstRaised_syu (y : Reply) (b : Berth) (hs : List Handoff) (s : State) :
    (firstRaised y b hs s).syu = (firstServed y b s).syu := withEvents_keeps State.syu (fun _ _ => rfl) y s _

theorem firstRaised_now (y : Reply) (b : Berth) (hs : List Handoff) (s : State) : (firstRaised y b hs s).now = s.now :=
  (withEvents_keeps State.now (fun _ _ => rfl) y s _).trans (firstServed_asks y b s).1.now

theorem firstRaised_posted (y : Reply) (b : Berth) (hs : List Handoff) (s : State) :
    (firstRaised y b hs s).handoffs = hs ++ [.summary b] := withEvents_posted _ _ _

theorem firstServed_alone (alone : ∀ e, RaisesAlone e s) (y : Reply) (b : Berth) (hs : List Handoff) (e : EventIx) :
    RaisesAlone e { firstServed y b s with handoffs := hs } := by
  have := alone e
  unfold RaisesAlone State.event at this ⊢
  rw [show ({ firstServed y b s with handoffs := hs } : State).evr = s.evr from (firstServed_asks y b s).1.evr]
  exact this

theorem firstRaised_rising (alone : ∀ e, RaisesAlone e s) (listed : ModulesListed s) (mem : y.module ∈ s.list b)
    (bus : (s.berth b).energised = false) (work : ∀ h ∈ hs, Asked y b s h) :
    Rising b y.module (firstRaised y b hs s) where
  alone := withEvents_alone y s (firstServed_alone alone y b _)
  online := by
    rw [firstRaised_modu]
    exact (firstServed_modu y b s).1
  mem := by
    rw [firstRaised_list]
    exact mem
  only x here c there := by
    rw [firstRaised_list] at here there
    exact listed.2.1 c b x there here
  bus := by
    rw [firstRaised_berth]
    exact bus
  handed h waits := by
    rw [firstRaised_posted] at waits
    obtain old | last := List.mem_append.1 waits
    · refine (work h old).imp_right fun r => r.imp_right fun ⟨x, here, is, free⟩ => .inr ⟨x, ?_, is, ?_⟩
      · rw [firstRaised_list]
        exact here
      · rw [firstRaised_syu]
        exact free
    · exact .inr (.inr (.inl (List.mem_singleton.1 last)))

theorem firstRaised_waiting {L : Prop} (waits : (s.berth b).state = .allocating) (empty : (s.berth b).summary.online = 0)
    (link : L → EgressWorks s ∧ s.own ≠ none ∧ s.lpu.control.length < 24) : Waiting b L (firstRaised y b hs s) := by
  refine ⟨by rw [firstRaised_berth]; exact waits, by rw [firstRaised_berth]; exact empty, fun l => ?_⟩
  unfold State.own
  rw [egressWorks_iff, firstRaised_lpu]
  exact link l

theorem nodup_modules_length {xs : List Module} (h : xs.Nodup) : xs.length ≤ 8 := by
  simpa using h.length_le_card

/-- R42, R100: a first module becomes ONLINE at its reply. -/
theorem reply_firstOnline (q : Quiet s) (alone : ∀ e, RaisesAlone e s) (listed : ModulesListed s) (mem : y.module ∈ s.list b)
    (starting : (s.modu y.module).state = .starting) (running : y.state = .running)
    (first : (s.modu y.module).first = true) (closed : (s.modu y.module).closedNoted = true)
    (bus : (s.berth b).energised = false) :
    FirstOnline b y.module s (settle (replyRules y (recordReply y s))) := by
  obtain ⟨hs, n, fuel, drained, length, work⟩ := reply_firstRaised q alone listed mem starting running first closed
  have rising := firstRaised_rising alone listed mem bus work
  have carried := drain_carried rising n
  have few := nodup_modules_length (listed.1 b)
  have energises : ∀ L : Prop, (L → EgressWorks s ∧ s.own ≠ none ∧ s.lpu.control.length < 24) →
      (s.berth b).state = .allocating → (s.berth b).summary.online = 0 →
      Energising b L (drain n (firstRaised y b hs s)) := fun L link waits empty =>
    drain_energises rising (firstRaised_waiting waits empty link) (firstRaised_posted y b hs s) (by omega)
  have still := rising.online_kept carried
  rw [firstRaised_modu] at still
  obtain ⟨online, due⟩ := firstServed_modu y b s
  rw [← drained] at carried energises still
  refine ⟨(congrArg ModuleRec.state still).trans online, (congrArg ModuleRec.startDue still).trans due,
    fun x here other deferred => ?_, fun waits empty => ?_⟩
  · obtain ⟨cleared, busy⟩ := (firstServed_asks y b s).2 x here
    refine ⟨?_, fun node => ?_⟩
    · obtain same | ⟨-, cleared'⟩ := carried.modules x
      · rw [firstRaised_modu] at same
        exact (congrArg ModuleRec.deferred same).trans cleared
      · exact cleared'
    · refine (carried.busy _).trans ?_
      rw [firstRaised_syu]
      exact busy (by rw [firstRecorded_modu_other other]; exact deferred) node
  · obtain ⟨state, -⟩ := energises False False.elim waits empty
    refine ⟨state, fun works own room => ?_⟩
    obtain ⟨-, notice⟩ := energises True (fun _ => ⟨works, own, by omega⟩) waits empty
    obtain ⟨noticed, -, -⟩ := notice trivial
    rw [carried.entry, firstRaised_entry] at noticed
    exact noticed

end
end Sys2Proof.Machine
end

section
namespace Sys2Proof.Machine

section
variable {s t u v : State} {m x : Module} {b : Berth} {n due : Nat} {y : Reply} {st : Reported} {p : List Byte} {src : Byte}

/-! ### The end of a poll, as stated (R36 to R39) -/

/-- R38: the third miss of a module in service or in STANDBY. -/
theorem pollReplyExpiry_lost (q : Quiet s) (is : s.mpm.poll = some ⟨m, n, some due⟩) (many : 3 ≤ (s.modu m).missCount + 1)
    (state : (s.modu m).state ∈ [.standby, .starting, .syncing, .online]) :
    ∃ t, exec .pollReplyTimerExpiry s = .next t ∧ t.mpm.poll = none ∧
      (t.modu m).missCount = min ((s.modu m).missCount + 1) 255 ∧ (t.modu m).answered = false ∧
      (t.event (evModuleLost m)).raw = true ∧ (∀ b, m ∉ t.list b) ∧
      ((t.modu m).state = .lost ∨ (s.event (evModuleLost m)).action = .blockModule ∧ (t.modu m).state = .blocked) := by
  have out : (s.modu m).state ∉ [.absent, .stopping, .lost, .blocked] := by
    revert state
    cases (s.modu m).state <;> decide
  have missing : miss m (s.advanceTo due) = lose m (missed m (s.advanceTo due)) := by
    rw [miss_eq]
    exact if_pos ⟨many, out⟩
  obtain ⟨poll, found, raw, disengaged, rests⟩ := lose_settled (s := missed m (s.advanceTo due)) (m := m) q rfl
  have ends : exec .pollReplyTimerExpiry s = .next (settle (lose m (missed m (s.advanceTo due)))) :=
    (done_quiet pollReplyExpiry q).trans (by rw [pollReplyExpiry_due is, missing])
  rw [missed_modu] at found
  refine ⟨_, ends, poll, congrArg Prod.fst found, congrArg (fun f => f.2.1) found, raw,
    fun b mem => disengaged (.inr ⟨b, mem⟩), rests⟩

/-- R37: the fields of the record that a reply leaves. -/
theorem reply_stored (y : Reply) (s : State) :
    let t := settle (replyRules y (recordReply y s))
    t.mpm.poll = none ∧ ((t.modu y.module).missCount = 0 ∧ (t.modu y.module).answered = true ∧
      (t.modu y.module).reported = some y.state ∧ (t.modu y.module).derateFlag = y.derate ∧
      (t.modu y.module).capacity = some (replyCapacity y s) ∧ (t.modu y.module).derateCond = replyDerated y s) ∧
      (∀ o, o ≠ y.module → (t.modu o).missCount = (s.modu o).missCount ∧ (t.modu o).capacity = (s.modu o).capacity) ∧
      t.mpm.table = s.mpm.table ∧ t.mpm.ignored = s.mpm.ignored := by
  obtain ⟨poll, table, ignored, found, -⟩ := reply_found y s rfl
  have own := found y.module
  rw [answeredPoll_modu] at own
  refine ⟨poll, ⟨congrArg Prod.fst own, congrArg (fun f => f.2.1) own, congrArg (fun f => f.2.2.1) own,
    congrArg (fun f => f.2.2.2.2.1) own, congrArg (fun f => f.2.2.2.1) own, congrArg (fun f => f.2.2.2.2.2) own⟩,
    fun o other => ?_, table, ignored⟩
  have same := found o
  rw [answeredPoll_modu_other other] at same
  exact ⟨congrArg Prod.fst same, congrArg (fun f => f.2.2.2.1) same⟩

/-- R39: what a reply has recorded, with its raises taken. -/
theorem withEvents_noted {F D : Prop} [Decidable F] [Decidable D] (y : Reply) (g : ModuleRec → ModuleRec) (s : State)
    (fault : replyFault (s.modu y.module).state (s.modu y.module).reported y = true ↔ F) (derated : replyDerated y s = true ↔ D) :
    (let u : State := { s with mpm := { s.mpm with
        poll := none
        recs := upd s.mpm.recs y.module fun r => g { r with
          missCount := 0
          answered := true
          reported := some y.state
          derateFlag := y.derate
          derateCond := decide D
          capacity := some (replyCapacity y s) } } }
      let v := if F then raised (evModuleFault y.module) u else u
      if D then raised (evModuleDerated y.module) v else v) = withEvents y s (answeredPoll y g s) := by
  have decided : decide D = replyDerated y s := by
    rw [Bool.eq_iff_iff, derated, decide_eq_true_iff]
  rw [decided]
  have taken : ∀ (c d : Bool) (u : State), (c = true ↔ F) → (d = true ↔ D) →
      (if D then raised (evModuleDerated y.module) (if F then raised (evModuleFault y.module) u else u)
        else if F then raised (evModuleFault y.module) u else u) =
      ((if c then [evModuleFault y.module] else []) ++ if d then [evModuleDerated y.module] else []).foldl
        (fun u e => raised e u) u := by
    intro c d u hc hd
    rw [if_congr hd.symm rfl rfl, if_congr hc.symm rfl rfl]
    cases c <;> cases d <;> rfl
  exact taken _ _ (answeredPoll y g s) fault derated

/-! ### The rules that hand nothing over (R42, R47) -/

theorem reply_ruleless (q : Quiet s) (h : (s.modu y.module).state ∈ [.absent, .standby, .lost, .blocked, .syncing] ∨
    (s.modu y.module).state = .starting ∧ y.state ≠ .running ∨ (s.modu y.module).state = .stopping ∧ y.state ≠ .off) :
    replyRules y (recordReply y s) = recordedBy y id s := by
  rw [recordReply_recorded q]
  exact replyRules_none (by rw [recordedBy_modu]; exact h)

theorem reply_runs (q : Quiet s) (starting : (s.modu y.module).state = .starting) (running : y.state = .running)
    (first : (s.modu y.module).first = true) (closed : (s.modu y.module).closedNoted = false) :
    replyRules y (recordReply y s) = recordedBy y ModuleRec.ran s := by
  rw [recordReply_recorded q, replyRules_running (by rw [recordedBy_modu]; exact starting) running, recordedBy_modModule]
  refine startCheck_waits (u := recordedBy y ModuleRec.ran s) ?_ ?_
  · rw [recordedBy_modu]
    exact first
  · rw [recordedBy_modu]
    exact closed

theorem reply_ceases (q : Quiet s) (stopping : (s.modu y.module).state = .stopping) (off : y.state = .off)
    (closed : (s.modu y.module).openSeen = false) : replyRules y (recordReply y s) = recordedBy y ModuleRec.ceased s := by
  rw [recordReply_recorded q, replyRules_off (by rw [recordedBy_modu]; exact stopping) off, ceased_recorded]
  refine stopCheck_waits (u := recordedBy y ModuleRec.ceased s) ?_
  rw [recordedBy_modu]
  exact closed

/-- R53: the summary of the berth once a reply of one of its ONLINE modules has been recorded. -/
theorem summaryOf_answered (y : Reply) (s : State) (b : Berth) : summaryOf (answeredPoll y id s) b = {
    listed := (s.list b).length
    online := ((s.list b).filter fun x => (s.modu x).state = .online).length
    allOnline := (s.list b).all fun x => (s.modu x).state = .online
    capacity := (((s.list b).filter fun x => (s.modu x).state = .online).map fun x =>
      if x = y.module then replyCapacity y s else (s.modu x).capacity.getD 0).sum } := by
  have states : ∀ x, ((answeredPoll y id s).modu x).state = (s.modu x).state := fun x => by
    by_cases is : x = y.module
    · subst is
      rw [answeredPoll_modu]
      rfl
    · rw [answeredPoll_modu_other is]
  have capacity : ∀ x, capacityOf (answeredPoll y id s) x =
      if x = y.module then replyCapacity y s else (s.modu x).capacity.getD 0 := fun x => by
    unfold capacityOf
    split
    next is =>
      subst is
      rw [answeredPoll_modu]
      rfl
    next other => rw [answeredPoll_modu_other other]
  have online : onlineModules (answeredPoll y id s) b = (s.list b).filter fun x => (s.modu x).state = .online :=
    List.filter_congr fun x _ => by rw [states]
  have all : ((answeredPoll y id s).list b).all (fun x => ((answeredPoll y id s).modu x).state = .online) =
      (s.list b).all fun x => (s.modu x).state = .online :=
    congrArg (s.list b).all (funext fun x => by rw [states])
  unfold summaryOf sumCapacity
  rw [online, all, funext capacity]
  rfl

theorem replyFault_iff (y : Reply) (state : ModuleState) (reported : Option Reported) :
    replyFault state reported y = true ↔ y.state = .fault ∧ reported ≠ some .fault ∨
      y.state = .off ∧ (state = .syncing ∨ state = .online) ∧ reported ≠ some .off := by
  simp [replyFault, and_assoc]

theorem prpyReply_derated (m : Module) (st : Reported) (p : List Byte) (s : State) :
    replyDerated (prpyReply m st p) s = true ↔
      byteAt p 3 = 1 ∨ replyCapacity (prpyReply m st p) s < s.mpm.table[m].rating := by
  unfold replyDerated
  rw [Bool.or_eq_true, decide_eq_true_iff]
  exact or_congr (decide_eq_true_iff) Iff.rfl

theorem replyEvents_fault (h : replyFault (s.modu y.module).state (s.modu y.module).reported y = true) :
    evModuleFault y.module ∈ replyEvents y s :=
  List.mem_append_left _ (by rw [h]; exact List.mem_singleton_self _)

theorem replyEvents_derated (h : replyDerated y s = true) : evModuleDerated y.module ∈ replyEvents y s :=
  List.mem_append_right _ (by rw [h]; exact List.mem_singleton_self _)

theorem onlineModules_eq_nil (h : ∀ x ∈ s.list b, (s.modu x).state ≠ .online) : onlineModules s b = [] :=
  List.filter_eq_nil_iff.2 fun x mem => by simpa using h x mem

theorem onlineModules_ne_nil (h : ∃ x ∈ s.list b, (s.modu x).state = .online) : onlineModules s b ≠ [] := by
  obtain ⟨x, mem, online⟩ := h
  exact List.ne_nil_of_mem (List.mem_filter.2 ⟨mem, by simpa using online⟩)

end
end Sys2Proof.Machine
end

section
open Sys2Proof Sys2Proof.Machine

/-- Settles O33: a reply's raises are taken first, then what its rule hands over, and what the poll has found outlasts
both. -/
theorem pollEnds : Obligations.PollEnds := by
  unfold Obligations.PollEnds
  intro s q
  refine ⟨fun idle => done_unchanged q (pollReplyExpiry_idle idle), fun m n due is few => ?_,
    fun m n due is many state => pollReplyExpiry_lost q is many state, fun src p m st reach known length module state => ?_⟩
  · have ends : pollReplyExpiry s = missed m (s.advanceTo due) := (pollReplyExpiry_due is).trans (miss_only few)
    exact (done_eq pollReplyExpiry q (by rw [ends]; exact q)).trans (by rw [ends]; rfl)
  have answer := exec_prpyFrame q reach known length module state
  have matched : ∀ due, s.mpm.poll = some ⟨m, byteAt p 1, some due⟩ → s.mpm.table[m].node = src.toNat →
      exec (.prpyFrame src p) s =
        .next (settle (replyRules (prpyReply m st p) (recordReply (prpyReply m st p) s))) := fun due is node =>
    answer.trans (by rw [replyTaken_matched ((replyMatches_iff _ _).2 ⟨⟨due, is⟩, node⟩)])
  obtain ⟨poll, ⟨miss, answered, reported, flag, capacity, cond⟩, others, table, ignored⟩ := reply_stored (prpyReply m st p) s
  refine ⟨fun no => ?_, fun due is node => ?_, fun due is node => ?_⟩
  · have unmatched : replyMatches s src.toNat (prpyReply m st p) = false := Bool.eq_false_iff.2 fun yes => by
      obtain ⟨⟨due, is⟩, node⟩ := (replyMatches_iff _ _).1 yes
      exact no.elim (fun none => none due is) fun other => other node
    exact answer.trans (by rw [replyTaken_ignored unmatched, settle_quiet (by exact q)])
  · exact ⟨_, matched due is node, poll, miss, answered, reported, flag, capacity, others, table, ignored⟩
  intro o k cap fault derated noted
  have faulty := replyFault_iff (prpyReply m st p) o.state o.reported
  have derates := prpyReply_derated m st p s
  have taken : ∀ g, withEvents (prpyReply m st p) s (answeredPoll (prpyReply m st p) g s) = noted g := fun g =>
    (withEvents_noted (prpyReply m st p) g s faulty derates).symm
  have settled : ∀ t, settle (replyRules (prpyReply m st p) (recordReply (prpyReply m st p) s)) = t →
      exec (.prpyFrame src p) s = .next t := fun t h => (matched due is node).trans (by rw [h])
  refine ⟨⟨_, matched due is node, ?_, fun fails => ?_, fun low => ?_⟩, fun alone => ⟨fun h => ?_, fun b h listed mem busy => ?_,
    fun starting running first closed _ => ?_, fun b starting running first closed listed mem bus => ?_,
    fun b starting running later listed mem => ?_, fun stopping off waits => ?_,
    fun b stopping off opened listed mem => ?_⟩⟩
  · exact cond.trans (Bool.eq_iff_iff.2 (derates.trans decide_eq_true_iff.symm))
  · exact reply_raises q (replyEvents_fault (y := prpyReply m st p) (faulty.2 fails))
  · exact reply_raises q (replyEvents_derated (y := prpyReply m st p) (derates.2 low))
  · exact settled _ ((reply_settled q alone (reply_ruleless q h)).trans (taken id))
  · refine settled _ ((reply_online q alone listed mem h busy).trans ?_)
    rw [taken id, summaryOf_answered]
    rfl
  · exact settled _ ((reply_settled q alone (reply_runs q starting running first closed)).trans (taken _))
  · exact ⟨_, matched due is node, reply_firstOnline q alone listed mem starting running first closed bus⟩
  · intro syncing request
    refine ⟨fun none => ?_, fun some free wired => ?_⟩
    · have waits := onlineModules_eq_nil none
      exact settled _ ((reply_deferred q alone listed mem starting running later waits).trans (taken _))
    · have online := onlineModules_ne_nil some
      have asked := reply_queued (y := prpyReply m st p) q alone listed mem starting running later online free wired
      rw [withEvents_queued, taken] at asked
      exact settled _ asked
  · exact settled _ ((reply_settled q alone (reply_ceases q stopping off waits)).trans (taken _))
  · obtain ⟨record, unlisted⟩ := reply_left (y := prpyReply m st p) q alone listed mem stopping off opened
    rw [stopEnded_modu] at record
    exact ⟨_, matched due is node, congrArg ModuleRec.state record, congrArg ModuleRec.blockPending record,
      congrArg ModuleRec.startIssued record, congrArg ModuleRec.stopDue record, unlisted,
      fun releasing only => reply_dead (y := prpyReply m st p) q alone listed stopping off opened releasing only⟩
end


end
